-- ==== Sys2Proof/Word.lean ====
section
/-! DEFINITION. The word types of the FVZ-1632 and their plainest arithmetic: web counts and the comparison
of R8, `round_half_up` and `ceil` on integers, saturation, and the conversions between the two fixed-point
positions (whole web counts, and web counts with the 12 fraction bits of R33). -/

namespace Sys2Proof

/-- A 32-bit register word. -/
abbrev Word := BitVec 32

/-- A byte. -/
abbrev Byte := BitVec 8

/-- A web count (R7): 48 bits, wraps modulo 2^48. -/
abbrev WC := BitVec 48

/-- A web position with 12 fraction bits (W_f of R33, T of R38): 48.12, wraps modulo 2^60. -/
abbrev Pos := BitVec 60

/-- The whole web count of a position (R33: only the integer part of W_f is W). -/
def Pos.wc (p : Pos) : WC := p.extractLsb' 12 48

/-- A whole web count as a position with fraction 0. -/
def WC.pos (w : WC) : Pos := w.zeroExtend 60 <<< 12

/-- `d = (X − Y) mod 2^48` of R8. -/
def WC.dist (x y : WC) : Nat := (x - y).toNat

/-- R8: X is ahead of Y when `d` lies from 1 to 2^47 − 1. -/
def WC.ahead (x y : WC) : Bool := 1 ≤ WC.dist x y && WC.dist x y < 2 ^ 47

/-- R8: X is behind Y when `d` is 2^47 or more. -/
def WC.behind (x y : WC) : Bool := 2 ^ 47 ≤ WC.dist x y

/-- R8 on positions with 12 fraction bits: the difference is taken modulo 2^60, half the range is ahead. -/
def Pos.ahead (x y : Pos) : Bool := 1 ≤ (x - y).toNat && (x - y).toNat < 2 ^ 59

/-- R8 on positions: behind. -/
def Pos.behind (x y : Pos) : Bool := 2 ^ 59 ≤ (x - y).toNat

/-- The signed difference `X − Y` of two positions, in 1/4,096 wc. -/
def Pos.diff (x y : Pos) : Int := (x - y).toInt

/-- A position moved by a signed amount in 1/4,096 wc. -/
def Pos.move (x : Pos) (d : Int) : Pos := x + BitVec.ofInt 60 d

/-- `floor(a / b)` on integers (towards minus infinity), 0 for `b = 0`. -/
def floorDiv (a b : Int) : Int := Int.fdiv a b

/-- `round_half_up(a / b) = floor(a / b + 1/2)` for `b > 0` (R80, R130). -/
def roundHalfUp (a b : Int) : Int := Int.fdiv (2 * a + b) (2 * b)

/-- `ceil(a / b)` on naturals. -/
def ceilDiv (a b : Nat) : Nat := (a + b - 1) / b

/-- `min` into a range. -/
def clampNat (lo hi x : Nat) : Nat := min hi (max lo x)

/-- Clamp of an integer into `[lo, hi]`. -/
def clampInt (lo hi x : Int) : Int := min hi (max lo x)

/-- A signed value saturated at ±(2^31 − 1) (TBS_SLEW_D, R48). -/
def sat31 (x : Int) : Int := clampInt (-(2 ^ 31 - 1)) (2 ^ 31 - 1) x

/-- Bit `i` of a word as 0 or 1. -/
def bitOf {w : Nat} (x : BitVec w) (i : Nat) : Bool := x.getLsbD i

/-- Bits `[lo + n − 1 : lo]` of a word as a natural number. -/
def bits {w : Nat} (x : BitVec w) (lo n : Nat) : Nat := (x.toNat >>> lo) % 2 ^ n

/-- A word with bits `[lo + n − 1 : lo]` replaced by `v` (taken modulo 2^n). -/
def setBits (x : Word) (lo n v : Nat) : Word :=
  let m : Nat := (2 ^ n - 1) <<< lo
  (x &&& ~~~(BitVec.ofNat 32 m)) ||| (BitVec.ofNat 32 ((v % 2 ^ n) <<< lo))

/-- Two's-complement reading of the low `n` bits of a natural number. -/
def signed (n v : Nat) : Int :=
  let u := v % 2 ^ n
  if 2 * u < 2 ^ n then (u : Int) else (u : Int) - 2 ^ n

/-- The low `n` bits of an integer, as a natural number. -/
def unsigned (n : Nat) (v : Int) : Nat := (v % (2 ^ n : Nat)).toNat

/-- The number of a Boolean. -/
def b2n (b : Bool) : Nat := if b then 1 else 0

/-- A map over a vector that the kernel evaluates. -/
def vmap {α β : Type} {n : Nat} (f : α → β) (v : Vector α n) : Vector β n :=
  ⟨⟨v.toList.map f⟩, by simp⟩

/-- The vector of `f 0 … f (n − 1)`, by list. -/
def vgen {α : Type} (n : Nat) (f : Nat → α) : Vector α n :=
  ⟨⟨(List.range n).map f⟩, by simp⟩

/-- A constant vector. -/
def vrep {α : Type} (n : Nat) (a : α) : Vector α n := ⟨⟨List.replicate n a⟩, by simp⟩

/-- Change of one element of a vector. -/
def vupd {α : Type} {n : Nat} (v : Vector α n) (i : Fin n) (f : α → α) : Vector α n :=
  v.set i (f v[i])

/-- The little-endian bytes of a number, `n` of them. -/
def leBytes : Nat → Nat → List Byte
  | 0, _ => []
  | n + 1, v => BitVec.ofNat 8 v :: leBytes n (v / 256)

/-- The number that little-endian bytes spell. -/
def ofLeBytes : List Byte → Nat
  | [] => 0
  | b :: bs => b.toNat + 256 * ofLeBytes bs

end Sys2Proof
end

