-- ==== Sys2Proof/Syntax.lean ====
section
/-! DEFINITION. The commands of the block: one constructor of `Instr` per row of spec/opcode_table.json, with the
operands each step takes from outside. The table gives a row no operand fields, so the operands are read from the
row's rule: what a partner sends, what a converter, sensor or comparator measures, which error a memory word gives,
and which of several like elements (slice, channel, port, engine, packet) the step concerns. A measured value is
an operand because the spec gives the device no say in it (assumption 2). -/

namespace Sys2Proof

/-- The three access paths to the registers (R291, R292), in the order in which one cycle serves them. -/
inductive Path where
  | cxl | tender | tw
deriving DecidableEq, Repr, Inhabited

/-- How an access reaches the registers: its path, and whether it is served in the same core cycle as the commands that
came since the last tick (R292, R302). Commands without that mark stand in cycles of their own, in queue order
(assumption 83). -/
structure Via where
  path : Path
  same : Bool := false
deriving DecidableEq, Repr, Inhabited

/-- What a bus write carries (R227): one 32-bit word, a 64-bit access as its two words, an access of another size; to BAR0,
or to BAR2 with its doorbells and the MSI-X table (R226). -/
inductive BusData where
  | word (value : Word) | pair (low high : Word) | other
  | word2 (value : Word) | pair2 (low high : Word) | other2
deriving DecidableEq, Repr, Inhabited

/-- The size of a bus read (R227), of BAR0 or of BAR2. -/
inductive BusSize where
  | word | pair | other | word2 | pair2 | other2
deriving DecidableEq, Repr, Inhabited

/-- What the host writes in the configuration space: the enables of ATS, PRI and PASID (R235), the base of BAR0, BAR2 or
BAR4 (R226), Max_Read_Request_Size as a power of two times 128 B (R218), a clear of AER's unsupported request (R227). -/
inductive ConfigWrite where
  | enables (ats pri pasid : Bool) | bar (i : Fin 3) (base : Nat) | readRequest (log : Fin 6) | clearUnsupported
deriving DecidableEq, Repr, Inhabited

/-- The multiplying delay-locked loops of R356: core, memory, and slice MDLL 0 to 18. -/
inductive Mdll where
  | core | memory | slice (m : Fin 19)
deriving DecidableEq, Repr, Inhabited

/-- Which packet a Pelquel step concerns: its queue (or the two-wire mailbox) and its TAG (R271, R277). -/
structure PktRef where
  tw    : Bool
  queue : Fin 8
  tag   : BitVec 16
deriving DecidableEq, Repr, Inhabited

/-- What may go wrong with a block sample on its way to the couch stage and into the accumulators:
an uncorrectable output-buffer word or a parity error in the slice's furnish copy (R68); an accumulator word with a
corrected or uncorrectable error, allocated to line `seq` of product `prod`, word `word` of slice `slice` (R89). -/
inductive DeliveryFault where
  | none | bufferUe | cfgParity
  | accCe
  | accUe (prod : Fin 3) (seq : Nat) (slice : Fin 38) (word : Fin 44)
deriving DecidableEq, Repr, Inhabited

/-- What may damage a calender word while a line is processed (R150): a line word, the guide copy of C or of N, a table
word (table 0 residual, 1 flat, 2 defect map; product, field, word), a coefficient word (by its place in the calender's
furnish registers, eight to a word), a word of any line that the calender holds (product, field, sequence, row, word). -/
inductive CalFault where
  | lineCe | lineUe (word : Nat)
  | guideCe | guideUe (nir : Bool)
  | tableCe | tableUe (tab : Fin 3) (prod field : Fin 4) (word : Nat) | coefUe (word : Nat)
  | heldUe (prod field : Fin 4) (seq row word : Nat)
deriving DecidableEq, Repr, Inhabited

/-- What may have damaged a line before the output formatter takes it (R168, R169): components missing or too many,
its watermark or header lost, a corrected or uncorrectable payload word. -/
inductive OutFault where
  | short (missing : Nat) | long (extra : Nat)
  | noWatermark | headerLost
  | wordCe | wordUe (word : Nat)
deriving DecidableEq, Repr, Inhabited

/-- The page response codes of R254. -/
inductive PageCode where
  | success | invalidRequest | responseFailure
deriving DecidableEq, Repr, Inhabited

/-- What a descriptor fetch, packet fetch or data-in read brings (R249, R261, R270, R271): the data, a translation
that is refused, or an uncorrectable staging word. -/
inductive FetchResult where
  | ok | refused | uncorrectable
deriving DecidableEq, Repr, Inhabited

/-- The external outcomes of a start-up (R428 to R434): the crystal, whether the reel's channels train, whether slot 0
passes its CRC, the sums of the dark capture's codes by (block, column) and for every entry not named, and the
milliseconds to the end of step 7. -/
structure StartUp where
  crystal   : Bool
  reelOk    : Bool
  badChan   : Fin 2
  slot0Crc  : Bool
  darkSums  : List (Nat × Nat × Nat)
  darkSum   : Nat
  millis    : Nat
deriving DecidableEq, Repr, Inhabited

/-- The commands: one constructor per row of spec/opcode_table.json, in the table's order. -/
inductive Instr where
  -- the timebase (R30 to R51)
  | encoderTransition (enc : Fin 2) (a b : Bool) (held : Nat)
  | zEdge (enc : Fin 2) (held : Nat)
  | standstill
  | coast
  | timebaseLost
  | slewEnd
  | resyncHoldEnd
  | lineTrigger
  | timeModeTrigger
  | externalTrigger
  | heldTrigger
  -- the headbox (R52 to R78)
  | preTrigger
  | exposureStart
  | exposureEnd
  | blockSampleLatch (slice : Fin 38) (codes : List (List (BitVec 12)))
  | blockSampleDelivery (slice : Fin 38) (block : Fin 32) (fault : DeliveryFault)
  | missedWindow (slice : Fin 38)
  | sliceReferenceFault (slice : Fin 38)
  | sliceRearm (via : Via) (slice : Fin 38)
  | forceFail (via : Via) (slice : Fin 38)
  | adcDroop
  | areaRowReadout (codes : List (List (BitVec 12))) (ce : Nat) (ue : List (Nat × Fin 38 × Fin 44))
  | areaSlotEnd
  -- the felt (R79 to R106)
  | lineClosure (prod : Fin 3) (seq : Nat) (ce : Nat) (ue : List (Fin 38 × Fin 44))
  | darkStatsTimeout
  -- the furnish (R107 to R128)
  | commit (via : Via) (kind : BitVec 2)
  | cancel (via : Via)
  | commitCheckDone
  | furnishRelease
  -- the calender (R129 to R154)
  | calenderLineArrival
  | partnerAbsent (prod : Fin 4) (seq : Nat) (row : Nat)
  | guideCopyExpiry
  | laneTake
  | calenderLineExit (lane : Fin 2) (faults : List CalFault)
  | calenderDeadline (prod : Fin 4) (field : Fin 4)
  -- the output formatter, statistics, screens (R155 to R197)
  | outputLine (faults : List OutFault)
  | statsPeriodClose
  | shiveToken
  -- the reel (R198 to R217)
  | relayout (via : Via)
  | cutActivate (same : Bool)
  | cutLine (stale : List Nat) (ue : List Nat) (ce : Nat)
  | cutRecordWritten (cutId : BitVec 16)
  | windowRead (addr : Nat) (ce : Nat) (ue : Bool)
  | windowWrite (addr : Nat) (data : BitVec 512) (poison : Bool)
  -- the CXL link (R218 to R244)
  | linkUp (cxl : Bool) (working : BitVec 8) (rate : Fin 5) (reversed : Bool) (inverted : BitVec 8)
  | linkRetrain (lanes : Fin 4) (rate : Fin 5)
  | dlDown
  | linkReset
  | flr
  | d3hotEntry
  | d0Return
  | l1Entry
  | viralIn
  | viralOut
  | hdmCommit (ways : Nat) (base size : Nat) (lock same : Bool)
  | cacheSnoop (addr : Nat)
  | linkHold (via : Via) (hold : Bool)
  | linkPrbsTest (via : Via) (mode : BitVec 2) (rate : BitVec 3) (lock : BitVec 8) (errs : List Nat)
  -- the DMA channels (R245 to R267)
  | segmentIssue (stagingUe : Bool)
  | bufferTimeout (ch : Fin 16)
  | descriptorFetch (ch : Fin 16) (res : FetchResult) (desc : BitVec 256)
  | translationCompletion (ch : Fin 16) (nth : Nat) (valid write big : Bool) (pa : Nat)
  | pageResponse (ch : Fin 16) (nth : Nat) (code : PageCode)
  | priTimeout (ch : Fin 16)
  | invalidation (pasid : Option (BitVec 20)) (va : Nat) (size : Nat)
  | replayRead (ch : Fin 16) (ce : Nat) (ue : List Nat) (tags : List (Nat × BitVec 6)) (same : Bool)
  | dtail (ch : Fin 16) (idx : BitVec 13) (same : Bool)
  | chead (ch : Fin 16) (idx : BitVec 13) (same : Bool)
  | channelEnable (via : Via) (ch : Fin 16) (ctrl : Word)
  | channelDisable (via : Via) (ch : Fin 16)
  | channelStop (via : Via) (ch : Fin 16)
  -- the command queues and the mailbox (R268 to R290)
  | sqTail (q : Fin 8) (idx : BitVec 13) (same : Bool)
  | cqHead (q : Fin 8) (idx : BitVec 13) (same : Bool)
  | packetFetch (q : Fin 8) (res : FetchResult) (pkt : BitVec 512)
  | commandDispatch (same : Bool)
  | queueEnable (via : Via) (q : Fin 8) (ctrl : Word)
  | queueDisable (via : Via) (q : Fin 8)
  | mailboxGo (via : Via)
  -- the Pelquel opcodes (R276)
  | nop (p : PktRef)
  | identify (p : PktRef)
  | getState (p : PktRef)
  | abort (p : PktRef) (ends : Bool)
  | warmReset (p : PktRef)
  | regRead (p : PktRef) (bad : List Nat) (pins : BitVec 24) (same : Bool)
  | regWrite (p : PktRef) (same : Bool)
  | stageWrite (p : PktRef) (same : Bool)
  | furnishCommit (p : PktRef) (same : Bool)
  | furnishCommitCancel (p : PktRef)
  | furnishRead (p : PktRef)
  | stageLoad (p : PktRef) (same : Bool)
  | furnishHist (p : PktRef)
  | darkCapture (p : PktRef)
  | darkCaptureDone (p : PktRef) (sums : List (Nat × Nat × Nat)) (rest : Nat)
  | darkCaptureTimeout (p : PktRef)
  | darkWrite (p : PktRef)
  | darkRead (p : PktRef)
  | tableWrite (p : PktRef)
  | tableRead (p : PktRef)
  | calStore (p : PktRef)
  | calLoad (p : PktRef)
  | wlStatus (p : PktRef)
  | wlPort (p : PktRef)
  | wlRole (p : PktRef)
  | wlEnumerate (p : PktRef)
  | enumerationDone
  | wlMember (p : PktRef)
  | wlMessage (p : PktRef)
  | peLoad (p : PktRef) (same : Bool)
  | peStart (p : PktRef) (same : Bool)
  | peStop (p : PktRef) (same : Bool)
  | peStatus (p : PktRef) (pins : BitVec 24)
  | cut (p : PktRef) (same : Bool)
  | cutCancel (p : PktRef)
  | reelFreeze (p : PktRef)
  | reelLayout (p : PktRef)
  | logRead (p : PktRef)
  | logNote (p : PktRef)
  | fwWrite (p : PktRef)
  | fwActivate (p : PktRef)
  | fwStatus (p : PktRef)
  | thmStatus (p : PktRef)
  | thmLimits (p : PktRef)
  | powerStatus (p : PktRef)
  | obsCounters (p : PktRef)
  | obsTrace (p : PktRef)
  -- registers (R291 to R310); a read carries which codewords of result memory, or whether the one read, is uncorrectable
  -- (R195), and the levels at the PE_IO balls, for PEN_PIN_IN (R340)
  | registerWrite (via : Via) (off : BitVec 24) (data : BusData)
  | wideLowRead (via : Via) (off : BitVec 24) (size : BusSize) (bad : Bool) (pins : BitVec 24)
  | wideHighRead (via : Via) (off : BitVec 24) (size : BusSize) (bad : Bool) (pins : BitVec 24)
  | assetWrite (via : Via) (value : Word)
  -- the web link (R311 to R336)
  | portUp (p : Fin 4) (partner : BitVec 16) (partnerPort : BitVec 2) (pol : BitVec 2) (swapped wantsSec : Bool)
  | portAbsent (p : Fin 4)
  | symbolLockLoss (p : Fin 4) (lane : Fin 2)
  | portDown (p : Fin 4)
  | frameTransmit (p : Fin 4)
  | positionPacket (p : Fin 4) (bytes : BitVec 192) (codeError : Bool)
  | holdoverExpiry
  | secondaryLambdaCheck
  | reamMark (p : Fin 4) (chunk : BitVec 432)
  | echoSend (p : Fin 4)
  | echoRequest (p : Fin 4) (chunk : BitVec 432) (hold : Nat)
  | echoReply (p : Fin 4) (chunk : BitVec 432) (at16 : Nat)
  | enumerationRequest (p : Fin 4) (chunk : BitVec 432)
  | enumerationReply (p : Fin 4) (chunk : BitVec 432)
  | messageSegment (p : Fin 4) (chunk : BitVec 432)
  | seamSegment (p : Fin 4) (chunk : BitVec 432)
  | seamLost (right : Bool)
  | retrain (via : Via) (p : Fin 4)
  | wlPrbsTest (via : Via) (p : Fin 4) (mode : BitVec 2) (lock : BitVec 2) (errs : List Nat)
  | rxPop (via : Via)
  -- the pin engines (R337 to R355)
  | peNop (e : Fin 8)
  | out (e : Fin 8)
  | inn (e : Fin 8) (pins : BitVec 24)
  | pull (e : Fin 8)
  | push (e : Fin 8)
  | set (e : Fin 8)
  | mov (e : Fin 8)
  | wait (e : Fin 8)
  | waitMet (e : Fin 8) (pins : BitVec 24)
  | atStamp (e : Fin 8)
  | stampMet (e : Fin 8)
  | jmp (e : Fin 8) (pins : BitVec 24)
  | flag (e : Fin 8)
  | dly (e : Fin 8)
  | dlyDone (e : Fin 8)
  | peBadOpcode (e : Fin 8)
  | exposureRecord
  | penOpStart (via : Via) (mask : BitVec 8)
  | penOpResume (via : Via) (mask : BitVec 8)
  | penOpClockRestart (via : Via) (mask : BitVec 8)
  | penOpStop (via : Via) (mask : BitVec 8)
  | penActionTick
  | penTxWrite (via : Via) (e : Fin 8) (value : Word)
  | penRxPop (via : Via) (e : Fin 8)
  | penFlagSet (via : Via) (mask : BitVec 8)
  | penFlagClr (via : Via) (mask : BitVec 8)
  | penStoreWrite (via : Via) (e : Fin 8) (addr : Fin 32) (value : Word)
  -- clocks (R356 to R370)
  | referenceLoss (refclk : Bool)
  | mdllLockLoss (m : Mdll)
  | stableCountDone (m : Mdll)
  | mdllRelock (m : Mdll) (offset16 : Int)
  | tickSlewDone
  | clockSettingWrite (via : Via) (target : Bool) (value : Word)
  | refclkMeasurement (edges : Bool) (ppm16 : Int)
  | crystalFailure
  | tenderSliceRearm (m : Fin 19)
  -- the Tender (R371 to R389)
  | tenderSleep
  | watchdogExpiry
  | tenderSramError (hit : Option (Nat × BitVec 256))
  | tenderRestartDone
  | alarmRecord
  | logWrite
  | logSectorErase
  | nvInhibit (aon same : Bool)
  | nvRecovery
  | advance (via : Via)
  | hostLossFreeze
  | tableReload
  -- the two-wire port (R390 to R403)
  | twAddress (addr : BitVec 7) (read : Bool) (offset : List Byte)
  | twWriteAccess (data : Word) (same : Bool)
  | twReadAccess (slots : Fin 5) (acknowledged bad : Bool) (pins : BitVec 24) (same : Bool)
  | twStop (leftover : Fin 4)
  | twFrameError (ackSlot : Bool) (bytes : Fin 5)
  | busStuck
  | inBandRequest (collision : Bool)
  | ibrAnswerTimeout
  -- thermal and power (R404 to R424)
  | thermalUpdate (sensors : List Int) (nodePower : List Nat) (rails : List Nat) (parts : List Nat)
  | criticalClosure
  | criticalDrainEnd
  | thermalTrip (sensors : List Int)
  | coreDroop
  | railUndervoltage (rail : Fin 14)
  | sliceCurrentFault (slice : Fin 38) (readings : List Nat)
  | sensRearm (via : Via)
  -- resets and start-up (R425 to R438)
  | coldPowerOn (twAddr : BitVec 3) (testStrap : Bool)
  | resetNAssert
  | warmResetBegin
  | perstNAssert
  | perstNDeassert
  | resetRelease (u : StartUp)
  | ready (badSlices : BitVec 38)
  -- the remaining rows of the table
  | symbolLockGain (p : Fin 4) (lane : Fin 2)
  | referenceReturn (refclk : Bool)
  | configSpaceWrite (write : ConfigWrite)
  | msixVectorUnmask (v : Fin 64)
  | dataInBlockRead (p : PktRef) (res : FetchResult) (data : List Byte)
  | nvWriteStepDone (reads : Bool)
  | wlMessageTimeout (p : PktRef)
  | absentPortRetry (p : Fin 4)
  | electricalIdleExit (p : Fin 4)
  | railUndervoltageEnd (rail : Fin 14)
  | cxlCacheGrant (same : Bool)
deriving DecidableEq, Repr, Inhabited

end Sys2Proof
end

