-- ==== Sys2Proof/Config.lean ====
section
/-! DEFINITION. What an implementation of the FVZ-1632 fixes and the spec leaves open: constants without a
body, so that no proof can see what they are. Every one is named in the assumption log. -/

namespace Sys2Proof.Config

/-- R409: the thermal resistances and capacitances fixed in the logic die. The model value of node `i` after
one 100 µs update, from the model values, the measured node powers and the boundary temperature, all in
1/16 °C and in 10 mW. No value is given (assumption 3). -/
opaque thermalAdvance : Nat → List Int → List Nat → Int → Int

/-- R198: the 10 check bits of the (266,256) code over the 256 data bits; the code is not stated (assumption 79). -/
opaque checkBits : BitVec 256 → BitVec 10

/-- R383: the factory dark-offset tables, entry of (table 0 TDI / 1 area, block, column); not stated (assumption 4). -/
opaque factoryDark : Nat → Nat → Nat → Nat

/-- R383: the factory flat gains (the pixel response non-uniformity), entry of (product, field, column);
not stated (assumption 4). -/
opaque factoryFlat : Nat → Nat → Nat → Nat

/-- R383: the factory defect map; not stated (assumption 4). -/
opaque factoryDefects : Nat → Word

/-- R200, R214: what a byte of the CXL.mem window holds that nothing has written since the layout was applied
or since cold reset: undefined. The first argument counts the layouts, the second is the byte offset (assumption 5). -/
opaque windowByte : Nat → Nat → Byte

/-- R278, R218: the device serial number, from fuses; not stated (assumption 6). -/
opaque serial : BitVec 64

/-- R309: the stepping; 0x01 only for the first production stepping (assumption 6). -/
opaque revision : Byte

/-- R253, R257, R213: the free value of a word that the spec calls undefined, by a running number (assumption 7). -/
opaque freeWord : Nat → Word

/-- R375: the severity of a record of a CODE: for an alarm, whether it is fatal (3) rather than an alarm (2); for any
other record, whether it is an event (1) rather than information (0). The spec names no code's severity (assumption 8). -/
opaque severe : Nat → Bool

/-- R335: the sum of λ of the hops between the upstream neighbour of a head and the source, in 1/16 tick, by the head's
hops: no packet of R318 carries it (assumption 9). -/
opaque latBeyond : Nat → Nat

/-- R101, R102: the bits above DTYPE, VC and LEN in the header word of the statistics packet of a ream, to which the fields
of a line's header do not apply; not stated (assumption 34). -/
opaque statHeader : Nat → Nat

end Sys2Proof.Config
end

