-- ==== Sys2Proof/Machine/RegMap.lean ====
section
/-! DEFINITION. Sparse stores in canonical form, and the register map of BAR0: for every register of the spec its
offset, its copies (stride and count) and its fields with access type and reset value, as the register tables of
spec/ give them (R27, R50, R77, R78, R106, R127, R153, R171, R195, R196, R216, R243, R265, R266, R288, R289, R309,
R335, R354, R369, R388, R402, R422, R447). Bits that no field names are reserved (RSV-P) and read 0. -/

namespace Sys2Proof.Machine

/-! ### Sparse stores: key and value, keys strictly rising -/

/-- The value listed under a key. -/
def mget {α : Type} (k : Nat) : List (Nat × α) → Option α
  | [] => none
  | (j, v) :: m => if k = j then some v else mget k m

/-- The store with a value listed under a key. -/
def mput {α : Type} (k : Nat) (v : α) : List (Nat × α) → List (Nat × α)
  | [] => [(k, v)]
  | (j, w) :: m => if k < j then (k, v) :: (j, w) :: m else if k = j then (k, v) :: m else (j, w) :: mput k v m

/-- The store with nothing listed under a key. -/
def mdel {α : Type} (k : Nat) : List (Nat × α) → List (Nat × α)
  | [] => []
  | (j, w) :: m => if k = j then mdel k m else (j, w) :: mdel k m

/-- Writing a value where unlisted keys hold `d`: the default value is not listed. -/
def mset {α : Type} [DecidableEq α] (d : α) (k : Nat) (v : α) (m : List (Nat × α)) : List (Nat × α) :=
  if v = d then mdel k m else mput k v m

/-- The canonical form: keys strictly rising. -/
def msorted {α : Type} : List (Nat × α) → Bool
  | [] => true
  | [_] => true
  | (j, _) :: (k, w) :: m => decide (j < k) && msorted ((k, w) :: m)

/-! ### The register map -/

/-- The access types of R14; an RWL field names its lock bit in GLB_LOCK (R303). -/
inductive Acc where
  | rw | ro | rom | rw1c | rwf | wo1
  | rwl (group : Nat)
  | lock
deriving DecidableEq, Repr

/-- A field: its lowest bit, its width, its access type and its reset value. -/
structure FieldSpec where
  lo    : Nat
  n     : Nat
  acc   : Acc
  reset : Nat
deriving DecidableEq, Repr

/-- A register or a family of like registers: offset of the first, strides and counts of the copies, its fields. -/
structure Reg where
  base   : Nat
  dims   : List (Nat × Nat)
  fields : List FieldSpec
deriving DecidableEq, Repr

/-- A named field: register offset, lowest bit, width. -/
structure Fld where
  off : Nat
  lo  : Nat
  n   : Nat
deriving DecidableEq, Repr

/-- Whether a distance from the base is that of one of the copies. -/
def dimsHit : List (Nat × Nat) → Nat → Bool
  | [], d => d == 0
  | (st, c) :: t, d => decide (d / st < c) && dimsHit t (d % st)

def Reg.hit (r : Reg) (off : Nat) : Bool := decide (r.base ≤ off) && dimsHit r.dims (off - r.base)

/-- The GLB registers (R127, R243, R27, R309). -/
def glbRegs1 : List Reg := [  -- GLB_ID: DEVICE, REVISION
  ⟨0x000000, [], [⟨0, 16, .ro, 0x1632⟩, ⟨16, 8, .ro, 0⟩]⟩,
  -- GLB_STATE: READY, SAFE, BANK, RESET_CAUSE
  ⟨0x000004, [], [⟨0, 1, .ro, 0⟩, ⟨1, 1, .ro, 0⟩, ⟨2, 1, .ro, 0⟩, ⟨3, 3, .ro, 0⟩]⟩,
  -- GLB_ATTN: ALARM, MBOX, THERM, LINK, WLINK
  ⟨0x000008, [], [⟨0, 5, .rw1c, 0⟩]⟩,
  -- GLB_ATTN_EN: ATTN_EN
  ⟨0x00000C, [], [⟨0, 5, .rw, 0x1f⟩]⟩,
  -- GLB_EVT: RSV_CHANGE, TW_WR_DENIED, WO1_INHIBIT
  ⟨0x000010, [], [⟨0, 3, .rw1c, 0⟩]⟩,
  -- GLB_LOCK: LOCK_THM, LOCK_WLK, LOCK_ACC, LOCK_FW, LOCK_PEN, LOCK_CLK, ASSET_SPENT
  ⟨0x000014, [], [⟨0, 6, .lock, 0⟩, ⟨31, 1, .ro, 0⟩]⟩,
  -- GLB_LOCK_VIOL: VIOL, PATH, COUNT
  ⟨0x000018, [], [⟨0, 1, .rw1c, 0⟩, ⟨1, 2, .ro, 0⟩, ⟨8, 8, .ro, 0⟩]⟩,
  -- GLB_LOCK_OFS: OFFSET
  ⟨0x00001C, [], [⟨0, 24, .ro, 0⟩]⟩,
  -- GLB_ACC: TW_WR
  ⟨0x000020, [], [⟨0, 1, .rwl 2, 1⟩]⟩,
  -- GLB_ASSET: ASSET
  ⟨0x000024, [], [⟨0, 32, .wo1, 0⟩]⟩,
  -- GLB_SCRATCH: SCRATCH
  ⟨0x000028, [], [⟨0, 32, .rw, 0⟩]⟩,
  -- GLB_RATE_CEIL: LINE_CEIL
  ⟨0x000100, [], [⟨0, 20, .rwf, 0xf4240⟩]⟩,
  -- GLB_FRAME_CEIL: FRAME_CEIL
  ⟨0x000104, [], [⟨0, 17, .rwf, 0x1000⟩]⟩,
  -- GLB_BUDGET: CAL_LOAD, REL_LOAD, LNK_LOAD, CAL_OVER, REL_OVER, LNK_OVER
  ⟨0x000108, [], [⟨0, 8, .ro, 0⟩, ⟨8, 8, .ro, 0⟩, ⟨16, 8, .ro, 0⟩, ⟨24, 1, .rw1c, 0⟩, ⟨25, 1, .rw1c, 0⟩, ⟨26, 1, .rw1c, 0⟩]⟩,
  -- GLB_FURN_ID: STAGE_ID, ACTIVE_ID
  ⟨0x000200, [], [⟨0, 16, .rw, 1⟩, ⟨16, 16, .ro, 0⟩]⟩,
  -- GLB_FURN_CMD: COMMIT, KIND, CANCEL, VIEW
  ⟨0x000204, [], [⟨0, 1, .rw, 0⟩, ⟨1, 2, .rw, 0⟩, ⟨3, 1, .rw, 0⟩, ⟨4, 1, .rw, 0⟩]⟩,
  -- GLB_FURN_WC: WC_LO
  ⟨0x000208, [], [⟨0, 32, .rw, 0⟩]⟩,
  -- GLB_FURN_WC: WC_HI
  ⟨0x00020C, [], [⟨0, 16, .rw, 0⟩]⟩,
  -- GLB_FURN_STAT: PENDING, SLOTS, RESULT, DETAIL, LATE, SUPERSEDED, HELD, DONE
  ⟨0x000210, [], [⟨0, 3, .ro, 0⟩, ⟨4, 4, .ro, 1⟩, ⟨8, 4, .ro, 0⟩, ⟨12, 8, .ro, 0⟩, ⟨20, 4, .rw1c, 0⟩]⟩,
  -- GLB_FURN_GEN: GEN
  ⟨0x000214, [], [⟨0, 32, .ro, 0⟩]⟩,
  -- GLB_FURN_LAST_LINE: LAST_LINE_LO
  ⟨0x000218, [], [⟨0, 32, .ro, 0⟩]⟩,
  -- GLB_FURN_LAST_LINE: LAST_LINE_HI
  ⟨0x00021C, [], [⟨0, 16, .ro, 0⟩]⟩,
  -- GLB_FURN_HIST: ID
  ⟨0x000240, [(16, 8)], [⟨0, 16, .ro, 0⟩]⟩,
  -- GLB_FURN_HIST: LINE_LO
  ⟨0x000244, [(16, 8)], [⟨0, 32, .ro, 0⟩]⟩,
  -- GLB_FURN_HIST: LINE_HI
  ⟨0x000248, [(16, 8)], [⟨0, 16, .ro, 0⟩]⟩,
  -- GLB_FURN_HIST: GEN
  ⟨0x00024C, [(16, 8)], [⟨0, 32, .ro, 0⟩]⟩,
  -- GLB_LINK_STAT: UP, CXL, WIDTH, RATE, REVERSED, POL_INV, DEGRADED, AGE
  ⟨0x000400, [], [⟨0, 1, .rom, 0⟩, ⟨1, 1, .rom, 0⟩, ⟨2, 4, .rom, 0⟩, ⟨6, 3, .rom, 0⟩, ⟨9, 1, .rom, 0⟩, ⟨10, 8, .rom, 0⟩, ⟨18, 1, .rom, 0⟩, ⟨24, 8, .rom, 0⟩]⟩,
  -- GLB_LINK_CTRL: HOLD, WAKE_EN, TEST_MODE, TEST_RATE
  ⟨0x000404, [], [⟨0, 1, .rw, 0⟩, ⟨1, 1, .rw, 0⟩, ⟨2, 2, .rw, 0⟩, ⟨4, 3, .rw, 5⟩]⟩,
  -- GLB_LINK_EVT: DOWN, DEGRADE, VIRAL_IN, VIRAL_OUT, POISON_RD, RETRAIN
  ⟨0x000408, [], [⟨0, 6, .rw1c, 0⟩]⟩,
  -- GLB_LINK_DOWN_CNT: DOWN_CNT
  ⟨0x00040C, [], [⟨0, 32, .rom, 0⟩]⟩]

/-- The GLB registers (R243). -/
def glbRegs2 : List Reg := [  -- GLB_LINK_PRBS_ERR: ERR
  ⟨0x000420, [(4, 8)], [⟨0, 32, .rom, 0⟩]⟩,
  -- GLB_LINK_PRBS_LOCK: LOCK
  ⟨0x000440, [], [⟨0, 8, .rom, 0⟩]⟩]

/-- The TBS registers (R50). -/
def tbsRegs : List Reg := [  -- TBS_CTRL: TRIG_SRC, ENC_INV, STBY_EN, ZREF, EXT_PE, ENC_FILT, REAM_K
  ⟨0x010000, [], [⟨0, 2, .rwf, 0⟩, ⟨2, 1, .rwf, 0⟩, ⟨3, 1, .rwf, 0⟩, ⟨4, 1, .rwf, 0⟩, ⟨5, 3, .rwf, 0⟩, ⟨8, 4, .rw, 4⟩, ⟨16, 5, .rwf, 0xc⟩]⟩,
  -- TBS_PITCH: PITCH
  ⟨0x010004, [], [⟨0, 32, .rwf, 0x1000000⟩]⟩,
  -- TBS_TIME_PERIOD: TIME_PERIOD
  ⟨0x010008, [], [⟨0, 24, .rwf, 0x2710⟩]⟩,
  -- TBS_EXPO_MIN: EXPO_MIN
  ⟨0x01000C, [], [⟨0, 10, .rwf, 0x64⟩]⟩,
  -- TBS_EXPO: EXPO
  ⟨0x010010, [(4, 4)], [⟨0, 16, .rwf, 0x8000⟩]⟩,
  -- TBS_COAST: COAST_LIMIT, COAST_MAX
  ⟨0x010020, [], [⟨0, 8, .rwf, 8⟩, ⟨8, 24, .rwf, 0x10000⟩]⟩,
  -- TBS_STILL_FLOOR: STILL_FLOOR
  ⟨0x010024, [], [⟨0, 32, .rwf, 0x100⟩]⟩,
  -- TBS_SLEW_MAX: SLEW_MAX
  ⟨0x010028, [], [⟨0, 32, .rwf, 0x10000⟩]⟩,
  -- TBS_REVERSE_HYST: REVERSE_HYST
  ⟨0x01002C, [], [⟨0, 32, .rwf, 0x4000⟩]⟩,
  -- TBS_ENC1_SCALE: ENC1_SCALE
  ⟨0x010030, [], [⟨0, 32, .rwf, 0x1000000⟩]⟩,
  -- TBS_ENC_EPR: ENC_EPR
  ⟨0x010034, [], [⟨0, 24, .rwf, 0⟩]⟩,
  -- TBS_STAT: COAST, LOST, STILL, REVERSE, SLEWING, RESYNC_PEND, ON_ENC1, COAST_SEEN, LOST_SEEN, DIR_REV, RESYNC, OVERSPEED, ENC_ERR, FAILOVER, GAP
  ⟨0x010040, [], [⟨0, 1, .ro, 0⟩, ⟨1, 1, .ro, 0⟩, ⟨2, 1, .ro, 1⟩, ⟨3, 1, .ro, 0⟩, ⟨4, 1, .ro, 0⟩, ⟨5, 1, .ro, 0⟩, ⟨6, 1, .ro, 0⟩, ⟨8, 8, .rw1c, 0⟩]⟩,
  -- TBS_WC: WC_LO
  ⟨0x010050, [], [⟨0, 32, .ro, 0⟩]⟩,
  -- TBS_WC: WC_HI
  ⟨0x010054, [], [⟨0, 16, .ro, 0⟩]⟩,
  -- TBS_TICK: TICK_LO
  ⟨0x010058, [], [⟨0, 32, .ro, 0⟩]⟩,
  -- TBS_TICK: TICK_HI
  ⟨0x01005C, [], [⟨0, 32, .ro, 0⟩]⟩,
  -- TBS_SPEED: SPEED
  ⟨0x010060, [], [⟨0, 32, .ro, 0⟩]⟩,
  -- TBS_LINE_PERIOD: LINE_PERIOD
  ⟨0x010064, [], [⟨0, 24, .ro, 0⟩]⟩,
  -- TBS_LINE_SEQ: LINE_SEQ_LO
  ⟨0x010068, [], [⟨0, 32, .ro, 0⟩]⟩,
  -- TBS_LINE_SEQ: LINE_SEQ_HI
  ⟨0x01006C, [], [⟨0, 16, .ro, 0⟩]⟩,
  -- TBS_REAM_IDX: REAM_IDX
  ⟨0x010070, [], [⟨0, 32, .ro, 0⟩]⟩,
  -- TBS_ZCAP: ZCAP_LO
  ⟨0x010078, [], [⟨0, 32, .ro, 0⟩]⟩,
  -- TBS_ZCAP: ZCAP_HI
  ⟨0x01007C, [], [⟨0, 16, .ro, 0⟩]⟩,
  -- TBS_SLEW_D: SLEW_D
  ⟨0x010080, [], [⟨0, 32, .ro, 0⟩]⟩,
  -- TBS_SKIP_CNT: SKIP_CNT
  ⟨0x010084, [], [⟨0, 32, .ro, 0⟩]⟩]

/-- The HBX registers (R77, R78). -/
def hbxRegs : List Reg := [  -- HBX_SL_STAT: STATE, CAUSE
  ⟨0x020000, [(1024, 38)], [⟨0, 2, .ro, 0⟩, ⟨4, 4, .ro, 0⟩]⟩,
  -- HBX_SL_CTRL: REARM, FORCE_FAIL
  ⟨0x020004, [(1024, 38)], [⟨0, 1, .rw, 0⟩, ⟨1, 1, .rw, 0⟩]⟩,
  -- HBX_SL_MISS: MISS
  ⟨0x020008, [(1024, 38)], [⟨0, 32, .ro, 0⟩]⟩,
  -- HBX_SL_RUN: RUN
  ⟨0x02000C, [(1024, 38)], [⟨0, 8, .ro, 0⟩]⟩,
  -- HBX_CTRL: MODE, DIR, FIELDS, EXPO_ALIGN
  ⟨0x02F000, [], [⟨0, 1, .rwf, 0⟩, ⟨1, 1, .rwf, 0⟩, ⟨2, 2, .rwf, 0⟩, ⟨4, 2, .rwf, 0⟩]⟩,
  -- HBX_OPT_PITCH: OPT_PITCH
  ⟨0x02F004, [], [⟨0, 32, .rwf, 0x1000000⟩]⟩,
  -- HBX_RATIO: RATIO, SMEAR
  ⟨0x02F008, [], [⟨0, 16, .ro, 0x4000⟩, ⟨16, 8, .ro, 0⟩]⟩,
  -- HBX_SUM_EN: SUM_EN
  ⟨0x02F00C, [], [⟨0, 32, .rwf, 0xffffffff⟩]⟩,
  -- HBX_AREA_ROWS: ROW_FIRST, ROW_LAST
  ⟨0x02F010, [], [⟨0, 8, .rwf, 0⟩, ⟨8, 8, .rwf, 0xff⟩]⟩,
  -- HBX_AREA_COLS: WORD_FIRST, WORD_LAST
  ⟨0x02F014, [], [⟨0, 10, .rwf, 0⟩, ⟨16, 10, .rwf, 0x2ab⟩]⟩,
  -- HBX_AREA_CTRL: NEXPO, VBIN, HBIN2
  ⟨0x02F018, [], [⟨0, 2, .rwf, 0⟩, ⟨2, 2, .rwf, 0⟩, ⟨4, 1, .rwf, 0⟩]⟩,
  -- HBX_AREA_EXPO: EXPO
  ⟨0x02F020, [(4, 4)], [⟨0, 24, .rwf, 0x1000⟩]⟩,
  -- HBX_FAIL_LO: FAIL_LO
  ⟨0x02F040, [], [⟨0, 32, .ro, 0⟩]⟩,
  -- HBX_FAIL_HI: FAIL_HI
  ⟨0x02F044, [], [⟨0, 6, .ro, 0⟩]⟩,
  -- HBX_EVT: MISSED_WIN, SLICE_FAIL, ADC_DROOP, DISCARD, AREA_SKIP, CFG_PAR, FIELD_BREAK
  ⟨0x02F048, [], [⟨0, 7, .rw1c, 0⟩]⟩,
  -- HBX_FAIL_LIM: FAIL_LIM
  ⟨0x02F04C, [], [⟨0, 8, .rw, 4⟩]⟩,
  -- HBX_AREA_SKIP: AREA_SKIP
  ⟨0x02F050, [], [⟨0, 32, .ro, 0⟩]⟩]

/-- The FLT registers (R106). -/
def fltRegs : List Reg := [  -- FLT_CTRL: PLACE, DCLAMP, DARK_BANK, PROD_EN, PFMT
  ⟨0x030000, [], [⟨0, 2, .rwf, 1⟩, ⟨2, 1, .rwf, 1⟩, ⟨3, 1, .rwf, 0⟩, ⟨4, 3, .rwf, 1⟩, ⟨8, 3, .rwf, 0⟩]⟩,
  -- FLT_DEPTH: C_DEPTH, S_DEPTH, N_DEPTH
  ⟨0x030004, [], [⟨0, 8, .rwf, 0x18⟩, ⟨8, 8, .rwf, 6⟩, ⟨16, 8, .rwf, 2⟩]⟩,
  -- FLT_DREF: C_DREF, S_DREF, N_DREF
  ⟨0x030008, [], [⟨0, 8, .rwf, 0x18⟩, ⟨8, 8, .rwf, 6⟩, ⟨16, 8, .rwf, 2⟩]⟩,
  -- FLT_HBIN: HBIN
  ⟨0x03000C, [], [⟨0, 6, .rwf, 0⟩]⟩,
  -- FLT_CEIL: CEIL
  ⟨0x030010, [], [⟨0, 8, .ro, 0x20⟩]⟩,
  -- FLT_OPEN: NEED, PEAK
  ⟨0x030014, [], [⟨0, 9, .ro, 0⟩, ⟨16, 9, .ro, 0⟩]⟩,
  -- FLT_DECKLE: FIRST, NWORDS
  ⟨0x030020, [(4, 3)], [⟨0, 10, .rwf, 0⟩, ⟨16, 10, .rwf, 0x2a8⟩]⟩,
  -- FLT_EREF: EREF
  ⟨0x030040, [(4, 4)], [⟨0, 24, .rwf, 0x1000⟩]⟩,
  -- FLT_AREA_EREF: AREA_EREF
  ⟨0x030050, [], [⟨0, 24, .rwf, 0x1000⟩]⟩,
  -- FLT_PGAIN: PGAIN
  ⟨0x030060, [(16, 4), (4, 4)], [⟨0, 16, .rwf, 0x1000⟩]⟩,
  -- FLT_BGAIN: BGAIN
  ⟨0x030100, [(4, 32)], [⟨0, 16, .rwf, 0x4000⟩]⟩,
  -- FLT_EVT: GAIN_SAT, ACC_SAT, ACC_EXH, ECC_CE, ECC_UE, CLAMP_FALLBACK, CLAMP_LOST, EPOCH_BREAK
  ⟨0x030200, [], [⟨0, 8, .rw1c, 0⟩]⟩,
  -- FLT_GSAT_CNT: GSAT_CNT
  ⟨0x030204, [], [⟨0, 32, .ro, 0⟩]⟩,
  -- FLT_CE_CNT: CE_CNT
  ⟨0x030208, [], [⟨0, 32, .ro, 0⟩]⟩,
  -- FLT_UE_CNT: UE_CNT
  ⟨0x03020C, [], [⟨0, 32, .ro, 0⟩]⟩,
  -- FLT_CLIP_CNT: CLIP_CNT
  ⟨0x030210, [], [⟨0, 32, .ro, 0⟩]⟩,
  -- FLT_DCLAMP: DCLAMP
  ⟨0x030300, [(4, 32)], [⟨0, 16, .ro, 0⟩]⟩]

/-- The CAL registers (R153). -/
def calRegs : List Reg := [  -- CAL_CTRL: XT_EN, GRGB_EN, COLRES_EN, FLAT_EN, DPC_EN, REC_METHOD, NIR_EN, CM_EN, TBL_BANK
  ⟨0x040000, [], [⟨0, 1, .rwf, 1⟩, ⟨1, 1, .rwf, 1⟩, ⟨2, 1, .rwf, 1⟩, ⟨3, 1, .rwf, 1⟩, ⟨4, 1, .rwf, 1⟩, ⟨5, 1, .rwf, 0⟩, ⟨6, 1, .rwf, 0⟩, ⟨7, 1, .rwf, 1⟩, ⟨8, 1, .rwf, 0⟩]⟩,
  -- CAL_XT_COEF: COEF
  ⟨0x040010, [(4, 18)], [⟨0, 16, .rwf, 0⟩]⟩,
  -- CAL_GRGB: GB_GAIN
  ⟨0x040060, [(4, 4)], [⟨0, 16, .rwf, 0x4000⟩]⟩,
  -- CAL_REC_TAU: EDGE_TAU
  ⟨0x040070, [], [⟨0, 20, .rwf, 0x400⟩]⟩,
  -- CAL_REC_FLOOR: GUIDE_FLOOR
  ⟨0x040074, [], [⟨0, 20, .rwf, 0x1000⟩]⟩,
  -- CAL_NIR_K: K
  ⟨0x040078, [(4, 4)], [⟨0, 16, .rwf, 0⟩]⟩,
  -- CAL_CM: COEF
  ⟨0x040100, [(64, 4), (16, 3), (4, 3)], [⟨0, 16, .rwf, 0⟩]⟩,
  -- CAL_CM: OFS
  ⟨0x04010C, [(64, 4), (16, 3)], [⟨0, 21, .rwf, 0⟩]⟩,
  -- CAL_MERGE: EN, PROD, PRI, SEC, SHIFT
  ⟨0x040200, [], [⟨0, 1, .rwf, 0⟩, ⟨1, 2, .rwf, 0⟩, ⟨3, 2, .rwf, 0⟩, ⟨5, 2, .rwf, 1⟩, ⟨7, 3, .rwf, 0⟩]⟩,
  -- CAL_MERGE_K0: K0
  ⟨0x040204, [], [⟨0, 20, .rwf, 0x80000⟩]⟩,
  -- CAL_MERGE_K1: K1
  ⟨0x040208, [], [⟨0, 20, .rwf, 0xc0000⟩]⟩,
  -- CAL_MERGE_RATIO: RATIO
  ⟨0x04020C, [], [⟨0, 16, .rwf, 0x400⟩]⟩,
  -- CAL_EVT: LATE, ECC_CE, ECC_UE, GUIDE_FALLBACK, NIR_SKIP, MERGE_ALONE, PAIR_FULL, DPC_VOID
  ⟨0x040300, [], [⟨0, 8, .rw1c, 0⟩]⟩,
  -- CAL_LATE_CNT: LATE_CNT
  ⟨0x040304, [], [⟨0, 32, .ro, 0⟩]⟩,
  -- CAL_GFB_CNT: GFB_CNT
  ⟨0x040308, [], [⟨0, 32, .ro, 0⟩]⟩,
  -- CAL_CE_CNT: CE_CNT
  ⟨0x04030C, [], [⟨0, 32, .ro, 0⟩]⟩,
  -- CAL_UE_CNT: UE_CNT
  ⟨0x040310, [], [⟨0, 32, .ro, 0⟩]⟩,
  -- CAL_PAIR: OCC, PEAK
  ⟨0x040314, [], [⟨0, 9, .ro, 0⟩, ⟨16, 9, .ro, 0⟩]⟩]

/-- The STS registers (R195). -/
def stsRegs : List Reg := [  -- STS_CTRL: PROD_EN, FIELD_EN, TAP, BROKE_INC
  ⟨0x050000, [], [⟨0, 4, .rwf, 1⟩, ⟨4, 4, .rwf, 0xf⟩, ⟨8, 1, .rwf, 0⟩, ⟨9, 1, .rwf, 0⟩]⟩,
  -- STS_ZONE: FIRST, WORDS, CNT_M1
  ⟨0x050004, [], [⟨0, 10, .rwf, 0⟩, ⟨16, 10, .rwf, 0x11⟩, ⟨26, 6, .rwf, 0x27⟩]⟩,
  -- STS_EVT: BANK_DONE, RES_OVERRUN, PERIOD_LOST, LATE_LINE, DARK_LOST, ECC_UE
  ⟨0x050010, [], [⟨0, 6, .rw1c, 0⟩]⟩,
  -- STS_BANK: COMPLETE0, COMPLETE1
  ⟨0x050014, [], [⟨0, 1, .ro, 0⟩, ⟨1, 1, .ro, 0⟩]⟩,
  -- STS_LATE_CNT: LATE_CNT
  ⟨0x050018, [], [⟨0, 32, .ro, 0⟩]⟩,
  -- STS_LOST_CNT: LOST_CNT
  ⟨0x05001C, [], [⟨0, 32, .ro, 0⟩]⟩]

/-- The SCR registers (R196). -/
def scrRegs : List Reg := [  -- SCR_CTRL: EN, PROD, FIELDS, K, DARK_EN, BRIGHT_EN, FREEZE, DC
  ⟨0x060000, [], [⟨0, 1, .rwf, 0⟩, ⟨1, 2, .rwf, 0⟩, ⟨3, 4, .rwf, 0xf⟩, ⟨7, 5, .rwf, 8⟩, ⟨12, 1, .rwf, 1⟩, ⟨13, 1, .rwf, 1⟩, ⟨14, 1, .rwf, 1⟩, ⟨16, 4, .rwf, 0⟩]⟩,
  -- SCR_DARK: RATIO
  ⟨0x060004, [], [⟨0, 16, .rwf, 0xc00⟩]⟩,
  -- SCR_BRIGHT: RATIO
  ⟨0x060008, [], [⟨0, 16, .rwf, 0x1400⟩]⟩,
  -- SCR_ABS: ABS
  ⟨0x06000C, [], [⟨0, 20, .rwf, 0x800⟩]⟩,
  -- SCR_SIZE: RUN_MIN, AREA_MIN
  ⟨0x060010, [], [⟨0, 8, .rwf, 2⟩, ⟨8, 16, .rwf, 4⟩]⟩,
  -- SCR_SPAN: SPAN
  ⟨0x060014, [], [⟨0, 16, .rwf, 0x1000⟩]⟩,
  -- SCR_EVT: OVERFLOW, RUN_OVF, CAND_OVF, BIND_CLASS
  ⟨0x060020, [], [⟨0, 4, .rw1c, 0⟩]⟩,
  -- SCR_REC_CNT: REC_CNT
  ⟨0x060024, [], [⟨0, 32, .ro, 0⟩]⟩,
  -- SCR_DROP_CNT: DROP_CNT
  ⟨0x060028, [], [⟨0, 32, .ro, 0⟩]⟩,
  -- SCR_OPEN: OCC, PEAK
  ⟨0x06002C, [], [⟨0, 10, .ro, 0⟩, ⟨16, 10, .ro, 0⟩]⟩]

/-- The OUT registers (R171). -/
def outRegs : List Reg := [  -- OUT_P_CTRL: PERIOD
  ⟨0x070000, [], [⟨0, 24, .rwf, 0x8236⟩]⟩,
  -- OUT_K_CTRL: PERIOD, HALF
  ⟨0x070004, [], [⟨0, 24, .rwf, 0x411b⟩, ⟨24, 1, .rwf, 0⟩]⟩,
  -- OUT_P_WHITE: WHITE
  ⟨0x070010, [(4, 4)], [⟨0, 20, .rwf, 0xff000⟩]⟩,
  -- OUT_K_WHITE: WHITE
  ⟨0x070020, [(4, 4)], [⟨0, 20, .rwf, 0xff000⟩]⟩,
  -- OUT_K_MAT: COEF
  ⟨0x070040, [(16, 3), (4, 3)], [⟨0, 16, .rwf, 0⟩]⟩,
  -- OUT_K_MAT: OFS
  ⟨0x07004C, [(16, 3)], [⟨0, 10, .rwf, 0⟩]⟩,
  -- OUT_STREAM: EN, HOST, DC, REC
  ⟨0x070100, [(64, 4), (16, 4), (4, 3)], [⟨0, 1, .rwf, 0⟩, ⟨1, 1, .rwf, 0⟩, ⟨2, 4, .rwf, 0⟩, ⟨6, 1, .rwf, 0⟩]⟩,
  -- OUT_EVT: LEN_SHORT, LEN_LONG, WM_REBUILT, HDR_LOST, BIND_CLASS, ECC_UE, ECC_CE
  ⟨0x070200, [], [⟨0, 7, .rw1c, 0⟩]⟩,
  -- OUT_SHORT_CNT: SHORT_CNT
  ⟨0x070204, [], [⟨0, 32, .ro, 0⟩]⟩,
  -- OUT_LONG_CNT: LONG_CNT
  ⟨0x070208, [], [⟨0, 32, .ro, 0⟩]⟩,
  -- OUT_LOST_CNT: LOST_CNT
  ⟨0x07020C, [], [⟨0, 32, .ro, 0⟩]⟩,
  -- OUT_CE_CNT: CE_CNT
  ⟨0x070210, [], [⟨0, 32, .ro, 0⟩]⟩,
  -- OUT_UE_CNT: UE_CNT
  ⟨0x070214, [], [⟨0, 32, .ro, 0⟩]⟩]

/-- The REL registers (R216). -/
def relRegs : List Reg := [  -- REL_CTRL: RELAYOUT, FREEZE
  ⟨0x080000, [], [⟨0, 1, .rw, 0⟩, ⟨1, 1, .rw, 0⟩]⟩,
  -- REL_LAYOUT: SAVE_SIZE, MEM_SIZE
  ⟨0x080004, [], [⟨0, 7, .rw, 8⟩, ⟨8, 6, .rw, 0⟩]⟩,
  -- REL_STAT: LAYOUT_RESULT, CUTS_ACTIVE, CUTS_QUEUED
  ⟨0x080008, [], [⟨0, 2, .ro, 0⟩, ⟨2, 3, .ro, 0⟩, ⟨5, 4, .ro, 0⟩]⟩,
  -- REL_RING: RING_MIB
  ⟨0x08000C, [], [⟨0, 15, .ro, 0x3e00⟩]⟩,
  -- REL_TAIL_WC: TAIL_WC_LO
  ⟨0x080010, [], [⟨0, 32, .ro, 0⟩]⟩,
  -- REL_TAIL_WC: TAIL_WC_HI
  ⟨0x080014, [], [⟨0, 16, .ro, 0⟩]⟩,
  -- REL_HEAD_WC: HEAD_WC_LO
  ⟨0x080018, [], [⟨0, 32, .ro, 0⟩]⟩,
  -- REL_HEAD_WC: HEAD_WC_HI
  ⟨0x08001C, [], [⟨0, 16, .ro, 0⟩]⟩,
  -- REL_DIR: DIR_USED
  ⟨0x080020, [], [⟨0, 21, .ro, 0⟩]⟩,
  -- REL_SAVE: USED, PEAK
  ⟨0x080024, [], [⟨0, 16, .ro, 0⟩, ⟨16, 16, .ro, 0⟩]⟩,
  -- REL_LAP: LAP
  ⟨0x080028, [], [⟨0, 6, .ro, 0⟩]⟩,
  -- REL_EVT: DROP, STALE, ECC_CE, ECC_UE, DIR_EVICT, SAVE_FULL, LAYOUT_DONE
  ⟨0x080030, [], [⟨0, 7, .rw1c, 0⟩]⟩,
  -- REL_DROP_CNT: DROP_CNT
  ⟨0x080034, [], [⟨0, 32, .ro, 0⟩]⟩,
  -- REL_STALE_CNT: STALE_CNT
  ⟨0x080038, [], [⟨0, 32, .ro, 0⟩]⟩,
  -- REL_CE_CNT: CE_CNT
  ⟨0x08003C, [], [⟨0, 32, .ro, 0⟩]⟩,
  -- REL_UE_CNT: UE_CNT
  ⟨0x080040, [], [⟨0, 32, .ro, 0⟩]⟩,
  -- REL_FROZEN_CNT: FROZEN_CNT
  ⟨0x080044, [], [⟨0, 32, .ro, 0⟩]⟩]

/-- The DMA registers (R265, R266). -/
def dmaRegs : List Reg := [  -- DMA_CH_CTRL: EN, RESUME, STOP, COH, CLASS, DRING_LOG2, CRING_LOG2, SAVE_MAX
  ⟨0x090000, [(512, 16)], [⟨0, 1, .rw, 0⟩, ⟨1, 1, .rw, 0⟩, ⟨2, 1, .rw, 0⟩, ⟨3, 1, .rw, 0⟩, ⟨4, 3, .rw, 2⟩, ⟨8, 4, .rw, 6⟩, ⟨12, 4, .rw, 6⟩, ⟨16, 15, .rw, 0⟩]⟩,
  -- DMA_CH_PASID: PASID, PV
  ⟨0x090004, [(512, 16)], [⟨0, 20, .rw, 0⟩, ⟨31, 1, .rw, 0⟩]⟩,
  -- DMA: DRING_LO
  ⟨0x090008, [(512, 16)], [⟨0, 32, .rw, 0⟩]⟩,
  -- DMA: DRING_HI
  ⟨0x09000C, [(512, 16)], [⟨0, 32, .rw, 0⟩]⟩,
  -- DMA: CRING_LO
  ⟨0x090010, [(512, 16)], [⟨0, 32, .rw, 0⟩]⟩,
  -- DMA: CRING_HI
  ⟨0x090014, [(512, 16)], [⟨0, 32, .rw, 0⟩]⟩,
  -- DMA: DHEAD, DTAIL
  ⟨0x090018, [(512, 16)], [⟨0, 13, .ro, 0⟩, ⟨16, 13, .ro, 0⟩]⟩,
  -- DMA: CTAIL, CHEAD, PHASE
  ⟨0x09001C, [(512, 16)], [⟨0, 13, .ro, 0⟩, ⟨16, 13, .ro, 0⟩, ⟨31, 1, .ro, 1⟩]⟩,
  -- DMA_CH_STAT: STATE, FAULT, NOBUF, CPL_FULL, LINK_CAP, PRI_WAIT, LINK_LOSS, SAVE_USED
  ⟨0x090020, [(512, 16)], [⟨0, 3, .ro, 0⟩, ⟨8, 6, .ro, 0⟩, ⟨16, 15, .ro, 0⟩]⟩,
  -- DMA_CH_EVT: PARK, UNPARK, DROP, REFUSED, TOO_SMALL, ERR, PASID_REF
  ⟨0x090024, [(512, 16)], [⟨0, 7, .rw1c, 0⟩]⟩,
  -- DMA_CH_UNITS: UNITS_LO
  ⟨0x090028, [(512, 16)], [⟨0, 32, .ro, 0⟩]⟩,
  -- DMA: UNITS_HI
  ⟨0x09002C, [(512, 16)], [⟨0, 16, .ro, 0⟩]⟩,
  -- DMA_CH_DROPS: DROPS_LO
  ⟨0x090030, [(512, 16)], [⟨0, 32, .ro, 0⟩]⟩,
  -- DMA: DROPS_HI
  ⟨0x090034, [(512, 16)], [⟨0, 16, .ro, 0⟩]⟩,
  -- DMA_CH_FAULTS: FAULTS
  ⟨0x090038, [(512, 16)], [⟨0, 32, .ro, 0⟩]⟩,
  -- DMA_CH_PARKS: PARKS
  ⟨0x09003C, [(512, 16)], [⟨0, 32, .ro, 0⟩]⟩,
  -- DMA_CH_FAULT_VA: FAULT_VA_LO
  ⟨0x090040, [(512, 16)], [⟨0, 32, .ro, 0⟩]⟩,
  -- DMA: FAULT_VA_HI
  ⟨0x090044, [(512, 16)], [⟨0, 32, .ro, 0⟩]⟩,
  -- DMA: NSEQ
  ⟨0x090048, [(512, 16)], [⟨0, 32, .ro, 0⟩]⟩,
  -- DMA_GLB_CTRL: PRI_TIMEOUT
  ⟨0x092000, [], [⟨0, 16, .rw, 0x64⟩]⟩,
  -- DMA_GLB_STAT: PRI_OUT, PRI_FAIL, ATC_USED
  ⟨0x092004, [], [⟨0, 7, .ro, 0⟩, ⟨7, 1, .ro, 0⟩, ⟨8, 13, .ro, 0⟩]⟩,
  -- DMA_ATC_MISS: ATC_MISS
  ⟨0x092008, [], [⟨0, 32, .ro, 0⟩]⟩,
  -- DMA_INV_CNT: INV_CNT
  ⟨0x09200C, [], [⟨0, 32, .ro, 0⟩]⟩,
  -- DMA_GLB_EVT: PRI_FAIL, PRI_TIMEOUT
  ⟨0x092010, [], [⟨0, 2, .rw1c, 0⟩]⟩]

/-- The CMD registers (R288, R289, R402). -/
def cmdRegs : List Reg := [  -- CMD_Q_CTRL: EN, SQ_LOG2, CQ_LOG2, DC
  ⟨0x0A0000, [(64, 8)], [⟨0, 1, .rw, 0⟩, ⟨1, 4, .rw, 6⟩, ⟨5, 4, .rw, 6⟩, ⟨9, 4, .rw, 1⟩]⟩,
  -- CMD_Q_PASID: PASID, PV
  ⟨0x0A0004, [(64, 8)], [⟨0, 20, .rw, 0⟩, ⟨31, 1, .rw, 0⟩]⟩,
  -- CMD_Q: SQ_LO
  ⟨0x0A0008, [(64, 8)], [⟨0, 32, .rw, 0⟩]⟩,
  -- CMD_Q: SQ_HI
  ⟨0x0A000C, [(64, 8)], [⟨0, 32, .rw, 0⟩]⟩,
  -- CMD_Q: CQ_LO
  ⟨0x0A0010, [(64, 8)], [⟨0, 32, .rw, 0⟩]⟩,
  -- CMD_Q: CQ_HI
  ⟨0x0A0014, [(64, 8)], [⟨0, 32, .rw, 0⟩]⟩,
  -- CMD_Q: SQ_HEAD, SQ_TAIL
  ⟨0x0A0018, [(64, 8)], [⟨0, 13, .ro, 0⟩, ⟨16, 13, .ro, 0⟩]⟩,
  -- CMD_Q: CQ_TAIL, CQ_HEAD, PHASE
  ⟨0x0A001C, [(64, 8)], [⟨0, 13, .ro, 0⟩, ⟨16, 13, .ro, 0⟩, ⟨31, 1, .ro, 1⟩]⟩,
  -- CMD_Q_STAT: OUTST, STATE
  ⟨0x0A0020, [(64, 8)], [⟨0, 7, .ro, 0⟩, ⟨16, 2, .ro, 0⟩]⟩,
  -- CMD_Q_EVT: CPL, CQ_WAIT, FETCH_ERR, LOST_CPL, BIND
  ⟨0x0A0024, [(64, 8)], [⟨0, 5, .rw1c, 0⟩]⟩,
  -- CMD_Q_LOST: LOST
  ⟨0x0A0028, [(64, 8)], [⟨0, 32, .ro, 0⟩]⟩,
  -- CMD_STAT: TENDER_UP, AGE
  ⟨0x0A0F00, [], [⟨0, 1, .rom, 0⟩, ⟨8, 8, .rom, 0⟩]⟩,
  -- CMD_FAST_CNT: FAST_CNT
  ⟨0x0A0F04, [], [⟨0, 32, .ro, 0⟩]⟩,
  -- CMD_TW_PKT: PKT
  ⟨0x0A1000, [(4, 16)], [⟨0, 32, .rw, 0⟩]⟩,
  -- CMD_TW_CTRL: GO, BUSY
  ⟨0x0A1040, [], [⟨0, 1, .rw, 0⟩, ⟨1, 1, .ro, 0⟩]⟩,
  -- CMD_TW_DLEN: DLEN
  ⟨0x0A1044, [], [⟨0, 13, .rw, 0⟩]⟩,
  -- CMD_TW_CPL: CPL
  ⟨0x0A1050, [(4, 4)], [⟨0, 32, .ro, 0⟩]⟩,
  -- CMD_TW_EVT: DONE, OVERRUN
  ⟨0x0A1060, [], [⟨0, 2, .rw1c, 0⟩]⟩,
  -- CMD_TW_DATA: DATA
  ⟨0x0A2000, [(4, 1024)], [⟨0, 32, .rw, 0⟩]⟩,
  -- CMD_TW_CFG: IBR_EN, IBR_RETRY, IBR_WAIT
  ⟨0x0A3000, [], [⟨0, 1, .rw, 1⟩, ⟨1, 3, .rw, 3⟩, ⟨8, 8, .rw, 0xa⟩]⟩,
  -- CMD_TW_STAT: ADDR, ASLEEP, AGE
  ⟨0x0A3004, [], [⟨0, 3, .rom, 0⟩, ⟨3, 1, .rom, 0⟩, ⟨24, 8, .rom, 0⟩]⟩,
  -- CMD_TW_ERR: FRAME, PARTIAL
  ⟨0x0A3008, [], [⟨0, 16, .rom, 0⟩, ⟨16, 16, .rom, 0⟩]⟩,
  -- CMD_TW_ATTN: PEND, ATTN, TRIES, AGE
  ⟨0x0A300C, [], [⟨0, 1, .rom, 0⟩, ⟨1, 1, .rom, 0⟩, ⟨2, 3, .rom, 0⟩, ⟨24, 8, .rom, 0⟩]⟩,
  -- CMD_TW_PEVT: FRAME_ERR, PARTIAL, BUS_STUCK, IBR_FALLBACK, WAKE_NACK
  ⟨0x0A3010, [], [⟨0, 5, .rw1c, 0⟩]⟩]

/-- The WLK registers (R335). -/
def wlkRegs : List Reg := [  -- WLK_CTRL: ROLE_REQ, UP_PRI, UP_SEC, SEC_EN, MEMBER, DOWN_EN, ALARM_UP, REVERT
  ⟨0x0B0000, [], [⟨0, 2, .rwl 1, 0⟩, ⟨2, 2, .rwl 1, 0⟩, ⟨4, 2, .rwl 1, 1⟩, ⟨6, 1, .rwl 1, 0⟩, ⟨7, 1, .rw, 1⟩, ⟨8, 4, .rw, 0⟩, ⟨12, 1, .rw, 1⟩, ⟨13, 1, .rw, 1⟩]⟩,
  -- WLK_HEAD_ID: HEAD_ID
  ⟨0x0B0004, [], [⟨0, 16, .rwl 1, 0⟩]⟩,
  -- WLK_STAT: ROLE, STATE, ON_SEC, HOPS
  ⟨0x0B0008, [], [⟨0, 2, .ro, 0⟩, ⟨2, 3, .ro, 1⟩, ⟨5, 1, .ro, 0⟩, ⟨6, 5, .ro, 0⟩]⟩,
  -- WLK_TREE: SOURCE, PARENT
  ⟨0x0B000C, [], [⟨0, 16, .ro, 0⟩, ⟨16, 16, .ro, 0⟩]⟩,
  -- WLK_LAT_SUM: LAT_SUM
  ⟨0x0B0010, [], [⟨0, 24, .ro, 0⟩]⟩,
  -- WLK_HOLDOVER: HOLDOVER
  ⟨0x0B0014, [], [⟨0, 16, .rw, 0x7d0⟩]⟩,
  -- WLK_SNAP_MAX: SNAP_MAX
  ⟨0x0B0018, [], [⟨0, 16, .rw, 0x100⟩]⟩,
  -- WLK_EVT: PORT_DOWN, PORT_UP, FAILOVER, TAKEOVER, JOINED, LEFT, SEQ_BEHIND, TOO_DEEP, DUAL_SOURCE, EPOCH_MISMATCH, DUP_ID, SEAM_LOST, MSG_RX, MSG_OVF, COAST, LOST
  ⟨0x0B0020, [], [⟨0, 16, .rw1c, 0⟩]⟩,
  -- WLK_SEAM: TX_L, TX_R, PORT_L, PORT_R, WORDS_M1, PROD, FIELDS, RX_EN, DC, RX_SIDES
  ⟨0x0B0030, [], [⟨0, 1, .rwf, 0⟩, ⟨1, 1, .rwf, 0⟩, ⟨2, 2, .rwf, 0⟩, ⟨4, 2, .rwf, 1⟩, ⟨6, 2, .rwf, 3⟩, ⟨8, 2, .rwf, 0⟩, ⟨10, 4, .rwf, 0xf⟩, ⟨14, 1, .rwf, 0⟩, ⟨15, 4, .rwf, 2⟩, ⟨19, 2, .rwf, 3⟩]⟩,
  -- WLK_SEAM_LOST: SEAM_LOST
  ⟨0x0B0034, [], [⟨0, 32, .ro, 0⟩]⟩,
  -- WLK_P_CTRL: EN, RETRAIN, PRBS
  ⟨0x0B0100, [(64, 4)], [⟨0, 1, .rw, 1⟩, ⟨1, 1, .rw, 0⟩, ⟨2, 2, .rw, 0⟩]⟩,
  -- WLK_P_STAT: STATE, LOCK, POL, SWAPPED, PRBS_LOCK, AGE
  ⟨0x0B0104, [(64, 4)], [⟨0, 3, .rom, 0⟩, ⟨3, 2, .rom, 0⟩, ⟨5, 2, .rom, 0⟩, ⟨7, 1, .rom, 0⟩, ⟨8, 2, .rom, 0⟩, ⟨24, 8, .rom, 0⟩]⟩,
  -- WLK_P_LAT: LAT, VALID
  ⟨0x0B0108, [(64, 4)], [⟨0, 20, .rom, 0⟩, ⟨20, 1, .rom, 0⟩]⟩,
  -- WLK_P_PARTNER: ID, PORT, VALID
  ⟨0x0B010C, [(64, 4)], [⟨0, 16, .rom, 0⟩, ⟨16, 2, .rom, 0⟩, ⟨18, 1, .rom, 0⟩]⟩,
  -- WLK_P_ERR: ERR
  ⟨0x0B0110, [(64, 4), (4, 2)], [⟨0, 32, .rom, 0⟩]⟩,
  -- WLK_P_BAD: BAD
  ⟨0x0B0118, [(64, 4)], [⟨0, 32, .rom, 0⟩]⟩,
  -- WLK_P_DOWN: DOWN
  ⟨0x0B011C, [(64, 4)], [⟨0, 32, .rom, 0⟩]⟩,
  -- WLK_RX_HDR: FROM, LEN, BCAST, COUNT
  ⟨0x0B1000, [], [⟨0, 16, .ro, 0⟩, ⟨16, 7, .ro, 0⟩, ⟨23, 1, .ro, 0⟩, ⟨24, 5, .ro, 0⟩]⟩,
  -- WLK_RX_DATA: DATA
  ⟨0x0B1004, [(4, 16)], [⟨0, 32, .ro, 0⟩]⟩,
  -- WLK_RX_POP: POP
  ⟨0x0B1044, [], [⟨0, 1, .rw, 0⟩]⟩]

/-- The PEN registers (R354). -/
def penRegs : List Reg := [  -- PEN_START: MASK, GO, OP
  ⟨0x0C0000, [], [⟨0, 8, .rw, 0⟩, ⟨8, 1, .rw, 0⟩, ⟨9, 2, .rw, 0⟩]⟩,
  -- PEN_FLAGS: FLAGS
  ⟨0x0C0004, [], [⟨0, 8, .ro, 0⟩]⟩,
  -- PEN_FLAG_CMD: SET, CLR
  ⟨0x0C0008, [], [⟨0, 8, .rw, 0⟩, ⟨8, 8, .rw, 0⟩]⟩,
  -- PEN_OE: OE
  ⟨0x0C000C, [], [⟨0, 32, .rwl 4, 0⟩]⟩,
  -- PEN_SAFE: SAFE_LO
  ⟨0x0C0010, [], [⟨0, 32, .rwl 4, 0⟩]⟩,
  -- PEN_SAFE_HI: SAFE_HI
  ⟨0x0C0014, [], [⟨0, 32, .rwl 4, 0⟩]⟩,
  -- PEN_PIN_IN: PIN_IN
  ⟨0x0C0018, [], [⟨0, 32, .ro, 0⟩]⟩,
  -- PEN_CTRL: ENTRY, NOSTALL, DIV
  ⟨0x0C0100, [(64, 8)], [⟨0, 5, .rw, 0⟩, ⟨5, 1, .rw, 0⟩, ⟨16, 16, .rw, 0⟩]⟩,
  -- PEN_PINS: OUT_BASE, OUT_CNT, IN_BASE
  ⟨0x0C0104, [(64, 8)], [⟨0, 5, .rw, 0⟩, ⟨5, 6, .rw, 0⟩, ⟨11, 5, .rw, 0⟩]⟩,
  -- PEN_STAT: PC, STATE, TX_LVL, RX_LVL, ARMED, EMR_LEFT, CPR_CNT
  ⟨0x0C0108, [(64, 8)], [⟨0, 5, .ro, 0⟩, ⟨5, 3, .ro, 0⟩, ⟨8, 3, .ro, 0⟩, ⟨12, 3, .ro, 0⟩, ⟨15, 1, .ro, 0⟩, ⟨16, 6, .ro, 0⟩, ⟨24, 6, .ro, 0⟩]⟩,
  -- PEN_EVT: UNDER, OVER, TX_OVF, LATE, STEPPED, PIN_CONFLICT, TRIG_IGN, BAD_OP, SIG, PROG_BUSY
  ⟨0x0C010C, [(64, 8)], [⟨0, 10, .rw1c, 0⟩]⟩,
  -- PEN_TX: TX
  ⟨0x0C0110, [(64, 8)], [⟨0, 32, .rw, 0⟩]⟩,
  -- PEN_RX: RX
  ⟨0x0C0114, [(64, 8)], [⟨0, 32, .ro, 0⟩]⟩,
  -- PEN_RX_POP: POP
  ⟨0x0C0118, [(64, 8)], [⟨0, 1, .rw, 0⟩]⟩,
  -- PEN_PROG_EPOCH: EPOCH
  ⟨0x0C011C, [(64, 8)], [⟨0, 32, .ro, 0⟩]⟩,
  -- PEN_G: G0_LO
  ⟨0x0C0120, [(64, 8)], [⟨0, 32, .ro, 0⟩]⟩,
  -- PEN_G: G0_HI
  ⟨0x0C0124, [(64, 8)], [⟨0, 32, .ro, 0⟩]⟩,
  -- PEN_G: G1_LO
  ⟨0x0C0128, [(64, 8)], [⟨0, 32, .ro, 0⟩]⟩,
  -- PEN_G: G1_HI
  ⟨0x0C012C, [(64, 8)], [⟨0, 32, .ro, 0⟩]⟩,
  -- PEN_G: G2_LO
  ⟨0x0C0130, [(64, 8)], [⟨0, 32, .ro, 0⟩]⟩,
  -- PEN_G: G2_HI
  ⟨0x0C0134, [(64, 8)], [⟨0, 32, .ro, 0⟩]⟩,
  -- PEN_G: G3_LO
  ⟨0x0C0138, [(64, 8)], [⟨0, 32, .ro, 0⟩]⟩,
  -- PEN_G: G3_HI
  ⟨0x0C013C, [(64, 8)], [⟨0, 32, .ro, 0⟩]⟩,
  -- PEN_STORE: WORD
  ⟨0x0C1000, [(128, 8), (4, 32)], [⟨0, 32, .rw, 0⟩]⟩]

/-- The CLK registers (R369). -/
def clkRegs : List Reg := [  -- CLK_REF_MODE: SEL, CORE_MODE, MEM_MODE, SLICE_MODE
  ⟨0x0D0000, [], [⟨0, 1, .rwl 5, 0⟩, ⟨1, 2, .rwl 5, 0⟩, ⟨3, 2, .rwl 5, 0⟩, ⟨5, 2, .rwl 5, 0⟩]⟩,
  -- CLK_TARGET: CORE, MEM, SLICE
  ⟨0x0D0004, [], [⟨0, 1, .rwl 5, 0⟩, ⟨1, 2, .rwl 5, 0⟩, ⟨3, 1, .rwl 5, 0⟩]⟩,
  -- CLK_CTRL: TENDER_REARM
  ⟨0x0D0008, [], [⟨0, 1, .rw, 1⟩]⟩,
  -- CLK_STAT: CORE_STATE, MEM_STATE, REF_OK, XTAL_OK, AGE
  ⟨0x0D0010, [], [⟨0, 2, .rom, 3⟩, ⟨2, 2, .rom, 3⟩, ⟨4, 1, .rom, 0⟩, ⟨5, 1, .rom, 0⟩, ⟨24, 8, .rom, 0⟩]⟩,
  -- CLK_SLICE_BYP: BYP
  ⟨0x0D0014, [], [⟨0, 19, .rom, 0x7ffff⟩]⟩,
  -- CLK_REF_PPM: PPM
  ⟨0x0D0018, [], [⟨0, 16, .rom, 0⟩]⟩,
  -- CLK_EVT: CORE_BYP, MEM_BYP, SLICE_BYP, REF_LOST, REF_BACK, RELOCK, TICK_STEP, XTAL_FAIL
  ⟨0x0D0020, [], [⟨0, 8, .rw1c, 0⟩]⟩,
  -- CLK_TICK_STEP: RESID, SLEWING
  ⟨0x0D0024, [], [⟨0, 16, .ro, 0⟩, ⟨16, 1, .ro, 0⟩]⟩]

/-- The THM registers (R422). -/
def thmRegs : List Reg := [  -- THM_CTRL: START, RATE, CRIT, THR_EN
  ⟨0x0E0000, [], [⟨0, 8, .rwl 0, 0x5f⟩, ⟨8, 7, .rwl 0, 8⟩, ⟨16, 8, .rwl 0, 0x6e⟩, ⟨24, 1, .rwl 0, 1⟩]⟩,
  -- THM_TUNE: KP, MIN_DEPTH, HYST, XCHK_LIM
  ⟨0x0E0004, [], [⟨0, 8, .rw, 0x10⟩, ⟨8, 5, .rw, 8⟩, ⟨16, 8, .rw, 0x30⟩, ⟨24, 8, .rw, 0x18⟩]⟩,
  -- THM_ISL: HI, LO
  ⟨0x0E0008, [], [⟨0, 12, .rw, 0x190⟩, ⟨16, 12, .rw, 0x19⟩]⟩,
  -- THM_CMD: SENS_REARM
  ⟨0x0E000C, [], [⟨0, 1, .rw, 0⟩]⟩,
  -- THM_EVT: THROTTLE, RELEASE, RATE, SENS_FAIL, HOLD, CRITICAL, ISL, CORE_DROOP, SUPPLY_UV, TRIP
  ⟨0x0E0010, [], [⟨0, 10, .rw1c, 0⟩]⟩,
  -- THM_STAT: T_HOT, HOT_NODE, AGE
  ⟨0x0E0020, [], [⟨0, 16, .rom, 0⟩, ⟨16, 6, .rom, 0⟩, ⟨24, 8, .rom, 0⟩]⟩,
  -- THM_LEVEL: LEVEL, HOLD, RATE_STEP, RISE
  ⟨0x0E0024, [], [⟨0, 5, .rom, 0⟩, ⟨5, 1, .rom, 0⟩, ⟨6, 1, .rom, 0⟩, ⟨8, 8, .rom, 0⟩]⟩,
  -- THM_FAIL_LO: FAIL_LO
  ⟨0x0E0028, [], [⟨0, 32, .rom, 0⟩]⟩,
  -- THM_FAIL_HI: FAIL_HI
  ⟨0x0E002C, [], [⟨0, 15, .rom, 0⟩]⟩,
  -- THM_SUPPLY: UV
  ⟨0x0E0030, [], [⟨0, 14, .rom, 0⟩]⟩,
  -- THM_NODE: SENSOR, MODEL
  ⟨0x0E0100, [(4, 47)], [⟨0, 16, .rom, 0⟩, ⟨16, 16, .rom, 0⟩]⟩]

/-- The MGT registers (R388). -/
def mgtRegs : List Reg := [  -- MGT_STAT: RUN_BANK, PREF, TRIAL, FALLBACK, RECOVERY, ASLEEP, NV_INHIBIT, AGE
  ⟨0x0F0000, [], [⟨0, 1, .rom, 0⟩, ⟨1, 1, .rom, 0⟩, ⟨2, 1, .rom, 0⟩, ⟨3, 1, .rom, 0⟩, ⟨4, 1, .rom, 0⟩, ⟨5, 1, .rom, 0⟩, ⟨6, 1, .rom, 0⟩, ⟨24, 8, .rom, 0⟩]⟩,
  -- MGT_FW: FUSE_CNT, KEY_REVOKED
  ⟨0x0F0004, [], [⟨0, 7, .rom, 0⟩, ⟨7, 2, .rom, 0⟩]⟩,
  -- MGT_LOG_SEQ: LOG_SEQ
  ⟨0x0F0008, [], [⟨0, 32, .rom, 0⟩]⟩,
  -- MGT_LOG_HEAD: LOG_HEAD
  ⟨0x0F000C, [], [⟨0, 22, .rom, 0⟩]⟩,
  -- MGT_BOOT_CNT: BOOT_CNT
  ⟨0x0F0010, [], [⟨0, 32, .rom, 0⟩]⟩,
  -- MGT_INHIBIT_CNT: INHIBIT_CNT
  ⟨0x0F0014, [], [⟨0, 32, .rom, 0⟩]⟩,
  -- MGT_FW_CTRL: ACT_EN, ADV_EN, ADVANCE
  ⟨0x0F0100, [], [⟨0, 1, .rwl 3, 1⟩, ⟨1, 1, .rwl 3, 0⟩, ⟨2, 1, .rw, 0⟩]⟩,
  -- MGT_CTRL: ALARM_DC, ALARM_EN, LOG_REMOTE, HOSTLOSS_FREEZE, SLEEP_IDLE
  ⟨0x0F0104, [], [⟨0, 4, .rw, 0⟩, ⟨4, 1, .rw, 0⟩, ⟨5, 1, .rw, 1⟩, ⟨6, 1, .rw, 0⟩, ⟨8, 8, .rw, 0⟩]⟩,
  -- MGT_HOLDUP: HOLDUP
  ⟨0x0F0108, [], [⟨0, 16, .rw, 0⟩]⟩,
  -- MGT_HOST_TIMEOUT: HOST_TIMEOUT
  ⟨0x0F010C, [], [⟨0, 16, .rw, 0⟩]⟩,
  -- MGT_EVT: INHIBIT, RECOVERED, FALLBACK, SUPPRESS, RESTART, RELOAD, ALARM_BIND, ADV_DENIED
  ⟨0x0F0110, [], [⟨0, 8, .rw1c, 0⟩]⟩]

/-- The OBS registers (R447). -/
def obsRegs : List Reg := [  -- OBS_CNT: CNT_LO
  ⟨0x100000, [(8, 256)], [⟨0, 32, .ro, 0⟩]⟩,
  -- OBS_CNT: CNT_HI
  ⟨0x100004, [(8, 256)], [⟨0, 16, .ro, 0⟩]⟩,
  -- OBS_TRACE_SEQ: TSEQ
  ⟨0x100800, [], [⟨0, 32, .ro, 1⟩]⟩]

/-- The registers of one 64 KiB region of the map of R307. -/
def regsOf : Nat → List Reg
  | 0 => glbRegs1 ++ glbRegs2
  | 1 => tbsRegs
  | 2 => hbxRegs
  | 3 => fltRegs
  | 4 => calRegs
  | 5 => stsRegs
  | 6 => scrRegs
  | 7 => outRegs
  | 8 => relRegs
  | 9 => dmaRegs
  | 10 => cmdRegs
  | 11 => wlkRegs
  | 12 => penRegs
  | 13 => clkRegs
  | 14 => thmRegs
  | 15 => mgtRegs
  | 16 => obsRegs
  | _ => []

/-- The register at an offset, if one lies there. -/
def regAt (off : Nat) : Option Reg := (regsOf (off / 65536)).find? (Reg.hit · off)

/-- The register word with every field at the given values. -/
def fieldsWord : List FieldSpec → Nat
  | [] => 0
  | f :: t => f.reset * 2 ^ f.lo + fieldsWord t

/-- The bits of a word that belong to fields of the access types named. -/
def fieldsMask (p : Acc → Bool) : List FieldSpec → Nat
  | [] => 0
  | f :: t => (if p f.acc then (2 ^ f.n - 1) * 2 ^ f.lo else 0) + fieldsMask p t

/-- Reset values that depend on the copy: CAL_XT_COEF and CAL_CM (R153), OUT_K_MAT (R171), GLB_ID (R309). -/
def specialReset (off : Nat) : Option Nat :=
  if 0x040010 ≤ off ∧ off < 0x040058 ∧ off % 4 = 0 then
    some (if (off - 0x040010) / 4 % 3 = 1 then 0x4000 else 0)
  else if 0x040100 ≤ off ∧ off < 0x040200 ∧ off % 4 = 0 then
    some (if (off - 0x040100) % 64 / 16 = (off - 0x040100) % 16 / 4 ∧ (off - 0x040100) % 64 / 16 < 3 then 0x1000 else 0)
  else if 0x070040 ≤ off ∧ off < 0x070070 ∧ off % 4 = 0 then
    [0x02EA, 0x09CD, 0x00FD, 0x040, 0xFE65, 0xFA99, 0x0702, 0x200, 0x0702, 0xF9A3, 0xFF5B, 0x200][(off - 0x070040) / 4]?
  else if off = 0 then some (0x1632 + 65536 * Config.revision.toNat)
  else none

/-- The reset value of the register at an offset; 0 where none lies (R291). -/
def resetWord (off : Nat) : Word :=
  match specialReset off with
  | some v => BitVec.ofNat 32 v
  | none => match regAt off with
    | some r => BitVec.ofNat 32 (fieldsWord r.fields)
    | none => 0

/-! ### Names of the fields the meanings use: register and field as the register maps of spec/ name them -/

namespace R

def glbLineCeil : Fld := ⟨0x000100, 0, 20⟩
def glbFrameCeil : Fld := ⟨0x000104, 0, 17⟩
def glbBudgetCalLoad : Fld := ⟨0x000108, 0, 8⟩
def glbBudgetRelLoad : Fld := ⟨0x000108, 8, 8⟩
def glbBudgetLnkLoad : Fld := ⟨0x000108, 16, 8⟩
def glbBudgetCalOver : Fld := ⟨0x000108, 24, 1⟩
def glbBudgetRelOver : Fld := ⟨0x000108, 25, 1⟩
def glbBudgetLnkOver : Fld := ⟨0x000108, 26, 1⟩
def tbsCtrlTrigSrc : Fld := ⟨0x010000, 0, 2⟩
def tbsCtrlEncInv : Fld := ⟨0x010000, 2, 1⟩
def tbsCtrlStbyEn : Fld := ⟨0x010000, 3, 1⟩
def tbsCtrlZref : Fld := ⟨0x010000, 4, 1⟩
def tbsCtrlExtPe : Fld := ⟨0x010000, 5, 3⟩
def tbsCtrlEncFilt : Fld := ⟨0x010000, 8, 4⟩
def tbsCtrlReamK : Fld := ⟨0x010000, 16, 5⟩
def tbsPitch : Fld := ⟨0x010004, 0, 32⟩
def tbsTimePeriod : Fld := ⟨0x010008, 0, 24⟩
def tbsExpoMin : Fld := ⟨0x01000C, 0, 10⟩
def tbsExpo (i : Nat) : Fld := ⟨0x010010 + 4 * i, 0, 16⟩
def tbsCoastLimit : Fld := ⟨0x010020, 0, 8⟩
def tbsCoastMax : Fld := ⟨0x010020, 8, 24⟩
def tbsStillFloor : Fld := ⟨0x010024, 0, 32⟩
def tbsSlewMax : Fld := ⟨0x010028, 0, 32⟩
def tbsReverseHyst : Fld := ⟨0x01002C, 0, 32⟩
def tbsEnc1Scale : Fld := ⟨0x010030, 0, 32⟩
def tbsEncEpr : Fld := ⟨0x010034, 0, 24⟩
def tbsStatCoastSeen : Fld := ⟨0x010040, 8, 1⟩
def tbsStatLostSeen : Fld := ⟨0x010040, 9, 1⟩
def tbsStatDirRev : Fld := ⟨0x010040, 10, 1⟩
def tbsStatResync : Fld := ⟨0x010040, 11, 1⟩
def tbsStatOverspeed : Fld := ⟨0x010040, 12, 1⟩
def tbsStatEncErr : Fld := ⟨0x010040, 13, 1⟩
def tbsStatFailover : Fld := ⟨0x010040, 14, 1⟩
def tbsStatGap : Fld := ⟨0x010040, 15, 1⟩
def hbxCtrlMode : Fld := ⟨0x02F000, 0, 1⟩
def hbxCtrlDir : Fld := ⟨0x02F000, 1, 1⟩
def hbxCtrlFields : Fld := ⟨0x02F000, 2, 2⟩
def hbxCtrlExpoAlign : Fld := ⟨0x02F000, 4, 2⟩
def hbxOptPitch : Fld := ⟨0x02F004, 0, 32⟩
def hbxRatio : Fld := ⟨0x02F008, 0, 16⟩
def hbxSmear : Fld := ⟨0x02F008, 16, 8⟩
def hbxSumEn : Fld := ⟨0x02F00C, 0, 32⟩
def hbxRowFirst : Fld := ⟨0x02F010, 0, 8⟩
def hbxRowLast : Fld := ⟨0x02F010, 8, 8⟩
def hbxWordFirst : Fld := ⟨0x02F014, 0, 10⟩
def hbxWordLast : Fld := ⟨0x02F014, 16, 10⟩
def hbxAreaCtrlNexpo : Fld := ⟨0x02F018, 0, 2⟩
def hbxAreaCtrlVbin : Fld := ⟨0x02F018, 2, 2⟩
def hbxAreaCtrlHbin2 : Fld := ⟨0x02F018, 4, 1⟩
def hbxAreaExpo (i : Nat) : Fld := ⟨0x02F020 + 4 * i, 0, 24⟩
def hbxEvtMissedWin : Fld := ⟨0x02F048, 0, 1⟩
def hbxEvtSliceFail : Fld := ⟨0x02F048, 1, 1⟩
def hbxEvtAdcDroop : Fld := ⟨0x02F048, 2, 1⟩
def hbxEvtDiscard : Fld := ⟨0x02F048, 3, 1⟩
def hbxEvtAreaSkip : Fld := ⟨0x02F048, 4, 1⟩
def hbxEvtCfgPar : Fld := ⟨0x02F048, 5, 1⟩
def hbxEvtFieldBreak : Fld := ⟨0x02F048, 6, 1⟩
def hbxFailLim : Fld := ⟨0x02F04C, 0, 8⟩
def hbxAreaSkip : Fld := ⟨0x02F050, 0, 32⟩
def hbxSlCtrlForceFail (i : Nat) : Fld := ⟨0x020004 + 1024 * i, 1, 1⟩
def hbxSlMiss (i : Nat) : Fld := ⟨0x020008 + 1024 * i, 0, 32⟩
def fltCtrlPlace : Fld := ⟨0x030000, 0, 2⟩
def fltCtrlDclamp : Fld := ⟨0x030000, 2, 1⟩
def fltCtrlDarkBank : Fld := ⟨0x030000, 3, 1⟩
def fltCtrlProdEn : Fld := ⟨0x030000, 4, 3⟩
def fltCtrlPfmt : Fld := ⟨0x030000, 8, 3⟩
def fltCDepth : Fld := ⟨0x030004, 0, 8⟩
def fltSDepth : Fld := ⟨0x030004, 8, 8⟩
def fltNDepth : Fld := ⟨0x030004, 16, 8⟩
def fltCDref : Fld := ⟨0x030008, 0, 8⟩
def fltSDref : Fld := ⟨0x030008, 8, 8⟩
def fltNDref : Fld := ⟨0x030008, 16, 8⟩
def fltHbin : Fld := ⟨0x03000C, 0, 6⟩
def fltOpenNeed : Fld := ⟨0x030014, 0, 9⟩
def fltDeckleFirst (i : Nat) : Fld := ⟨0x030020 + 4 * i, 0, 10⟩
def fltDeckleNwords (i : Nat) : Fld := ⟨0x030020 + 4 * i, 16, 10⟩
def fltEref (i : Nat) : Fld := ⟨0x030040 + 4 * i, 0, 24⟩
def fltAreaEref : Fld := ⟨0x030050, 0, 24⟩
def fltPgain (i j : Nat) : Fld := ⟨0x030060 + 16 * i + 4 * j, 0, 16⟩
def fltBgain (i : Nat) : Fld := ⟨0x030100 + 4 * i, 0, 16⟩
def fltEvtGainSat : Fld := ⟨0x030200, 0, 1⟩
def fltEvtAccSat : Fld := ⟨0x030200, 1, 1⟩
def fltEvtAccExh : Fld := ⟨0x030200, 2, 1⟩
def fltEvtEccCe : Fld := ⟨0x030200, 3, 1⟩
def fltEvtEccUe : Fld := ⟨0x030200, 4, 1⟩
def fltEvtClampFallback : Fld := ⟨0x030200, 5, 1⟩
def fltEvtClampLost : Fld := ⟨0x030200, 6, 1⟩
def fltEvtEpochBreak : Fld := ⟨0x030200, 7, 1⟩
def fltGsatCnt : Fld := ⟨0x030204, 0, 32⟩
def fltCeCnt : Fld := ⟨0x030208, 0, 32⟩
def fltUeCnt : Fld := ⟨0x03020C, 0, 32⟩
def fltClipCnt : Fld := ⟨0x030210, 0, 32⟩
def glbFurnIdStageId : Fld := ⟨0x000200, 0, 16⟩
def glbFurnCmdKind : Fld := ⟨0x000204, 1, 2⟩
def glbFurnCmdView : Fld := ⟨0x000204, 4, 1⟩
def glbFurnWcLo : Fld := ⟨0x000208, 0, 32⟩
def glbFurnWcHi : Fld := ⟨0x00020C, 0, 16⟩
def glbFurnStatLate : Fld := ⟨0x000210, 20, 1⟩
def glbFurnStatSuperseded : Fld := ⟨0x000210, 21, 1⟩
def glbFurnStatHeld : Fld := ⟨0x000210, 22, 1⟩
def glbFurnStatDone : Fld := ⟨0x000210, 23, 1⟩
def calCtrlXtEn : Fld := ⟨0x040000, 0, 1⟩
def calCtrlGrgbEn : Fld := ⟨0x040000, 1, 1⟩
def calCtrlColresEn : Fld := ⟨0x040000, 2, 1⟩
def calCtrlFlatEn : Fld := ⟨0x040000, 3, 1⟩
def calCtrlDpcEn : Fld := ⟨0x040000, 4, 1⟩
def calCtrlRecMethod : Fld := ⟨0x040000, 5, 1⟩
def calCtrlNirEn : Fld := ⟨0x040000, 6, 1⟩
def calCtrlCmEn : Fld := ⟨0x040000, 7, 1⟩
def calCtrlTblBank : Fld := ⟨0x040000, 8, 1⟩
def calXtCoef (i : Nat) : Fld := ⟨0x040010 + 4 * i, 0, 16⟩
def calGbGain (i : Nat) : Fld := ⟨0x040060 + 4 * i, 0, 16⟩
def calEdgeTau : Fld := ⟨0x040070, 0, 20⟩
def calGuideFloor : Fld := ⟨0x040074, 0, 20⟩
def calNirK (i : Nat) : Fld := ⟨0x040078 + 4 * i, 0, 16⟩
def calCmCoef (i j k : Nat) : Fld := ⟨0x040100 + 64 * i + 16 * j + 4 * k, 0, 16⟩
def calCmOfs (i j : Nat) : Fld := ⟨0x04010C + 64 * i + 16 * j, 0, 21⟩
def calMergeEn : Fld := ⟨0x040200, 0, 1⟩
def calMergeProd : Fld := ⟨0x040200, 1, 2⟩
def calMergePri : Fld := ⟨0x040200, 3, 2⟩
def calMergeSec : Fld := ⟨0x040200, 5, 2⟩
def calMergeShift : Fld := ⟨0x040200, 7, 3⟩
def calMergeK0 : Fld := ⟨0x040204, 0, 20⟩
def calMergeK1 : Fld := ⟨0x040208, 0, 20⟩
def calMergeRatio : Fld := ⟨0x04020C, 0, 16⟩
def calEvtLate : Fld := ⟨0x040300, 0, 1⟩
def calEvtEccCe : Fld := ⟨0x040300, 1, 1⟩
def calEvtEccUe : Fld := ⟨0x040300, 2, 1⟩
def calEvtGuideFallback : Fld := ⟨0x040300, 3, 1⟩
def calEvtNirSkip : Fld := ⟨0x040300, 4, 1⟩
def calEvtMergeAlone : Fld := ⟨0x040300, 5, 1⟩
def calEvtPairFull : Fld := ⟨0x040300, 6, 1⟩
def calEvtDpcVoid : Fld := ⟨0x040300, 7, 1⟩
def calLateCnt : Fld := ⟨0x040304, 0, 32⟩
def calGfbCnt : Fld := ⟨0x040308, 0, 32⟩
def calCeCnt : Fld := ⟨0x04030C, 0, 32⟩
def calUeCnt : Fld := ⟨0x040310, 0, 32⟩
def outPCtrlPeriod : Fld := ⟨0x070000, 0, 24⟩
def outKCtrlPeriod : Fld := ⟨0x070004, 0, 24⟩
def outKCtrlHalf : Fld := ⟨0x070004, 24, 1⟩
def outPWhite (i : Nat) : Fld := ⟨0x070010 + 4 * i, 0, 20⟩
def outKWhite (i : Nat) : Fld := ⟨0x070020 + 4 * i, 0, 20⟩
def outKMatCoef (i j : Nat) : Fld := ⟨0x070040 + 16 * i + 4 * j, 0, 16⟩
def outKMatOfs (i : Nat) : Fld := ⟨0x07004C + 16 * i, 0, 10⟩
def outStreamEn (i j k : Nat) : Fld := ⟨0x070100 + 64 * i + 16 * j + 4 * k, 0, 1⟩
def outStreamHost (i j k : Nat) : Fld := ⟨0x070100 + 64 * i + 16 * j + 4 * k, 1, 1⟩
def outStreamDc (i j k : Nat) : Fld := ⟨0x070100 + 64 * i + 16 * j + 4 * k, 2, 4⟩
def outStreamRec (i j k : Nat) : Fld := ⟨0x070100 + 64 * i + 16 * j + 4 * k, 6, 1⟩
def outEvtLenShort : Fld := ⟨0x070200, 0, 1⟩
def outEvtLenLong : Fld := ⟨0x070200, 1, 1⟩
def outEvtWmRebuilt : Fld := ⟨0x070200, 2, 1⟩
def outEvtHdrLost : Fld := ⟨0x070200, 3, 1⟩
def outEvtBindClass : Fld := ⟨0x070200, 4, 1⟩
def outEvtEccUe : Fld := ⟨0x070200, 5, 1⟩
def outEvtEccCe : Fld := ⟨0x070200, 6, 1⟩
def outShortCnt : Fld := ⟨0x070204, 0, 32⟩
def outLongCnt : Fld := ⟨0x070208, 0, 32⟩
def outLostCnt : Fld := ⟨0x07020C, 0, 32⟩
def outCeCnt : Fld := ⟨0x070210, 0, 32⟩
def outUeCnt : Fld := ⟨0x070214, 0, 32⟩
def stsCtrlProdEn : Fld := ⟨0x050000, 0, 4⟩
def stsCtrlFieldEn : Fld := ⟨0x050000, 4, 4⟩
def stsCtrlTap : Fld := ⟨0x050000, 8, 1⟩
def stsCtrlBrokeInc : Fld := ⟨0x050000, 9, 1⟩
def stsZoneFirst : Fld := ⟨0x050004, 0, 10⟩
def stsZoneWords : Fld := ⟨0x050004, 16, 10⟩
def stsZoneCntM1 : Fld := ⟨0x050004, 26, 6⟩
def stsEvtBankDone : Fld := ⟨0x050010, 0, 1⟩
def stsEvtResOverrun : Fld := ⟨0x050010, 1, 1⟩
def stsEvtPeriodLost : Fld := ⟨0x050010, 2, 1⟩
def stsEvtLateLine : Fld := ⟨0x050010, 3, 1⟩
def stsEvtDarkLost : Fld := ⟨0x050010, 4, 1⟩
def stsEvtEccUe : Fld := ⟨0x050010, 5, 1⟩
def stsLateCnt : Fld := ⟨0x050018, 0, 32⟩
def stsLostCnt : Fld := ⟨0x05001C, 0, 32⟩
def scrCtrlEn : Fld := ⟨0x060000, 0, 1⟩
def scrCtrlProd : Fld := ⟨0x060000, 1, 2⟩
def scrCtrlFields : Fld := ⟨0x060000, 3, 4⟩
def scrCtrlK : Fld := ⟨0x060000, 7, 5⟩
def scrCtrlDarkEn : Fld := ⟨0x060000, 12, 1⟩
def scrCtrlBrightEn : Fld := ⟨0x060000, 13, 1⟩
def scrCtrlFreeze : Fld := ⟨0x060000, 14, 1⟩
def scrCtrlDc : Fld := ⟨0x060000, 16, 4⟩
def scrDarkRatio : Fld := ⟨0x060004, 0, 16⟩
def scrBrightRatio : Fld := ⟨0x060008, 0, 16⟩
def scrAbs : Fld := ⟨0x06000C, 0, 20⟩
def scrSizeRunMin : Fld := ⟨0x060010, 0, 8⟩
def scrSizeAreaMin : Fld := ⟨0x060010, 8, 16⟩
def scrSpan : Fld := ⟨0x060014, 0, 16⟩
def scrEvtOverflow : Fld := ⟨0x060020, 0, 1⟩
def scrEvtRunOvf : Fld := ⟨0x060020, 1, 1⟩
def scrEvtCandOvf : Fld := ⟨0x060020, 2, 1⟩
def scrEvtBindClass : Fld := ⟨0x060020, 3, 1⟩
def scrRecCnt : Fld := ⟨0x060024, 0, 32⟩
def scrDropCnt : Fld := ⟨0x060028, 0, 32⟩
def relCtrlFreeze : Fld := ⟨0x080000, 1, 1⟩
def relSaveSize : Fld := ⟨0x080004, 0, 7⟩
def relMemSize : Fld := ⟨0x080004, 8, 6⟩
def relEvtDrop : Fld := ⟨0x080030, 0, 1⟩
def relEvtStale : Fld := ⟨0x080030, 1, 1⟩
def relEvtEccCe : Fld := ⟨0x080030, 2, 1⟩
def relEvtEccUe : Fld := ⟨0x080030, 3, 1⟩
def relEvtDirEvict : Fld := ⟨0x080030, 4, 1⟩
def relEvtSaveFull : Fld := ⟨0x080030, 5, 1⟩
def relEvtLayoutDone : Fld := ⟨0x080030, 6, 1⟩
def relDropCnt : Fld := ⟨0x080034, 0, 32⟩
def relStaleCnt : Fld := ⟨0x080038, 0, 32⟩
def relCeCnt : Fld := ⟨0x08003C, 0, 32⟩
def relUeCnt : Fld := ⟨0x080040, 0, 32⟩
def relFrozenCnt : Fld := ⟨0x080044, 0, 32⟩
def glbLinkCtrlHold : Fld := ⟨0x000404, 0, 1⟩
def glbLinkCtrlWakeEn : Fld := ⟨0x000404, 1, 1⟩
def glbLinkCtrlTestMode : Fld := ⟨0x000404, 2, 2⟩
def glbLinkCtrlTestRate : Fld := ⟨0x000404, 4, 3⟩
def glbLinkEvtDown : Fld := ⟨0x000408, 0, 1⟩
def glbLinkEvtDegrade : Fld := ⟨0x000408, 1, 1⟩
def glbLinkEvtViralIn : Fld := ⟨0x000408, 2, 1⟩
def glbLinkEvtViralOut : Fld := ⟨0x000408, 3, 1⟩
def glbLinkEvtPoisonRd : Fld := ⟨0x000408, 4, 1⟩
def glbLinkEvtRetrain : Fld := ⟨0x000408, 5, 1⟩
def glbLinkDownCnt : Fld := ⟨0x00040C, 0, 32⟩
def glbLinkPrbsErr (i : Nat) : Fld := ⟨0x000420 + 4 * i, 0, 32⟩
def dmaChCtrlResume (i : Nat) : Fld := ⟨0x090000 + 512 * i, 1, 1⟩
def dmaChCtrlCoh (i : Nat) : Fld := ⟨0x090000 + 512 * i, 3, 1⟩
def dmaChCtrlClass (i : Nat) : Fld := ⟨0x090000 + 512 * i, 4, 3⟩
def dmaChCtrlDringLog2 (i : Nat) : Fld := ⟨0x090000 + 512 * i, 8, 4⟩
def dmaChCtrlCringLog2 (i : Nat) : Fld := ⟨0x090000 + 512 * i, 12, 4⟩
def dmaChCtrlSaveMax (i : Nat) : Fld := ⟨0x090000 + 512 * i, 16, 15⟩
def dmaChPasid (i : Nat) : Fld := ⟨0x090004 + 512 * i, 0, 20⟩
def dmaChPasidPv (i : Nat) : Fld := ⟨0x090004 + 512 * i, 31, 1⟩
def dmaDringLo (i : Nat) : Fld := ⟨0x090008 + 512 * i, 0, 32⟩
def dmaDringHi (i : Nat) : Fld := ⟨0x09000C + 512 * i, 0, 32⟩
def dmaCringLo (i : Nat) : Fld := ⟨0x090010 + 512 * i, 0, 32⟩
def dmaCringHi (i : Nat) : Fld := ⟨0x090014 + 512 * i, 0, 32⟩
def dmaChEvtPark (i : Nat) : Fld := ⟨0x090024 + 512 * i, 0, 1⟩
def dmaChEvtUnpark (i : Nat) : Fld := ⟨0x090024 + 512 * i, 1, 1⟩
def dmaChEvtDrop (i : Nat) : Fld := ⟨0x090024 + 512 * i, 2, 1⟩
def dmaChEvtRefused (i : Nat) : Fld := ⟨0x090024 + 512 * i, 3, 1⟩
def dmaChEvtTooSmall (i : Nat) : Fld := ⟨0x090024 + 512 * i, 4, 1⟩
def dmaChEvtErr (i : Nat) : Fld := ⟨0x090024 + 512 * i, 5, 1⟩
def dmaChEvtPasidRef (i : Nat) : Fld := ⟨0x090024 + 512 * i, 6, 1⟩
def dmaUnitsLo (i : Nat) : Fld := ⟨0x090028 + 512 * i, 0, 32⟩
def dmaUnitsHi (i : Nat) : Fld := ⟨0x09002C + 512 * i, 0, 16⟩
def dmaDropsLo (i : Nat) : Fld := ⟨0x090030 + 512 * i, 0, 32⟩
def dmaDropsHi (i : Nat) : Fld := ⟨0x090034 + 512 * i, 0, 16⟩
def dmaChFaults (i : Nat) : Fld := ⟨0x090038 + 512 * i, 0, 32⟩
def dmaChParks (i : Nat) : Fld := ⟨0x09003C + 512 * i, 0, 32⟩
def dmaFaultVaLo (i : Nat) : Fld := ⟨0x090040 + 512 * i, 0, 32⟩
def dmaFaultVaHi (i : Nat) : Fld := ⟨0x090044 + 512 * i, 0, 32⟩
def dmaGlbCtrlPriTimeout : Fld := ⟨0x092000, 0, 16⟩
def dmaAtcMiss : Fld := ⟨0x092008, 0, 32⟩
def dmaInvCnt : Fld := ⟨0x09200C, 0, 32⟩
def dmaGlbEvtPriFail : Fld := ⟨0x092010, 0, 1⟩
def dmaGlbEvtPriTimeout : Fld := ⟨0x092010, 1, 1⟩
def cmdQCtrlSqLog2 (i : Nat) : Fld := ⟨0x0A0000 + 64 * i, 1, 4⟩
def cmdQCtrlCqLog2 (i : Nat) : Fld := ⟨0x0A0000 + 64 * i, 5, 4⟩
def cmdQCtrlDc (i : Nat) : Fld := ⟨0x0A0000 + 64 * i, 9, 4⟩
def cmdQPasid (i : Nat) : Fld := ⟨0x0A0004 + 64 * i, 0, 20⟩
def cmdQPasidPv (i : Nat) : Fld := ⟨0x0A0004 + 64 * i, 31, 1⟩
def cmdQSqLo (i : Nat) : Fld := ⟨0x0A0008 + 64 * i, 0, 32⟩
def cmdQSqHi (i : Nat) : Fld := ⟨0x0A000C + 64 * i, 0, 32⟩
def cmdQCqLo (i : Nat) : Fld := ⟨0x0A0010 + 64 * i, 0, 32⟩
def cmdQCqHi (i : Nat) : Fld := ⟨0x0A0014 + 64 * i, 0, 32⟩
def cmdQEvtCpl (i : Nat) : Fld := ⟨0x0A0024 + 64 * i, 0, 1⟩
def cmdQEvtCqWait (i : Nat) : Fld := ⟨0x0A0024 + 64 * i, 1, 1⟩
def cmdQEvtFetchErr (i : Nat) : Fld := ⟨0x0A0024 + 64 * i, 2, 1⟩
def cmdQEvtLostCpl (i : Nat) : Fld := ⟨0x0A0024 + 64 * i, 3, 1⟩
def cmdQEvtBind (i : Nat) : Fld := ⟨0x0A0024 + 64 * i, 4, 1⟩
def cmdQLost (i : Nat) : Fld := ⟨0x0A0028 + 64 * i, 0, 32⟩
def cmdFastCnt : Fld := ⟨0x0A0F04, 0, 32⟩
def cmdTwCtrlBusy : Fld := ⟨0x0A1040, 1, 1⟩
def cmdTwDlen : Fld := ⟨0x0A1044, 0, 13⟩
def cmdTwEvtDone : Fld := ⟨0x0A1060, 0, 1⟩
def cmdTwEvtOverrun : Fld := ⟨0x0A1060, 1, 1⟩
def glbAttnAlarm : Fld := ⟨0x000008, 0, 1⟩
def glbAttnMbox : Fld := ⟨0x000008, 1, 1⟩
def glbAttnTherm : Fld := ⟨0x000008, 2, 1⟩
def glbAttnLink : Fld := ⟨0x000008, 3, 1⟩
def glbAttnWlink : Fld := ⟨0x000008, 4, 1⟩
def glbEvtRsvChange : Fld := ⟨0x000010, 0, 1⟩
def glbEvtTwWrDenied : Fld := ⟨0x000010, 1, 1⟩
def glbEvtWo1Inhibit : Fld := ⟨0x000010, 2, 1⟩
def glbLockWlk : Fld := ⟨0x000014, 1, 1⟩
def glbLockAcc : Fld := ⟨0x000014, 2, 1⟩
def glbLockAssetSpent : Fld := ⟨0x000014, 31, 1⟩
def glbLockViol : Fld := ⟨0x000018, 0, 1⟩
def glbLockViolPath : Fld := ⟨0x000018, 1, 2⟩
def glbLockViolCount : Fld := ⟨0x000018, 8, 8⟩
def glbAccTwWr : Fld := ⟨0x000020, 0, 1⟩
def wlkCtrlRoleReq : Fld := ⟨0x0B0000, 0, 2⟩
def wlkCtrlUpPri : Fld := ⟨0x0B0000, 2, 2⟩
def wlkCtrlUpSec : Fld := ⟨0x0B0000, 4, 2⟩
def wlkCtrlSecEn : Fld := ⟨0x0B0000, 6, 1⟩
def wlkCtrlMember : Fld := ⟨0x0B0000, 7, 1⟩
def wlkCtrlDownEn : Fld := ⟨0x0B0000, 8, 4⟩
def wlkCtrlAlarmUp : Fld := ⟨0x0B0000, 12, 1⟩
def wlkCtrlRevert : Fld := ⟨0x0B0000, 13, 1⟩
def wlkHeadId : Fld := ⟨0x0B0004, 0, 16⟩
def wlkHoldover : Fld := ⟨0x0B0014, 0, 16⟩
def wlkSnapMax : Fld := ⟨0x0B0018, 0, 16⟩
def wlkEvtPortDown : Fld := ⟨0x0B0020, 0, 1⟩
def wlkEvtPortUp : Fld := ⟨0x0B0020, 1, 1⟩
def wlkEvtFailover : Fld := ⟨0x0B0020, 2, 1⟩
def wlkEvtTakeover : Fld := ⟨0x0B0020, 3, 1⟩
def wlkEvtJoined : Fld := ⟨0x0B0020, 4, 1⟩
def wlkEvtLeft : Fld := ⟨0x0B0020, 5, 1⟩
def wlkEvtSeqBehind : Fld := ⟨0x0B0020, 6, 1⟩
def wlkEvtTooDeep : Fld := ⟨0x0B0020, 7, 1⟩
def wlkEvtDualSource : Fld := ⟨0x0B0020, 8, 1⟩
def wlkEvtEpochMismatch : Fld := ⟨0x0B0020, 9, 1⟩
def wlkEvtDupId : Fld := ⟨0x0B0020, 10, 1⟩
def wlkEvtSeamLost : Fld := ⟨0x0B0020, 11, 1⟩
def wlkEvtMsgRx : Fld := ⟨0x0B0020, 12, 1⟩
def wlkEvtMsgOvf : Fld := ⟨0x0B0020, 13, 1⟩
def wlkEvtCoast : Fld := ⟨0x0B0020, 14, 1⟩
def wlkEvtLost : Fld := ⟨0x0B0020, 15, 1⟩
def wlkSeamTxL : Fld := ⟨0x0B0030, 0, 1⟩
def wlkSeamTxR : Fld := ⟨0x0B0030, 1, 1⟩
def wlkSeamPortL : Fld := ⟨0x0B0030, 2, 2⟩
def wlkSeamPortR : Fld := ⟨0x0B0030, 4, 2⟩
def wlkSeamWordsM1 : Fld := ⟨0x0B0030, 6, 2⟩
def wlkSeamProd : Fld := ⟨0x0B0030, 8, 2⟩
def wlkSeamFields : Fld := ⟨0x0B0030, 10, 4⟩
def wlkSeamRxEn : Fld := ⟨0x0B0030, 14, 1⟩
def wlkSeamDc : Fld := ⟨0x0B0030, 15, 4⟩
def wlkSeamRxSides : Fld := ⟨0x0B0030, 19, 2⟩
def wlkSeamLost : Fld := ⟨0x0B0034, 0, 32⟩
def wlkPCtrlEn (i : Nat) : Fld := ⟨0x0B0100 + 64 * i, 0, 1⟩
def wlkPErr (i j : Nat) : Fld := ⟨0x0B0110 + 64 * i + 4 * j, 0, 32⟩
def wlkPBad (i : Nat) : Fld := ⟨0x0B0118 + 64 * i, 0, 32⟩
def wlkPDown (i : Nat) : Fld := ⟨0x0B011C + 64 * i, 0, 32⟩
def penOe : Fld := ⟨0x0C000C, 0, 32⟩
def penCtrlEntry (i : Nat) : Fld := ⟨0x0C0100 + 64 * i, 0, 5⟩
def penCtrlNostall (i : Nat) : Fld := ⟨0x0C0100 + 64 * i, 5, 1⟩
def penCtrlDiv (i : Nat) : Fld := ⟨0x0C0100 + 64 * i, 16, 16⟩
def penPinsOutBase (i : Nat) : Fld := ⟨0x0C0104 + 64 * i, 0, 5⟩
def penPinsOutCnt (i : Nat) : Fld := ⟨0x0C0104 + 64 * i, 5, 6⟩
def penPinsInBase (i : Nat) : Fld := ⟨0x0C0104 + 64 * i, 11, 5⟩
def penEvtUnder (i : Nat) : Fld := ⟨0x0C010C + 64 * i, 0, 1⟩
def penEvtOver (i : Nat) : Fld := ⟨0x0C010C + 64 * i, 1, 1⟩
def penEvtTxOvf (i : Nat) : Fld := ⟨0x0C010C + 64 * i, 2, 1⟩
def penEvtLate (i : Nat) : Fld := ⟨0x0C010C + 64 * i, 3, 1⟩
def penEvtStepped (i : Nat) : Fld := ⟨0x0C010C + 64 * i, 4, 1⟩
def penEvtPinConflict (i : Nat) : Fld := ⟨0x0C010C + 64 * i, 5, 1⟩
def penEvtTrigIgn (i : Nat) : Fld := ⟨0x0C010C + 64 * i, 6, 1⟩
def penEvtBadOp (i : Nat) : Fld := ⟨0x0C010C + 64 * i, 7, 1⟩
def penEvtSig (i : Nat) : Fld := ⟨0x0C010C + 64 * i, 8, 1⟩
def penEvtProgBusy (i : Nat) : Fld := ⟨0x0C010C + 64 * i, 9, 1⟩
def clkRefModeSel : Fld := ⟨0x0D0000, 0, 1⟩
def clkTargetCore : Fld := ⟨0x0D0004, 0, 1⟩
def clkTargetSlice : Fld := ⟨0x0D0004, 3, 1⟩
def clkCtrlTenderRearm : Fld := ⟨0x0D0008, 0, 1⟩
def clkEvtCoreByp : Fld := ⟨0x0D0020, 0, 1⟩
def clkEvtMemByp : Fld := ⟨0x0D0020, 1, 1⟩
def clkEvtSliceByp : Fld := ⟨0x0D0020, 2, 1⟩
def clkEvtRefLost : Fld := ⟨0x0D0020, 3, 1⟩
def clkEvtRefBack : Fld := ⟨0x0D0020, 4, 1⟩
def clkEvtRelock : Fld := ⟨0x0D0020, 5, 1⟩
def clkEvtTickStep : Fld := ⟨0x0D0020, 6, 1⟩
def clkEvtXtalFail : Fld := ⟨0x0D0020, 7, 1⟩
def mgtFwCtrlActEn : Fld := ⟨0x0F0100, 0, 1⟩
def mgtFwCtrlAdvEn : Fld := ⟨0x0F0100, 1, 1⟩
def mgtCtrlAlarmDc : Fld := ⟨0x0F0104, 0, 4⟩
def mgtCtrlAlarmEn : Fld := ⟨0x0F0104, 4, 1⟩
def mgtCtrlLogRemote : Fld := ⟨0x0F0104, 5, 1⟩
def mgtCtrlHostlossFreeze : Fld := ⟨0x0F0104, 6, 1⟩
def mgtCtrlSleepIdle : Fld := ⟨0x0F0104, 8, 8⟩
def mgtHoldup : Fld := ⟨0x0F0108, 0, 16⟩
def mgtHostTimeout : Fld := ⟨0x0F010C, 0, 16⟩
def mgtEvtInhibit : Fld := ⟨0x0F0110, 0, 1⟩
def mgtEvtRecovered : Fld := ⟨0x0F0110, 1, 1⟩
def mgtEvtFallback : Fld := ⟨0x0F0110, 2, 1⟩
def mgtEvtSuppress : Fld := ⟨0x0F0110, 3, 1⟩
def mgtEvtRestart : Fld := ⟨0x0F0110, 4, 1⟩
def mgtEvtReload : Fld := ⟨0x0F0110, 5, 1⟩
def mgtEvtAlarmBind : Fld := ⟨0x0F0110, 6, 1⟩
def mgtEvtAdvDenied : Fld := ⟨0x0F0110, 7, 1⟩
def cmdTwCfgIbrEn : Fld := ⟨0x0A3000, 0, 1⟩
def cmdTwCfgIbrRetry : Fld := ⟨0x0A3000, 1, 3⟩
def cmdTwCfgIbrWait : Fld := ⟨0x0A3000, 8, 8⟩
def cmdTwPevtFrameErr : Fld := ⟨0x0A3010, 0, 1⟩
def cmdTwPevtPartial : Fld := ⟨0x0A3010, 1, 1⟩
def cmdTwPevtBusStuck : Fld := ⟨0x0A3010, 2, 1⟩
def cmdTwPevtIbrFallback : Fld := ⟨0x0A3010, 3, 1⟩
def cmdTwPevtWakeNack : Fld := ⟨0x0A3010, 4, 1⟩
def thmCtrlStart : Fld := ⟨0x0E0000, 0, 8⟩
def thmCtrlRate : Fld := ⟨0x0E0000, 8, 7⟩
def thmCtrlCrit : Fld := ⟨0x0E0000, 16, 8⟩
def thmCtrlThrEn : Fld := ⟨0x0E0000, 24, 1⟩
def thmIslHi : Fld := ⟨0x0E0008, 0, 12⟩
def thmIslLo : Fld := ⟨0x0E0008, 16, 12⟩
def thmTuneKp : Fld := ⟨0x0E0004, 0, 8⟩
def thmTuneMinDepth : Fld := ⟨0x0E0004, 8, 5⟩
def thmTuneHyst : Fld := ⟨0x0E0004, 16, 8⟩
def thmTuneXchkLim : Fld := ⟨0x0E0004, 24, 8⟩
def thmEvtThrottle : Fld := ⟨0x0E0010, 0, 1⟩
def thmEvtRelease : Fld := ⟨0x0E0010, 1, 1⟩
def thmEvtRate : Fld := ⟨0x0E0010, 2, 1⟩
def thmEvtSensFail : Fld := ⟨0x0E0010, 3, 1⟩
def thmEvtHold : Fld := ⟨0x0E0010, 4, 1⟩
def thmEvtCritical : Fld := ⟨0x0E0010, 5, 1⟩
def thmEvtIsl : Fld := ⟨0x0E0010, 6, 1⟩
def thmEvtCoreDroop : Fld := ⟨0x0E0010, 7, 1⟩
def thmEvtSupplyUv : Fld := ⟨0x0E0010, 8, 1⟩
def thmEvtTrip : Fld := ⟨0x0E0010, 9, 1⟩

end R

end Sys2Proof.Machine
end

