-- ==== Sys2Proof/Machine/State.lean ====
section
/-! DEFINITION. The state of the block as plain data: every register, FIFO, buffer, counter, mode and ball the spec
gives the device, and the queue of the commands that wait. One structure per block of the spec; the register words
that software reads and writes live in ONE sparse store (`regs`), furnish copies in stores of the same form. -/

namespace Sys2Proof.Machine

/-- Why the machine stops with a fault.
`illFormed`: a command whose operands the hardware cannot produce (a converter result for a column or block that does
not exist, a sensor list of another length than the 47 nodes of R409). Raised by the meanings that take such lists.
Safe: the machine stops where no hardware behaviour exists. -/
inductive Fault where
  | illFormed
deriving DecidableEq, Repr, Inhabited

/-- Why a command has no meaning. `notModelled` would be raised by an arm of `exec` that has no meaning yet; safe. -/
inductive Refusal where
  | notModelled (mnemonic : String)
deriving DecidableEq, Repr, Inhabited

/-- A sparse store of register words: offset and word, offsets strictly rising, only words that differ from reset. -/
abbrev RegMap := List (Nat × Word)

/-- A sparse store of table entries: key and value, keys strictly rising. -/
abbrev Table := List (Nat × Int)

/-! ### The timebase -/

/-- What the timebase does with W: R33 tracking; R46 coasting; R47 lost; R48: edges are back and the reference event
is awaited, a slew is in progress, a forward or a backward resynchronisation waits for a ream boundary, W holds until
R_ref has reached it. -/
inductive TrackMode where
  | tracking | coasting | lost | returning | slewing | resyncFwd | resyncHold | holding
deriving DecidableEq, Repr, Inhabited

/-- One encoder's filtered levels, its net edge count and the tick of its latest edge (R30, R33). -/
structure Encoder where
  a     : Bool := false
  b     : Bool := false
  edges : Int := 0
  last  : Option Nat := none
  /-- The interval between its two latest edges. -/
  gap   : Option Nat := none
deriving DecidableEq, Repr, Inhabited

/-- The timebase's record of one line period (R42, R43, R58, R81, R346). -/
structure Period where
  seq      : Nat := 0
  trig     : Nat := 0
  field    : Nat := 0
  fields   : Nat := 1
  tLine    : Nat := 0
  tExp     : Nat := 0
  base     : Nat := 0
  planned  : Nat := 0
  start    : Option Nat := none
  stop     : Option Nat := none
  wStart   : Pos := 0
  wStop    : Pos := 0
  coast    : Bool := false
  early    : Bool := false
  resync   : Bool := false
  makes    : Bool := true
  furnish  : BitVec 16 := 0
  gens     : BitVec 32 := 0
  epoch    : Nat := 0
  ream     : Nat := 0
  ceil     : Nat := 32
  optPitch : Nat := 0
  adcDroop : Bool := false
  /-- R81: the period's placement is by sequence (time mode, pin engine). -/
  bySeq    : Bool := false
  /-- R53: the direction in force; R63: the line was in flight at a change of FIELDS. -/
  rev        : Bool := false
  fieldBreak : Bool := false
  /-- R96: products for which the packet was born enabled, or has not been judged yet. -/
  prods    : BitVec 3 := 7
deriving DecidableEq, Repr, Inhabited

structure Timebase where
  /-- R9: the tick counter. -/
  tick      : BitVec 64 := 0
  /-- R33: W held to 12 fraction bits. -/
  wf        : Pos := 0
  /-- R33: the rate of W, in 1/4,096 wc per tick. -/
  rate      : Nat := 0
  /-- R33, R46: the active encoder. -/
  onEnc1    : Bool := false
  encs      : Vector Encoder 2 := vrep 2 {}
  /-- R44: the present and the furthest encoder position, in 1/4,096 wc, anchored. -/
  q         : Int := 0
  m         : Int := 0
  /-- R44: DIR_REV was set during the present excursion, or triggers wait for Q above M + hysteresis. -/
  revSeen   : Bool := false
  revLimit  : Int := 0
  /-- R33: ticks of the latest edge, and of the latest advancing edge whose interval may count. -/
  tLast     : Option Nat := none
  tAdv      : Option Nat := none
  intervals : List Nat := []
  /-- R426: the own encoder is tracked on through a warm reset of a timing source. -/
  runOn     : Bool := false
  /-- R33: the speed of the old encoder, held after a change until the new one gives an interval (wc/tick, 1/4,096). -/
  heldRate  : Option Nat := none
  mode      : TrackMode := .tracking
  /-- R36: standstill. -/
  still     : Bool := true
  /-- R47: line periods for which the timebase has coasted. -/
  coastRun  : Nat := 0
  /-- R32, R48: the Z capture, whether the active encoder gave one while it tracked, and Z_last. -/
  zcap      : WC := 0
  zSeen     : Bool := false
  zLast     : Option WC := none
  /-- R48: the discontinuity measured (register), what is left to absorb or to step, and the web left in a slew. -/
  slewD     : Int := 0
  slewLeft  : Int := 0
  slewWeb   : Int := 0
  /-- R48, R49: the tick of the reference event. -/
  refTick   : Option Nat := none
  /-- R38: the trigger position T_n. -/
  t         : Pos := 0x1000000
  /-- R39, R41: the tick of the latest trigger, and whether its interval may be measured. -/
  lastTrig  : Option Nat := none
  fresh     : Bool := false
  /-- R39: the tick at which a held trigger is due. -/
  held      : Option Nat := none
  /-- R38: the trigger position that the held trigger was crossed at. -/
  heldPos   : Option Pos := none
  /-- R59, R347: the ticks at which the triggers of pin-engine requests are due. -/
  extDue    : List Nat := []
  /-- R37: the tick from which the first period of time mode counts. -/
  timeBase  : Nat := 0
  /-- R40: the next line sequence, and whether a trigger has been raised since cold reset and since READY. -/
  nextSeq   : Nat := 0
  raised    : Bool := false
  raisedRdy : Bool := false
  /-- R40: ream index and the exponent k in force. -/
  ream      : BitVec 32 := 0
  reamK     : Nat := 12
  /-- R40: the first sequence of the present ream; R321: a ream mark is due downstream of this source. -/
  reamSeq   : Nat := 0
  /-- R181: the first sequences of the latest reams: (ream index, sequence), newest first. -/
  reamLog   : List (Nat × Nat) := []
  skip      : BitVec 32 := 0
  tLine     : Nat := 0
  /-- R59: the tick of a pre-trigger whose trigger is awaited. -/
  window    : Option Nat := none
  /-- R73: the VDD_ADC detector fired in the transfer window. -/
  droopNext : Bool := false
  /-- R88: the grid epoch. -/
  epoch     : Nat := 0
  /-- R42: the per-period records, newest first. -/
  periods   : List Period := []
deriving DecidableEq, Repr, Inhabited

/-! ### The headbox -/

/-- R78: the state of a slice. -/
inductive SliceState where
  | active | idle | failed | rejoining
deriving DecidableEq, Repr, Inhabited

/-- A block sample in a slice's output buffer (R57, R58). -/
structure BlockSample where
  period : Nat
  block  : Fin 32
  codes  : List (BitVec 12)
deriving DecidableEq, Repr, Inhabited

structure Slice where
  state   : SliceState := .active
  cause   : BitVec 4 := 0
  run     : Nat := 0
  buf     : List BlockSample := []
  /-- R66: the last line sequence that needs the slice's converters. -/
  needed  : Option Nat := none
  /-- R68: the furnish copy failed its parity check and is reloaded before the next pre-trigger. -/
  badCopy : Bool := false
  /-- R68: the latest period latched, and the latest period with a miss. -/
  latched : Option Nat := none
  missed  : Option Nat := none
  /-- R70, R71: the first sequence whose lines may hold valid columns of the slice. -/
  validFrom : Nat := 0
deriving DecidableEq, Repr, Inhabited

/-- R75: a sub-frame whose charge the registers hold: its frame, its number, W and the tick at its centre. -/
structure SubFrame where
  seq     : Nat := 0
  furnish : BitVec 16 := 0
  sub     : Nat := 0
  w       : WC := 0
  tick    : Nat := 0
  coast   : Bool := false
  /-- R70, R71: the slices whose columns are valid in its rows. -/
  valid   : BitVec 38 := 0
deriving DecidableEq, Repr, Inhabited

/-- R74, R75: the area frame in progress. -/
structure AreaFrame where
  seq     : Nat := 0
  furnish : BitVec 16 := 0
  sub     : Nat := 0
  count   : Nat := 1
  slot    : Nat := 0
  length  : Nat := 10000
  tail    : Bool := false
  /-- R74: the exposure of the slot: ticks and W at its start and its end. -/
  tStart  : Option Nat := none
  wStart  : Pos := 0
  tStop   : Option Nat := none
  wStop   : Pos := 0
  coast   : Bool := false
  loaded  : Option SubFrame := none
  readout : Nat := 0
  /-- R75: the frames whose triggers came late in a tail slot, oldest first. -/
  next    : List (Nat × BitVec 16) := []
  /-- R70, R71: the slices whose columns are valid in the frame's rows. -/
  valid   : BitVec 38 := 0
  /-- R73: the row readouts of the slot in which the VDD_ADC detector fired. -/
  droops  : List Nat := []
deriving DecidableEq, Repr, Inhabited

structure Headbox where
  slices   : Vector Slice 38 := vrep 38 {}
  /-- R55: register shifts made. -/
  shifts   : Nat := 0
  /-- R60: an exposure is running. -/
  exposing : Bool := false
  /-- R64: the tick at which the clearing of the registers ends. -/
  clearTo  : Option Nat := none
  /-- R64: packets that entered before this sequence make no line any more. -/
  cutSeq   : Nat := 0
  area     : Option AreaFrame := none
  /-- R80: the dark columns latched: (period, block, side 0 left / 1 right, codes). -/
  darks    : List (Nat × Nat × Nat × List (BitVec 12)) := []
deriving DecidableEq, Repr, Inhabited

/-! ### Lines -/

/-- R101, R161: the flags of a line. -/
structure Flags where
  broke     : Bool := false
  padded    : Bool := false
  cut       : Bool := false
  blend     : Bool := false
  throttled : Bool := false
  coast     : Bool := false
  seam      : Bool := false
deriving DecidableEq, Repr, Inhabited

/-- A line on its way from the felt to the streams (R101, R160). -/
structure Line where
  prod    : Nat := 0
  field   : Nat := 0
  seq     : Nat := 0
  furnish : BitVec 16 := 0
  flags   : Flags := {}
  cause   : BitVec 16 := 0
  depth   : Nat := 0
  hbin    : Nat := 0
  word0   : Nat := 0
  wc      : WC := 0
  row     : Nat := 0
  epoch   : Nat := 0
  tick    : Nat := 0
  ream    : Nat := 0
  /-- R101, R160: the head ID as it stood when the felt formed the watermark. -/
  head    : BitVec 16 := 0
  ply10   : Bool := false
  valid   : BitVec 38 := 0
  /-- R143: the next line sequence as it stood when the line arrived at the calender. -/
  came    : Nat := 0
  /-- Components in lin20 (or ply codes when `ply10`), one per pixel, or three interleaved after stage 5. -/
  pix     : List Nat := []
  ncomp   : Nat := 1
deriving DecidableEq, Repr, Inhabited

/-- A line open in the felt (R93 to R98). -/
structure FeltLine where
  line     : Line
  /-- R93: the entry block and the depth fixed at the entry period. -/
  first    : Nat := 0
  cap      : Nat := 0
  /-- R85, R86: taps T of its placement and the step F of its grid. -/
  taps     : Nat := 0
  step     : Nat := 1
  /-- R97: blocks waited for; blocks whose closing sample came, with the period it was latched in; blocks of its own
  packet received. -/
  req      : List Nat := []
  passed   : List (Nat × Nat) := []
  /-- R97: the line period in which the last closing sample was placed. -/
  metAt    : Nat := 0
  got      : List Nat := []
  /-- R89: accumulators by physical column, 1/16 DN at unit gain. -/
  acc      : Table := []
  /-- R122, R88: exposure generations and grid epochs of its samples. -/
  gens     : List Nat := []
  epochs   : List Nat := []
  /-- R70: slices that gave it a sample. -/
  hadSlice : BitVec 38 := 0
  /-- R89: accumulator words lost to an uncorrectable error (slice, word). -/
  lost     : List (Nat × Nat) := []
  /-- R64: to be closed with what it holds. -/
  closing  : Bool := false
deriving DecidableEq, Repr, Inhabited

/-- What the stock stream carries (R101, R104). -/
inductive StockItem where
  | line (l : Line)
  | dark (vc : Nat) (ream : Nat) (means : List Int)
deriving DecidableEq, Repr, Inhabited

/-- R105: an area row held in the accumulator pool: its line, and the accumulators of its columns. -/
structure AreaHeld where
  line : Line
  accs : List Int
deriving DecidableEq, Repr, Inhabited

structure Felt where
  lines    : List FeltLine := []
  /-- R85, R97: packets whose own line has closed while samples of theirs still carry weight onto later lines. -/
  shells   : List FeltLine := []
  stock    : List StockItem := []
  /-- R104: sums and counts of delta_b over the ream, and the packet that waits: (ream, boundary sequence, means). -/
  dsum     : Vector Int 32 := vrep 32 0
  dcnt     : Vector Nat 32 := vrep 32 0
  due      : Option (Nat × Nat × List Int) := none
  /-- R93, R416: FLT_CEIL. -/
  ceil     : Nat := 32
  /-- R80: the latest delta_b by travel block, and those formed for recent transfers: (period, block, delta_b). -/
  delta    : Vector Int 32 := vrep 32 0
  deltas   : List (Nat × Nat × Int) := []
  /-- R83: the saturated gains counted for recent transfers: (period, block, target sequence). -/
  gsat     : List (Nat × Nat × Nat) := []
  peak     : Nat := 0
  /-- R106: FLT_DCLAMP as the last trigger updated it. -/
  deltaSeen : Vector Int 32 := vrep 32 0
  /-- R105: area rows converted and not released, and first rows of the groups not yet converted. -/
  areaHeld : List AreaHeld := []
  areaTodo : List Nat := []
deriving DecidableEq, Repr, Inhabited

/-! ### The furnish sequencer -/

/-- A furnish: ID, the RWF words that differ from reset, its boundary line, and, per stream of OUT_STREAM, the number
of the commit that last enabled it (R107, R109, R172). -/
structure Furnish where
  id    : BitVec 16 := 0
  regs  : RegMap := []
  line  : Nat := 0
  since : List Nat := []
deriving DecidableEq, Repr, Inhabited

/-- R113: the boundary kinds. -/
inductive BoundKind where
  | nextLine | nextReam | webCount
deriving DecidableEq, Repr, Inhabited

/-- How a commit was requested: by register (with the request's number, R127) or by a Pelquel packet. -/
inductive CommitBy where
  | register (n : Nat)
  | packet (p : PktRef)
deriving DecidableEq, Repr, Inhabited

/-- Where a commit stands: being checked; pending (R112: armed from a tick and sequence on); its furnish being
distributed for the next trigger (R115); held (R118). -/
inductive CommitStage where
  | checking | pending | armed (since : Nat) | distributing | held
deriving DecidableEq, Repr, Inhabited

structure Commit where
  furnish : Furnish
  kind    : BoundKind
  x       : WC
  by'     : CommitBy
  stage   : CommitStage := .checking
  /-- The detail it will complete with: 0x01 late, 0x03 resynchronisation, 0x04 held. -/
  detail  : Nat := 0
  /-- R110: the tick of its capture. -/
  taken   : Nat := 0
  /-- R113: no trigger has been judged for it yet; R114: its boundary waits for a ream boundary. -/
  first   : Bool := true
  reached : Bool := false
deriving DecidableEq, Repr, Inhabited

/-- R127: an entry of GLB_FURN_HIST. -/
structure HistEntry where
  id   : BitVec 16 := 0
  line : Nat := 0
  gen  : BitVec 32 := 0
deriving DecidableEq, Repr, Inhabited

structure FurnishSeq where
  /-- R108: the staging copy. -/
  staging  : RegMap := []
  inForce  : Furnish := {}
  /-- R118: retained furnishes, newest first. -/
  retained : List Furnish := []
  /-- R110 to R112: commits captured, oldest first. -/
  commits  : List Commit := []
  gens     : BitVec 32 := 0
  hist     : List HistEntry := []
  /-- R127: number of the register request that RESULT follows, its result and detail. -/
  reqNo    : Nat := 0
  result   : Nat := 0
  detail   : Nat := 0
  commitNo : Nat := 0
  /-- R27: a commit has been accepted. -/
  accepted : Bool := false
  /-- R430: the commit that came into force before the first trigger and waits for its boundary line, and the furnish
  that was in force before. -/
  early    : Option Commit := none
  earlyFrom : Option Furnish := none
deriving DecidableEq, Repr, Inhabited

/-! ### The calender -/

/-- R79, R138, R383: a table bank and where its contents came from. -/
inductive TableSource where
  | identity | factory
deriving DecidableEq, Repr, Inhabited

/-- R150: an uncorrectable word of a table: the table (0 residual, 1 flat, 2 defect map), its product and field, and the
word, which holds 16 columns. -/
structure BadWord where
  tab   : Nat
  prod  : Nat
  field : Nat
  word  : Nat
deriving DecidableEq, Repr, Inhabited

structure TableBank where
  /-- What an entry not listed holds: the identity value, or the factory's. -/
  base     : TableSource := .identity
  /-- R384: loaded from its slot and not written since. -/
  fromSlot : Bool := false
  darkTdi  : Table := []
  darkArea : Table := []
  /-- R79, R429: what every entry not listed of a dark-offset table holds, once a dark capture has
  written the whole table. -/
  tdiRest  : Option Int := none
  areaRest : Option Int := none
  residual : Table := []
  flat     : Table := []
  defects  : Table := []
  /-- R150: words of the bank that are uncorrectable. -/
  bad      : List BadWord := []
deriving DecidableEq, Repr, Inhabited

/-- R143: what a slot of the pairing store holds. -/
inductive PairKind where
  | guide | waitS | waitPrimary
deriving DecidableEq, Repr, Inhabited

structure PairSlot where
  kind  : PairKind
  line  : Line
  /-- R143: line periods since it was stored, as the line sequence at its arrival. -/
  since : Nat
  bad   : Bool := false
  /-- R173: the values at TAP 1, for a waiting merge primary; R149: how many of its components passed stages 1 to 7. -/
  tap1  : List Nat := []
  upto  : Nat := 0
  /-- R143: partners of the waiting line declared absent, by product. -/
  gone  : List Nat := []
deriving DecidableEq, Repr, Inhabited

/-- R148: a line in a lane: the tick it entered, the tick at which its last component enters (or was bypassed), how many
components entered, and its deadline. -/
structure LaneJob where
  line     : Line
  entered  : Nat
  stop     : Nat
  upto     : Nat
  deadline : Option Nat := none
  /-- R406: struck by a VDD_CORE droop. -/
  droop    : Bool := false
deriving DecidableEq, Repr, Inhabited

/-- A line in an input buffer, ready since a tick, with its deadline (R147, R149). -/
structure ReadyLine where
  line     : Line
  since    : Nat
  deadline : Option Nat := none
deriving DecidableEq, Repr, Inhabited

structure Calender where
  banks   : Vector TableBank 2 := vrep 2 {}
  pair    : List PairSlot := []
  ready   : List ReadyLine := []
  ptr     : Vector Nat 4 := vrep 4 0
  /-- R147, R148: the lines in each lane, oldest first. -/
  lanes   : Vector (List LaneJob) 2 := vrep 2 []
  /-- R152: lines that left stage 8 before an earlier line of their stream, with their TAP 1 values. -/
  done    : List (Line × List Nat) := []
  /-- R143: the highest sequence arrived of each product and field. -/
  high    : Vector Nat 16 := vrep 16 0
  peak    : Nat := 0
  /-- R145: lines behind stage 7 whose merge primary has not passed yet. -/
  passed  : List Line := []
  /-- R150: uncorrectable coefficient words: the furnish copy, and the word, which holds eight registers. -/
  badCoef : List (BitVec 16 × Nat) := []
deriving DecidableEq, Repr, Inhabited

/-! ### Formatter, statistics, screens -/

/-- R165, R172: the last line selected for a P or K stream: stream index, its TICK, the commit that enabled it. -/
structure Selection where
  stream : Nat
  tick   : Nat
  since  : Nat
  frame  : Option Nat := none
deriving DecidableEq, Repr, Inhabited

structure Formatter where
  queue : List Line := []
  sel   : List Selection := []
deriving DecidableEq, Repr, Inhabited

/-- R182: a period record. -/
structure StatPeriod where
  ream    : Nat := 0
  prod    : Nat := 0
  field   : Nat := 0
  tap     : Bool := false
  ncomp3  : Bool := false
  incompl : Bool := false
  furnish : BitVec 16 := 0
  first   : Nat := 0
  last    : Nat := 0
  lines   : Nat := 0
  excl    : Nat := 0
  coast   : Nat := 0
  blend   : Nat := 0
  thr     : Nat := 0
  zone    : Word := 0
  /-- Histogram bins (256k + i), zone sums (3z + k), zone pixels (z), zone saturations (3z + k). -/
  hist    : Table := []
  zsum    : Table := []
  zpix    : Table := []
  zsat    : Table := []
  isOpen  : Bool := true
deriving DecidableEq, Repr, Inhabited

/-- R181: a result bank. -/
structure StatBank where
  taken     : Bool := false
  genStart  : BitVec 32 := 0
  genEnd    : BitVec 32 := 0
  ream      : Nat := 0
  firstSeq  : Nat := 0
  complete  : Bool := false
  /-- R195: BANK_DONE has been set for this bank; it counts as cleared where BANK_DONE was 0 when the other bank set it. -/
  told      : Bool := false
  darkValid : Bool := false
  lostP     : Bool := false
  incompl   : Bool := false
  dark      : List Int := []
  /-- Slots 1 to 511 in order; only the first `nrec` belong to the ream held. -/
  nrec      : Nat := 0
  recs      : List StatPeriod := []
  /-- R179: periods of the ream that were not recorded, as product, field and furnish. -/
  lostIds   : List (Nat × Nat × BitVec 16) := []
deriving DecidableEq, Repr, Inhabited

/-- The statistics: the two banks. -/
structure Stats where
  banks : Vector StatBank 2 := vrep 2 {}
deriving DecidableEq, Repr, Inhabited

/-- R185, R186: one column's reference and the lines left of its warm-up. -/
structure ScrRef where
  key  : Nat
  refq : Nat
  warm : Nat
deriving DecidableEq, Repr, Inhabited

/-- R189 to R191: an open candidate. -/
structure Candidate where
  field    : Nat
  bright   : Bool
  prod     : Nat
  wc       : WC
  first    : Nat
  last     : Nat
  span     : Nat
  spanMax  : Nat
  runs     : List (Nat × Nat)
  colFirst : Nat
  colLast  : Nat
  area     : Nat
  peak     : Nat
  peakRef  : Nat
  edge     : Bool
  broke    : Bool
  mixed    : Bool
  furnish  : BitVec 16
  areaMin  : Nat
  epoch    : Nat
  /-- The channel of its record; broke lines skipped since its last line. -/
  dc       : Nat
  skipped  : Nat := 0
deriving DecidableEq, Repr, Inhabited

structure Screens where
  refs   : List ScrRef := []
  /-- R186: the boundary lines from which on a field was no longer screened (field, sequence), until a screened line
  behind one drops the references. -/
  offs   : List (Nat × Nat) := []
  cands  : List Candidate := []
  /-- R193: tokens held, records waiting (32 bytes and the channel they leave on), the record sequence. -/
  tokens : Nat := 64
  /-- R193: the tick of the latest token. -/
  tokenAt : Nat := 0
  fifo   : List (BitVec 256 × Nat) := []
  rseq   : BitVec 16 := 0
  peak   : Nat := 0
deriving DecidableEq, Repr, Inhabited

/-! ### The reel -/

/-- R203: a directory entry: a line held, or one not recorded. -/
structure DirEntry where
  seq   : Nat
  wc    : WC
  prod  : Nat
  field : Nat
  word0 : Nat
  hbin  : Nat
  words : Nat
  /-- R208: the payload length in pixels. -/
  pixels : Nat
  ncomp : Nat
  held  : Bool
  addr  : Nat := 0
  lap   : BitVec 6 := 0
deriving DecidableEq, Repr, Inhabited

/-- R207 to R211: a cut. -/
structure Cut where
  id       : BitVec 16
  prod     : Nat
  field    : Nat
  dc       : Fin 16
  wait     : Bool
  wcFrom   : WC
  wcTo     : WC
  colFirst : Nat
  colLast  : Nat
  by'      : Option PktRef
  active   : Bool := false
  /-- Lines still to be served (snapshot for WAIT = 0, growing for WAIT = 1). -/
  todo     : List DirEntry := []
  ended    : Bool := false
  trunc    : Bool := false
  cancel   : Bool := false
  strmEnd  : Bool := false
  entries  : Nat := 0
  present  : Nat := 0
  first    : Nat := 0
  last     : Nat := 0
  /-- The place of its record has been handed to the channel; the record has been handed over; it has been written. -/
  placed   : Bool := false
  recorded : Bool := false
  written  : Bool := false
deriving DecidableEq, Repr, Inhabited

/-- R198: a codeword of the reel: 256 bits of data, the check bits over them, and the write tag. -/
structure Codeword where
  data  : BitVec 256
  check : BitVec 10
  tag   : BitVec 6
deriving DecidableEq, Repr, Inhabited

/-- R364: an access of the host to the window, at a host physical address, that waits for the memory clock. -/
inductive WindowAccess where
  | read (addr ce : Nat) (ue : Bool)
  | write (addr : Nat) (data : BitVec 512) (poison : Bool)
deriving DecidableEq, Repr, Inhabited

structure Reel where
  /-- R364: accesses to the window that wait, oldest first. -/
  waits     : List WindowAccess := []
  /-- R199, R200: the layout in force. -/
  saveUnits : Nat := 8
  memUnits  : Nat := 0
  result    : Nat := 0
  layouts   : Nat := 0
  /-- R228, R434: reel training has completed since the reset. -/
  trained   : Bool := false
  /-- R201, R206: the ring's codewords by word address, the write position and lap. -/
  ring      : List (Nat × Codeword) := []
  wptr      : Nat := 0
  lap       : BitVec 6 := 0
  /-- R202: bytes in the write buffer. -/
  occ       : Nat := 0
  /-- R203: the directory, oldest first. -/
  dir       : List DirEntry := []
  cuts      : List Cut := []
  /-- R211: whose turn it is among the active cuts. -/
  turn      : Nat := 0
  /-- R213: save-all chunks in use, the most in use, and the generation of each chunk's last allocation. -/
  chunks    : Nat := 0
  peak      : Nat := 0
  gens      : List (Nat × BitVec 6) := []
  /-- R215: the bytes of recording written in each of the last 4,000 ticks: (tick, bytes). -/
  drains    : List (Nat × Nat) := []
  /-- R215: bytes that the save-all and the cuts have written or read and that no tick's bandwidth has met yet. -/
  debt      : Nat := 0
  /-- R205, R216: REL_TAIL_WC and REL_HEAD_WC as the last trigger updated them. -/
  tailSeen  : WC := 0
  headSeen  : WC := 0
deriving DecidableEq, Repr, Inhabited

/-! ### The CXL link -/

/-- R218: the support matrix as the configuration space advertises it; what it does not name is advertised as absent. -/
structure Features where
  deviceType : Nat := 2
  functions  : Nat := 1
  widths     : List Nat := [1, 2, 4, 8]
  rates      : List Nat := [1, 2, 3, 4, 5]
  flit68     : Bool := true
  flit256    : Bool := false
  maxPayload : Nat := 512
  maxReadRequest : Nat := 4096
  tagBits    : Nat := 10
  relaxedOrdering : Bool := false
  idOrdering : Bool := false
  aspmL0s    : Bool := false
  aspmL1     : Bool := true
  l1Substates : Bool := false
  d3hot      : Bool := true
  d3coldWake : Bool := false
  noSoftReset : Bool := true
  flr        : Bool := true
  aer        : Bool := true
  ats        : Bool := true
  atsPages   : List Nat := [4096, 2097152]
  invalidateQueue : Nat := 32
  pri        : Bool := true
  pageRequests : Nat := 64
  pasidBits  : Nat := 20
  pasidExecute : Bool := false
  pasidPrivileged : Bool := false
  marginTiming : Bool := true
  marginVoltage : Bool := true
  dataLinkFeature : Bool := true
  scaledFlowControl : Bool := true
  serialNumber : Bool := true
  viral      : Bool := true
  poison     : Bool := true
deriving DecidableEq, Repr, Inhabited

/-- R225: lane margining at the receiver, as reported at 16.0 and 32.0 GT/s; spans in 1/100 UI and in mV. -/
structure Margining where
  rates        : List Nat := [4, 5]
  timingSteps  : Nat := 32
  timingSpan   : Nat := 50
  leftRight    : Bool := true
  voltageSteps : Nat := 64
  voltageSpan  : Nat := 200
  upDown       : Bool := true
  independentSampler : Bool := false
  maxLanes     : Nat := 8
deriving DecidableEq, Repr, Inhabited

/-- R226: a 64-bit memory BAR: its size and prefetchable bit, and the base that the host programs. -/
structure Bar where
  size     : Nat
  prefetch : Bool := false
  base     : Nat := 0
deriving DecidableEq, Repr, Inhabited

/-- R228: the DVSECs: the CXL Device's capabilities (its range 1 is `State.range1`), the Flex Bus Port's, and where the
Register Locator points. -/
structure Dvsecs where
  vendor     : Nat := 0x1E98
  deviceId   : Nat := 0x0000
  portId     : Nat := 0x0007
  locatorId  : Nat := 0x0008
  cacheCapable : Bool := true
  ioCapable  : Bool := true
  memCapable : Bool := true
  hdmCount   : Nat := 1
  cacheSize  : Nat := 65536
  range2     : Bool := false
  portCache  : Bool := true
  portIo     : Bool := true
  portMem    : Bool := true
  portFlit256 : Bool := false
  /-- BAR number and offset of the component and of the device registers. -/
  componentAt : Nat × Nat := (4, 0x00000)
  deviceAt   : Nat × Nat := (4, 0x10000)
deriving DecidableEq, Repr, Inhabited

/-- R229: what the component registers and the device registers hold. -/
inductive Bar4Block where
  | ras | linkCap | hdmDecoder | deviceCaps | deviceStatus
deriving DecidableEq, Repr, Inhabited

/-- R229: the CXL RAS capability. The specification names it and leaves its registers to the CXL standard, whose layout and
default values these are (PRESUMED, assumption 92). -/
structure RasCap where
  ucStatus   : Word := 0
  ucMask     : Word := 0x0001CFFF
  ucSeverity : Word := 0x0001CFFF
  ceStatus   : Word := 0
  ceMask     : Word := 0x0000007F
  control    : Word := 0
  header     : Vector Word 16 := vrep 16 0
deriving DecidableEq, Repr, Inhabited

/-- R229: the CXL link capability: its capability, control and status, and credit registers (PRESUMED, assumption 92). -/
structure LinkCap where
  capability : BitVec 64 := 2
  control    : BitVec 64 := 0
  rxCredit   : BitVec 64 := 0
  rxReturned : BitVec 64 := 0
  txCredit   : BitVec 64 := 0
  ackThreshold : BitVec 64 := 0
  deferral   : BitVec 64 := 0
deriving DecidableEq, Repr, Inhabited

/-- R229: the device registers: the header of the device capabilities array with its one capability, the device status
registers, whose event status it holds (PRESUMED, assumption 92). There is no mailbox. -/
structure DeviceRegs where
  arrayId    : Nat := 0x0000
  arrayVersion : Nat := 1
  count      : Nat := 1
  statusId   : Nat := 0x0001
  statusVersion : Nat := 1
  eventStatus : BitVec 64 := 0
deriving DecidableEq, Repr, Inhabited

/-- The configuration space (R2, R218, R225, R226, R228, R229), but for the enables of ATS, PRI and PASID. -/
structure ConfigSpace where
  vendor    : Nat := 0x1A7C
  device    : Nat := 0x1632
  baseClass : Nat := 0x04
  subclass  : Nat := 0x80
  progIf    : Nat := 0x00
  subVendor : Nat := 0x1A7C
  subId     : Nat := 0x0001
  /-- BAR0/1, BAR2/3, BAR4/5. -/
  bars      : Vector Bar 3 := ⟨#[{ size := 16777216 }, { size := 131072 }, { size := 131072 }], rfl⟩
  features  : Features := {}
  margining : Margining := {}
  dvsecs    : Dvsecs := {}
  component : List Bar4Block := [.ras, .linkCap, .hdmDecoder]
  deviceRegs : List Bar4Block := [.deviceCaps, .deviceStatus]
  ras       : RasCap := {}
  linkCap   : LinkCap := {}
  devRegs   : DeviceRegs := {}
  /-- Max_Read_Request_Size as the host programs it (assumption 82 for its reset value). -/
  readRequest : Nat := 512
  /-- R227: AER has recorded an unsupported request. -/
  unsupported : Bool := false
deriving DecidableEq, Repr, Inhabited

/-- R226: an entry of the MSI-X table; its mask bit stands in `Link.mask`. -/
structure MsixEntry where
  addr : BitVec 64 := 0
  data : Word := 0
deriving DecidableEq, Repr, Inhabited

structure Link where
  up       : Bool := false
  cxl      : Bool := false
  width    : Nat := 0
  rate     : Nat := 0
  reversed : Bool := false
  polInv   : BitVec 8 := 0
  l1       : Bool := false
  d3       : Bool := false
  viralIn  : Bool := false
  viralOut : Bool := false
  /-- R426, R428: the PHY is enabled by the start-up; PERST_N. -/
  phyOn    : Bool := false
  perstLow : Bool := false
  /-- R218, R235: the configuration-space enables. -/
  ats      : Bool := false
  pri      : Bool := false
  pasid    : Bool := false
  priOff   : Bool := false
  /-- R226: the rest of the configuration space. -/
  cfg      : ConfigSpace := {}
  /-- R298, R364: the CXL loop has lost REFCLK; the tick at which the PHY last came to refresh nothing. -/
  noRef    : Bool := false
  darkAt   : Nat := 0
  /-- R299: what the PHY's mirror block showed when it was last refreshed, by offset, while it is not. -/
  copy     : List (Nat × Word) := []
  /-- R238: WAKE_N was driven low and is not yet released. -/
  wake     : Bool := false
  /-- R230: the HDM decoder. -/
  hdmBase  : Nat := 0
  hdmSize  : Nat := 0
  hdmCommitted : Bool := false
  hdmLock  : Bool := false
  hdmError : Bool := false
  /-- R242: the MSI-X table, its per-vector masks and the pending bits. -/
  table    : Vector MsixEntry 64 := vrep 64 {}
  mask     : BitVec 64 := BitVec.allOnes 64
  pend     : BitVec 64 := 0
  /-- R233: coherent notices waiting for their grants: (channel, address, bytes, IRQ), and the snoops to their lines that
  are answered after the write. -/
  waiting  : List (Fin 16 × Nat × List Byte × Bool) := []
  snoops   : List Nat := []
  /-- R224: PRBS checker lock of each lane. -/
  prbsLock : BitVec 8 := 0
deriving DecidableEq, Repr, Inhabited

/-! ### The DMA channels -/

/-- R260: a run of dropped units of one cause; `tick` is that of its record, once formed. -/
structure DropRun where
  cause   : Nat
  units   : Nat
  first   : Nat
  last    : Nat
  firstWc : WC
  lastWc  : WC
  broke   : Bool
  tick    : Nat := 0
deriving DecidableEq, Repr, Inhabited

/-- R246: the kinds of units. -/
inductive UnitKind where
  | vline | pline | kline | seam | shive | alarm | completion (p : PktRef) (irq : Bool) | data (p : PktRef)
  | cutEntry (id : BitVec 16) | cutRecord (id : BitVec 16)
  /-- R210: no unit, but the place of a cut's record at the head of its stream, which is written last. -/
  | cutPlace (id : BitVec 16)
  /-- R260: no unit, but a drop record formed, in its place among the units. -/
  | drop (r : DropRun)
  /-- R287: discarded with its queue; it leaves the channel without effect. -/
  | gone
deriving DecidableEq, Repr, Inhabited

/-- R246: a unit. -/
structure DUnit where
  kind   : UnitKind
  seq    : Nat := 0
  wc     : WC := 0
  broke  : Bool := false
  bytes  : List Byte := []
  replay : Bool := false
deriving DecidableEq, Repr, Inhabited

/-- R262: the states of a channel. -/
inductive ChState where
  | disabled | live | parked | replaying | held | error
deriving DecidableEq, Repr, Inhabited

/-- R257, R260: what a channel's save-all holds, in channel order. -/
inductive SaveItem where
  | unit (u : DUnit)
  | marker (d : DropRun)
deriving DecidableEq, Repr, Inhabited

/-- R250: the open buffer. -/
structure OpenBuf where
  va       : Nat
  len      : Nat
  id       : BitVec 16
  irq      : Bool
  pasid    : BitVec 20
  pv       : Bool
  maxUnits : Nat
  timeout  : Nat
  used     : Nat := 0
  units    : Nat := 0
  first    : Nat := 0
  last     : Nat := 0
  firstWc  : WC := 0
  lastWc   : WC := 0
  broke    : Bool := false
  replayed : Bool := false
  opened   : Option Nat := none
deriving DecidableEq, Repr, Inhabited

/-- R210: the place kept in a host buffer for the record of a cut. -/
structure CutPlace where
  id    : BitVec 16
  va    : Nat
  pasid : Option (BitVec 20)
deriving DecidableEq, Repr, Inhabited

/-- R251: a notice formed and not yet written (without PHASE and slot). -/
structure Notice where
  first    : Nat := 0
  last     : Nat := 0
  descId   : BitVec 16 := 0
  units    : Nat := 0
  bytes    : Nat := 0
  status   : Nat := 0
  replayed : Bool := false
  broke    : Bool := false
  cause    : Nat := 0
  firstWc  : WC := 0
  lastWc   : WC := 0
  tick     : Nat := 0
  irq      : Bool := false
deriving DecidableEq, Repr, Inhabited

/-- R253: what a translation request or a fault is for. -/
inductive TransFor where
  | segment | descriptor | notice | prefetch
  /-- R268, R271: a packet of a queue bound to the channel; a data-in block of one. -/
  | packet (q : Fin 8) | dataIn (p : PktRef)
deriving DecidableEq, Repr, Inhabited

/-- R252, R253: a translation request that a channel has sent. -/
structure Ask where
  kind  : TransFor
  va    : Nat
  pasid : Option (BitVec 20) := none
deriving DecidableEq, Repr, Inhabited

structure Channel where
  state   : ChState := .disabled
  fault   : Bool := false
  noBuf   : Bool := false
  cplFull : Bool := false
  linkCap : Bool := false
  priWait : Bool := false
  linkLoss : Bool := false
  /-- R256: staging, head in progress, and the bytes of the head already issued. -/
  staging : List DUnit := []
  issued  : Nat := 0
  /-- R257: the save-all contents, the chunks held, and the bytes used in the last chunk and read from the first. -/
  saved   : List SaveItem := []
  chunks  : Nat := 0
  tailUse : Nat := 0
  headUse : Nat := 0
  /-- R213: the chunks held, oldest first, each with the generation of its allocation. -/
  ids     : List (Nat × BitVec 6) := []
  buf     : Option OpenBuf := none
  dLog    : Nat := 6
  cLog    : Nat := 6
  dRing   : Nat := 0
  cRing   : Nat := 0
  pasid   : BitVec 20 := 0
  pv      : Bool := false
  coh     : Bool := false
  dHead   : Nat := 0
  dTail   : Nat := 0
  cTail   : Nat := 0
  cHead   : Nat := 0
  phase   : Bool := true
  nseq    : BitVec 32 := 0
  lastNseq : BitVec 32 := 0
  notices : List Notice := []
  drop    : Option DropRun := none
  /-- R260: records formed that wait to be stored ahead of the next unit spilled. -/
  runs    : List DropRun := []
  /-- R260: a run of dropped units that stands ahead of the unit in progress (refused, damaged, discarded at restart). -/
  front   : Option DropRun := none
  /-- R273: packets whose returned data was dropped. -/
  lostData : List PktRef := []
  /-- R211: cuts whose record was dropped. -/
  lostCuts : List (BitVec 16) := []
  /-- R210: the places kept for the records of the cuts in progress. -/
  places  : List CutPlace := []
  /-- R252, R253: the translation requests sent and not answered, in order: prefetches, and at most one that the channel
  waits for. -/
  asks    : List Ask := []
  faultVa : Nat := 0
  faultFor : TransFor := .segment
  stopping : Bool := false
deriving DecidableEq, Repr, Inhabited

/-- R252: an entry of the translation cache. -/
structure AtcEntry where
  pasid : Option (BitVec 20)
  va    : Nat
  big   : Bool
  write : Bool
  pa    : Nat
deriving DecidableEq, Repr, Inhabited

/-- R253: a page request outstanding: its channel, page and tick; `live` while that channel is parked for it. -/
structure PageReq where
  ch   : Fin 16
  page : Nat
  tick : Nat
  live : Bool := true
deriving DecidableEq, Repr, Inhabited

structure Dma where
  chans   : Vector Channel 16 := vrep 16 {}
  /-- R252: most recently used first. -/
  atc     : List AtcEntry := []
  /-- R253, R254: page requests outstanding, and the channels that wait for a slot. -/
  pageReq : List PageReq := []
  priQ    : List (Fin 16) := []
  /-- R255: invalidations not completed: the address, and the coherent notices begun before that are still to be issued. -/
  invs    : List (Nat × Nat) := []
  priFail : Bool := false
  /-- R247: round-robin pointer per class, and the writes of the last 4,000 ticks: (tick, class, bytes). -/
  rr      : Vector Nat 5 := vrep 5 0
  log     : List (Nat × Nat × Nat) := []
deriving DecidableEq, Repr, Inhabited

/-! ### Commands -/

/-- Where a packet stands (R270, R277): fetched; dispatched (to the Tender or the fast path); running (its effect takes
several steps); accepted (a CUT or FURNISH_COMMIT queued, an activity that ends by another step). -/
inductive PktStage where
  | fetched | dispatched | running | accepted
deriving DecidableEq, Repr, Inhabited

structure Packet where
  ref   : PktRef
  bytes : BitVec 512
  stage : PktStage := .fetched
  /-- R269, R271: the PASID and the channel of its queue. -/
  pasid : Option (BitVec 20) := none
  dc    : Nat := 1
  /-- R271: the data-in block, once read. -/
  data  : Option (List Byte) := none
  /-- R271: the translation of the data-in block was refused. -/
  noData : Bool := false
  /-- R287: its queue was reset since; its completion is discarded. -/
  lost  : Bool := false
deriving DecidableEq, Repr, Inhabited

structure CmdQueue where
  enabled : Bool := false
  error   : Bool := false
  sqLog   : Nat := 6
  cqLog   : Nat := 6
  dc      : Nat := 1
  pasid   : BitVec 20 := 0
  pv      : Bool := false
  sqVa    : Nat := 0
  cqVa    : Nat := 0
  sqHead  : Nat := 0
  sqTail  : Nat := 0
  cqTail  : Nat := 0
  cqHead  : Nat := 0
  phase   : Bool := true
deriving DecidableEq, Repr, Inhabited

structure Commands where
  queues  : Vector CmdQueue 8 := vrep 8 {}
  /-- R270: packets fetched and not completed, in fetch order. -/
  packets : List Packet := []
  rr      : Nat := 0
  /-- R286: the mailbox is busy; R270: its packet, while 64 packets are held. -/
  busy    : Bool := false
  mail    : Option Packet := none
  /-- R276: a dark capture in progress: (packet, bank, table, log2 n, tick of start, a trigger has come). -/
  capture : Option (PktRef × Nat × Nat × Nat × Nat × Bool) := none
  /-- R331: an enumeration in progress: (packet, tick), its entries, and head IDs seen. -/
  enum    : Option (PktRef × Nat) := none
  entries : List (BitVec 64) := []
  /-- R332: a message waiting for a port: (packet, tick). -/
  message : Option (PktRef × Nat) := none
  /-- R315, R329: packets that complete at a ream boundary. -/
  atReam  : List PktRef := []
  /-- R281: a WARM_RESET waits for the commands already started; the tick at which its completion was written. -/
  closing : Bool := false
  warmDue : Option Nat := none
  /-- R292, R355: commands served ahead of their turn in the queue, since they come first in their core cycle. -/
  served  : List Instr := []
deriving DecidableEq, Repr, Inhabited

/-! ### The web link -/

/-- R335: the states of a port. -/
inductive PortState where
  | off | absent | training | up | idle | test
deriving DecidableEq, Repr, Inhabited

structure Port where
  state    : PortState := .off
  lock     : BitVec 2 := 0
  pol      : BitVec 2 := 0
  swapped  : Bool := false
  prbsLock : BitVec 2 := 0
  partner  : BitVec 16 := 0
  partnerPort : BitVec 2 := 0
  partnerOk : Bool := false
  partnerSec : Bool := false
  /-- R313: the tick of the first loss of lock. -/
  lossAt   : Option Nat := none
  trainAt  : Nat := 0
  /-- R319: measurements (1/16 tick), lambda, and the frames since the last echo. -/
  meas     : List Nat := []
  lam      : Nat := 0
  lamOk    : Bool := false
  /-- R324: lambda has been measured since frames began; the tick at which the port last left electrical idle for it. -/
  fresh    : Bool := false
  outAt    : Option Nat := none
  frames   : Nat := 0
  echoDue  : Bool := false
  /-- Chunks queued for sending, with their rank (R330). -/
  chunks   : List (Nat × BitVec 432) := []
deriving DecidableEq, Repr, Inhabited

/-- R315: the roles. -/
inductive Role where
  | slave | source | standby
deriving DecidableEq, Repr, Inhabited

/-- R327: the membership states. -/
inductive Member where
  | source | unfed | fed | aligned | member | coasting | lost | leaving
deriving DecidableEq, Repr, Inhabited

/-- R321: a ream mark held. -/
structure Mark where
  k    : Nat
  seq  : Nat
  t    : Pos
  ream : BitVec 32
deriving DecidableEq, Repr, Inhabited

/-- R332: a message in the receive FIFO. -/
structure Message where
  src   : BitVec 16
  bcast : Bool
  data  : List Byte
deriving DecidableEq, Repr, Inhabited

/-- R332: the segments of a message received so far: source, message number, data. -/
structure MsgPart where
  src  : BitVec 16
  num  : BitVec 8
  data : List Byte
deriving DecidableEq, Repr, Inhabited

/-- R334: a seam line being received: its side, sequence, product, field, and its words by segment index. -/
structure SeamRx where
  right : Bool
  seq   : Nat
  prod  : Nat
  field : Nat
  words : List (Nat × BitVec 256)
deriving DecidableEq, Repr, Inhabited

structure WebLink where
  ports    : Vector Port 4 := vrep 4 {}
  /-- R298, R299: the tick since which the receive domains of the ports have been in reset; none while they run; their
  mirror blocks as they showed then. -/
  darkAt   : Option Nat := some 0
  copy     : List (Nat × Word) := []
  role     : Role := .slave
  member   : Member := .unfed
  /-- R326: the head is source by a takeover. -/
  took     : Bool := false
  onSec    : Bool := false
  hops     : Nat := 0
  source   : BitVec 16 := 0
  sourceOk : Bool := false
  parent   : BitVec 16 := 0
  /-- R320, R323: the latest valid packet: tick, speed (16.16), coasting upstream; whether W follows its rate. -/
  lastPkt  : Option Nat := none
  speed    : Nat := 0
  upCoast  : Bool := false
  upHold   : Bool := false
  /-- R320: the latest compensated position; R329: W follows the stream of a head that has left. -/
  upPos    : Pos := 0
  follow   : Bool := false
  mark     : Option Mark := none
  /-- R328, R336: the head does not join at the mark it holds. -/
  refused  : Bool := false
  mismatch : Bool := false
  joinRef  : Bool := false
  /-- R315: a role has come into force: the first packet of the new source is the reference event. -/
  roleRef  : Bool := false
  /-- R324: reams for which the primary has been up with a valid lambda. -/
  primUp   : Nat := 0
  failing  : Option Nat := none
  /-- R326: offset between W and the own ENC0 position, in 1/4,096 wc. -/
  standOff : Int := 0
  fifo     : List Message := []
  /-- R332: first segments of messages whose second segment is awaited. -/
  parts    : List MsgPart := []
  msgNo    : BitVec 8 := 0
  /-- R334: seam lines being received (right side, sequence, prod, field, words by index) and the next due per side. -/
  seams    : List SeamRx := []
  dueL     : Nat := 0
  dueR     : Nat := 0
  /-- R328, R334: the sequence at which the head last joined. -/
  joinSeq  : Nat := 0
deriving DecidableEq, Repr, Inhabited

/-! ### Pin engines -/

/-- R354: the states of an engine. -/
inductive EngState where
  | disabled | running | waiting | stalled | error
deriving DecidableEq, Repr, Inhabited

/-- R344: a stamp: a tick or a web count; the address of the AT that armed it; the tick of the AT, and whether the target
was not yet behind then (R355). -/
structure Stamp where
  isWc   : Bool
  target : Nat
  at'    : Nat
  armed  : Nat
  ahead  : Bool
  /-- R355: a web count that W has reached in the step in which the stamp was armed; R344: that a resynchronisation step
  has carried W past. -/
  met    : Bool := false
deriving DecidableEq, Repr, Inhabited

structure Engine where
  store   : Vector Word 32 := vrep 32 0
  pc      : Nat := 0
  /-- R354: the address of the instruction that took the step in which `stepAt` lies. -/
  ran     : Nat := 0
  g       : Vector (BitVec 64) 4 := vrep 4 0
  emr     : Word := 0
  emrLeft : Nat := 0
  cpr     : Word := 0
  cprCnt  : Nat := 0
  tx      : List Word := []
  rx      : List Word := []
  state   : EngState := .disabled
  /-- R351: what the engine was doing when it was disabled. -/
  was     : EngState := .running
  /-- The instruction word that a waiting or stalled engine executes (R349: latched). -/
  cur     : Word := 0
  /-- R344: a pin action waits for its stamp. -/
  held    : Bool := false
  /-- R341: steps of a DLY, counted from a tick. -/
  dly     : Nat := 0
  dlyFrom : Nat := 0
  stamp   : Option Stamp := none
  /-- R343: exposure records, triggers and reams seen when the WAIT began. -/
  sawExp  : Nat := 0
  sawTrig : Nat := 0
  sawReam : Nat := 0
  /-- R349: the last word the transmit FIFO gave since the last start. -/
  lastTx  : Word := 0
  /-- R351: the tick from which its steps count, and the DIV applied; the tick of the latest step executed. -/
  origin  : Nat := 0
  div     : Nat := 0
  stepAt  : Option Nat := none
  epoch   : BitVec 32 := 0
deriving DecidableEq, Repr, Inhabited

/-- R346: an exposure record, numbered in order of publication. -/
structure ExpRecord where
  idx   : Nat
  start : Nat
  stop  : Nat
  seq   : Nat
  field : Nat
deriving DecidableEq, Repr, Inhabited

structure PinEngines where
  engs    : Vector Engine 8 := vrep 8 {}
  flags   : BitVec 8 := 0
  /-- R353: the flags set in a tick. -/
  setAt   : Nat := 0
  setNow  : BitVec 8 := 0
  /-- R338 to R340: output levels, indices held high-impedance by PEN_SAFE or a reset, levels seen on PE_IO. -/
  level   : BitVec 32 := 0
  hiz     : BitVec 32 := 0
  pins    : BitVec 24 := 0
  /-- R346: the latest exposure record, the latest of each field, and how many have been published. -/
  record  : Option ExpRecord := none
  byField : Vector (Option ExpRecord) 4 := vrep 4 none
  published : Nat := 0
  trigs   : Nat := 0
  reams   : Nat := 0
  /-- R351: actions pending: mask, OP, action tick. -/
  action  : List (BitVec 8 × BitVec 2 × Nat) := []
deriving DecidableEq, Repr, Inhabited

/-! ### Clocks -/

/-- R369: the states of an MDLL. -/
inductive MdllState where
  | locked | bypassLock | bypassRef | relocking
deriving DecidableEq, Repr, Inhabited

structure Clocks where
  core    : MdllState := .relocking
  mem     : MdllState := .relocking
  slices  : Vector MdllState 19 := vrep 19 .relocking
  refOk   : Bool := false
  xtalOk  : Bool := false
  ppm     : Int := 0
  noEdges : Bool := false
  /-- R361: the reference has returned and stable cycles are counted. -/
  counting : Bool := false
  /-- R363: the offset to absorb, in 1/16 tick; the tick of its latest step; what has been absorbed and makes no whole
  tick yet; and the ticks that the latest core cycle added. -/
  resid   : Int := 0
  slewing : Bool := false
  slewAt  : Nat := 0
  slip    : Int := 0
  cycle   : Nat := 1
  /-- R364: slice MDLLs whose slices the Tender has to rearm. -/
  rearm   : List Nat := []
deriving DecidableEq, Repr, Inhabited

/-! ### The Tender -/

/-- A firmware bank (R379): its bytes, erased bytes (0xFF) not listed; where the last FW_WRITE ended; its last verdict. -/
structure FwBank where
  cells   : List Host.Cell := []
  next    : Nat := 0
  /-- R386: where the next write must start after one that was cut short. -/
  must    : Option Nat := none
  /-- R380: the detail of the last verification (0 pass), once there was one. -/
  verdict : Nat := 0
  checked : Bool := false
deriving DecidableEq, Repr, Inhabited

/-- R372: a copy of the boot record. -/
structure BootRec where
  seq   : BitVec 32 := 0
  pref  : Bool := false
  trial : Bool := false
  /-- R381: the trial flag is still set from a boot of the preferred bank. -/
  tried : Bool := false
  count : BitVec 32 := 0
deriving DecidableEq, Repr, Inhabited

/-- R383: a calibration slot. -/
structure CalSlot where
  version : BitVec 32 := 1
  crcOk   : Bool := true
  bank    : TableBank := { base := .factory }
deriving DecidableEq, Repr, Inhabited

/-- An alarm posted and not yet formed into a record (R377): CODE, DATA, severity, tick of posting. -/
structure Posted where
  /-- Of a sticky event: its register, whose value DATA takes when the record is formed (R376). -/
  off   : Option Nat := none
  code  : BitVec 16
  data  : List Byte
  sev   : Nat
  tick  : Nat
  hand  : Bool := true
deriving DecidableEq, Repr, Inhabited

/-- R385: a step of a non-volatile write: erase of a sector or program of (part of) a page of a firmware bank; erase and
program of a boot record; erase of a slot's header sector, a step of its body, with the steps that follow it, its header with the version; erase and program of the asset record; a fuse of the counter; a key's revocation fuse. -/
inductive NvWork where
  | fwErase (bank : Fin 2) (sector : Nat)
  | fwProgram (bank : Fin 2) (off : Nat) (bytes : List Byte)
  | bootErase
  | bootProgram (pref trial tried : Bool) (starts : Nat)
  | bootConfirm (bank : Bool)
  | calErase (slot : Fin 2)
  | calBody (slot : Fin 2) (bank : TableBank) (left : Nat)
  | calHeader (slot : Fin 2)
  | assetErase
  | assetProgram (v : Word)
  | fuse (upTo : Nat)
  | revoke (key : Nat)
deriving DecidableEq, Repr, Inhabited

/-- What a non-volatile write belongs to. -/
inductive NvKind where
  | fwWrite (p : PktRef) (bank : Fin 2) (off len : Nat)
  | fwActivate (p : PktRef) (bank : Fin 2)
  | calStore (p : PktRef) (bank : Fin 2)
  | advance
  | asset
  /-- A rewrite of the boot record; one that confirms a trial is logged. -/
  | boot (confirms : Bool)
deriving DecidableEq, Repr, Inhabited

/-- A non-volatile write in progress: the step under way and those to follow; the oldest write has its first step under
way. -/
structure NvJob where
  kind : NvKind
  work : List NvWork
deriving DecidableEq, Repr, Inhabited

structure Tender where
  up       : Bool := false
  asleep   : Bool := false
  recovery : Bool := false
  bank     : Bool := false
  fallback : Bool := false
  trial    : Bool := false
  /-- R372: the copies of the boot record; none: erased, or its CRC fails. -/
  boots    : Vector (Option BootRec) 2 := vrep 2 none
  banks    : Vector FwBank 2 := vrep 2 {}
  slots    : Vector CalSlot 2 := vrep 2 {}
  fuses    : Nat := 0
  revoked  : BitVec 2 := 0
  /-- R371: the ROM's hashes of keys 0 and 1; the resident section in SRAM. -/
  romKeys  : Vector (BitVec 384) 2 := vrep 2 0
  resident : List Byte := []
  /-- R305: the asset record in the NOR. -/
  asset    : Option Word := none
  /-- R377, R378: alarms posted; the SRAM queue of records; records the queue refused, by code. -/
  posted   : List Posted := []
  queue    : List (BitVec 256) := []
  refused  : List (BitVec 16 × Nat) := []
  /-- R279: LOG_NOTE commands whose records are not all written: the packet and the LSEQ of its first record. -/
  notes    : List (PktRef × BitVec 32) := []
  /-- R378: the log region, written slots by slot number (0 to 131,071), erased sectors ahead, next offset. -/
  log      : List (Nat × BitVec 256) := []
  head     : Nat := 0
  erased   : Nat := 1024
  lseq     : BitVec 32 := 0
  /-- R385: the inhibit and its tick; its cause; inhibited writes counted. -/
  inhibit  : Bool := false
  inhAt    : Nat := 0
  inhAon   : Bool := false
  inhCnt   : BitVec 32 := 0
  inhList  : List (BitVec 16 × Nat) := []
  /-- Non-volatile writes in progress, oldest first. -/
  jobs     : List NvJob := []
  /-- R374: cause of a restart in progress. -/
  restart  : Option Nat := none
  /-- R387: the tick of the DL_Down; the DATA of those that came during a restart. -/
  lostAt   : Option Nat := none
  downs    : List (List Byte) := []
  /-- R382, R295: an ADVANCE that waits for the Tender to run. -/
  advDue   : Bool := false
  /-- R384: reloads due. -/
  reload   : List (Sum (Fin 2) (BitVec 16)) := []
  idleFrom : Nat := 0
  /-- R298, R299: the tick at which it went down, and its mirror block as it showed then. -/
  downAt   : Nat := 0
  copy     : List (Nat × Word) := []
deriving DecidableEq, Repr, Inhabited

/-! ### The two-wire port -/

/-- Where the port stands in a transaction: not addressed; taking offset bytes; the pointer loaded, taking data; sending. -/
inductive TwPhase where
  | idle | offset | write | read
deriving DecidableEq, Repr, Inhabited

structure TwoWire where
  strap   : BitVec 3 := 0
  phase   : TwPhase := .idle
  pointer : BitVec 24 := 0
  /-- R396: the tick of the not-acknowledged address that woke the port. -/
  wakeAt  : Option Nat := none
  /-- R400: the masked attention last seen, attempts made, the tick of the last release, a request is wanted. -/
  seen    : BitVec 5 := 0
  tries   : Nat := 0
  wanted  : Bool := false
  release : Option Nat := none
  attn    : Bool := false
  frame   : Nat := 0
  partialN : Nat := 0
  /-- R402: the tick of the latest bus activity. -/
  busAt   : Nat := 0
deriving DecidableEq, Repr, Inhabited

/-! ### Thermal and power -/

/-- R418: the stages of the orderly stop. -/
inductive StopStage where
  | none | closing | draining
deriving DecidableEq, Repr, Inhabited

structure ThmNode where
  sensor : Int := 0
  model  : Int := 0
  failed : Bool := false
  run    : Nat := 0
deriving DecidableEq, Repr, Inhabited

structure Thermal where
  nodes    : Vector ThmNode 47 := vrep 47 {}
  tb       : Int := 0
  tHot     : Int := 0
  hotNode  : Nat := 0
  level    : Nat := 0
  /-- R172: the tick of the latest level step, and the level before it. -/
  stepped  : Option (Nat × Nat) := none
  hold     : Option Nat := none
  rateStep : Bool := false
  rateOk   : Nat := 0
  rise     : Int := 0
  /-- R413: T_hot of the updates of the last 250 ms, newest first. -/
  history  : List Int := []
  uv       : BitVec 14 := 0
  rails    : List Nat := List.replicate 14 0
  parts    : List Nat := List.replicate 10 0
  peakPow  : Nat := 0
  stop     : StopStage := .none
  stopSeq  : Nat := 0
  stopAt   : Nat := 0
  safe     : Bool := false
  trip     : Bool := false
  tripLatch : Bool := false
  droopFrom : Option Nat := none
  /-- R441: microjoules measured that do not make a millijoule yet. -/
  energy   : Nat := 0
deriving DecidableEq, Repr, Inhabited

/-! ### Resets and start-up -/

/-- R425, R428: where the device stands between reset and READY. -/
inductive RstPhase where
  | inReset | released | started
deriving DecidableEq, Repr, Inhabited

structure ResetState where
  phase    : RstPhase := .inReset
  cause    : Nat := 0
  cold     : Bool := true
  ready    : Bool := false
  /-- READY has been asserted since the reset (R276). -/
  wasReady : Bool := false
  readyAt  : Nat := 0
  seqAt    : Nat := 0
  lit      : Bool := false
  millis   : Nat := 0
  /-- R455: a test strap was high at the end of cold reset. -/
  stuck    : Bool := false
  /-- R431: slices whose start-up check failed, with the cause, which fail in the first line period after READY. -/
  failDue  : List (Fin 38 × BitVec 4) := []
  /-- R293: reserved bits that a factory test control holds off their reset value, by register. -/
  trims    : List (Nat × Word) := []
deriving DecidableEq, Repr, Inhabited

/-! ### Observation -/

/-- R442: a trace record. -/
structure TraceRec where
  tseq  : BitVec 32
  tick  : BitVec 48
  event : BitVec 8
  arg   : BitVec 8
  data  : Word
deriving DecidableEq, Repr, Inhabited

structure Observation where
  /-- R439: the counters by index, 48 bits, those that are 0 not listed. -/
  cnt   : List (Nat × BitVec 48) := []
  /-- R442: the trace ring, newest first. -/
  trace : List TraceRec := []
  tseq  : BitVec 32 := 1
  /-- R444: records in the queue: one leaves in each core cycle. -/
  queued : Nat := 0
  /-- R302: the sticky events set since the last tick, as register offset and bit. -/
  fired  : List (Nat × Nat) := []
deriving DecidableEq, Repr, Inhabited

/-! ### What registers read at the last tick -/

/-- R302: the parts of the state that register reads are formed from, as they stood at the last tick: what an access of
the same core cycle finds in the fields that only hardware writes. -/
structure Seen where
  regs : RegMap := []
  tb   : Timebase := {}
  hb   : Headbox := {}
  felt : Felt := {}
  fu   : FurnishSeq := {}
  cal  : Calender := {}
  sts  : Stats := {}
  scr  : Screens := {}
  reel : Reel := {}
  link : Link := {}
  dma  : Dma := {}
  cmd  : Commands := {}
  wl   : WebLink := {}
  pen  : PinEngines := {}
  clk  : Clocks := {}
  tnd  : Tender := {}
  tw   : TwoWire := {}
  thm  : Thermal := {}
  rst  : ResetState := {}
  obs  : Observation := {}
  free : Nat := 0
deriving DecidableEq, Repr, Inhabited

/-! ### What leaves the device -/

/-- What a step sends out, in order. -/
inductive Out where
  /-- A vector, with its table entry's address and data. -/
  | msix (v : Nat) (entry : MsixEntry)
  | hostWrite (addr : Nat) (bytes : List Byte)
  | untranslatedWrite (pasid : Option (BitVec 20)) (va : Nat) (bytes : List Byte)
  | cacheWrite (addr : Nat) (bytes : List Byte)
  | cacheRequest (addr : Nat)
  | snoopAnswer (addr : Nat)
  | atsRequest (ch : Nat) (va : Nat)
  | pageRequest (ch : Nat) (va : Nat)
  | invalidated (va : Nat)
  | read (path : Path) (off : Nat) (value : Word)
  | read2 (off : Nat) (value : Word)
  | windowData (line : Nat) (data : BitVec 512) (poison : Bool)
  | frame (port : Nat) (pos : BitVec 192) (chunk : BitVec 432)
  | burst (port : Nat)
  /-- R312: the TS1 (`ts2` false) or TS2 sets that a training port sends on a lane: lane and port number, head ID, and the flag
  that the sender means to use the port as a secondary upstream. -/
  | trainSets (ts2 : Bool) (port lane : Nat) (head : BitVec 16) (secondary : Bool)
  /-- R224: the CXL transmit lanes send PRBS7, 15 or 31 at a rate code, or cease to (none). -/
  | prbs (sent : Option (Nat × Nat))
  /-- R314: the transmit lanes of a web-link port send PRBS7, 15 or 31, or cease to. -/
  | portPrbs (port : Nat) (order : Option Nat)
  | twAck | twNack
  | ibrPulse
deriving DecidableEq, Repr, Inhabited

/-! ### The state -/

structure State where
  /-- The commands that wait, first in, first out. -/
  pending : List Instr := []
  regs    : RegMap := []
  tb      : Timebase := {}
  hb      : Headbox := {}
  felt    : Felt := {}
  fu      : FurnishSeq := {}
  cal     : Calender := {}
  fmt     : Formatter := {}
  sts     : Stats := {}
  scr     : Screens := {}
  reel    : Reel := {}
  /-- R214: the bytes of the CXL.mem window that were written, and the lines stored as poison (R232). -/
  window  : List Host.Cell := []
  poison  : List Nat := []
  link    : Link := {}
  dma     : Dma := {}
  cmd     : Commands := {}
  wl      : WebLink := {}
  pen     : PinEngines := {}
  clk     : Clocks := {}
  tnd     : Tender := {}
  tw      : TwoWire := {}
  thm     : Thermal := {}
  rst     : ResetState := {}
  obs     : Observation := {}
  /-- R302: what register reads were formed from at the last tick. -/
  before  : Seen := {}
  /-- R296: the shadows: (path, offset of the high word, high part), at most one per path and value. -/
  shadow  : List (Path × Nat × Word) := []
  /-- What the device has sent out, oldest first (the model's own record). -/
  out     : List Out := []
  /-- The model's own counter of free values drawn. -/
  free    : Nat := 0
deriving DecidableEq, Repr, Inhabited

/-- The device at the end of the power-on part of cold reset (R425, R426): every register at its reset value (no word
listed in `regs` or in a furnish), every FIFO, queue and memory empty, the reset furnish in force, READY 0. The
commands RESET_RELEASE and READY bring it up (R428, R431). -/
def State.reset : State := {}

end Sys2Proof.Machine
end

