-- ==== Sys2Proof/WellFormed.lean ====
section
/-! DEFINITION. Well-formed commands: the lists an operand carries have the shape the hardware gives them. A command
that fails a check stands for nothing the hardware can do; its meaning stops with `Fault.illFormed`. -/

namespace Sys2Proof

/-- A list of `n` rows with `m` entries each. -/
def shaped {α : Type} (n m : Nat) (l : List (List α)) : Bool := l.length == n && l.all (·.length == m)

/-- R57: a slice latches 32 block samples of 432 codes. -/
def wfLatch (codes : List (List (BitVec 12))) : Bool := shaped 32 432 codes

/-- R76: a row readout gives one row per block: 48 left dark columns, the columns of the area window (a whole number of
sheet words), 48 right dark columns. -/
def wfArea (codes : List (List (BitVec 12))) : Bool :=
  match codes with
  | [] => false
  | r :: _ => shaped 32 r.length codes && decide (96 < r.length) && r.length % 24 == 0

/-- R409: 47 nodes; R404: 14 supplies; R423: ten parts. -/
def wfThermal (sensors : List Int) (nodePower rails parts : List Nat) : Bool :=
  sensors.length == 47 && nodePower.length == 47 && rails.length == 14 && parts.length == 10

/-- R271: the data-in block of a packet is at most 65,536 bytes. -/
def wfData (data : List Byte) : Bool := decide (data.length ≤ 65536)

/-- R409: a list of the 47 sensors. -/
def wfSensors (sensors : List Int) : Bool := sensors.length == 47

/-- R391: a two-wire offset has at most three bytes. -/
def wfOffset (offset : List Byte) : Bool := decide (offset.length ≤ 3)

/-- Whether a command is well formed. -/
def Instr.wf : Instr → Bool
  | .blockSampleLatch _ codes => wfLatch codes
  | .areaRowReadout codes _ _ => wfArea codes
  | .thermalUpdate sensors nodePower rails parts => wfThermal sensors nodePower rails parts
  | .thermalTrip sensors => wfSensors sensors
  | .dataInBlockRead _ _ data => wfData data
  | .twAddress _ _ offset => wfOffset offset
  | _ => true

end Sys2Proof
end

