-- ==== Sys2Proof/Machine/Ops.lean ====
section
/-! DEFINITION. The operations every block shares: reading and writing register fields, furnish fields, sending
something out, counting, tracing, setting a sticky event with all that follows from it (its MSI-X vector, its
attention bit, its trace record), posting an alarm, and queueing a log record. -/

namespace Sys2Proof.Machine

/-- An update of `tb` alone. -/
def State.modTb (g : Timebase → Timebase) (s : State) : State := { s with tb := g s.tb }
/-- An update of `hb` alone. -/
def State.modHb (g : Headbox → Headbox) (s : State) : State := { s with hb := g s.hb }
/-- An update of `felt` alone. -/
def State.modFelt (g : Felt → Felt) (s : State) : State := { s with felt := g s.felt }
/-- An update of `fu` alone. -/
def State.modFu (g : FurnishSeq → FurnishSeq) (s : State) : State := { s with fu := g s.fu }
/-- An update of `cal` alone. -/
def State.modCal (g : Calender → Calender) (s : State) : State := { s with cal := g s.cal }
/-- An update of `fmt` alone. -/
def State.modFmt (g : Formatter → Formatter) (s : State) : State := { s with fmt := g s.fmt }
/-- An update of `sts` alone. -/
def State.modSts (g : Stats → Stats) (s : State) : State := { s with sts := g s.sts }
/-- An update of `scr` alone. -/
def State.modScr (g : Screens → Screens) (s : State) : State := { s with scr := g s.scr }
/-- An update of `reel` alone. -/
def State.modReel (g : Reel → Reel) (s : State) : State := { s with reel := g s.reel }
/-- An update of `link` alone. -/
def State.modLink (g : Link → Link) (s : State) : State := { s with link := g s.link }
/-- An update of `dma` alone. -/
def State.modDma (g : Dma → Dma) (s : State) : State := { s with dma := g s.dma }
/-- An update of `cmd` alone. -/
def State.modCmd (g : Commands → Commands) (s : State) : State := { s with cmd := g s.cmd }
/-- An update of `wl` alone. -/
def State.modWl (g : WebLink → WebLink) (s : State) : State := { s with wl := g s.wl }
/-- An update of `pen` alone. -/
def State.modPen (g : PinEngines → PinEngines) (s : State) : State := { s with pen := g s.pen }
/-- An update of `clk` alone. -/
def State.modClk (g : Clocks → Clocks) (s : State) : State := { s with clk := g s.clk }
/-- An update of `tnd` alone. -/
def State.modTnd (g : Tender → Tender) (s : State) : State := { s with tnd := g s.tnd }
/-- An update of `tw` alone. -/
def State.modTw (g : TwoWire → TwoWire) (s : State) : State := { s with tw := g s.tw }
/-- An update of `thm` alone. -/
def State.modThm (g : Thermal → Thermal) (s : State) : State := { s with thm := g s.thm }
/-- An update of `rst` alone. -/
def State.modRst (g : ResetState → ResetState) (s : State) : State := { s with rst := g s.rst }
/-- An update of `obs` alone. -/
def State.modObs (g : Observation → Observation) (s : State) : State := { s with obs := g s.obs }

/-! ### Registers -/

/-- The word of a register as the store holds it. -/
def regGet (m : RegMap) (off : Nat) : Word := (mget off m).getD (resetWord off)

/-- The store with a word written. -/
def regSet (m : RegMap) (off : Nat) (v : Word) : RegMap := mset (resetWord off) off v m

def State.reg (s : State) (off : Nat) : Word := regGet s.regs off

def State.setReg (off : Nat) (v : Word) (s : State) : State := { s with regs := regSet s.regs off v }

/-- A field of a live register. -/
def State.fget (s : State) (f : Fld) : Nat := bits (s.reg f.off) f.lo f.n

/-- A live field written by hardware. -/
def State.fset (f : Fld) (v : Nat) (s : State) : State := s.setReg f.off (setBits (s.reg f.off) f.lo f.n v)

/-- A one-bit live field. -/
def State.flag (s : State) (f : Fld) : Bool := s.fget f != 0

/-- A counter field that wraps. -/
def State.count (f : Fld) (n : Nat) (s : State) : State := s.fset f (s.fget f + n)

/-- A counter field that saturates. -/
def State.countSat (f : Fld) (n : Nat) (s : State) : State := s.fset f (min (2 ^ f.n - 1) (s.fget f + n))

/-- A field of a furnish (R107). -/
def Furnish.get (u : Furnish) (f : Fld) : Nat := bits (regGet u.regs f.off) f.lo f.n

def Furnish.on (u : Furnish) (f : Fld) : Bool := u.get f != 0

/-- A field of the furnish in force. -/
def State.cur (s : State) (f : Fld) : Nat := s.fu.inForce.get f

def State.curOn (s : State) (f : Fld) : Bool := s.cur f != 0

/-- The furnish of an ID: in force or retained (R118); the one in force where none has that ID. -/
def State.furnish (s : State) (id : BitVec 16) : Furnish :=
  match (s.fu.inForce :: s.fu.retained).find? (·.id = id) with
  | some u => u
  | none => s.fu.inForce

/-- The tick, as a number (R9). -/
def State.now (s : State) : Nat := s.tb.tick.toNat

/-- W (R33). -/
def State.wc (s : State) : WC := s.tb.wf.wc

/-! ### The core cycle (R302) -/

/-- What register reads are formed from, as it stands now. -/
def State.seen (s : State) : Seen :=
  { regs := s.regs, tb := s.tb, hb := s.hb, felt := s.felt, fu := s.fu, cal := s.cal, sts := s.sts, scr := s.scr,
    reel := s.reel, link := s.link, dma := s.dma, cmd := s.cmd, wl := s.wl, pen := s.pen, clk := s.clk, tnd := s.tnd,
    tw := s.tw, thm := s.thm, rst := s.rst, obs := s.obs, free := s.free }

/-- The state as it stood at the last tick, where register reads look (assumption 83). -/
def State.atTick (s : State) : State :=
  let b := s.before
  { s with
    regs := b.regs, tb := b.tb, hb := b.hb, felt := b.felt, fu := b.fu, cal := b.cal, sts := b.sts, scr := b.scr,
    reel := b.reel, link := b.link, dma := b.dma, cmd := b.cmd, wl := b.wl, pen := b.pen, clk := b.clk, tnd := b.tnd,
    tw := b.tw, thm := b.thm, rst := b.rst, obs := b.obs, free := b.free }

/-! ### Sending, counting, tracing -/

/-- What the device sends out is appended to the record of sendings. -/
def State.emit (o : Out) (s : State) : State := { s with out := s.out ++ [o] }

/-- OBS_CNTi counts `n` events (R439); it wraps modulo 2^48. -/
def State.bump (i n : Nat) (s : State) : State :=
  s.modObs fun o => { o with cnt := mset 0 i ((mget i o.cnt).getD 0 + BitVec.ofNat 48 n) o.cnt }

/-- R444: within a tick, records stand in ascending event order with consecutive TSEQ: the new record's contents move
before those of higher events of the same tick. Newest first. -/
def traceInsert (r : TraceRec) : List TraceRec → List TraceRec
  | [] => [r]
  | q :: t =>
    if q.tick = r.tick ∧ r.event.toNat < q.event.toNat then
      { q with tseq := r.tseq } :: traceInsert { r with tseq := q.tseq } t
    else r :: q :: t

/-- The TSEQ after `k`: it skips 0 (R442). -/
def nextTseq (k : BitVec 32) : BitVec 32 := if k + 1 = 0 then 1 else k + 1

/-- A traced event (R442 to R444): it takes the next TSEQ; its record is written, or lost when the 16-entry queue is full. -/
def State.trace (event arg : Nat) (data : Word) (s : State) : State :=
  let n := s.now
  if 16 < s.obs.queued then (s.modObs fun o => { o with tseq := nextTseq o.tseq }).bump 0xE8 1
  else
    (s.modObs fun o =>
      { o with
        tseq := nextTseq o.tseq, queued := o.queued + 1,
        trace := traceInsert { tseq := o.tseq, tick := BitVec.ofNat 48 n, event := BitVec.ofNat 8 event,
                               arg := BitVec.ofNat 8 arg, data := data }
          (o.trace.filter fun r => r.tseq.toNat % 4096 != o.tseq.toNat % 4096) }).bump 0xE9 1

/-! ### Interrupts, attention, sticky events -/

/-- The MSI-X table entry of a vector (R226). -/
def Link.entry (l : Link) (v : Nat) : MsixEntry := l.table.toList[v]?.getD {}

/-- An MSI-X vector is raised (R242): sent, or held as its pending bit while its mask is set or nothing can be sent
(link down, D3hot). -/
def State.msix (v : Nat) (s : State) : State :=
  if s.link.up ∧ ¬ s.link.d3 ∧ ¬ bitOf s.link.mask v then s.emit (.msix v (s.link.entry v))
  else s.modLink fun l => { l with pend := l.pend ||| (1 <<< v) }

/-- R242: the vector of a sticky event: the register it stands in and its bit. Channel notices,
alarms and the two events of vector 0 are raised by their own rules. -/
def evVector (off lo : Nat) : Option Nat :=
  if off = 0x050010 then (if lo = 0 then some 1 else none)
  else if off = 0x000210 then some 2
  else if off = 0x010040 then some 3
  else if off = 0x02F048 then some 4
  else if off = 0x0E0010 then some 5
  else if off = 0x0B0020 then some 6
  else if 0x0C010C ≤ off ∧ off < 0x0C030C ∧ (off - 0x0C010C) % 64 = 0 then some 7
  else if 0x090024 ≤ off ∧ off < 0x092000 ∧ (off - 0x090024) % 512 = 0 then some (32 + (off - 0x090024) / 512)
  else if 0x0A0024 ≤ off ∧ off < 0x0A0224 ∧ (off - 0x0A0024) % 64 = 0 then some (8 + (off - 0x0A0024) / 64)
  else if off = 0x080030 then some 48
  else if off = 0x060020 then some 49
  else if off = 0x030200 ∨ off = 0x040300 ∨ off = 0x070200 then some 50
  else if off = 0x000408 then some 51
  else if off = 0x092010 then some 0
  else if off = 0x0F0110 ∧ lo = 3 then some 0
  else none

/-- R309: the GLB_ATTN bit an event sets: MBOX with CMD_TW_EVT.DONE, THERM with every thermal event, LINK with every
GLB_LINK_EVT event, WLINK with every web-link event. -/
def evAttn (off lo : Nat) : Option Fld :=
  if off = 0x0A1060 ∧ lo = 0 then some R.glbAttnMbox
  else if off = 0x0E0010 then some R.glbAttnTherm
  else if off = 0x000408 then some R.glbAttnLink
  else if off = 0x0B0020 then some R.glbAttnWlink
  else none

/-- The events that count as set in this core cycle (R302). -/
def State.setFired (l : List (Nat × Nat)) (s : State) : State := s.modObs fun o => { o with fired := l }

/-- An RW1C bit is set by hardware: a clear of the same core cycle leaves it set (R302). -/
def State.fire (f : Fld) (s : State) : State :=
  (s.fset f 1).setFired ((f.off, f.lo) :: s.obs.fired)

/-- A sticky event (RW1C) is set by hardware: the bit reads 1; its attention bit is set; a bit that goes from 0 to 1
raises its vector (R242; vector 51 only while the link is in L0) and, in CLK_EVT, writes trace record 0x13 (R443). -/
def State.raise (f : Fld) (s : State) : State :=
  let s := match evAttn f.off f.lo with
    | some a => s.fire a
    | none => s
  let was := s.flag f
  let s := s.fire f
  if was then s
  else
    let s := if f.off = 0x0D0020 then s.trace 0x13 f.lo 0 else s
    match evVector f.off f.lo with
    | some v => if v = 51 ∧ (¬ s.link.up ∨ s.link.l1) then s else s.msix v
    | none => s

/-- An alarm is posted (R377): GLB_ATTN.ALARM is set and vector 0 raised at once; the Tender forms the record later.
Any alarm source wakes a sleeping Tender (R373). -/
def State.post (off : Option Nat) (code : Nat) (data : List Byte) (s : State) : State :=
  let s := (s.fire R.glbAttnAlarm).bump 0xDC 1
  let n := s.now
  let s := s.modTnd fun t =>
    { t with asleep := false, idleFrom := n,
             posted := t.posted ++ [{ off := off, code := BitVec.ofNat 16 code, data := data,
                                      sev := 2 + b2n (Config.severe code), tick := n }] }
  s.msix 0

/-- An alarm with a code of its own (R376, b = 0). -/
def State.postAlarm (code : Nat) (data : List Byte) (s : State) : State := s.post none code data

/-- R376: the CODE of the record of a sticky event. -/
def evCode (off lo : Nat) : Nat :=
  if off = 0x000010 then 0x0100 + lo
  else if off = 0x000018 then 0x0108
  else if off = 0x000408 then 0x0110 + lo
  else if off = 0x000210 then 0x0118 + (lo - 20)
  else if off = 0x000108 then 0x011C + (lo - 24)
  else if off = 0x010040 then 0x0200 + lo
  else if off = 0x02F048 then 0x0300 + lo
  else if off = 0x030200 then 0x0400 + lo
  else if off = 0x040300 then 0x0500 + lo
  else if off = 0x050010 then 0x0600 + lo
  else if off = 0x060020 then 0x0700 + lo
  else if off = 0x070200 then 0x0800 + lo
  else if off = 0x080030 then 0x0900 + lo
  else if 0x090024 ≤ off ∧ off < 0x092000 then 0x0A00 + 16 * ((off - 0x090024) / 512) + lo
  else if 0x0A0024 ≤ off ∧ off < 0x0A0224 then 0x0B00 + 8 * ((off - 0x0A0024) / 64) + lo
  else if off = 0x0A1060 then 0x0B40 + lo
  else if off = 0x0A3010 then 0x0B48 + lo
  else if off = 0x0B0020 then 0x0C00 + lo
  else if 0x0C010C ≤ off ∧ off < 0x0C030C then 0x0D00 + 16 * ((off - 0x0C010C) / 64) + lo
  else if off = 0x0D0020 then 0x0E00 + lo
  else if off = 0x0E0010 then 0x0F00 + lo
  else if off = 0x0F0110 then 0x1000 + lo
  else 0x1100 + lo

/-- The alarm of a sticky event (R376): DATA holds the event's register as it stands when the record is formed, then the
line sequence concerned. -/
def State.alarmOf (f : Fld) (line : Nat) (s : State) : State :=
  s.post (some f.off) (evCode f.off f.lo) (leBytes 6 line)

/-- An event that is set and posts an alarm each time. -/
def State.raiseAlarm (f : Fld) (s : State) : State := (s.raise f).alarmOf f 0

/-- An event that posts an alarm when its bit goes from 0 to 1. -/
def State.raiseOnce (f : Fld) (s : State) : State :=
  if s.flag f then s.raise f else s.raiseAlarm f

/-! ### The boot record (R372) -/

/-- The copy in force: the one with the higher sequence. -/
def Tender.bootAt (t : Tender) : Fin 2 :=
  match t.boots[(0 : Fin 2)], t.boots[(1 : Fin 2)] with
  | some a, some b => if a.seq.toNat < b.seq.toNat then 1 else 0
  | none, some _ => 1
  | _, none => 0

/-- The boot record in force. -/
def Tender.boot (t : Tender) : BootRec := (t.boots[t.bootAt]).getD {}

/-- The copy not in force, which a rewrite erases and programs. -/
def Tender.spare (t : Tender) : Fin 2 := 1 - t.bootAt

/-- The boot record rewritten. -/
def Tender.putBoot (g : BootRec → BootRec) (t : Tender) : Tender :=
  { t with boots := vupd t.boots t.spare fun _ => some { g t.boot with seq := t.boot.seq + 1 } }

/-- The ROM starts that a rewrite still to be made will count. -/
def NvWork.starts : NvWork → Nat
  | .bootProgram _ _ _ n => n
  | _ => 0

/-- R388: ROM starts since manufacture. -/
def Tender.bootCount (t : Tender) : BitVec 32 :=
  t.boot.count + BitVec.ofNat 32 ((t.jobs.flatMap (·.work)).map (·.starts)).sum

/-! ### The log (R375, R378) -/

/-- One step of CRC-16 with polynomial 0x1021, most significant bit first. -/
def crc16Bit (c : Nat) : Nat := if c < 0x8000 then 2 * c else (2 * c % 0x10000) ^^^ 0x1021

def crc16Byte (c : Nat) (b : Byte) : Nat :=
  let c := c ^^^ (b.toNat * 256)
  crc16Bit (crc16Bit (crc16Bit (crc16Bit (crc16Bit (crc16Bit (crc16Bit (crc16Bit c)))))))

/-- CRC-16 of R318: polynomial 0x1021, initial value 0xFFFF. -/
def crc16 (bs : List Byte) : Nat := bs.foldl crc16Byte 0xFFFF

/-- A list cut or padded with zero bytes to a length. -/
def fit (n : Nat) (bs : List Byte) : List Byte := (bs ++ List.replicate n 0).take n

/-- The 32 bytes of a log record (R375). -/
def logRecord (lseq tick code sev boot head : Nat) (deferred remote posted : Bool) (data : List Byte) : BitVec 256 :=
  let b := leBytes 4 lseq ++ leBytes 8 tick ++ leBytes 2 code
    ++ leBytes 1 (sev + 4 * b2n deferred + 8 * b2n remote + 16 * b2n posted) ++ leBytes 1 boot
    ++ leBytes 2 head ++ [0, 0] ++ fit 10 data
  BitVec.ofNat 256 (ofLeBytes (b ++ leBytes 2 (crc16 b)))

/-- A record formed takes the next LSEQ and is queued, or refused by a full queue (R378), which sets
MGT_EVT.SUPPRESS and is counted by CODE. Under an inhibit its write is counted (R386). -/
def State.queueLog (code : Nat) (sev tick head : Nat) (remote posted : Bool) (data : List Byte) (s : State) : State :=
  let t := s.tnd
  let r := logRecord t.lseq.toNat tick code sev t.bootCount.toNat head false remote posted data
  if t.queue.length < 1024 then
    s.modTnd fun t =>
      { t with lseq := t.lseq + 1, queue := t.queue ++ [r], asleep := false,
               inhCnt := if t.inhibit then t.inhCnt + 1 else t.inhCnt }
  else
    (s.modTnd fun t =>
      { t with lseq := t.lseq + 1,
               refused := match t.refused.find? (·.1.toNat = code) with
                 | some _ => t.refused.map fun (c, n) => if c.toNat = code then (c, n + 1) else (c, n)
                 | none => t.refused ++ [(BitVec.ofNat 16 code, 1)] }).raise R.mgtEvtSuppress

/-- A record of the Tender's own (R376, b = 0), formed now. -/
def State.logOwn (code : Nat) (data : List Byte) (s : State) : State :=
  s.queueLog code (b2n (Config.severe code)) s.now (s.fget R.wlkHeadId) false false data

/-! ### Access by a path (R306) -/

/-- The registers the two-wire path may always write: CMD_TW_PKT, CMD_TW_CTRL, CMD_TW_DLEN, CMD_TW_DATA, CMD_TW_EVT,
GLB_ATTN. -/
def twFree (off : Nat) : Bool :=
  (decide (0x0A1000 ≤ off) && decide (off < 0x0A1048)) || off == 0x0A1060 ||
    (decide (0x0A2000 ≤ off) && decide (off < 0x0A3000)) || off == 0x000008

/-- A path reaches the registers: the host while its link is up and the device is not in D3hot (R237, R240), the
Tender while it runs, the two-wire port while the device is not held in reset (R428, R437). -/
def State.reaches (s : State) (path : Path) : Bool :=
  match path with
  | .cxl => s.link.up && !s.link.d3
  | .tender => s.tnd.up
  | .tw => s.rst.phase != .inReset

/-- A write by a path has its effect, or is denied to the two-wire path (R306); a path that does not reach the
registers writes nothing. -/
def State.access (path : Path) (off : Nat) (f : State → State) (s : State) : State :=
  if !s.reaches path then s
  else if path = .tw ∧ ¬ s.flag R.glbAccTwWr ∧ ¬ twFree off then s.raise R.glbEvtTwWrDenied else f s

/-- The bits of a register that its fields of some access types take up. -/
def maskOf (p : Acc → Bool) (off : Nat) : Word :=
  match regAt off with
  | some r => BitVec.ofNat 32 (fieldsMask p r.fields)
  | none => 0

/-- The registers whose upper bits read 0 without being reserved ("Bits [31:16] read 0"). -/
def readsZero (off : Nat) : Bool :=
  [0x00021C, 0x010054, 0x010064, 0x01006C, 0x01007C, 0x02F044, 0x080014, 0x08001C].contains off ||
    (decide (0x000240 ≤ off) && decide (off < 0x0002C0) && off % 16 == 8) ||
    (decide (0x090000 ≤ off) && decide (off < 0x092000) && (off % 512 == 0x2C || off % 512 == 0x34)) ||
    (decide (0x100000 ≤ off) && decide (off < 0x100800) && off % 8 == 4)

/-- The reserved bits of a register (R293): they read 0 but for those a factory test control holds. -/
def rsvMask (off : Nat) : Word := if readsZero off then 0 else ~~~(maskOf (fun _ => true) off)

def pathCode : Path → Nat
  | .cxl => 0 | .tender => 1 | .tw => 2

/-- What the reserved bits of a register read (R293). -/
def State.trim (s : State) (off : Nat) : Word := (mget off s.rst.trims).getD 0 &&& rsvMask off

/-- The bits of a word that would change a reserved bit. -/
def State.rsvDiff (s : State) (off : Nat) (v : Word) : Word := (v ^^^ s.trim off) &&& rsvMask off

/-- RSV_CHANGE (R293): a write that would change a reserved bit does not. -/
def State.rsvCheck (path : Path) (off : Nat) (v : Word) (s : State) : State :=
  if s.rsvDiff off v = 0 then s
  else (s.raiseAlarm R.glbEvtRsvChange).trace 0x02 (pathCode path) (BitVec.ofNat 32 off)

/-! ### Outcomes -/

/-- The answer of a command that runs. -/
abbrev Answer := Host.Outcome State Fault Refusal


/-- Folding a state operation over a list. -/
def State.each {α : Type} (l : List α) (f : α → State → State) (s : State) : State := l.foldl (fun s a => f a s) s

/-- A state operation done so many times. -/
def State.times (f : State → State) : Nat → State → State
  | 0, s => s
  | n + 1, s => State.times f n (f s)

/-- A state operation done where a condition holds. -/
def State.iff (c : Bool) (f : State → State) (s : State) : State := if c then f s else s

end Sys2Proof.Machine
end

