-- ==== Sys2Proof/Machine/Dma.lean ====
section
/-! DEFINITION. The DMA channels (R245 to R267): units handed over, staging, spilling into the save-all (R213), drop
records, buffers and notices, translation and faults, parking and replay, stop and restart. -/

namespace Sys2Proof.Machine

def State.ch (s : State) (n : Fin 16) : Channel := s.dma.chans[n]

def State.onCh (n : Fin 16) (g : Channel → Channel) (s : State) : State :=
  s.modDma fun d => { d with chans := vupd d.chans n g }

/-- The class of a channel (R245). -/
def State.chClass (s : State) (n : Nat) : Nat := s.fget (R.dmaChCtrlClass n)

/-- The channel is enabled: neither disabled nor in error. -/
def Channel.enabled (c : Channel) : Bool := c.state != .disabled && c.state != .error

/-- The causes of R256 as DMA_CH_STAT [13:8] shows them. -/
def Channel.causes (c : Channel) : Nat :=
  b2n c.fault + 2 * b2n c.noBuf + 4 * b2n c.cplFull + 8 * b2n c.linkCap + 16 * b2n c.priWait + 32 * b2n c.linkLoss

/-- DMA_CH_STAT.STATE (R262). A channel that stops reads so in whatever state it stops (assumption 45). -/
def Channel.stateCode (c : Channel) : Nat :=
  if c.stopping && c.enabled then 6
  else match c.state with
    | .disabled => 0 | .live => 1 | .parked => 2 | .replaying => 3 | .held => 4 | .error => 5

/-- The descriptor ring is empty: the doorbell's index (13 bits) counts modulo the ring's entries (R248, R265). -/
def Channel.dEmpty (c : Channel) : Bool := c.dHead == c.dTail % 2 ^ c.dLog

/-- The completion ring of a channel has no free slot. -/
def Channel.ringFull (c : Channel) : Bool := (c.cTail + 1) % 2 ^ c.cLog == c.cHead % 2 ^ c.cLog

/-- The completion ring of a command queue has no free slot (R272). -/
def CmdQueue.cqFull (q : CmdQueue) : Bool := (q.cqTail + 1) % 2 ^ q.cqLog == q.cqHead % 2 ^ q.cqLog

/-- The PASID of a command queue's rings. -/
def CmdQueue.pasid? (q : CmdQueue) : Option (BitVec 20) := if q.pv then some q.pasid else none

/-- Where the next completion of a queue goes. -/
def CmdQueue.cplVa (q : CmdQueue) : Nat := q.cqVa + 16 * q.cqTail

/-- The submission ring is empty (R268). -/
def CmdQueue.sqEmpty (q : CmdQueue) : Bool := q.sqHead == q.sqTail % 2 ^ q.sqLog

/-- Where the next packet of a queue stands. -/
def CmdQueue.fetchVa (q : CmdQueue) : Nat := q.sqVa + 64 * q.sqHead

/-- DLEN (R271); of a mailbox packet, the length CMD_TW_DLEN gave at GO (R286). -/
def Packet.dlen (p : Packet) : Nat := if p.ref.tw then (p.data.getD []).length else bits p.bytes 128 32

/-- DVA (R271): bits [4:0] are taken as 0. -/
def Packet.dva (p : Packet) : Nat := bits p.bytes 64 64 / 32 * 32

/-- The host can be reached: link up, D0, no viral (R237, R240, R241). -/
def State.hostUp (s : State) : Bool := s.link.up && !s.link.d3 && !s.link.viralIn && !s.link.viralOut

/-- L1_EXIT (R240): work appears. -/
def State.leaveL1 (s : State) : State := s.modLink fun l => { l with l1 := false }

/-- A posted write of a channel or of a command queue (R235): translated, or with ATS off untranslated with its PASID
prefix. -/
def State.writeOut (pasid : Option (BitVec 20)) (pa : Nat) (bytes : List Byte) (s : State) : State :=
  s.leaveL1.emit (if s.link.ats then .hostWrite pa bytes else .untranslatedWrite pasid pa bytes)

/-! ### Save-all (R213, R257) -/

/-- Bytes of a save-all chunk. -/
def chunkBytes : Nat := 262144

/-- The DRAM cannot be used: not trained (R434), or its clock on bypass (R364). -/
def State.reelOff (s : State) : Bool := !s.reel.trained || s.clk.mem != .locked

/-- Chunks of the save-all under the layout in force. -/
def State.chunkTotal (s : State) : Nat := 256 * s.reel.saveUnits

/-- The chunks in use, by channel. -/
def State.usedChunks (s : State) : List Nat := s.dma.chans.toList.flatMap fun c => c.ids.map (·.1)

/-- Bytes of a unit in staging, buffers and chunks: whole 32-byte words. -/
def DUnit.size (u : DUnit) : Nat := 32 * ceilDiv u.bytes.length 32

/-- Bytes of an item of the save-all: a marker is one word. -/
def SaveItem.size : SaveItem → Nat
  | .unit u => u.size
  | .marker _ => 32

/-- R267: the chunks that replay reads of this same core cycle, still to come, will free for a spill of channel `by'`,
which keeps its own last chunk in use. -/
def State.freeing (s : State) (by' : Fin 16) : List Nat :=
  (List.finRange 16).filterMap fun ch =>
    let c := s.ch ch
    if c.state = .replaying ∧ c.staging.isEmpty ∧
        s.pending.any (fun | .replayRead n _ _ _ same => same && n == ch | _ => false) then
      match c.saved with
      | i :: rest =>
        if (rest.isEmpty ∧ ch ≠ by') ∨ chunkBytes ≤ c.headUse + i.size then c.ids.head?.map (·.1) else none
      | [] => none
    else none

/-- The first number from `n` on that is not in use; at most `fuel` are. -/
def nextFree (used : List Nat) : Nat → Nat → Nat
  | 0, n => n
  | fuel + 1, n => if used.contains n then nextFree used fuel (n + 1) else n

/-- The chunk given to a spill: the lowest free one (assumption 79), else one that is freed in this same tick (R267). -/
def State.pickChunk (s : State) (ch : Fin 16) : Nat :=
  let used := s.usedChunks
  let n := nextFree used used.length 0
  if n < s.chunkTotal then n
  else ((s.freeing ch).find? fun i => decide ((used.filter (· == i)).length < 2)).getD 0

/-- A chunk is allocated to a channel (R213): its generation goes up by one. -/
def State.allocChunk (ch : Fin 16) (s : State) : State :=
  let i := s.pickChunk ch
  let g := (mget i s.reel.gens).getD 0 + 1
  (s.modReel fun r =>
    { r with chunks := r.chunks + 1, peak := max r.peak (r.chunks + 1), gens := mset 0 i g r.gens }).onCh ch fun c =>
      { c with chunks := c.chunks + 1, ids := c.ids ++ [(i, g)] }

/-- Further chunks that `n` bytes need behind what a channel holds. -/
def Channel.moreChunks (c : Channel) (n : Nat) : Nat :=
  if c.chunks = 0 then ceilDiv n chunkBytes else ceilDiv (c.tailUse + n) chunkBytes - 1

/-- R215: `n` bytes of save-all writes, replay reads or cut reads take their share of the reel's bandwidth. -/
def State.charge (n : Nat) (s : State) : State := s.modReel fun r => { r with debt := r.debt + n }

/-- `n` bytes are written into the channel's chunks, `k` new ones among them. -/
def State.fillChunks (ch : Fin 16) (n k : Nat) (s : State) : State :=
  let s := s.onCh ch fun c =>
    { c with tailUse := if k = 0 then c.tailUse + n else (if c.chunks = 0 then n else c.tailUse + n) -
               chunkBytes * (if c.chunks = 0 then k - 1 else k) }
  ((s.each (List.range k) fun _ s => s.allocChunk ch).charge n).bump 0x8C (ceilDiv n 32)

/-- `n` bytes are read from the front of the channel's chunks; chunks read to their end are freed, all of them once
nothing is left. -/
def State.drainChunks (ch : Fin 16) (n : Nat) (s : State) : State :=
  let c := s.ch ch
  let used := c.headUse + n
  let freed := if c.saved.isEmpty then c.chunks else min c.chunks (used / chunkBytes)
  let s := s.onCh ch fun c =>
    { c with chunks := c.chunks - freed, ids := c.ids.drop freed,
             headUse := if c.saved.isEmpty then 0 else used % chunkBytes,
             tailUse := if c.saved.isEmpty then 0 else c.tailUse }
  ((s.modReel fun r => { r with chunks := r.chunks - freed }).charge n).bump 0x8D (ceilDiv n 32)

/-- Every chunk of a channel is freed. -/
def State.freeChunks (ch : Fin 16) (s : State) : State :=
  let k := (s.ch ch).chunks
  (s.onCh ch fun c => { c with chunks := 0, ids := [], headUse := 0, tailUse := 0, saved := [] }).modReel fun r =>
    { r with chunks := r.chunks - k }

/-- The tag that word `w` of the next item to replay carries: the generation of its chunk (R206, R213). -/
def Channel.saveTag (c : Channel) (w : Nat) : BitVec 6 :=
  match c.ids[(c.headUse + 32 * w) / chunkBytes]? with
  | some (_, g) => g
  | none => 0

/-! ### Dropped units and drop records (R260) -/

/-- A run with one more unit. -/
def DropRun.add (u : DUnit) (r : DropRun) : DropRun :=
  { r with units := r.units + 1, last := u.seq, lastWc := u.wc, broke := r.broke || u.broke }

/-- A run of one unit. -/
def DropRun.one (cause : Nat) (u : DUnit) : DropRun :=
  { cause := cause, units := 1, first := u.seq, last := u.seq, firstWc := u.wc, lastWc := u.wc, broke := u.broke }

/-- Returned data that is dropped is remembered for its completion; a completion that is dropped itself needs that no
more (R273). -/
def Channel.noteLost (u : DUnit) (c : Channel) : Channel :=
  match u.kind with
  | .data p => { c with lostData := c.lostData ++ [p] }
  | .completion p _ => { c with lostData := c.lostData.erase p }
  | .cutRecord id => { c with lostCuts := c.lostCuts ++ [id] }
  | _ => c

/-- The place of a cut record is no unit (R210): a channel that drops it drops nothing, and the record itself is then placed
like any other unit. -/
def DUnit.isPlace (u : DUnit) : Bool := match u.kind with | .cutPlace _ => true | _ => false

/-- A completion of WARM_RESET with success (R281): opcode 0x0004, status 0x00. -/
def DUnit.isReset (u : DUnit) : Bool :=
  match u.kind with
  | .completion _ _ => (u.bytes.drop 2).take 3 == [4, 0, 0]
  | _ => false

/-- The own completion of a WARM_RESET has been written, or can be written no more: the reset is due (R281). -/
def State.resetDue (s : State) : State :=
  let now := s.now
  s.modCmd fun c => { c with warmDue := some now }

/-- A completion discarded (R287). -/
def State.loseCompletion (q : Fin 8) (s : State) : State :=
  (s.count (R.cmdQLost q.val) 1).raise (R.cmdQEvtLostCpl q.val)

/-- A unit that its channel drops (R260): no completion of WARM_RESET among them can be written any more. -/
def State.lostUnit (u : DUnit) (s : State) : State := s.iff u.isReset (·.resetDue)

/-- What every drop record does when it is formed: the event, its vector each time, the count, the trace. -/
def State.dropRecord (ch : Fin 16) (r : DropRun) (s : State) : State :=
  let n := ch.val
  let was := s.flag (R.dmaChEvtDrop n)
  let s := s.raise (R.dmaChEvtDrop n)
  let s := s.iff was (·.msix (32 + n))
  let total := s.fget (R.dmaDropsLo n) + 2 ^ 32 * s.fget (R.dmaDropsHi n) + r.units
  ((s.fset (R.dmaDropsLo n) total).fset (R.dmaDropsHi n) (total / 2 ^ 32)).trace 0x10 n
    (BitVec.ofNat 32 (r.cause + 256 * r.units))

/-- The notice of a drop record (R251, R260); TICK is the tick at which the record was formed. -/
def dropNotice (r : DropRun) : Notice :=
  { first := r.first, last := r.last, descId := 0xFFFF, units := r.units, status := 0x80, broke := r.broke,
    cause := r.cause, firstWc := r.firstWc, lastWc := r.lastWc, tick := r.tick }

/-- The open buffer closes with a status (R250, R251). -/
def State.closeBuf (ch : Fin 16) (status : Nat) (s : State) : State :=
  match (s.ch ch).buf with
  | none => s
  | some b =>
    let now := s.now
    s.onCh ch fun c =>
      { c with buf := none, notices := c.notices ++
          [{ first := b.first, last := b.last, descId := b.id, units := b.units, bytes := b.used, status := status,
             replayed := b.replayed, broke := b.broke, firstWc := b.firstWc, lastWc := b.lastWc, tick := now,
             irq := b.irq }] }

/-- The buffer closes ahead of a drop record if a unit has opened it (R250, R260). -/
def State.closeOpened (ch : Fin 16) (s : State) : State :=
  s.iff ((s.ch ch).buf.any fun b => b.units != 0) (·.closeBuf ch 0x07)

/-- A record formed stands in the ring at its place: the open buffer closes with STATUS 0x07 before it. -/
def State.putDrop (ch : Fin 16) (r : DropRun) (s : State) : State :=
  (s.closeOpened ch).onCh ch fun c => { c with notices := c.notices ++ [dropNotice r] }

/-- A run ends where its record stands: the record is formed and put there. -/
def State.writeDrop (ch : Fin 16) (r : DropRun) (s : State) : State :=
  let now := s.now
  (s.dropRecord ch r).putDrop ch { r with tick := now }

/-- The run at the accepting end ends: its record is formed. A live channel has it in staging, in its place behind the
units there; another keeps it until it can store it ahead of the next unit it spills (R260). -/
def State.endRun (ch : Fin 16) (s : State) : State :=
  match (s.ch ch).drop with
  | none => s
  | some r =>
    let now := s.now
    (s.dropRecord ch r).onCh ch fun c =>
      let r := { r with tick := now }
      if c.state = .live ∧ !c.stopping then { c with drop := none, staging := c.staging ++ [{ kind := .drop r }] }
      else { c with drop := none, runs := c.runs ++ [r] }

/-- Room for `n` more bytes in the save-all for this channel: none if no chunk is free (cause 0), or if SAVE_MAX would
be passed (cause 5). A chunk freed in this tick is free (R267). -/
def State.saveRoom (s : State) (ch : Fin 16) (n : Nat) : Option Nat :=
  let c := s.ch ch
  let k := c.moreChunks n
  let lim := s.fget (R.dmaChCtrlSaveMax ch.val)
  if s.reelOff then some 0
  else if lim ≠ 0 ∧ lim < c.chunks + k then some 5
  else if s.reel.chunks + k ≤ s.chunkTotal then none
  else if s.reel.chunks + k ≤ s.chunkTotal + (s.freeing ch).length then none
  else some 0

/-- The run at the accepting end takes a unit; a run of another cause ends first, one of 65,535 units at once. -/
def State.dropUnit (ch : Fin 16) (cause : Nat) (u : DUnit) (s : State) : State :=
  if u.isPlace then s else
  let s := (s.lostUnit u).onCh ch (·.noteLost u)
  let s := s.iff ((s.ch ch).drop.any (·.cause != cause)) (·.endRun ch)
  let s := s.onCh ch fun c =>
    { c with drop := some (match c.drop with | some r => r.add u | none => .one cause u) }
  s.iff ((s.ch ch).drop.any fun r => decide (65535 ≤ r.units)) (·.endRun ch)

/-- The run at the delivering end is written (R260). -/
def State.writeFront (ch : Fin 16) (s : State) : State :=
  match (s.ch ch).front with
  | some r => (s.writeDrop ch r).onCh ch fun c => { c with front := none }
  | none => s

/-- The run at the delivering end takes a unit: refused, damaged, or discarded at restart. -/
def State.dropFront (ch : Fin 16) (cause : Nat) (u : DUnit) (s : State) : State :=
  if u.isPlace then s else
  let s := (s.lostUnit u).onCh ch (·.noteLost u)
  let s := s.iff ((s.ch ch).front.any fun r => r.cause != cause || decide (65535 ≤ r.units)) (·.writeFront ch)
  s.onCh ch fun c => { c with front := some (match c.front with | some r => r.add u | none => .one cause u) }

/-- A unit is spilled behind what the save-all holds (R257); runs that have ended are stored as markers ahead of it. -/
def State.spill (ch : Fin 16) (u : DUnit) (s : State) : State :=
  let c := s.ch ch
  let n := u.size + 32 * (c.runs.length + b2n c.drop.isSome)
  match s.saveRoom ch n with
  | some cause => (s.iff (cause == 0) (·.raise R.relEvtSaveFull)).dropUnit ch cause u
  | none =>
    let s := (s.endRun ch).fillChunks ch n (c.moreChunks n)
    s.onCh ch fun c => { c with saved := c.saved ++ c.runs.map .marker ++ [.unit u], runs := [] }

/-! ### Parking (R256, R257) -/

/-- Units queued behind the unit in progress are spilled, in order (R257); a run of units dropped after them stays
behind them. -/
def State.spillQueue (ch : Fin 16) (s : State) : State :=
  let rest := (s.ch ch).staging.drop 1
  let later := (s.ch ch).drop
  let s := s.onCh ch fun c => { c with staging := c.staging.take 1, drop := none }
  let s := s.each rest fun u s =>
    match u.kind with
    | .drop r => (s.endRun ch).onCh ch fun c => { c with runs := c.runs ++ [r] }
    | _ => s.spill ch u
  match later with
  | some r => (s.endRun ch).onCh ch fun c => { c with drop := some r }
  | none => s

/-- A cause of R256 begins to hold: a channel that no cause holds enters park, one that finishes its unit in progress
(R258) again. -/
def State.park (ch : Fin 16) (g : Channel → Channel) (s : State) : State :=
  let was := s.ch ch
  let s := s.onCh ch g
  if was.state = .live ∨ was.state = .replaying ∨ (was.state = .parked ∧ was.causes = 0) then
    let s := s.onCh ch fun c => { c with state := .parked }
    let s := ((s.raise (R.dmaChEvtPark ch.val)).count (R.dmaChParks ch.val) 1).trace 0x0E ch.val
      (BitVec.ofNat 32 (s.ch ch).causes)
    s.spillQueue ch
  else s

/-- Records that found no unit to precede in the save-all take their place among the live units; a stopping channel
writes them last (R263). -/
def State.placeRuns (ch : Fin 16) (s : State) : State :=
  s.onCh ch fun c =>
    if c.stopping then c
    else { c with staging := c.staging ++ c.runs.map fun r => { kind := .drop r }, runs := [] }

/-- The channel is live again (R258). -/
def State.goLive (ch : Fin 16) (s : State) : State :=
  (((s.onCh ch fun c => { c with state := .live }).placeRuns ch).raise (R.dmaChEvtUnpark ch.val)).trace 0x0F ch.val 0

/-- R258: a parked channel without a cause and without a unit in progress replays what is saved, or is live again. -/
def State.resume (ch : Fin 16) (s : State) : State :=
  let c := s.ch ch
  if c.state = .parked ∧ c.causes = 0 ∧ c.staging.isEmpty then
    if c.saved.isEmpty then s.goLive ch else s.onCh ch fun c => { c with state := .replaying }
  else s

/-- A cause has cleared: with none left, the unit in progress is finished, then replay (R258). -/
def State.unpark (ch : Fin 16) (g : Channel → Channel) (s : State) : State := (s.onCh ch g).resume ch

/-- Bytes in staging: a unit stays whole there until its last segment has been issued (R256). -/
def Channel.staged (c : Channel) : Nat := (c.staging.map DUnit.size).sum

/-- Staging has drained: LINK_CAP clears below half (R256), and a channel that has no unit in progress goes on (R258). -/
def State.stagingDrained (ch : Fin 16) (s : State) : State :=
  s.unpark ch fun c => { c with linkCap := c.linkCap && !decide (c.staged < 131072) }

/-- The head leaves staging. -/
def State.popHead (ch : Fin 16) (s : State) : State :=
  (s.onCh ch fun c => { c with staging := c.staging.drop 1, issued := 0 }).stagingDrained ch

/-- R269: a channel that is not enabled any more unbinds the queues bound to it. -/
def State.unbind (ch : Fin 16) (s : State) : State :=
  s.each (List.finRange 8) fun q s =>
    s.iff ((s.cmd.queues[q]).enabled && (s.cmd.queues[q]).dc == ch.val) (·.raise (R.cmdQEvtBind q.val))

/-- A channel gives up what it waited for: its page requests concern it no more, and it asks for no slot (R253). -/
def State.forget (ch : Fin 16) (s : State) : State :=
  s.modDma fun d =>
    { d with priQ := d.priQ.erase ch,
             pageReq := d.pageReq.map fun r => if r.ch = ch then { r with live := false } else r }

/-- The channel is in error (R261): what it holds is dropped as handed to a channel in error. -/
def State.chError (ch : Fin 16) (s : State) : State :=
  (((s.forget ch).onCh ch fun c =>
    { c with state := .error, stopping := false, buf := none, places := [], asks := [], fault := false, noBuf := false,
             cplFull := false, linkCap := false, priWait := false }).raise (R.dmaChEvtErr ch.val)).unbind ch

/-! ### Translation (R252 to R255) -/

/-- Page of an address in an entry. -/
def AtcEntry.hits (e : AtcEntry) (pasid : Option (BitVec 20)) (va : Nat) : Bool :=
  e.pasid == pasid && (if e.big then e.va / 2 ^ 21 == va / 2 ^ 21 else e.va / 4096 == va / 4096)

/-- The host address of a virtual address: its own while ATS is off (R235), else from the translation cache; an entry
without write permission counts as a miss, for a read too (R252). -/
def State.translate (s : State) (pasid : Option (BitVec 20)) (va : Nat) : Option Nat :=
  if !s.link.ats then some va
  else match s.dma.atc.find? fun e => e.hits pasid va && e.write with
    | some e => some (if e.big then e.pa / 2 ^ 21 * 2 ^ 21 + va % 2 ^ 21 else e.pa / 4096 * 4096 + va % 4096)
    | none => none

/-- The size of the page of an address: of its entry, else the smallest (R252). -/
def State.pageSize (s : State) (pasid : Option (BitVec 20)) (va : Nat) : Nat :=
  match s.dma.atc.find? (·.hits pasid va) with
  | some e => if e.big then 2 ^ 21 else 4096
  | none => 4096

/-- An entry used becomes the most recent one. -/
def State.touch (pasid : Option (BitVec 20)) (va : Nat) (s : State) : State :=
  s.modDma fun d =>
    match d.atc.find? (·.hits pasid va) with
    | some e => { d with atc := e :: d.atc.erase e }
    | none => d

def Channel.pasid? (c : Channel) : Option (BitVec 20) := if c.pv then some c.pasid else none

/-- The PASID of an open buffer (R249). -/
def OpenBuf.pasid? (b : OpenBuf) (c : Channel) : Option (BitVec 20) := if b.pv then some b.pasid else c.pasid?

/-- The place kept for the cut record at the head of staging. -/
def Channel.place? (c : Channel) : Option CutPlace :=
  match c.staging with
  | u :: _ => match u.kind with
    | .cutRecord id => c.places.find? (·.id = id)
    | _ => none
  | [] => none

/-- The PASID under which the head of a channel's staging is written (R249): a cut record under that of its place. -/
def Channel.unitPasid (c : Channel) : Option (BitVec 20) :=
  match c.place?, c.buf with
  | some p, _ => p.pasid
  | none, some b => b.pasid? c
  | none, none => c.pasid?

/-- The PASID under which a channel asks for a translation. -/
def State.askPasid (s : State) (ch : Fin 16) (kind : TransFor) : Option (BitVec 20) :=
  let c := s.ch ch
  match kind, c.staging.head?.map DUnit.kind, c.buf with
  | .segment, some (.completion p _), _ => s.cmd.queues[p.queue].pasid?
  | .segment, _, _ => c.unitPasid
  | .packet q, _, _ => s.cmd.queues[q].pasid?
  | .dataIn r, _, _ => (s.cmd.packets.find? (·.ref = r)).bind (·.pasid)
  | .prefetch, _, some b => b.pasid? c
  | _, _, _ => c.pasid?

/-- The channel waits for a translation. -/
def Channel.asked (c : Channel) : Bool := c.asks.any fun a => a.kind != .prefetch

/-- A request on its way brings the page of an address. -/
def Ask.covers (pasid : Option (BitVec 20)) (va : Nat) (a : Ask) : Bool := a.pasid == pasid && a.va / 4096 == va / 4096

/-- An ATS translation request is sent (R253). -/
def State.sendAsk (ch : Fin 16) (kind : TransFor) (va : Nat) (s : State) : State :=
  if !s.hostUp then s
  else
    let a : Ask := { kind := kind, va := va, pasid := s.askPasid ch kind }
    (((s.leaveL1.onCh ch fun c => { c with asks := c.asks ++ [a] }).emit (.atsRequest ch.val va)).count
      R.dmaAtcMiss 1).bump 0xB1 1

/-- A translation is needed: a channel waits for one at a time, and asks for no page that is on its way. -/
def State.ask (ch : Fin 16) (kind : TransFor) (va : Nat) (s : State) : State :=
  let c := s.ch ch
  if (kind ≠ .prefetch ∧ c.asked) ∨ c.asks.any (·.covers (s.askPasid ch kind) va) then s else s.sendAsk ch kind va

def Channel.noticeVa (c : Channel) : Nat := c.cRing + 64 * c.cTail

def Channel.descVa (c : Channel) : Nat := c.dRing + 32 * c.dHead

/-- The place in a unit of the byte issued next: the entry word of a cut entry goes last (R210). -/
def DUnit.place (u : DUnit) (issued : Nat) : Nat :=
  match u.kind with
  | .cutEntry _ => (issued + 32) % u.size
  | _ => issued

/-- Bytes of a unit from there on that may go in one piece. -/
def DUnit.left (u : DUnit) (issued : Nat) : Nat :=
  match u.kind with
  | .cutEntry _ => if u.place issued < 32 then 32 - u.place issued else u.size - u.place issued
  | _ => u.size - issued

/-- The next byte a channel writes in its buffer. -/
def Channel.nextVa (c : Channel) (b : OpenBuf) : Nat :=
  b.va + b.used + (match c.staging with | u :: _ => u.place c.issued | [] => 0)

/-! ### The link's share (R222, R247) -/

/-- The capacity of the link in force (R222), in 1/256 of the full link: width times rate. -/
def State.linkShare (s : State) : Nat :=
  s.link.width * (match s.link.rate with | 0 => 0 | 1 => 2 | 2 => 4 | 3 => 8 | 4 => 16 | _ => 32)

/-- Writes older than 4,000 ticks count no more. -/
def State.windowed (s : State) : State :=
  let now := s.now
  s.modDma fun d => { d with log := d.log.filter fun e => decide (now < e.1 + 4000) }

/-- A channel writes `n` bytes: it goes to the back of its class, and the bytes count for 4,000 ticks. -/
def State.spend (ch : Fin 16) (n : Nat) (s : State) : State :=
  let cls := s.chClass ch.val
  let now := s.now
  s.windowed.modDma fun d => { d with rr := d.rr.set! cls ((ch.val + 1) % 16), log := d.log ++ [(now, cls, n)] }

/-- Bytes that some classes wrote in the last 4,000 ticks. -/
def State.spent (s : State) (p : Nat → Bool) : Nat := ((s.dma.log.filter fun e => p e.2.1).map (·.2.2)).sum

/-- The caps of R247 for a write of `n` bytes of a class. -/
def State.underCap (s : State) (cls n : Nat) : Bool :=
  let k := s.linkShare
  (cls != 2 || decide (256 * (s.spent (· == 2) + n) ≤ 92000 * k)) &&
    ((cls != 2 && cls != 3) || decide (256 * (s.spent (fun c => c == 2 || c == 3) + n) ≤ 102000 * k))

/-- The notice that a channel can write now, and where. -/
def State.noticeReady (s : State) (ch : Fin 16) : Option (Notice × Nat) :=
  let c := s.ch ch
  if c.state == .held || c.state == .error || c.cplFull || c.ringFull || !s.hostUp then none
  else match c.notices with
    | [] => none
    | n :: _ => (s.translate c.pasid? c.noticeVa).map fun pa => (n, pa)

/-- The next segment of a unit that goes into the open buffer: its length, and where it goes. -/
def State.bufSegment (s : State) (ch : Fin 16) (u : DUnit) : Option (DUnit × Nat × Nat) :=
  let c := s.ch ch
  match c.buf with
  | some b =>
    if c.issued = 0 ∧ b.len < b.used + u.size then none
    else
      let va := c.nextVa b
      (s.translate (b.pasid? c) va).map fun pa => (u, min (256 - va % 256) (u.left c.issued), pa)
  | none => none

/-- The head of a channel may issue a segment: its length, and where it goes. -/
def State.segment (s : State) (ch : Fin 16) : Option (DUnit × Nat × Nat) :=
  let c := s.ch ch
  if !c.enabled || c.state == .held || c.causes % 8 != 0 || c.priWait || !c.notices.isEmpty || c.front.isSome ||
      !s.hostUp then none
  else match c.staging with
    | [] => none
    | u :: _ =>
      match u.kind with
      | .drop _ | .cutPlace _ => none
      | .completion p _ =>
        let q := s.cmd.queues[p.queue]
        if q.cqFull then none else (s.translate q.pasid? q.cplVa).map fun pa => (u, 16, pa)
      | _ =>
        match c.place? with
        | some p => (s.translate p.pasid p.va).map fun pa => (u, 32, pa)
        | none => s.bufSegment ch u

/-- The unit whose staging words tell whether a run of damaged ones goes on (R260): the head behind such a run. -/
def State.judged (s : State) (ch : Fin 16) : Option DUnit :=
  let c := s.ch ch
  if !c.enabled || c.state == .held || c.causes % 8 != 0 || c.priWait || !c.notices.isEmpty || !s.hostUp ||
      !c.front.any (·.cause == 1) then none
  else match c.staging with
    | [] => none
    | u :: _ => match u.kind with
      | .drop _ | .cutPlace _ => none
      | _ => some u

/-- The length of what a channel can do on the link now: reading a word of staging writes nothing yet. -/
def State.ready (s : State) (ch : Fin 16) : Option Nat :=
  if (s.noticeReady ch).isSome then some 64
  else if (s.judged ch).isSome then some 0
  else (s.segment ch).map (·.2.1)

/-- The channel the arbiter serves next: strict priority by class, round-robin within a class. -/
def State.arbiter (s : State) : Option (Fin 16) :=
  [0, 1, 2, 3, 4].findSome? fun cls =>
    (List.range 16).findSome? fun i =>
      let n := Fin.ofNat 16 ((s.dma.rr[cls]?.getD 0) + i)
      if s.chClass n.val = cls then
        match s.ready n with
        | some len => if s.underCap cls len then some n else none
        | none => none
      else none

/-! ### Notices (R248, R251) -/

/-- The 64 bytes of a notice. -/
def noticeBytes (n : Notice) (ch cls nseq : Nat) (phase : Bool) : List Byte :=
  leBytes 6 n.first ++ leBytes 6 n.last ++ leBytes 2 n.descId.toNat ++ leBytes 2 n.units ++ leBytes 4 n.bytes
    ++ leBytes 1 n.status ++ leBytes 1 (b2n n.replayed + 2 * b2n n.broke) ++ leBytes 1 n.cause
    ++ leBytes 1 (ch + 16 * cls) ++ leBytes 6 n.firstWc.toNat ++ leBytes 6 n.lastWc.toNat ++ leBytes 8 n.tick
    ++ leBytes 4 nseq ++ leBytes 15 0 ++ leBytes 1 (b2n phase)

/-- The oldest notice that waits is written. -/
def State.writeNotice (ch : Fin 16) (s : State) : State :=
  match s.noticeReady ch with
  | none => s
  | some (n, pa) =>
    let c := s.ch ch
    let bytes := noticeBytes n ch.val (s.chClass ch.val) c.nseq.toNat c.phase
    let s := (s.spend ch 64).touch c.pasid? c.noticeVa
    let s := s.onCh ch fun c =>
      let t := (c.cTail + 1) % 2 ^ c.cLog
      { c with notices := c.notices.drop 1, cTail := t, phase := if t = 0 then !c.phase else c.phase,
               lastNseq := c.nseq, nseq := c.nseq + 1 }
    let s := s.bump (0x90 + ch.val) 2
    if c.coh && s.link.cxl then
      (s.leaveL1.modLink fun l => { l with waiting := l.waiting ++ [(ch, pa, bytes, n.irq)] }).emit (.cacheRequest pa)
    else (s.writeOut c.pasid? pa bytes).iff n.irq (·.msix (16 + ch.val))

/-- A notice waits for SEGMENT_ISSUE to write it; the channel parks for want of a slot, or a translation is asked for. A
disabled channel drops, for want of a slot, all but its drop records. -/
def State.pushNotice (ch : Fin 16) (s : State) : State :=
  let c := s.ch ch
  if c.ringFull then
    if c.state = .disabled then s.onCh ch fun c => { c with notices := c.notices.filter (·.status = 0x80) }
    else s.park ch fun c => { c with cplFull := true }
  else s.iff ((s.translate c.pasid? c.noticeVa).isNone && !c.fault && !c.priWait) (·.ask ch .notice c.noticeVa)

/-! ### What a channel does next (R250, R253, R258) -/

/-- A doorbell that adds descriptors arrives in this same core cycle (R267). -/
def State.doorbellComes (s : State) (ch : Fin 16) : Bool :=
  s.pending.any fun
    | .dtail n i same => same && n == ch && (s.ch ch).dHead != i.toNat % 2 ^ (s.ch ch).dLog
    | _ => false

/-- A doorbell that frees completion slots of a queue arrives in this same core cycle (R290). -/
def State.slotComes (s : State) (q : Fin 8) : Bool :=
  let k := s.cmd.queues[q]
  s.pending.any fun
    | .cqHead n i same => same && n == q && (k.cqTail + 1) % 2 ^ k.cqLog != i.toNat % 2 ^ k.cqLog
    | _ => false

/-- A run that stands ahead of the unit in progress may go on with it: damaged units, or refused ones (R260). -/
def DropRun.goesOn (r : DropRun) : Bool := r.cause == 1 || r.cause == 2

/-- A place of 32 bytes is kept in the open buffer for a cut record (R210). -/
def State.keepPlace (ch : Fin 16) (id : BitVec 16) (s : State) : State :=
  s.onCh ch fun c =>
    match c.buf with
    | some b => { c with places := c.places ++ [{ id := id, va := b.va + b.used, pasid := b.pasid? c }],
                         buf := some { b with used := b.used + 32 } }
    | none => c

/-- The head unit finds the open buffer too small (R250): whatever would open it, or the next one. -/
def State.outgrown (ch : Fin 16) (b : OpenBuf) (n : Nat) (s : State) : State :=
  if b.used = 0 ∧ b.len < n then (s.closeBuf ch 0x05).raise (R.dmaChEvtTooSmall ch.val) else s.closeBuf ch 0x00

/-- The buffer side of the head unit: parking without descriptors, asking for translations, closing a buffer that the
unit does not fit. A run dropped ahead of the unit is written once the unit itself is known to be good: a refused run
goes on if the unit's own translation is refused too, and a damaged one if its staging words are, which SEGMENT_ISSUE
tells (`State.judged`). -/
def State.settleUnit (ch : Fin 16) (u : DUnit) (s : State) : State :=
  let c := s.ch ch
  if c.front.any (fun r => !r.goesOn) && c.issued == 0 then s.writeFront ch
  else match c.buf with
    | none =>
      if c.dEmpty then
        if s.doorbellComes ch then s else s.park ch fun c => { c with noBuf := true }
      else if (s.translate c.pasid? c.descVa).isNone then s.ask ch .descriptor c.descVa
      else s
    | some b =>
      if c.front.any (·.cause == 1) then s
      else if c.issued = 0 ∧ b.len < b.used + u.size then s.outgrown ch b u.size
      else if (s.translate (b.pasid? c) (c.nextVa b)).isNone then s.ask ch .segment (c.nextVa b)
      else s.writeFront ch

/-- The head of staging is the place of a cut record: 32 bytes of a buffer are kept for it, and nothing is written yet. -/
def State.settlePlace (ch : Fin 16) (id : BitVec 16) (s : State) : State :=
  let c := s.ch ch
  match c.buf with
  | none =>
    if c.dEmpty then
      if s.doorbellComes ch then s else s.park ch fun c => { c with noBuf := true }
    else if (s.translate c.pasid? c.descVa).isNone then s.ask ch .descriptor c.descVa
    else s
  | some b => if b.len < b.used + 32 then s.outgrown ch b 32 else (s.keepPlace ch id).popHead ch

/-- The head of staging is a cut record with a place of its own. -/
def State.settleRecord (ch : Fin 16) (p : CutPlace) (s : State) : State :=
  let c := s.ch ch
  if c.front.any (fun r => !r.goesOn) then s.writeFront ch
  else if c.front.any (·.cause == 1) then s
  else if (s.translate p.pasid p.va).isNone then s.ask ch .segment p.va
  else s.writeFront ch

/-- The channel has delivered all that staging holds: what stands ahead of the save-all, the end of a stop, going live. A
run that the next unit may go on waits for it. -/
def State.settleEmpty (ch : Fin 16) (s : State) : State :=
  let c := s.ch ch
  if !c.saved.isEmpty then s
  else if c.front.any fun r => c.stopping || !r.goesOn then s.writeFront ch
  else if c.stopping then
    if c.buf.isSome then s.closeBuf ch 0x03
    else match c.runs, c.drop with
      | r :: rs, _ => (s.putDrop ch r).onCh ch fun c => { c with runs := rs }
      | [], some r => (s.writeDrop ch r).onCh ch fun c => { c with drop := none }
      | [], none => (s.onCh ch fun c => { c with state := .disabled, stopping := false }).unbind ch
  else if c.state = .replaying then s.goLive ch
  else s

/-- The channel's next step short of issuing a segment. -/
def State.settleOnce (ch : Fin 16) (s : State) : State :=
  let c := s.ch ch
  if c.state == .held || c.state == .error then s
  else if !c.notices.isEmpty then s.iff (!c.cplFull) (·.pushNotice ch)
  else if c.state == .disabled || c.causes % 8 != 0 || c.priWait then s
  else match c.staging with
    | [] => s.settleEmpty ch
    | u :: _ =>
      match u.kind with
      | .drop r => if c.front.isSome then s.writeFront ch else (s.putDrop ch r).popHead ch
      | .cutPlace id => s.settlePlace ch id
      | .completion p _ =>
        let q := s.cmd.queues[p.queue]
        if c.front.any (·.cause != 1) then s.writeFront ch
        else if c.front.isSome then s
        else if q.cqFull then
          if s.slotComes p.queue then s
          else (s.raise (R.cmdQEvtCqWait p.queue.val)).park ch fun c => { c with cplFull := true }
        else if (s.translate q.pasid? q.cplVa).isNone then s.ask ch .segment q.cplVa
        else s
      | _ =>
        match c.place? with
        | some p => s.settleRecord ch p
        | none => s.settleUnit ch u

/-! ### What the command queues bound to a channel ask for (R268, R271) -/

/-- The first place in a block of host memory that has no translation. -/
def State.gap (s : State) (pasid : Option (BitVec 20)) (va len : Nat) : Option Nat :=
  (List.range (ceilDiv (va % 4096 + len) 4096)).findSome? fun i =>
    let a := if i = 0 then va else va / 4096 * 4096 + 4096 * i
    if (s.translate pasid a).isNone then some a else none

/-- The translation needed next: of a data-in block, else of the next packet of a queue. -/
def State.queueNeed (s : State) (ch : Fin 16) : Option (TransFor × Nat) :=
  let data := s.cmd.packets.findSome? fun p =>
    if p.ref.tw || p.stage != .dispatched || p.data.isSome || p.noData || p.dlen == 0 || p.dc != ch.val then none
    else (s.gap p.pasid p.dva p.dlen).map fun a => (TransFor.dataIn p.ref, a)
  match data with
  | some x => some x
  | none => (List.finRange 8).findSome? fun q =>
    let u := s.cmd.queues[q]
    if u.enabled && !u.error && u.dc == ch.val && !u.sqEmpty && (s.translate u.pasid? u.fetchVa).isNone then
      some (.packet q, u.fetchVa)
    else none

/-- A channel of class 1 asks for its queues, while it asks for nothing itself (assumption 80). -/
def State.askQueues (ch : Fin 16) (s : State) : State :=
  let c := s.ch ch
  if s.link.ats && c.enabled && c.state != .held && !c.asked && !c.fault && !c.priWait && s.chClass ch.val == 1 then
    match s.queueNeed ch with
    | some (f, va) => s.ask ch f va
    | none => s
  else s

/-- The channel runs on until nothing is left to do at once; each drop record in staging takes a few steps more. -/
def State.settle (ch : Fin 16) (s : State) : State :=
  let more := (s.ch ch).runs.length + ((s.ch ch).staging.filter fun u => u.bytes.isEmpty).length
  ((List.range (8 + 4 * more)).foldl (fun s _ => s.settleOnce ch) s).askQueues ch

/-! ### Units handed to a channel (R246, R256, R262) -/

/-- DMA_UNIT_ACCEPT: a producer hands a unit over. -/
def State.handUnit (ch : Fin 16) (u : DUnit) (s : State) : State :=
  let s := s.leaveL1
  let c := s.ch ch
  if !c.enabled || c.stopping then s.dropUnit ch 3 u
  else match c.state with
    | .live =>
      let s := s.endRun ch
      if 262144 < (s.ch ch).staged + u.size then
        (((s.raise R.glbBudgetLnkOver).park ch fun c => { c with linkCap := true }).spill ch u).stagingDrained ch
      else (s.onCh ch fun c => { c with staging := c.staging ++ [u] }).settle ch
    | .held => (s.raise R.glbBudgetLnkOver).spill ch u
    | _ => s.spill ch u

/-- A unit of a class is handed over. A channel whose class has been changed since carries no such stream (R245): the unit
is dropped as one handed to a channel that cannot take it (DESIGN CHOICE, assumption 88). -/
def State.handClass (cls : Nat) (ch : Fin 16) (u : DUnit) (s : State) : State :=
  if s.chClass ch.val = cls then s.handUnit ch u else s.dropUnit ch 3 u

/-! ### Segments (R247) -/

/-- The bytes of a completion as it is written: its data may have been dropped since it was handed over (R273), and the
phase of the pass (R272). -/
def completionBytes (bs : List Byte) (lost phase : Bool) : List Byte :=
  let bs := if lost then (bs.take 4 ++ [0x0B, 0x01]) ++ bs.drop 6 else bs
  (fit 15 bs) ++ leBytes 1 (b2n phase)

/-- DMA_CH_UNITS counts a unit delivered. -/
def State.countUnit (ch : Fin 16) (s : State) : State :=
  let total := s.fget (R.dmaUnitsLo ch.val) + 2 ^ 32 * s.fget (R.dmaUnitsHi ch.val) + 1
  (s.fset (R.dmaUnitsLo ch.val) total).fset (R.dmaUnitsHi ch.val) (total / 2 ^ 32)

/-- A unit placed whole in the open buffer (R250, R251): a cut record is no line, and leaves LAST_WC as it is. -/
def OpenBuf.take (now : Nat) (u : DUnit) (b : OpenBuf) : OpenBuf :=
  let rec? := match u.kind with | .cutRecord _ => true | _ => false
  { b with used := b.used + u.size, units := b.units + 1,
           first := if b.units = 0 then u.seq else b.first, last := u.seq,
           firstWc := if b.units = 0 then u.wc else b.firstWc, lastWc := if rec? then b.lastWc else u.wc,
           broke := b.broke || u.broke, replayed := b.replayed || u.replay,
           opened := if b.units = 0 then some now else b.opened }

/-- The record of a cut has been written (R211). -/
def State.recordWritten (id : BitVec 16) (s : State) : State :=
  s.modReel fun r =>
    { r with cuts := r.cuts.map fun (o : Cut) => { o with written := o.written || (o.id == id && o.recorded) } }

/-- The unit in progress is delivered whole: it leaves staging and its buffer takes it (R250). -/
def State.delivered (ch : Fin 16) (u : DUnit) (s : State) : State :=
  let now := s.now
  let s := (s.countUnit ch).onCh ch fun c => { c with buf := c.buf.map (·.take now u) }
  let s := match (s.ch ch).buf, u.kind with
    | some _, .cutRecord id => (s.closeBuf ch 0x04).recordWritten id
    | some b, _ => if b.maxUnits ≠ 0 ∧ b.maxUnits ≤ b.units then s.closeBuf ch 0x01 else s
    | none, _ => s
  (s.popHead ch).settle ch

/-- A cut record is written at its place (R210): it ends the buffer that is open then (R250), which counts it as a unit
where it lies in it. -/
def State.writeRecord (ch : Fin 16) (id : BitVec 16) (p : CutPlace) (u : DUnit) (pa : Nat) (s : State) : State :=
  let now := s.now
  let s := ((((s.touch p.pasid p.va).writeOut p.pasid pa (fit 32 u.bytes)).bump (0x90 + ch.val) 1).bump 0xB0 1).countUnit ch
  let s := s.onCh ch fun c =>
    { c with places := c.places.erase p,
             buf := c.buf.map fun b =>
               if b.va ≤ p.va ∧ p.va < b.va + b.used then b.take now { u with bytes := [] } else b }
  let s := s.iff ((s.ch ch).buf.any fun b => b.units != 0) (·.closeBuf ch 0x04)
  ((s.recordWritten id).popHead ch).settle ch

/-- A completion is written into its ring (R269, R272). -/
def State.writeCompletion (ch : Fin 16) (p : PktRef) (irq : Bool) (u : DUnit) (pa : Nat) (s : State) : State :=
  let q := s.cmd.queues[p.queue]
  let lost := (s.ch ch).lostData.contains p
  let s := (s.touch q.pasid? q.cplVa).writeOut q.pasid? pa (completionBytes u.bytes lost q.phase)
  let s := s.modCmd fun c =>
    { c with queues := vupd c.queues p.queue fun q =>
        let t := (q.cqTail + 1) % 2 ^ q.cqLog
        { q with cqTail := t, phase := if t = 0 then !q.phase else q.phase } }
  let s := (s.onCh ch fun c => { c with lostData := c.lostData.erase p }).countUnit ch
  let s := (s.iff irq (·.raise (R.cmdQEvtCpl p.queue.val))).iff u.isReset (·.resetDue)
  (((s.bump (0x90 + ch.val) 1).bump 0xB0 1).popHead ch).settle ch

/-- The prefetch of R252: as the writing of `n` bytes passes the middle of a page, the buffer's next page is asked for. -/
def State.prefetchNext (ch : Fin 16) (b : OpenBuf) (va n : Nat) (s : State) : State :=
  let pasid := b.pasid? (s.ch ch)
  let page := s.pageSize pasid va
  let next := (va / page + 1) * page
  s.iff (decide (va % page < page / 2) && decide (page / 2 ≤ va % page + n) && decide (next < b.va + b.len) &&
    (s.translate pasid next).isNone) (·.ask ch .prefetch next)

/-- One segment of a unit is written: the last one delivers it. -/
def State.writeSegment (ch : Fin 16) (u : DUnit) (n pa : Nat) (s : State) : State :=
  let c := s.ch ch
  match c.buf with
  | none => s
  | some b =>
    let va := c.nextVa b
    let s := (s.touch (b.pasid? c) va).prefetchNext ch b va n
    let bytes := ((u.bytes ++ List.replicate 31 0).drop (u.place c.issued)).take n
    let s := ((s.writeOut (b.pasid? c) pa bytes).bump (0x90 + ch.val) (ceilDiv n 32)).bump 0xB0 1
    let s := s.onCh ch fun c => { c with issued := c.issued + n }
    if u.size ≤ (s.ch ch).issued then s.delivered ch u else s.settle ch

/-- SEGMENT_ISSUE (R247): the arbiter's channel writes the notice that waits, else the next segment of its head unit. An
uncorrectable staging word drops the unit instead, or on a notice puts the channel in error (R261); a disabled channel
loses that notice alone. Behind a run of damaged units the head is read first: it goes on with the run, or ends it
(R260). -/
def State.segmentIssue (ue : Bool) (s : State) : State :=
  let s := s.windowed
  match s.arbiter with
  | none => s
  | some ch =>
    if (s.noticeReady ch).isSome then
      if !ue then (s.writeNotice ch).settle ch
      else if (s.ch ch).state = .disabled then s.onCh ch fun c => { c with notices := c.notices.drop 1 }
      else s.chError ch
    else if let some u := s.judged ch then
      if ue then ((s.dropFront ch 1 u).popHead ch).settle ch else (s.writeFront ch).settle ch
    else match s.segment ch with
      | none => s
      | some (u, n, pa) =>
        let s := s.spend ch n
        if ue then ((s.dropFront ch 1 u).popHead ch).settle ch
        else match u.kind with
          | .completion p irq => s.writeCompletion ch p irq u pa
          | .cutRecord id =>
            match (s.ch ch).place? with
            | some p => s.writeRecord ch id p u pa
            | none => s.writeSegment ch u n pa
          | _ => s.writeSegment ch u n pa

/-! ### Faults (R253, R254) -/

/-- The unit in progress loses its translation for good (R254): the buffer closes with STATUS 0x06 and the unit is
dropped; on a descriptor fetch or a notice or completion write the channel is in error (R261); on a packet fetch the
queue is (R270), and a data-in block cannot be read (R271). -/
def State.refuse (ch : Fin 16) (s : State) : State :=
  let c := s.ch ch
  let s := s.onCh ch fun c => { c with fault := false, priWait := false }
  match c.faultFor, c.staging with
  | .segment, u :: _ =>
    match u.kind with
    | .completion _ _ => s.chError ch
    | _ => ((((s.closeBuf ch 0x06).dropFront ch 2 u).raise (R.dmaChEvtRefused ch.val)).popHead ch).settle ch
  | .segment, [] => (s.resume ch).settle ch
  | .packet q, _ =>
    (((s.modCmd fun c => { c with queues := vupd c.queues q fun u => { u with error := true } }).raise
      (R.cmdQEvtFetchErr q.val)).resume ch).settle ch
  | .dataIn r, _ =>
    ((s.modCmd fun c =>
      { c with packets := c.packets.map fun p => if p.ref = r then { p with noData := true } else p }).resume ch).settle ch
  | .prefetch, _ => s
  | _, _ => s.chError ch

/-- A page request is raised (R253). -/
def State.pageRequest (ch : Fin 16) (s : State) : State :=
  let va := (s.ch ch).faultVa
  let now := s.now
  (((s.modDma fun d => { d with pageReq := d.pageReq ++ [{ ch := ch, page := va / 4096, tick := now }] }).emit (.pageRequest ch.val va)).count
    (R.dmaChFaults ch.val) 1).bump 0xB2 1 |>.trace 0x11 ch.val (BitVec.ofNat 32 (va / 4096))

/-- TRANSLATION_FAULT (R253): the channel faults for an address. -/
def State.faults (ch : Fin 16) (for' : TransFor) (va : Nat) (s : State) : State :=
  let s := (s.onCh ch fun c => { c with faultVa := va, faultFor := for' })
    |>.fset (R.dmaFaultVaLo ch.val) va |>.fset (R.dmaFaultVaHi ch.val) (va / 2 ^ 32)
  if s.dma.priFail ∨ ¬ s.link.pri then (s.onCh ch fun c => { c with fault := false }).refuse ch
  else if s.dma.pageReq.length < 64 then (s.park ch fun c => { c with fault := true }).pageRequest ch
  else (s.park ch fun c => { c with fault := false, priWait := true }).modDma fun d => { d with priQ := d.priQ ++ [ch] }

/-- A channel whose translation has come, or is needed no more, goes on: FAULT clears (R254). -/
def State.unfault (ch : Fin 16) (s : State) : State := (s.unpark ch fun c => { c with fault := false }).settle ch

/-- TRANSLATION_COMPLETION (R252, R253): the answer to the request that stands at place `nth` of those the channel has out;
one to a prefetch touches no fault. With ATS off nothing is asked: a completion without translation then stands for a
fault on an untranslated request, which puts the channel in error (R235). A disabled channel writes no more. -/
def State.translated (ch : Fin 16) (nth : Nat) (valid write big : Bool) (pa : Nat) (s : State) : State :=
  let c := s.ch ch
  match c.asks[nth]? with
  | none => s.iff (c.asks.isEmpty && !valid && !s.link.ats && c.enabled && c.state != .held) (·.chError ch)
  | some a =>
    let s := s.onCh ch fun c => { c with asks := c.asks.eraseIdx nth }
    let s := s.iff valid fun s => s.modDma fun d =>
        { d with atc := ({ pasid := a.pasid, va := a.va, big := big, write := write, pa := pa } ::
            d.atc.filter fun e => !e.hits a.pasid a.va).take 4096 }
    if a.kind = .prefetch then s.settle ch
    else if (valid && write) || !s.link.ats then s.unfault ch
    else if c.state = .disabled then s.onCh ch fun c => { c with notices := c.notices.filter (·.status = 0x80) }
    else s.faults ch a.kind a.va

/-- A page request slot frees: the first channel that waits raises its request (R253). With ATS off it needs none (R235);
where none may be raised any more its translation is refused (R254). -/
def State.grantPri (s : State) : State :=
  match s.dma.priQ with
  | [] => s
  | ch :: rest =>
    if 64 ≤ s.dma.pageReq.length ∨ ¬ s.hostUp then s
    else
      let s := s.modDma fun d => { d with priQ := rest }
      if !s.link.ats then (s.unpark ch fun c => { c with priWait := false }).settle ch
      else if s.dma.priFail ∨ ¬ s.link.pri then s.refuse ch
      else (s.onCh ch fun c => { c with priWait := false, fault := true }).pageRequest ch

/-- A page request is over; a channel that was parked for it waits on or goes on by `g` (R254). -/
def State.endRequest (r : PageReq) (g : State → State) (s : State) : State :=
  let s := (s.modDma fun d => { d with pageReq := d.pageReq.erase r }).grantPri
  s.iff (r.live && (s.ch r.ch).fault) g

/-- PAGE_RESPONSE (R254): to the request at place `nth` of those the channel has out. A Response Failure sets PRI_FAIL
also where the channel waits no more. -/
def State.pageAnswer (ch : Fin 16) (nth : Nat) (code : PageCode) (s : State) : State :=
  match (s.dma.pageReq.filter (·.ch = ch))[nth]? with
  | none => s
  | some r =>
    let s := s.iff (code == .responseFailure) fun s =>
      (s.modDma fun d => { d with priFail := true }).raise R.dmaGlbEvtPriFail
    s.endRequest r fun s =>
      match code with
      | .success =>
        let c := s.ch ch
        if s.link.ats then s.sendAsk ch c.faultFor c.faultVa else s.unfault ch
      | _ => s.refuse ch

/-- PRI_TIMEOUT (R254): of the channel's oldest request that has waited so long. -/
def State.priExpired (ch : Fin 16) (s : State) : State :=
  let lim := s.fget R.dmaGlbCtrlPriTimeout
  match s.dma.pageReq.find? (fun r => r.ch = ch ∧ r.tick + lim * 1000000 ≤ s.now) with
  | none => s
  | some r => if lim = 0 then s else (s.raise R.dmaGlbEvtPriTimeout).endRequest r (·.refuse ch)

/-- An invalidation is completed (R255). -/
def State.completeInv (va : Nat) (s : State) : State := ((s.emit (.invalidated va)).count R.dmaInvCnt 1).bump 0xB3 1

/-- Coherent notices begun have been issued, `n` of them: invalidations that waited for no other are completed (R255). -/
def State.issuedNotices (n : Nat) (s : State) : State :=
  let done := s.dma.invs.filter fun i => decide (i.2 ≤ n)
  let s := s.modDma fun d =>
    { d with invs := (d.invs.filter fun i => decide (n < i.2)).map fun i => (i.1, i.2 - n) }
  s.each done fun i s => s.completeInv i.1

/-- INVALIDATION (R255): the entries it matches go; every next segment is translated afresh. It is completed once every
notice begun before has been issued. -/
def State.invalidate (pasid : Option (BitVec 20)) (va size : Nat) (s : State) : State :=
  let out (e : AtcEntry) : Bool :=
    let n := if e.big then 2 ^ 21 else 4096
    e.pasid == pasid && decide (e.va / n * n < va + size) && decide (va < e.va / n * n + n)
  let begun := s.link.waiting.length
  let s := s.modDma fun d => { d with atc := d.atc.filter fun e => !out e }
  let s := if begun = 0 then s.completeInv va else s.modDma fun d => { d with invs := d.invs ++ [(va, begun)] }
  s.each (List.finRange 16) fun ch s => s.settle ch

/-! ### Descriptors, doorbells, timeouts, replay (R248 to R250, R258) -/

/-- DESCRIPTOR_FETCH (R248, R249, R252): the buffer opens, and its first page is asked for. -/
def State.fetchDescriptor (ch : Fin 16) (res : FetchResult) (d : BitVec 256) (s : State) : State :=
  let c := s.ch ch
  if !c.enabled || c.state == .held || c.buf.isSome || c.dEmpty || !s.hostUp ||
      (s.translate c.pasid? c.descVa).isNone then s
  else match res with
    | .refused | .uncorrectable => s.chError ch
    | .ok =>
      let s := s.leaveL1.touch c.pasid? c.descVa
      let s := s.onCh ch fun c => { c with dHead := (c.dHead + 1) % 2 ^ c.dLog }
      let now := s.now
      let id : BitVec 16 := d.extractLsb' 96 16
      let irq := bitOf d 112
      if bitOf d 159 ∧ ¬ s.link.pasid then
        ((s.onCh ch fun c =>
          { c with notices := c.notices ++ [{ descId := id, status := 0x08, tick := now, irq := irq }] }).raise
          (R.dmaChEvtPasidRef ch.val)).settle ch
      else
        let b : OpenBuf :=
          { va := bits d 0 64 / 32 * 32, len := bits d 64 32 / 32 * 32, id := id, irq := irq,
            pasid := d.extractLsb' 128 20, pv := bitOf d 159, maxUnits := bits d 160 16, timeout := bits d 176 16 }
        let s := s.onCh ch fun c => { c with buf := some b }
        (s.iff (s.translate (b.pasid? c) b.va).isNone (·.ask ch .prefetch b.va)).settle ch

/-- A unit is in progress in the open buffer: part of it is written, or its first segment waits for its translation
(R253, R258). -/
def Channel.inProgress (c : Channel) : Bool :=
  c.issued != 0 || ((c.fault || c.priWait) && c.faultFor == .segment) || c.asks.any (·.kind == .segment)

/-- BUFFER_TIMEOUT (R250): judged between units. -/
def State.bufTimeout (ch : Fin 16) (s : State) : State :=
  let c := s.ch ch
  match c.buf with
  | some b =>
    match b.opened with
    | some t =>
      if b.timeout ≠ 0 ∧ ¬ c.inProgress ∧ t + 1000 * b.timeout ≤ s.now then (s.leaveL1.closeBuf ch 0x02).settle ch else s
    | none => s
  | none => s

/-- DTAIL (R248). -/
def State.ringTail (ch : Fin 16) (idx : BitVec 13) (s : State) : State :=
  if (s.ch ch).state = .disabled then s
  else
    let s := (s.onCh ch fun c => { c with dTail := idx.toNat }).leaveL1
    (s.iff (s.ch ch).noBuf (·.unpark ch fun c => { c with noBuf := false })).settle ch

/-- What the channel waits for under CPL_FULL still has no slot (R251, R272). -/
def State.slotBlocked (s : State) (ch : Fin 16) : Bool :=
  let c := s.ch ch
  if !c.notices.isEmpty then c.ringFull
  else match c.staging with
    | u :: _ =>
      match u.kind with
      | .completion p _ => s.cmd.queues[p.queue].cqFull
      | _ => false
    | [] => false

/-- A slot may have been freed: a channel that waits for one goes on. -/
def State.slotFreed (ch : Fin 16) (s : State) : State :=
  (s.iff ((s.ch ch).cplFull && !s.slotBlocked ch) (·.unpark ch fun c => { c with cplFull := false })).settle ch

/-- CHEAD (R248). A channel that waits for a slot goes on when one is free. -/
def State.ringHead (ch : Fin 16) (idx : BitVec 13) (s : State) : State :=
  if (s.ch ch).state = .disabled then s
  else
    let s := (s.onCh ch fun c => { c with cHead := idx.toNat }).leaveL1
    s.slotFreed ch

/-- A marker that replay reads damaged says no more than that units were dropped (R259): what it held is free
(assumption 7). -/
def State.lostMarker (s : State) : DropRun :=
  let w (i : Nat) : Nat := (Config.freeWord (s.free + i)).toNat
  { cause := 1, units := w 0 % 65536, first := w 1 + 2 ^ 32 * (w 2 % 65536), last := w 3 + 2 ^ 32 * (w 4 % 65536),
    firstWc := BitVec.ofNat 48 (w 5 + 2 ^ 32 * w 6), lastWc := BitVec.ofNat 48 (w 7 + 2 ^ 32 * w 8),
    broke := w 9 % 2 == 1, tick := w 10 + 2 ^ 32 * w 11 }

/-- REPLAY_READ (R213, R258, R259): the next item of the save-all, in order. `ue` names the words read uncorrectable,
`tags` words whose tag reads as given; `ce` words were corrected. An item with a word of either kind, its tag another than
the one it was written with, is damaged. -/
def State.replay (ch : Fin 16) (ce : Nat) (ue : List Nat) (tags : List (Nat × BitVec 6)) (s : State) : State :=
  let c := s.ch ch
  if c.state ≠ .replaying ∨ ¬ c.staging.isEmpty ∨ s.reelOff then s
  else match c.saved with
    | [] => s.settle ch
    | i :: rest =>
      let n := i.size / 32
      let bad := ue.any (fun w => decide (w < n)) || tags.any fun (w, g) => decide (w < n) && g != c.saveTag w
      let s := s.iff (decide (0 < ce)) fun s => ((s.raise R.relEvtEccCe).count R.relCeCnt ce).bump 0x8E ce
      let s := (s.onCh ch fun c => { c with saved := rest }).drainChunks ch i.size
      match i with
      | .marker r =>
        let r := if bad then s.lostMarker else r
        let s := if bad then { s with free := s.free + 12 } else s
        ((s.writeFront ch).putDrop ch r).settle ch
      | .unit u =>
        if u.kind = .gone then s.settle ch
        else if bad then (s.dropFront ch 1 u).settle ch
        else (s.onCh ch fun c => { c with staging := [{ u with replay := true }] }).settle ch

/-! ### Enable, disable, stop (R263, R264) -/

/-- Everything the channel still holds short of the records that wait, in channel order: staging, then the save-all. -/
def Channel.holdings (c : Channel) : List SaveItem :=
  (c.staging.map fun u => match u.kind with | .drop r => .marker r | _ => .unit u) ++
    c.saved.filter fun i => match i with | .unit u => u.kind != .gone | .marker _ => true

/-- A held item is given up: a unit is dropped, a record is put in its place. -/
def State.giveUp (ch : Fin 16) (cause : Nat) (i : SaveItem) (s : State) : State :=
  match i with
  | .unit u => s.dropFront ch cause u
  | .marker r => (s.writeFront ch).putDrop ch r

/-- EN is cleared (R263): what the channel holds is dropped with cause 0x03; the record is written if the completion
ring can take it, and waits for the restart if not; the buffer is abandoned. -/
def State.disableCh (ch : Fin 16) (s : State) : State :=
  if (s.ch ch).state = .disabled then s
  else
    let c := s.ch ch
    let s := s.onCh ch fun c => { c with buf := none, places := [], staging := [], issued := 0, saved := [], asks := [] }
    let s := (s.freeChunks ch).each c.holdings fun i s => s.giveUp ch 3 i
    let s := s.iff (!(c.ringFull || c.state == ChState.held)) (·.writeFront ch)
    (((s.forget ch).onCh ch fun c =>
      { c with state := .disabled, stopping := false, asks := [], fault := false, noBuf := false,
               cplFull := false, linkCap := false, priWait := false, linkLoss := false }).unbind ch).settle ch

/-- STOP (R263): the channel delivers what it was handed, then closes and becomes disabled. -/
def State.stopCh (ch : Fin 16) (s : State) : State :=
  let c := s.ch ch
  if !c.enabled then s else (s.leaveL1.onCh ch fun c => { c with stopping := true }).settle ch

/-- CHANNEL_HELD (R264): the unit in progress stays whole, what is queued behind it is spilled, the ring state is lost;
drop records that wait are kept. -/
def State.holdCh (ch : Fin 16) (s : State) : State :=
  let c := s.ch ch
  if !c.enabled then s
  else
    let fresh := c.state == .live || c.state == .replaying || (c.state == .parked && c.causes == 0)
    -- R28: units queued behind the unit in progress spill for want of the link
    let s := s.iff (decide (1 < c.staging.length)) (·.raise R.glbBudgetLnkOver)
    let s := (s.forget ch).onCh ch fun c =>
      { c with state := .held, fault := false, noBuf := false, cplFull := false, linkCap := false, priWait := false,
               linkLoss := true, issued := 0, buf := none, places := [], notices := c.notices.filter (·.status = 0x80), asks := [],
               dHead := 0, dTail := 0, cHead := 0, cTail := 0, phase := true }
    let s := s.spillQueue ch
    s.iff fresh fun s => ((s.raise (R.dmaChEvtPark ch.val)).count (R.dmaChParks ch.val) 1).trace 0x0E ch.val 0x20

/-- A ring size exponent, clamped (R265). -/
def ringLog (n : Nat) : Nat := clampNat 4 12 n

/-- RESUME = 0 (R264): the kept unit and the save-all contents are dropped as one run of cause 0x04, whose record is the
first notice; the records that waited follow. -/
def State.discardKept (ch : Fin 16) (s : State) : State :=
  let c := s.ch ch
  let s := (s.onCh ch fun c => { c with staging := [], notices := [], front := none }).freeChunks ch
  let s := s.each c.holdings fun i s => match i with | .unit u => s.dropFront ch 4 u | .marker _ => s
  let s := (s.writeFront ch).onCh ch fun o => { o with notices := o.notices ++ c.notices, front := c.front }
  (s.writeFront ch).each c.holdings fun i s => match i with | .marker r => s.putDrop ch r | .unit _ => s

/-- EN is set (R264, R235): a disabled, held or failed channel starts with the ring registers as written. -/
def State.enableCh (ch : Fin 16) (s : State) : State :=
  let n := ch.val
  let c := s.ch ch
  let pv := s.flag (R.dmaChPasidPv n)
  if c.state = .live ∨ c.state = .parked ∨ c.state = .replaying ∨ 4 < s.chClass n then s
  else if pv ∧ ¬ s.link.pasid then s.raise (R.dmaChEvtPasidRef n)
  else
    let resume := s.flag (R.dmaChCtrlResume n)
    let coh := s.flag (R.dmaChCtrlCoh n)
    let dLog := ringLog (s.fget (R.dmaChCtrlDringLog2 n))
    let cLog := ringLog (s.fget (R.dmaChCtrlCringLog2 n))
    let page (lo hi : Nat) : Nat := (lo + 2 ^ 32 * hi) / 4096 * 4096
    let dRing := page (s.fget (R.dmaDringLo n)) (s.fget (R.dmaDringHi n))
    let cRing := page (s.fget (R.dmaCringLo n)) (s.fget (R.dmaCringHi n))
    let pasid := BitVec.ofNat 20 (s.fget (R.dmaChPasid n))
    let s := s.leaveL1.onCh ch fun c =>
      { c with state := if resume ∧ (c.staging ≠ [] ∨ c.saved ≠ []) then .replaying else .live, linkLoss := false,
               fault := false, noBuf := false, cplFull := false, linkCap := false, priWait := false,
               issued := 0, buf := none, places := [], notices := c.notices.filter (·.status = 0x80), asks := [],
               coh := coh, dLog := dLog, cLog := cLog, dRing := dRing, cRing := cRing, pasid := pasid, pv := pv,
               dHead := 0, dTail := 0, cHead := 0, cTail := 0, phase := true, nseq := 0 }
    let s := s.iff (!resume) (·.discardKept ch)
    let s := s.iff ((s.ch ch).state == .live) fun s => if c.state = .held then s.goLive ch else s.placeRuns ch
    if s.hostUp then s.settle ch else s.holdCh ch

/-- A write of DMA_CH_CTRL: CLASS only while disabled; EN going from 0 to 1 starts the channel, from 1 to 0 disables it;
STOP is a go-bit (R262 to R264). -/
def State.writeChCtrl (ch : Fin 16) (v : Word) (s : State) : State :=
  let old := s.reg (0x090000 + 512 * ch.val)
  let cls := if (s.ch ch).state = .disabled then bits v 4 3 else bits old 4 3
  let w := setBits (setBits v 4 3 cls) 2 1 0 &&& 0x7FFFFF7F
  let s := s.setReg (0x090000 + 512 * ch.val) w
  let was := bitOf old 0
  let s := if bitOf v 0 then s.iff (!was) (·.enableCh ch) else s.iff was (·.disableCh ch)
  s.iff (bitOf v 2) (·.stopCh ch)

/-! ### The commands -/

/-- SEGMENT_ISSUE (R247). -/
def execSegmentIssue (stagingUe : Bool) (s : State) : Answer := .next (s.segmentIssue stagingUe)

/-- BUFFER_TIMEOUT (R250). -/
def execBufferTimeout (ch : Fin 16) (s : State) : Answer := .next (s.bufTimeout ch)

/-- DESCRIPTOR_FETCH (R248). -/
def execDescriptorFetch (ch : Fin 16) (res : FetchResult) (desc : BitVec 256) (s : State) : Answer :=
  .next (s.fetchDescriptor ch res desc)

/-- TRANSLATION_COMPLETION (R253). -/
def execTranslationCompletion (ch : Fin 16) (nth : Nat) (valid write big : Bool) (pa : Nat) (s : State) : Answer :=
  .next (s.translated ch nth valid write big pa)

/-- PAGE_RESPONSE (R254). -/
def execPageResponse (ch : Fin 16) (nth : Nat) (code : PageCode) (s : State) : Answer := .next (s.pageAnswer ch nth code)

/-- PRI_TIMEOUT (R254). -/
def execPriTimeout (ch : Fin 16) (s : State) : Answer := .next (s.priExpired ch)

/-- INVALIDATION (R255). -/
def execInvalidation (pasid : Option (BitVec 20)) (va size : Nat) (s : State) : Answer :=
  .next (s.invalidate pasid va size)

/-- REPLAY_READ (R258). -/
def execReplayRead (ch : Fin 16) (ce : Nat) (ue : List Nat) (tags : List (Nat × BitVec 6)) (_same : Bool) (s : State) : Answer :=
  .next (s.replay ch ce ue tags)

/-- DTAIL (R248): the doorbell. -/
def execDtail (ch : Fin 16) (idx : BitVec 13) (_same : Bool) (s : State) : Answer := .next (s.ringTail ch idx)

/-- CHEAD (R248): the doorbell. -/
def execChead (ch : Fin 16) (idx : BitVec 13) (_same : Bool) (s : State) : Answer := .next (s.ringHead ch idx)

end Sys2Proof.Machine
end

