-- ==== Sys2Proof/Machine/Command.lean ====
section
/-! DEFINITION. The command path (R268 to R290): queues, packets, dispatch, completions and returned data, the two-wire
mailbox, and what every Pelquel opcode shares. -/

namespace Sys2Proof.Machine

/-! ### Packets (R271) -/

def Packet.op (p : Packet) : Nat := bits p.bytes 0 16
def Packet.tag (p : Packet) : Nat := bits p.bytes 16 16
def Packet.fence (p : Packet) : Bool := bitOf p.bytes 32
def Packet.irq (p : Packet) : Bool := bitOf p.bytes 33
def Packet.cancel (p : Packet) : Bool := bitOf p.bytes 34
def Packet.len (p : Packet) : Nat := bits p.bytes 48 16
/-- R277: the opcode class. -/
def Packet.cls (p : Packet) : Nat := p.op / 256
/-- R283: taken by the fast path. -/
def Packet.fast (p : Packet) : Bool := p.op == 0x0101
/-- Parameter bytes i to i + n − 1; bytes at or beyond LEN count as 0. -/
def Packet.par (p : Packet) (i n : Nat) : Nat := bits p.bytes (192 + 8 * i) (8 * n) % 2 ^ (8 * (p.len - i))
/-- The data-in block. -/
def Packet.block (p : Packet) : List Byte := p.data.getD []

def State.packet (s : State) (r : PktRef) : Option Packet := s.cmd.packets.find? (·.ref = r)

def State.onPacket (r : PktRef) (g : Packet → Packet) (s : State) : State :=
  s.modCmd fun c => { c with packets := c.packets.map fun p => if p.ref = r then g p else p }

def State.queue (s : State) (q : Fin 8) : CmdQueue := s.cmd.queues[q]

def State.onQueue (q : Fin 8) (g : CmdQueue → CmdQueue) (s : State) : State :=
  s.modCmd fun c => { c with queues := vupd c.queues q g }

/-! ### Completions and returned data (R272, R273, R286, R287) -/

/-- Registers from `off` on take the words of little-endian bytes; a last word that is cut keeps its other bytes. -/
def State.storeBytes (off : Nat) (bs : List Byte) (s : State) : State :=
  s.each (List.range (ceilDiv bs.length 4)) fun i s =>
    let part := (bs.drop (4 * i)).take 4
    s.setReg (off + 4 * i) (setBits (s.reg (off + 4 * i)) 0 (8 * part.length) (ofLeBytes part))

/-- The first 15 bytes of a completion. -/
def completionHead (r : PktRef) (op status detail sqHead result dwords : Nat) : List Byte :=
  leBytes 2 r.tag.toNat ++ leBytes 2 op ++ leBytes 1 status ++ leBytes 1 detail ++ leBytes 2 sqHead
    ++ leBytes 4 result ++ leBytes 2 dwords ++ leBytes 1 (r.queue.val + 8 * b2n r.tw)

/-- The mailbox takes a completion and its data (R286). A mailbox has no ring: its SQ_HEAD and PHASE are not stated and
are free (assumption 7). -/
def State.mailboxDone (r : PktRef) (op status detail result : Nat) (data : List Byte) (s : State) : State :=
  let w := (Config.freeWord s.free).toNat
  let s := { s with free := s.free + 1 }
  let bytes := completionHead r op status detail (w / 65536) result (ceilDiv data.length 32) ++ leBytes 1 (w % 2)
  let s := (s.storeBytes 0x0A2000 (data.take 4096)).storeBytes 0x0A1050 (bytes.take 16)
  (((s.modCmd fun c => { c with busy := false }).fset R.cmdTwCtrlBusy 0).raise R.cmdTwEvtDone).bump 0xD8 1

/-- Returned data as a unit: the header of R273 and the data padded to whole words. -/
def dataUnit (r : PktRef) (op : Nat) (data : List Byte) : DUnit :=
  { kind := .data r
    bytes := fit 32 (leBytes 2 r.tag.toNat ++ leBytes 2 op ++ leBytes 1 r.queue.val ++ [0, 0, 0] ++ leBytes 4 data.length)
      ++ fit (32 * ceilDiv data.length 32) data }

/-- The mailbox's packet is taken while fewer than 64 are held (R270). -/
def State.takeMail (s : State) : State :=
  match s.cmd.mail with
  | some p =>
    if s.cmd.packets.length < 64 then s.modCmd fun c => { c with packets := c.packets ++ [p], mail := none } else s
  | none => s

/-- A command completes, once: its packet leaves; its data and its completion go to the queue's channel, the mailbox,
or nowhere if its queue was reset. -/
def State.complete (r : PktRef) (status detail result : Nat) (data : List Byte) (s : State) : State :=
  match s.packet r with
  | none => s
  | some p =>
    let now := s.now
    let s := (s.modCmd fun c => { c with packets := c.packets.filter (·.ref ≠ r), atReam := c.atReam.erase r }).takeMail
    let s := s.modTnd fun t => { t with idleFrom := now }
    let reset := p.op == 4 && status == 0
    if r.tw then (s.mailboxDone r p.op status detail result data).iff reset (·.resetDue)
    else
      let s := s.bump (0xD0 + r.queue.val) 1
      let q := s.queue r.queue
      if p.lost ∨ ¬ q.enabled then (s.loseCompletion r.queue).iff reset (·.resetDue)
      else
        let ch := Fin.ofNat 16 q.dc
        let s := if data.isEmpty then s else s.handClass 1 ch (dataUnit r p.op data)
        s.handClass 1 ch { kind := .completion r p.irq,
                           bytes := completionHead r p.op status detail q.sqHead result (ceilDiv data.length 32) }

/-- R275: the data to be returned exceeds the path's limit. -/
def tooLong (r : PktRef) (n : Nat) : Bool := decide ((if r.tw then 4096 else 65536) < n)

/-- A command completes without data. -/
def State.done (r : PktRef) (status detail result : Nat) (s : State) : State := s.complete r status detail result []

/-! ### Opcodes (R275, R276, R306) -/

/-- R276: what an opcode takes: its largest data-in block and the multiple required, whether it needs READY, whether a
recovering Tender serves it (R381), and whether the mailbox takes it while TW_WR is 0 (R306). -/
structure OpInfo where
  op       : Nat
  dmax     : Nat := 0
  dmul     : Nat := 1
  ready    : Bool := false
  recovery : Bool := false
  readOnly : Bool := false
deriving DecidableEq, Repr

/-- The opcode table of R276. -/
def opTable : List OpInfo :=
  [⟨0x0000, 0, 1, false, true, true⟩, ⟨0x0001, 0, 1, false, true, true⟩, ⟨0x0002, 0, 1, false, true, true⟩,
   ⟨0x0003, 0, 1, false, false, false⟩, ⟨0x0004, 0, 1, false, true, false⟩, ⟨0x0005, 0, 1, false, false, true⟩,
   ⟨0x0006, 0, 1, false, false, false⟩, ⟨0x0100, 0, 1, true, false, false⟩, ⟨0x0101, 0, 1, true, false, false⟩,
   ⟨0x0102, 0, 1, false, false, true⟩, ⟨0x0103, 65536, 8, true, false, false⟩, ⟨0x0104, 0, 1, false, false, true⟩,
   ⟨0x0200, 0, 1, true, false, false⟩, ⟨0x0201, 32832, 32832, false, false, false⟩,
   ⟨0x0202, 0, 1, false, false, true⟩, ⟨0x0203, 65536, 2, false, false, false⟩, ⟨0x0204, 0, 1, false, false, true⟩,
   ⟨0x0205, 0, 1, false, false, false⟩, ⟨0x0206, 0, 1, false, false, false⟩] ++
  [⟨0x0300, 0, 1, false, false, true⟩, ⟨0x0301, 0, 1, false, false, false⟩, ⟨0x0302, 0, 1, false, false, false⟩,
   ⟨0x0303, 0, 1, false, false, false⟩, ⟨0x0304, 0, 1, false, false, false⟩, ⟨0x0305, 64, 1, false, false, false⟩,
   ⟨0x0400, 128, 4, false, false, false⟩, ⟨0x0401, 0, 1, false, false, false⟩, ⟨0x0402, 0, 1, false, false, false⟩,
   ⟨0x0403, 0, 1, false, false, true⟩, ⟨0x0500, 0, 1, true, false, false⟩, ⟨0x0501, 0, 1, false, false, false⟩,
   ⟨0x0502, 0, 1, false, false, false⟩] ++
  [⟨0x0600, 0, 1, false, true, true⟩, ⟨0x0601, 0, 1, false, false, false⟩, ⟨0x0602, 65536, 32, false, true, false⟩,
   ⟨0x0603, 0, 1, false, true, false⟩, ⟨0x0604, 0, 1, false, true, true⟩, ⟨0x0700, 0, 1, false, false, true⟩,
   ⟨0x0701, 0, 1, false, false, false⟩, ⟨0x0702, 0, 1, false, false, true⟩, ⟨0x0800, 0, 1, false, false, true⟩,
   ⟨0x0801, 0, 1, false, false, true⟩]

def opInfo (op : Nat) : Option OpInfo := opTable.find? (·.op = op)

/-- Whether DLEN has a length the opcode takes: opcodes that need data refuse a block that is missing or cut. -/
def OpInfo.takes (i : OpInfo) (p : Packet) : Bool :=
  let n := p.dlen
  let mul := if i.op = 0x0203 ∧ p.par 0 1 / 2 % 4 = 2 then 4 else i.dmul
  decide (n ≤ (if p.ref.tw then min 4096 i.dmax else i.dmax)) && n % mul == 0 &&
    (match i.op with
     | 0x0201 => n == 32832
     | 0x0305 => decide (1 ≤ n)
     | 0x0400 => n == 4 * p.par 2 1
     | 0x0602 => decide (32 ≤ n)
     | _ => true)

/-- R274, R275, R276, R306, R381: why a packet is refused before it starts, in the tables' order (assumption 40). -/
def State.formatFault (s : State) (p : Packet) : Option (Nat × Nat) :=
  match opInfo p.op with
  | none => some (1, 0)
  | some i =>
    if bits p.bytes 35 13 ≠ 0 ∨ (p.cancel ∧ p.op ≠ 0x0101 ∧ p.op ≠ 0x0500) then some (2, 0xF0)
    else if 40 < p.len then some (2, 0xF1)
    else if i.dmax = 0 ∧ p.dlen ≠ 0 then some (2, 0xF4)
    else if i.dmax ≠ 0 ∧ ¬ i.takes p then some (2, 0xF3)
    else if p.ref.tw ∧ ¬ s.flag R.glbAccTwWr ∧ ¬ i.readOnly then some (9, 4)
    else if s.tnd.recovery ∧ ¬ i.recovery then some (8, 3)
    else if i.ready ∧ ¬ s.rst.wasReady then some (8, 1)
    else none

/-! ### Dispatch (R277, R283) -/

/-- The Tender wakes (R373). -/
def State.wakeTender (s : State) : State :=
  let n := s.now
  s.modTnd fun t => { t with asleep := false, idleFrom := n }

/-- Whether a packet still holds its opcode class: started and not accepted. -/
def Packet.holdsClass (p : Packet) : Bool := p.stage == .dispatched || p.stage == .running

/-- Packets before one, in fetch order. -/
def packetsBefore (r : PktRef) : List Packet → List Packet
  | [] => []
  | p :: t => if p.ref = r then [] else p :: packetsBefore r t

/-- A packet's queue, or the mailbox. -/
def sameQueue (a b : PktRef) : Bool := a.tw == b.tw && a.queue == b.queue

/-- R277, R283: a packet may be dispatched. -/
def State.mayDispatch (s : State) (p : Packet) : Bool :=
  let prior := packetsBefore p.ref s.cmd.packets
  let mine := prior.filter fun o => sameQueue o.ref p.ref
  p.stage == .fetched && !s.cmd.closing &&
    !(mine.any (·.fence)) && !(p.fence && !mine.isEmpty) &&
    (if p.fast then mine.all fun o => o.cls != 1
     else s.tnd.up && s.rst.phase == .started && !(s.cmd.packets.any fun o => o.holdsClass && o.cls == p.cls) &&
       prior.all fun o => o.stage != .fetched || o.cls != p.cls)

/-- COMMAND_DISPATCH: the first packet that may start does, or completes at once with its fault. -/
def State.dispatch (s : State) : State :=
  match s.cmd.packets.find? s.mayDispatch with
  | none => s
  | some p =>
    let s := s.wakeTender
    let s := s.onPacket p.ref fun p => { p with stage := .dispatched }
    match s.formatFault p with
    | some (st, det) => s.done p.ref st det 0
    | none => s.iff (!p.ref.tw && p.dlen != 0) (·.askQueues (Fin.ofNat 16 (s.queue p.ref.queue).dc))

/-- The packet of a Pelquel step: started, of the opcode and form asked for, its data-in block there, the Tender
running unless the fast path takes it. -/
def State.started (s : State) (r : PktRef) (op : Nat) (cancel : Bool) : Option Packet :=
  match s.packet r with
  | some p =>
    if p.stage = .dispatched ∧ p.op = op ∧ p.cancel = cancel ∧ (p.dlen = 0 ∨ p.data.isSome) ∧ (p.fast ∨ s.tnd.up) then
      some p
    else none
  | none => none

/-- A Pelquel step: the opcode's effect on the started packet; nothing where there is none. -/
def State.pelquel (r : PktRef) (op : Nat) (cancel : Bool) (f : Packet → State → State) (s : State) : State :=
  match s.started r op cancel with
  | some p => f p s
  | none => s

/-- A command's effect goes on over several steps; it holds its class until it completes. -/
def State.runOn (r : PktRef) (s : State) : State := s.onPacket r fun p => { p with stage := .running }

/-- A CUT or a FURNISH_COMMIT has been accepted; activities that end by another step likewise go on (R277). -/
def State.accept (r : PktRef) (s : State) : State := s.onPacket r fun p => { p with stage := .accepted }

/-- DATA_IN_BLOCK_READ (R271): the block is read under the queue's PASID once it is translated, also where the queue has
been reset since, whose commands take their full effect (R287). Where the translation was refused there is nothing to
read. -/
def State.dataIn (r : PktRef) (res : FetchResult) (data : List Byte) (s : State) : State :=
  match s.packet r with
  | some p =>
    if r.tw ∨ p.stage ≠ .dispatched ∨ p.data.isSome ∨ p.dlen = 0 then s
    else if p.noData then s.done r 0x0A 0 0
    else if ¬ s.hostUp then s
    else match res with
      | .ok =>
        if (s.gap p.pasid p.dva p.dlen).isSome then s
        else (s.touch p.pasid p.dva).onPacket r fun p => { p with data := some (fit p.dlen data) }
      | .refused => s.done r 0x0A 0 0
      | .uncorrectable => s.done r 0x0B 0 0
  | none => s

/-! ### Queues (R268 to R270, R287, R288) -/

/-- R269: the bound channel is enabled and of class 1. -/
def State.bound (s : State) (q : Fin 8) : Bool :=
  let ch := Fin.ofNat 16 (s.queue q).dc
  (s.ch ch).enabled && s.chClass ch.val == 1

/-- CMD_Q_STAT.STATE (R288). -/
def State.queueState (s : State) (q : Fin 8) : Nat :=
  let qu := s.queue q
  if !qu.enabled then 0
  else if qu.error || !s.bound q then 3
  else
    let c := s.ch (Fin.ofNat 16 qu.dc)
    let head := match c.staging with
      | u :: _ => (match u.kind with | .completion p _ => p.queue == q | _ => false)
      | [] => false
    if c.cplFull && c.notices.isEmpty && head then 2 else 1

/-- The queue the fetch arbiter serves next (R270). -/
def State.nextQueue (s : State) : Option (Fin 8) :=
  (List.range 8).findSome? fun i =>
    let q := Fin.ofNat 8 (s.cmd.rr + i)
    let qu := s.queue q
    if qu.enabled && !qu.error && !qu.sqEmpty && s.bound q then some q else none

/-- PACKET_FETCH (R268, R270, R271): a packet arrives through the translation cache, or its fetch is refused. A TAG
already in use completes at once. -/
def State.fetchPacket (q : Fin 8) (res : FetchResult) (pkt : BitVec 512) (s : State) : State :=
  if s.nextQueue ≠ some q ∨ 64 ≤ s.cmd.packets.length ∨ ¬ s.hostUp then s
  else
    let qu := s.queue q
    let next (s : State) : State := s.modCmd fun c => { c with rr := (q.val + 1) % 8 }
    match res with
    | .refused | .uncorrectable => ((next s).onQueue q fun u => { u with error := true }).raise (R.cmdQEvtFetchErr q.val)
    | .ok =>
      if (s.translate qu.pasid? qu.fetchVa).isNone then s else
      let s := (next s).touch qu.pasid? qu.fetchVa
      let s := s.onQueue q fun u => { u with sqHead := (u.sqHead + 1) % 2 ^ u.sqLog }
      let p : Packet := { ref := { tw := false, queue := q, tag := pkt.extractLsb' 16 16 }, bytes := pkt,
                          pasid := qu.pasid?, dc := qu.dc }
      if (s.packet p.ref).isSome then
        let qu := s.queue q
        (s.bump (0xD0 + q.val) 1).handClass 1 (Fin.ofNat 16 qu.dc)
          { kind := .completion p.ref p.irq, bytes := completionHead p.ref p.op 2 0xF2 qu.sqHead 0 0 }
      else (s.modCmd fun c => { c with packets := c.packets ++ [p] }).askQueues (Fin.ofNat 16 qu.dc)

/-- A queue that has packets to fetch and whose channel is not bound: BIND (R269). -/
def State.checkBind (q : Fin 8) (s : State) : State :=
  s.iff ((s.queue q).enabled && !s.bound q) (·.raise (R.cmdQEvtBind q.val))

/-- SQ_TAIL (R268, R373). -/
def State.sqDoorbell (q : Fin 8) (idx : BitVec 13) (s : State) : State :=
  if (s.queue q).enabled then
    (((s.onQueue q fun u => { u with sqTail := idx.toNat }).leaveL1.wakeTender).checkBind q).askQueues
      (Fin.ofNat 16 (s.queue q).dc)
  else s

/-- CQ_HEAD (R268, R272). -/
def State.cqDoorbell (q : Fin 8) (idx : BitVec 13) (s : State) : State :=
  if (s.queue q).enabled then
    let s := (s.onQueue q fun u => { u with cqHead := idx.toNat }).leaveL1.wakeTender
    s.slotFreed (Fin.ofNat 16 (s.queue q).dc)
  else s

/-- Units of a queue that wait in a channel are discarded with it; completions among them are counted (R287). -/
def State.dropHanded (q : Fin 8) (s : State) : State :=
  let mine (u : DUnit) : Bool := match u.kind with
    | .completion p _ | .data p => !p.tw && p.queue == q
    | _ => false
  let cpl (u : DUnit) : Bool := match u.kind with
    | .completion p _ => p.queue == q
    | _ => false
  s.each (List.finRange 16) fun ch s =>
    let c := s.ch ch
    let keep := if c.issued = 0 then [] else c.staging.take 1
    let wait := if c.issued = 0 then c.staging else c.staging.drop 1
    let saved := c.saved.filterMap fun i => match i with | .unit u => some u | .marker _ => none
    let gone := (wait ++ saved).filter cpl
    let s := s.onCh ch fun c =>
      { c with staging := keep ++ wait.filter (fun u => !mine u), lostData := c.lostData.filter (·.queue != q),
               saved := c.saved.map fun i => match i with
                 | .unit u => if mine u then .unit { u with kind := .gone } else .unit u
                 | .marker r => .marker r }
    (s.each gone fun u s => (s.loseCompletion q).lostUnit u).stagingDrained ch

/-- The packet that a dispatch of this same core cycle, still to come, takes (R290). -/
def State.dispatching (s : State) : Option PktRef :=
  if s.pending.any (· == .commandDispatch true) then (s.cmd.packets.find? s.mayDispatch).map (·.ref) else none

/-- A queue is stopped (R287, R288): packets not dispatched are discarded, completions of the others are lost. -/
def State.stopQueue (q : Fin 8) (s : State) : State :=
  let mine (p : Packet) : Bool := !p.ref.tw && p.ref.queue == q
  let kept := s.dispatching
  let s := s.modCmd fun c =>
    { c with packets := (c.packets.filter fun p => !(mine p && p.stage == .fetched && some p.ref != kept)).map fun p =>
        if mine p then { p with lost := true } else p }
  (s.takeMail.dropHanded q).onQueue q fun u => { u with enabled := false, error := false }

/-- A queue is started with the registers as written (R270, R288). -/
def State.startQueue (q : Fin 8) (s : State) : State :=
  if (s.queue q).enabled then s
  else
    let n := q.val
    let page (lo hi : Nat) : Nat := (lo + 2 ^ 32 * hi) / 4096 * 4096
    let new : CmdQueue :=
      { enabled := true, sqLog := ringLog (s.fget (R.cmdQCtrlSqLog2 n)), cqLog := ringLog (s.fget (R.cmdQCtrlCqLog2 n)),
        dc := s.fget (R.cmdQCtrlDc n), pasid := BitVec.ofNat 20 (s.fget (R.cmdQPasid n)), pv := s.flag (R.cmdQPasidPv n),
        sqVa := page (s.fget (R.cmdQSqLo n)) (s.fget (R.cmdQSqHi n)),
        cqVa := page (s.fget (R.cmdQCqLo n)) (s.fget (R.cmdQCqHi n)) }
    (s.onQueue q fun _ => new).checkBind q

/-- A write of CMD_Q_CTRL. -/
def State.writeQCtrl (q : Fin 8) (v : Word) (s : State) : State :=
  let off := 0x0A0000 + 64 * q.val
  let was := bitOf (s.reg off) 0
  let s := s.setReg off (v &&& 0x1FFF)
  if bitOf v 0 then s.startQueue q else s.iff was (·.stopQueue q)

/-- MAILBOX_GO (R286). -/
def State.mailboxGo (s : State) : State :=
  if s.cmd.busy then s.raise R.cmdTwEvtOverrun
  else
    let words := (List.range 16).map fun i => (s.reg (0x0A1000 + 4 * i)).toNat
    let pkt := BitVec.ofNat 512 (ofLeBytes (words.flatMap (leBytes 4 ·)))
    let n := min 4096 (s.fget R.cmdTwDlen)
    let data := ((List.range (ceilDiv n 4)).flatMap fun i => leBytes 4 (s.reg (0x0A2000 + 4 * i)).toNat).take n
    let r : PktRef := { tw := true, queue := 0, tag := pkt.extractLsb' 16 16 }
    let p : Packet := { ref := r, bytes := pkt, data := some data }
    (((s.modCmd fun c => { c with mail := some p, busy := true }).fset R.cmdTwCtrlBusy 1)).takeMail.wakeTender

/-! ### The commands -/

/-- SQ_TAIL (R268). -/
def execSqTail (q : Fin 8) (idx : BitVec 13) (_same : Bool) (s : State) : Answer := .next (s.sqDoorbell q idx)

/-- CQ_HEAD (R268). -/
def execCqHead (q : Fin 8) (idx : BitVec 13) (_same : Bool) (s : State) : Answer := .next (s.cqDoorbell q idx)

/-- PACKET_FETCH (R270). -/
def execPacketFetch (q : Fin 8) (res : FetchResult) (pkt : BitVec 512) (s : State) : Answer :=
  .next (s.fetchPacket q res pkt)

/-- COMMAND_DISPATCH (R277). -/
def execCommandDispatch (_same : Bool) (s : State) : Answer := .next s.dispatch

/-- DATA_IN_BLOCK_READ (R271). -/
def execDataInBlockRead (p : PktRef) (res : FetchResult) (data : List Byte) (s : State) : Answer :=
  if wfData data then .next (s.dataIn p res data) else .fault .illFormed

end Sys2Proof.Machine
end

