-- ==== Sys2Proof/Machine/Operands.lean ====
section
/-! DEFINITION. The settings of a furnish as the blocks read them: every field with the range its register map gives
("values below … are taken as …"), and the geometry of the array (R18, R19, R52 to R54, R93). -/

namespace Sys2Proof.Machine

/-! ### Timebase settings (R50) -/

def Furnish.trigSrc (u : Furnish) : Nat := u.get R.tbsCtrlTrigSrc

/-- TBS_PITCH in 1/4,096 wc; below 0x0004_0000 taken as 64 wc. -/
def Furnish.pitch (u : Furnish) : Nat := max 0x00040000 (u.get R.tbsPitch)

def Furnish.timePeriod (u : Furnish) : Nat := max 1000 (u.get R.tbsTimePeriod)

def Furnish.expoMin (u : Furnish) : Nat := clampNat 100 970 (u.get R.tbsExpoMin)

def Furnish.reamK (u : Furnish) : Nat := clampNat 8 16 (u.get R.tbsCtrlReamK)

def Furnish.coastLimit (u : Furnish) : Nat := max 1 (u.get R.tbsCoastLimit)

/-- Whether triggers follow trigger positions of the web (encoder or web link, R38). -/
def Furnish.webMode (u : Furnish) : Bool := u.trigSrc = 0 || u.trigSrc = 3

/-- The size of one edge of an encoder, in 1/4,096 wc (R33). -/
def Furnish.edge (u : Furnish) (enc1 : Bool) : Nat := if enc1 then u.get R.tbsEnc1Scale else 0x01000000

/-! ### Headbox settings (R56, R60, R77) -/

def Furnish.area (u : Furnish) : Bool := u.on R.hbxCtrlMode

def Furnish.reverse (u : Furnish) : Bool := u.on R.hbxCtrlDir

/-- F of R56. -/
def Furnish.fields (u : Furnish) : Nat := if u.get R.hbxCtrlFields = 1 then 2 else if u.get R.hbxCtrlFields = 2 then 4 else 1

/-- R60: the start of an exposure of `e` ticks in a line period of `t` ticks. -/
def Furnish.expoStart (u : Furnish) (t e : Nat) : Nat :=
  match u.get R.hbxCtrlExpoAlign with
  | 1 => 0
  | 2 => t - 30 - e
  | _ => (t - 30 - e) / 2

def Furnish.optPitch (u : Furnish) : Nat := u.get R.hbxOptPitch

def Furnish.rowFirst (u : Furnish) : Nat := u.get R.hbxRowFirst

def Furnish.rowLast (u : Furnish) : Nat := max u.rowFirst (u.get R.hbxRowLast)

/-- R77 gives WORD_FIRST the range 0 to 683; a value above it is taken as 683 (assumption 34). -/
def Furnish.wordFirst (u : Furnish) : Nat := min 683 (u.get R.hbxWordFirst)

def Furnish.wordLast (u : Furnish) : Nat := clampNat u.wordFirst 683 (u.get R.hbxWordLast)

/-- Rows summed by one readout of block SBb (R76): 1, 2 or 8. -/
def Furnish.rowGroup (u : Furnish) (sb : Nat) : Nat :=
  if bitOf (BitVec.ofNat 32 (u.get R.hbxSumEn)) sb then
    (match u.get R.hbxAreaCtrlVbin with | 1 => 2 | 2 => 8 | _ => 1)
  else 1

/-- Sub-frames of an area frame (R74). -/
def Furnish.subFrames (u : Furnish) : Nat := u.get R.hbxAreaCtrlNexpo + 1

/-- The fields a furnish enables for a product: F, or the sub-frames of area mode (R467). -/
def Furnish.fieldsOf (u : Furnish) (p : Nat) : Nat := if p = 3 then u.subFrames else u.fields

/-- R184: the screens are enabled for a field. -/
def Furnish.screensField (u : Furnish) (f : Nat) : Bool :=
  u.on R.scrCtrlEn && bitOf (BitVec.ofNat 4 (u.get R.scrCtrlFields)) f

/-- R74: exposure of sub-frame e, clamped as R41 clamps it within a slot of `max(10,000, t + 30)` ticks. -/
def Furnish.areaExpo (u : Furnish) (e : Nat) : Nat := max (u.get (R.hbxAreaExpo e)) u.expoMin

def Furnish.slotLength (u : Furnish) (e : Nat) : Nat := max 10000 (u.areaExpo e + 30)

/-! ### Felt settings (R106) -/

def Furnish.prodOn (u : Furnish) (p : Nat) : Bool := bitOf (BitVec.ofNat 3 (u.get R.fltCtrlProdEn)) p

def Furnish.ply10 (u : Furnish) (p : Nat) : Bool := bitOf (BitVec.ofNat 3 (u.get R.fltCtrlPfmt)) p

/-- Blocks in the section of product p (R54). -/
def sectionBlocks (p : Nat) : Nat := match p with | 0 => 24 | 1 => 6 | _ => 2

/-- D_p (R106). -/
def Furnish.depth (u : Furnish) (p : Nat) : Nat :=
  match p with
  | 0 => clampNat 1 24 (u.get R.fltCDepth)
  | 1 => clampNat 1 6 (u.get R.fltSDepth)
  | _ => clampNat 1 2 (u.get R.fltNDepth)

def Furnish.dref (u : Furnish) (p : Nat) : Nat :=
  max 1 (match p with | 0 => u.get R.fltCDref | 1 => u.get R.fltSDref | _ => u.get R.fltNDref)

/-- Columns per bin (R99): 1, 2 or 4; area rows by HBIN2 (R76). -/
def Furnish.hbin (u : Furnish) (p : Nat) : Nat :=
  if p = 3 then (if u.on R.hbxAreaCtrlHbin2 then 2 else 1)
  else match u.get R.fltHbin / 4 ^ p % 4 with | 1 => 2 | 2 => 4 | _ => 1

/-- First sheet word of a product's deckle: an active word for C, S, N; a physical one for A (R76). -/
def Furnish.word0 (u : Furnish) (p : Nat) : Nat :=
  if p = 3 then u.wordFirst else min 679 (u.get (R.fltDeckleFirst p))

/-- Sheet words of a product's deckle before binning. -/
def Furnish.words (u : Furnish) (p : Nat) : Nat :=
  if p = 3 then u.wordLast - u.wordFirst + 1
  else clampNat 1 (680 - u.word0 p) (u.get (R.fltDeckleNwords p))

/-- First physical column of a product's deckle (R19). -/
def Furnish.col0 (u : Furnish) (p : Nat) : Nat := 24 * u.word0 p + (if p = 3 then 0 else 48)

/-- Columns of a product's deckle. -/
def Furnish.cols (u : Furnish) (p : Nat) : Nat := 24 * u.words p

/-- Pixels of a line after binning (R99). -/
def Furnish.width (u : Furnish) (p : Nat) : Nat := u.cols p / u.hbin p

/-- Taps T in effect (R85): integer placement in time and pin-engine mode. -/
def Furnish.taps (u : Furnish) : Nat :=
  if u.webMode then (match u.get R.fltCtrlPlace with | 0 => 0 | 1 => 1 | _ => 2) else 0

/-! ### Guide copies of the calender -/

/-- R143: guide copies are kept while the furnish in force or a retained one enables S. -/
def State.guidesKept (s : State) : Bool := (s.fu.inForce :: s.fu.retained).any fun u => u.prodOn 1

/-- The guide copies go once no furnish held enables S. -/
def State.dropGuides (s : State) : State :=
  s.iff (!s.guidesKept) fun s => s.modCal fun c => { c with pair := c.pair.filter (·.kind != .guide) }

/-! ### Geometry -/

/-- The slice of a physical column (R18). -/
def sliceOf (c : Nat) : Nat := c / 432

/-- Whether a product's deckle holds a column of a slice. -/
def Furnish.usesSlice (u : Furnish) (p s : Nat) : Bool :=
  decide (u.col0 p < 432 * (s + 1)) && decide (432 * s < u.col0 p + u.cols p)

/-- The physical block of a travel block (R53). -/
def sbOf (reverse : Bool) (b : Nat) : Nat := if reverse then 31 - b else b

/-- The product whose section a physical block belongs to (R54). -/
def prodOf (sb : Nat) : Nat := if sb < 24 then 0 else if sb < 30 then 1 else 2

/-- The travel index of a product's entry block (R93). -/
def entryBlock (reverse : Bool) (p : Nat) : Nat :=
  if reverse then (match p with | 0 => 8 | 1 => 2 | _ => 0) else (match p with | 0 => 0 | 1 => 24 | _ => 30)

/-- WLK_SEAM.PROD (R335). -/
def Furnish.seamProd (u : Furnish) : Nat := if u.get R.wlkSeamProd = 3 then 0 else u.get R.wlkSeamProd

end Sys2Proof.Machine
end

