-- ==== Sys2Proof/Machine/Flags.lean ====
section
/-! DEFINITION. The flags of a line (R101) and the causes for which it is broke (R100, and bits 12 to 15 that the
calender, the couch stage and the formatter add), and the marking of lines. -/

namespace Sys2Proof.Machine

/-- The broke causes by bit of the header's cause field. -/
inductive Cause where
  | early | void | adcDroop | sliceFail | fieldBreak | modeChange | gainSat | accUe
  | poolEmpty | epochs | resync | prodEdge | late | calUe | outUe | wmRebuilt
deriving DecidableEq, Repr

def Cause.bit : Cause → Nat
  | .early => 0 | .void => 1 | .adcDroop => 2 | .sliceFail => 3 | .fieldBreak => 4 | .modeChange => 5
  | .gainSat => 6 | .accUe => 7 | .poolEmpty => 8 | .epochs => 9 | .resync => 10 | .prodEdge => 11
  | .late => 12 | .calUe => 13 | .outUe => 14 | .wmRebuilt => 15

/-- A line marked broke for a cause. -/
def Line.mark (c : Cause) (l : Line) : Line :=
  { l with flags := { l.flags with broke := true }, cause := l.cause ||| (1 <<< c.bit) }

def Line.markIf (b : Bool) (c : Cause) (l : Line) : Line := if b then l.mark c else l

def Line.pad (l : Line) : Line := { l with flags := { l.flags with padded := true } }

def FeltLine.mark (c : Cause) (l : FeltLine) : FeltLine := { l with line := l.line.mark c }

/-- The flags as the header and the watermark carry them (R101, R161): bit 0 broke, 1 padded, 2 cut, 3 blend,
4 throttled, 5 coast, 6 seam. -/
def Flags.word (f : Flags) : Nat :=
  b2n f.broke + 2 * b2n f.padded + 4 * b2n f.cut + 8 * b2n f.blend + 16 * b2n f.throttled + 32 * b2n f.coast
    + 64 * b2n f.seam

/-- Every open line of the felt that a condition picks is marked. -/
def State.markLines (p : FeltLine → Bool) (c : Cause) (s : State) : State :=
  s.modFelt fun f => { f with lines := f.lines.map fun l => if p l then l.mark c else l }

end Sys2Proof.Machine
end

