-- ==== Sys2Proof/Machine/Ply.lean ====
section
/-! DEFINITION. The ply code (R12, R155 to R157): encoding of a lin20 value, exact decoding. -/

namespace Sys2Proof.Machine

/-- Full scale of lin20: the value of code 0x3FF (R98). -/
def fullScale : Nat := 1044480

/-- step(p) of R155. -/
def plyStep (p : Nat) : Nat := if p = 0 then 64 else 2 ^ (p + 5)

/-- base(p) of R155. -/
def plyBase (p : Nat) : Nat := if p = 0 then 0 else 2 ^ (p + 12)

/-- The ply that R155 chooses: the last q from 1 to 7 that `u` reaches, 0 if none. -/
def plyOf (u : Nat) : Nat :=
  [1, 2, 3, 4, 5, 6, 7].foldl (fun p q => if 2 ^ (q + 12) - plyStep (q - 1) / 2 ≤ u then q else p) 0

/-- R155. -/
def plyEncode (u : Nat) : Nat :=
  if fullScale ≤ u then 0x3FF
  else
    let p := plyOf u
    let code := 128 * p + (u + plyStep p / 2 - plyBase p) / plyStep p
    if code = 0x3FF then 0x3FE else code

/-- The value of a ply code (R12). -/
def plyValue (code : Nat) : Nat :=
  let p := code / 128 % 8
  let m := code % 128
  if p = 0 then m else (128 + m) * 2 ^ (p - 1)

/-- R157: a ply code in lin20. -/
def plyDecode (code : Nat) : Nat := 64 * plyValue code

end Sys2Proof.Machine
end

