-- ==== Sys2Proof/Machine/Timebase.lean ====
section
/-! DEFINITION. The timebase (R30 to R36, R44 to R49): encoder decoding, the tracking of W, speed and standstill,
reversal, coasting, failover, loss, and the reference event with its slew or resynchronisation. -/

namespace Sys2Proof.Machine

/-! ### Who gives W -/

/-- R315: W comes from the upstream stream, not from the own encoder. -/
def State.onLink (s : State) : Bool := s.wl.role != .source

/-- W comes from the upstream stream: not while a warm reset leaves the own encoder tracked (R426). -/
def State.followsLink (s : State) : Bool := s.onLink && !s.tb.runOn

/-- R327: the membership states in which a head makes lines; in the others its W and counts do not move. -/
def State.producing (s : State) : Bool :=
  match s.wl.member with
  | .source | .member | .coasting | .leaving => true
  | _ => false

/-- The size of one edge of the active encoder, in 1/4,096 wc (R33). -/
def State.edgeSize (s : State) : Nat := s.fu.inForce.edge s.tb.onEnc1

/-! ### Speed (R35) -/

/-- The speed estimate v as a fraction, in 1/4,096 wc per tick: `min(s / P, s / (now − t_last))`, 0 while P is
undefined. On a slave, the SPEED of the latest packet (DEDUCED, assumption 20). -/
def State.speedQ (s : State) : Nat × Nat :=
  if s.followsLink then (s.wl.speed, 16)
  else
    let n := s.tb.intervals.length
    let sum := s.tb.intervals.sum
    if n = 0 ∨ sum = 0 then (0, 1)
    else
      let wait := s.now - s.tb.tLast.getD s.now
      if sum < n * wait then (s.edgeSize, wait) else (s.edgeSize * n, sum)

/-- v in wc per tick, 16.16 (TBS_SPEED). -/
def State.speed16 (s : State) : Nat :=
  (roundHalfUp (16 * (s.speedQ.1 : Int)) s.speedQ.2).toNat

/-- R36: v is below TBS_STILL_FLOOR. -/
def State.slow (s : State) : Bool := decide (16 * s.speedQ.1 < s.cur R.tbsStillFloor * s.speedQ.2)

/-- s / P, truncated to 1/4,096 wc per tick; 0 while P is undefined. -/
def State.pRate (s : State) : Nat := s.edgeSize * s.tb.intervals.length / s.tb.intervals.sum

/-- s / P is at or above TBS_STILL_FLOOR (R46). -/
def State.moving (s : State) : Bool :=
  !s.tb.intervals.isEmpty &&
    decide (s.cur R.tbsStillFloor * s.tb.intervals.sum ≤ 16 * (s.edgeSize * s.tb.intervals.length))

/-- R44: Q is below M. -/
def Timebase.reversed (t : Timebase) : Bool := decide (t.q < t.m)

/-! ### The advance of W in one tick (R33, R34, R44, R46 to R48, R320) -/

/-- The position that tracking follows: W, or R_ref = W + D while W holds for it (R48). -/
def Timebase.track (t : Timebase) : Pos := if t.mode = .holding then t.wf.move t.slewLeft else t.wf

/-- The motion of one tick, in 1/4,096 wc: none while the head is no member, lost or reversed; the rate without a
clamp while coasting or on a slave; else the rate up to `E_i + 2 s − 1`. -/
def State.motion (s : State) : Int :=
  let t := s.tb
  if (!s.producing && !s.wl.follow && !t.runOn) || t.mode == .lost then 0
  else if s.followsLink then (if s.wl.upHold then 0 else t.rate)
  else if t.reversed then 0
  else if t.mode == .coasting then t.rate
  else
    let limit := Pos.diff (BitVec.ofInt 60 t.m) t.track + 2 * s.edgeSize - 4096
    max 0 (min (t.rate : Int) limit)

/-- W after a motion of `r` (R48): a slew absorbs its share of D, truncated to 1/4,096 wc in each tick (assumption 75),
and the encoder's positions are anchored along; a hold lets R_ref come up to W instead. -/
def Timebase.moveBy (r : Int) (t : Timebase) : Timebase :=
  match t.mode with
  | .slewing =>
    let x := if t.slewWeb ≤ r then t.slewLeft else Int.tdiv (t.slewLeft * r) t.slewWeb
    { t with wf := t.wf.move (r + x), q := t.q + x, m := t.m + x, slewLeft := t.slewLeft - x,
             slewWeb := t.slewWeb - r }
  | .holding => { t with slewLeft := t.slewLeft + r }
  | _ => { t with wf := t.wf.move r }

/-! ### The reference event (R48) -/

/-- R43: the timebase is coasting, or slewing after a coast; on a slave, while the upstream stream coasts or is absent.
Never in time or pin-engine mode (R37). -/
def State.coastingNow (s : State) : Bool :=
  s.fu.inForce.webMode &&
    ((s.onLink && (s.wl.upCoast || s.wl.member == .coasting)) ||
      s.tb.mode == .coasting || s.tb.mode == .returning || s.tb.mode == .slewing)

/-- S of R48: TBS_SLEW_MAX, limited to a quarter of the ream length, in 1/4,096 wc. -/
def State.slewLimit (s : State) : Int :=
  min ((s.cur R.tbsSlewMax : Int) * 4096) ((2 ^ s.tb.reamK * s.fu.inForce.pitch / 4 : Nat) : Int)

/-- The reference event with discontinuity `d` in 1/4,096 wc: TBS_SLEW_D records it; coasting ends, or a slew begins,
or a resynchronisation waits for the next ream boundary. `marked`: lines were being marked (R43), so that this ends it. -/
def State.reference (d : Int) (marked : Bool) (s : State) : State :=
  let lim := s.slewLimit
  let len : Nat := 2 ^ s.tb.reamK * s.fu.inForce.pitch
  let now := s.now
  let s := s.modTb fun t =>
    { t with slewD := sat31 (floorDiv d 4096), refTick := some now, coastRun := 0,
             slewLeft := d, slewWeb := len,
             mode := if d = 0 then .tracking
                     else if -lim ≤ d ∧ d ≤ lim then .slewing
                     else if 0 < d then .resyncFwd else .resyncHold }
  if s.tb.mode = .slewing ∨ ¬ marked then s else s.trace 0x0B 0 (BitVec.ofNat 32 (s.tb.nextSeq - 1))

/-! ### Edges (R30, R33, R44) -/

/-- The sense of a change of one of the levels A and B: forward when A leads B (assumption 21). -/
def quadForward (a b a' b' : Bool) : Bool := if a' != a then a' != b else a == b'

/-- The intervals after one more, the last eight kept. -/
def pushInterval (i : Nat) (l : List Nat) : List Nat := ((l ++ [i]).reverse.take 8).reverse

/-- An advancing edge at the position `q` (R33): the interval counts if it spans no coast, loss or reversal; the rate
is set so that W meets the next edge. -/
def State.advancing (q : Int) (s : State) : State :=
  let now := s.now
  let sz := s.edgeSize
  s.modTb fun t =>
    let iv := match t.tAdv with
      | some t0 => if t0 < now then pushInterval (now - t0) t.intervals else t.intervals
      | none => t.intervals
    let e := Pos.diff (BitVec.ofInt 60 q) t.track
    let rate : Nat := match iv with
      | [] => t.heldRate.getD 0
      | _ => (max 0 (Int.tdiv ((sz + e) * iv.length) iv.sum)).toNat
    { t with q := q, m := q, tAdv := some now, intervals := iv, rate := rate,
             heldRate := if iv.isEmpty then t.heldRate else none,
             revSeen := t.revSeen && decide (q ≤ t.revLimit),
             fresh := t.fresh && !(t.revSeen && decide (t.revLimit < q)) }

/-- Edges return while coasting or lost (R48): tracking resumes anchored at the present W, at the rate of R33 with the
intervals held (s / P, since e = 0); the reference event is the first Z edge, or this edge with D = 0. -/
def State.edgesReturn (s : State) : State :=
  let now := s.now
  let zref := s.curOn R.tbsCtrlZref && s.cur R.tbsEncEpr != 0 && s.tb.zLast.isSome
  let p := s.pRate
  let s := s.modTb fun t =>
    { t with q := t.wf.toNat, m := t.wf.toNat, tAdv := some now, revSeen := false,
             fresh := t.fresh && t.mode != .lost,
             rate := if t.intervals.isEmpty then t.heldRate.getD 0 else p, mode := .returning }
  if zref then s else s.reference 0 true

/-- A forward edge of the active encoder. -/
def State.forwardEdge (s : State) : State :=
  let q := s.tb.q + s.edgeSize
  if s.tb.mode = .coasting ∨ s.tb.mode = .lost then s.edgesReturn
  else if s.tb.m < q then s.advancing q
  else if q = s.tb.m then s.modTb fun t => { t with q := q, fresh := false }
  else s.modTb fun t => { t with q := q }

/-- A backward edge of the active encoder: Q falls; below M − TBS_REVERSE_HYST, DIR_REV is set and a direction alarm
posted, once per excursion (R44). The first edge after a coast or a loss is the returning edge whatever its sense
(assumption 75). -/
def State.backwardEdge (s : State) : State :=
  let hyst : Int := s.cur R.tbsReverseHyst * 4096
  if s.tb.mode = .coasting ∨ s.tb.mode = .lost then s.edgesReturn
  else
    let s := s.modTb fun t => { t with q := t.q - s.edgeSize, tAdv := none }
    if s.tb.q < s.tb.m - hyst ∧ ¬ (s.tb.revSeen ∧ s.tb.revLimit = s.tb.m + hyst) then
      ((s.modTb fun t => { t with revSeen := true, revLimit := t.m + hyst }).raise R.tbsStatDirRev).alarmOf
        R.tbsStatDirRev 0
    else s

/-- The time stamps of an edge of an encoder. -/
def Encoder.stamp (now : Nat) (d : Int) (a b : Bool) (e : Encoder) : Encoder :=
  { e with a := a, b := b, edges := e.edges + d, gap := e.last.map (now - ·), last := some now }

/-- R36: the standstill ends when an edge brings v to the floor; the interval that spans it is not measured (R41). -/
def State.endStill (s : State) : State :=
  if s.tb.still ∧ ¬ s.slow then s.modTb fun t => { t with still := false, fresh := false } else s

/-- R36, R50: STILL after a change of v or of TBS_STILL_FLOOR. -/
def State.judgeStill (s : State) : State :=
  if s.slow then s.modTb fun t => { t with still := true } else s.endStill

/-- R364: the core clock is on bypass or below its full target, and the closest edges that W still tracks. -/
def State.coreSlow (s : State) : Bool := s.clk.core != .locked || s.flag R.clkTargetCore

/-- Ticks of one core cycle (R363): 1, or 2 at the 0.500 GHz target; on bypass 1,000 / f_bypass, which is 10 on a REFCLK
reference and 40 on the crystal (R359). -/
def State.coreCycle (s : State) : Nat :=
  if s.clk.core = .locked then (if s.flag R.clkTargetCore then 2 else 1)
  else if s.clk.core != .bypassRef && s.flag R.clkRefModeSel && s.clk.refOk then 10 else 40

/-- R364: four periods of the bypass clock in use. -/
def State.edgeFloor (s : State) : Nat := 4 * s.coreCycle

/-- ENCODER_TRANSITION (R30): new levels of A and B of one encoder, as the ball had them for `held` ticks. A level
held for less than TBS_CTRL.ENC_FILT leaves no trace; A and B changing at once is ENC_ERR; else one edge. -/
def State.transition (enc : Fin 2) (a b : Bool) (held : Nat) (s : State) : State :=
  let e := s.tb.encs[enc]
  if held < s.fget R.tbsCtrlEncFilt ∨ (a = e.a ∧ b = e.b) then s
  else if a ≠ e.a ∧ b ≠ e.b then
    (s.modTb fun t => { t with encs := vupd t.encs enc fun e => { e with a := a, b := b } }).raise R.tbsStatEncErr
  else
    let fwd := quadForward e.a e.b a b != s.curOn R.tbsCtrlEncInv
    let now := s.now
    let active := decide (enc.val = b2n s.tb.onEnc1)
    if s.coreSlow && e.last.any (fun l => decide (now < l + s.edgeFloor)) then
      (s.modTb fun t => { t with encs := vupd t.encs enc fun e => { e with a := a, b := b } }).raise R.tbsStatEncErr
    else
    let s := s.modTb fun t => { t with encs := vupd t.encs enc (·.stamp now (if fwd then 1 else -1) a b) }
    let s := if fwd then s.bump (1 + enc.val) 1 else s.iff active (·.bump 3 1)
    if active ∧ ¬ s.followsLink then
      let s := if fwd then s.forwardEdge else s.backwardEdge
      (s.modTb fun t => { t with tLast := some now }).judgeStill
    else s

/-! ### Z (R32, R48) -/

/-- The point of the grid `Z_last + m × EPR × s` nearest to W, less W, in 1/4,096 wc. -/
def State.gridError (z : WC) (s : State) : Int :=
  let rev : Int := s.cur R.tbsEncEpr * s.edgeSize
  let d := Pos.diff z.pos s.wc.pos
  Int.emod (d + rev / 2) rev - rev / 2

/-- Z_EDGE: the web count is latched into TBS_ZCAP (of the active encoder, assumption 22); while the return of edges
awaits it, it is the reference event. -/
def State.zEdge (enc : Fin 2) (held : Nat) (s : State) : State :=
  if held < s.fget R.tbsCtrlEncFilt ∨ enc.val ≠ b2n s.tb.onEnc1 then s
  else
    let w := s.wc
    let s := (s.modTb fun t => { t with zcap := w, zSeen := t.zSeen || t.mode == .tracking }).bump 6 1
    match s.tb.mode, s.tb.zLast with
    | .returning, some z => s.reference (s.gridError z) true
    | _, _ => s

/-! ### Coasting, failover, loss (R46, R47) -/

/-- An encoder is delivering edges at or above the floor: by its latest interval and by the time since its latest edge
(assumption 23). -/
def State.encRuns (s : State) (enc1 : Bool) : Bool :=
  let e := s.tb.encs[if enc1 then (1 : Fin 2) else 0]
  let sz := s.fu.inForce.edge enc1
  match e.gap, e.last with
  | some g, some l =>
    decide (s.cur R.tbsStillFloor * g ≤ 16 * sz) && decide (s.cur R.tbsStillFloor * (s.now - l) ≤ 16 * sz)
  | _, _ => false

/-- A change of active encoder (R33, R46): anchored so that W does not step; the old intervals are discarded and W
runs on at the last v until the new encoder gives one. Its first interval counts from its last edge before the change. No
Z of the new encoder has been latched: where the reference event is awaited, it is this change, with D = 0 (R48). A slew
or a resynchronisation under way goes on with the new encoder (both choices: assumption 75). -/
def State.switchEncoder (enc1 : Bool) (s : State) : State :=
  let v := s.pRate
  let s := s.modTb fun t =>
    { t with onEnc1 := enc1, q := t.wf.toNat, m := t.wf.toNat, intervals := [], rate := v, heldRate := some v,
             tAdv := (t.encs[b2n enc1]?).bind (·.last), zSeen := false, zLast := none, revSeen := false }
  let s := s.modTb fun t => { t with tLast := t.tAdv }
  if s.tb.mode = .returning then s.reference 0 true else s

/-- R46: a furnish with STBY_EN cleared comes into force: ENC0 is the active encoder again. Where W follows the
upstream stream its rate stays. -/
def State.returnEnc0 (s : State) : State :=
  if !s.tb.onEnc1 then s
  else if s.followsLink then s.modTb fun t => { t with onEnc1 := false, intervals := [], zSeen := false, zLast := none }
  else s.switchEncoder false

/-- Line period `n` becomes a coasting one (R43), counted once (R441). -/
def State.markCoast (n : Nat) (s : State) : State :=
  if s.tb.periods.any fun p => p.seq == n && !p.coast then
    (s.modTb fun t => { t with periods := t.periods.map fun p => if p.seq = n then { p with coast := true } else p }).bump
      4 1
  else s

/-- R43: the exposure that runs is one of a coasting line period, where the timebase coasts or slews after a coast; not
in time or pin-engine mode (R37). In area mode it is that of a sub-frame, in the line period of its frame's trigger. -/
def State.coastExposure (s : State) : State :=
  if !s.coastingNow then s
  else match s.hb.area with
    | some fr =>
      if fr.tStart.isSome ∧ fr.tStop.isNone then
        (s.modHb fun h => { h with area := some { fr with coast := true } }).markCoast fr.seq
      else s
    | none => match s.tb.periods with
      | p :: _ => if p.start.isSome ∧ p.stop.isNone then s.markCoast p.seq else s
      | [] => s

/-- R317, R323: the stream in use carries COAST. -/
def State.fedCoast (s : State) : Bool := s.onLink && s.wl.upCoast

/-- The coast begins (R46): W runs on at s / P; a slew or resynchronisation under way is abandoned (R49). The exposure
that runs becomes one of a coasting line period (R43). -/
def State.beginCoast (rate : Nat) (s : State) : State :=
  let s := s.modTb fun t =>
    { t with mode := .coasting, rate := rate, tAdv := none, coastRun := if s.fedCoast then t.coastRun else 0,
             slewLeft := 0, slewWeb := 0, zLast := if t.zSeen then some t.zcap else none }
  let s := s.coastExposure
  ((s.raise R.tbsStatCoastSeen).alarmOf R.tbsStatCoastSeen 0).trace 0x0A 0 (BitVec.ofNat 32 (s.tb.nextSeq - 1))

/-- COAST (R46): no edge within COAST_LIMIT / 4 × P of the last while s / P is at or above the floor: failover to
ENC1, else coasting. Not while Q is below M, since W holds then (R44, assumption 24). -/
def State.silent (s : State) : Bool :=
  !s.onLink && s.moving && !s.tb.reversed && s.tb.mode != .coasting && s.tb.mode != .lost &&
    (match s.tb.tLast with
     | some l => decide (s.fu.inForce.coastLimit * s.tb.intervals.sum ≤ 4 * s.tb.intervals.length * (s.now - l))
     | none => false)

def State.coast (s : State) : State :=
  if !s.silent then s
  else if s.curOn R.tbsCtrlStbyEn ∧ ¬ s.tb.onEnc1 ∧ s.encRuns true then
    (s.switchEncoder true).raise R.tbsStatFailover
  else s.beginCoast s.pRate

/-- The timebase is lost (R47). -/
def State.lose (s : State) : State :=
  let s := s.modTb fun t => { t with mode := .lost, rate := 0, fresh := false }
  let s := if s.onLink then (s.modWl fun w => { w with member := .lost }).raise R.wlkEvtLost else s
  ((s.raise R.tbsStatLostSeen).alarmOf R.tbsStatLostSeen 0).trace 0x0D 0 (BitVec.ofNat 32 (s.tb.nextSeq - 1))

/-! ### The commands -/

/-- ENCODER_TRANSITION (R30, R33, R44, R48). -/
def execEncoderTransition (enc : Fin 2) (a b : Bool) (held : Nat) (s : State) : Answer :=
  .next (s.transition enc a b held)

/-- Z_EDGE (R32, R48). -/
def execZEdge (enc : Fin 2) (held : Nat) (s : State) : Answer := .next (s.zEdge enc held)

/-- STANDSTILL (R36): v has fallen below TBS_STILL_FLOOR. -/
def execStandstill (s : State) : Answer :=
  .next (if s.slow then s.judgeStill else s)

/-- COAST (R46). -/
def execCoast (s : State) : Answer := .next s.coast

/-- TIMEBASE_LOST (R47): coasting, its own or that of the stream in use (R317), has lasted TBS_COAST.COAST_MAX line
periods. -/
def execTimebaseLost (s : State) : Answer :=
  .next (if (s.tb.mode = .coasting ∨ s.fedCoast ∧ s.tb.mode ≠ .lost) ∧ s.cur R.tbsCoastMax ≠ 0 ∧ s.cur R.tbsCoastMax ≤ s.tb.coastRun then s.lose else s)

/-- SLEW_END (R48): one ream length of web has absorbed D. -/
def execSlewEnd (s : State) : Answer :=
  .next (if s.tb.mode = .slewing ∧ s.tb.slewWeb ≤ 0 then
    (s.modTb fun t => { t with mode := .tracking, slewLeft := 0, slewWeb := 0 }).trace 0x0B 0
      (BitVec.ofNat 32 (s.tb.nextSeq - 1))
  else s)

/-- RESYNC_HOLD_END (R48): R_ref has advanced to W. -/
def execResyncHoldEnd (s : State) : Answer :=
  .next (if s.tb.mode = .holding ∧ 0 ≤ s.tb.slewLeft then
    s.modTb fun t => { t with wf := t.wf.move t.slewLeft, mode := .tracking, slewLeft := 0, slewWeb := 0, fresh := false }
  else s)

end Sys2Proof.Machine
end

