-- ==== Sys2Proof/Machine/Felt.lean ====
section
/-! DEFINITION. The felt (R79 to R105): the couch stage with its dark clamp, object coordinates, placement on the output
grid, accumulation, closure of lines, the stock stream with its dark statistics packet, and area rows. -/

namespace Sys2Proof.Machine

/-! ### Periods and their grid (R42, R57, R81, R84) -/

/-- The record of a line period. -/
def State.period (s : State) (seq : Nat) : Option Period := s.tb.periods.find? (·.seq = seq)

/-- A period whose exposure has been recorded. -/
def Period.known (p : Period) : Bool := p.start.isSome && p.stop.isSome

/-- c_j of R81: half-way between W at the start and at the end of the exposure; Y of R84. -/
def Period.centre (p : Period) : Pos := p.wStart.move (floorDiv (Pos.diff p.wStop p.wStart) 2)

/-- e_j of R81. -/
def Period.expo (p : Period) : Nat := p.stop.getD 0 - p.start.getD 0

/-- Exposure generation of field `f` in a period (R122). -/
def Period.gen (p : Period) (f : Nat) : Nat := bits p.gens (8 * f) 8

/-- The exposures of the samples latched in period `per` (R56, R57): j and its period, for the rows that transfer. -/
def State.exposures (s : State) (per : Nat) : List (Nat × Period) :=
  (List.range 8).filterMap fun j =>
    if per + j < 8 then none
    else match s.period (per + j - 8) with
      | some p => if p.known && j % p.fields == 0 then some (j, p) else none
      | none => none

/-- The object coordinate that one exposure gives in travel row `r`: c_j − r × opt_pitch (R81). -/
def Period.objectAt (p : Period) (r : Nat) : Pos := p.centre.move (-((r * p.optPitch : Nat) : Int))

/-- e_act and x of R81 for travel block `b`; the mean is formed relative to the first exposure and truncated
downwards. Without any recorded exposure, e_act is 0. -/
def objectOf (b : Nat) (xs : List (Nat × Period)) : Nat × Pos :=
  match xs with
  | [] => (0, 0)
  | (j0, p0) :: _ =>
    let org := p0.objectAt (8 * b + j0)
    let e := (xs.map fun (_, p) => p.expo).sum
    let d (j : Nat) (p : Period) : Int := Pos.diff (p.objectAt (8 * b + j)) org
    if e = 0 then (0, org.move (floorDiv (xs.map fun (j, p) => d j p).sum xs.length))
    else (e, org.move (floorDiv (xs.map fun (j, p) => (p.expo : Int) * d j p).sum e))

/-! ### The couch stage (R79, R80) -/

/-- Key of a dark-offset entry: physical block and column. -/
def darkKey (sb c : Nat) : Nat := sb * 16416 + c

/-- An entry of a dark-offset table: 0 until loaded or written (R79), the factory's where the bank was loaded from a
factory slot. -/
def TableBank.dark (b : TableBank) (area : Bool) (sb c : Nat) : Int :=
  (mget (darkKey sb c) (if area then b.darkArea else b.darkTdi)).getD
    ((if area then b.areaRest else b.tdiRest).getD
      (if b.base = .factory then ((Config.factoryDark (b2n area) sb c % 65536 : Nat) : Int) else 0))

/-- The dark bank a furnish selects. -/
def Furnish.darkBank (u : Furnish) : Fin 2 := if u.on R.fltCtrlDarkBank then 1 else 0

/-- A slice is in service (R69, R71). -/
def Slice.up (sl : Slice) : Bool := sl.state == .active || sl.state == .idle

/-- The dark columns of one side: sum of `16 × code − dk` and their number, for codes from column `c0` on. -/
def darkSum (bank : TableBank) (area : Bool) (sb c0 : Nat) (codes : List (BitVec 12)) : Int :=
  (codes.mapIdx fun i (x : BitVec 12) => 16 * (x.toNat : Int) - bank.dark area sb (c0 + i)).sum

/-- R80: delta_b from the dark columns of the two sides, those that are valid. -/
def clampOf (bank : TableBank) (area : Bool) (sb : Nat) (left right : Option (List (BitVec 12))) : Int :=
  let l := left.getD []
  let r := right.getD []
  let n := l.length + r.length
  if n = 0 then 0 else roundHalfUp (darkSum bank area sb 0 l + darkSum bank area sb 16368 r) n

/-- CLAMP_FALLBACK with one of slices 0 and 37 failed, CLAMP_LOST with both (R80). -/
def State.clampEvents (s : State) : State :=
  let l := s.hb.slices[(0 : Fin 38)].up
  let r := s.hb.slices[(37 : Fin 38)].up
  if l && r then s else if l || r then s.raise R.fltEvtClampFallback else s.raise R.fltEvtClampLost

/-- The open line of a product and sequence. -/
def State.openLine (s : State) (p seq : Nat) : Option FeltLine :=
  s.felt.lines.find? fun l => l.line.prod = p && l.line.seq = seq

/-- What a packet's samples need of its own line, which may have closed before them (R85, R97). -/
def State.packetLine (s : State) (p seq : Nat) : Option FeltLine :=
  (s.openLine p seq).or (s.felt.shells.find? fun l => l.line.prod = p && l.line.seq = seq)

/-- The packet's entry line of the block samples latched in period `per` at travel block `b` (R57). -/
def entryOf (per b : Nat) : Option Nat := if 8 * b + 8 ≤ per then some (per - 8 * b - 8) else none

/-- The physical block of travel block `b` in period `per`. -/
def State.blockAt (s : State) (per b : Nat) : Nat :=
  sbOf (match s.period per with | some p => p.rev | none => s.fu.inForce.reverse) b

/-- The furnish whose dark bank and clamp a block sample uses: the birth furnish of its own packet's line, the furnish
in force for a packet that makes no line (R79, R94). -/
def State.sampleFurnish (s : State) (per b : Nat) : Furnish :=
  match (entryOf per b).bind (s.packetLine (prodOf (s.blockAt per b))) with
  | some l => s.furnish l.line.furnish
  | none => s.fu.inForce

/-- The dark columns of a side as latched for a transfer, while its slice is in service. -/
def State.darksOf (s : State) (per b side : Nat) : Option (List (BitVec 12)) :=
  if (s.hb.slices[37 * side]?.map Slice.up).getD false then
    (s.hb.darks.find? fun d => d.1 = per && d.2.1 = b && d.2.2.1 = side).map (·.2.2.2)
  else none

/-- delta_b of a transfer and block, if it has been formed. -/
def State.delta? (s : State) (per b : Nat) : Option Int :=
  (s.felt.deltas.find? fun d => d.1 = per && d.2.1 = b).map (·.2.2)

/-- A clamp formed for travel block `b` (R80): it is the latest of its block, and the ream's sums take it (R104). -/
def State.noteClamp (b : Nat) (d : Int) (s : State) : State :=
  let i : Fin 32 := Fin.ofNat 32 b
  s.modFelt fun f =>
    { f with delta := f.delta.set i d, dsum := f.dsum.set i (f.dsum[i] + d), dcnt := f.dcnt.set i (f.dcnt[i] + 1) }

/-- The clamp of a transfer and block is formed, once (R80). -/
def State.formClamp (per b : Nat) (s : State) : State :=
  if (s.delta? per b).isSome then s
  else
    let u := s.sampleFurnish per b
    let on := u.on R.fltCtrlDclamp
    let d := if on then
        clampOf s.cal.banks[u.darkBank] false (s.blockAt per b) (s.darksOf per b 0) (s.darksOf per b 1)
      else 0
    let s := (s.iff on (·.clampEvents)).noteClamp b d
    s.modFelt fun f =>
      { f with deltas := (per, b, d) :: f.deltas.filter (fun e => per ≤ e.1 + 4),
               gsat := f.gsat.filter (fun e => per ≤ e.1 + 4) }

/-! ### Gains and placement (R82 to R88) -/

/-- R82: numerator of the normalisation gain, from the target's birth furnish. -/
def Furnish.gainNum (u : Furnish) (p f sb : Nat) : Nat :=
  u.get (R.fltEref f) * u.dref p * u.get (R.fltBgain sb) * u.get (R.fltPgain p f)

/-- R82: the gain, and whether it saturated. -/
def gainOf (num den : Nat) : Nat × Bool :=
  let n := (roundHalfUp num (den * 16384)).toNat
  if den = 0 ∨ 0xFFFF < n then (0xFFFF, true) else (n, false)

/-- R86: the weights of the taps, in 1/1,024, as (step in grid lines, weight). -/
def tapWeights (taps : Nat) (k : Int) : List (Int × Int) :=
  match taps with
  | 0 => [(0, 1024)]
  | 1 => [(0, 16 * (64 - k)), (1, 16 * k)]
  | _ =>
    let a := roundHalfUp (-k ^ 3 + 128 * k ^ 2 - 4096 * k) 512
    let c := roundHalfUp (-3 * k ^ 3 + 256 * k ^ 2 + 4096 * k) 512
    let d := roundHalfUp (k ^ 3 - 64 * k ^ 2) 512
    [(-1, a), (0, 1024 - a - c - d), (1, c), (2, d)]

/-- R86: the grid line A and phase k of a coordinate among the grid lines of field `f` and epoch `ep`, with grid step
`step`. -/
def State.bracket (s : State) (f step ep : Nat) (x : Pos) : Option (Nat × Int) :=
  let g := s.tb.periods.filter fun p => p.field == f && p.epoch == ep && p.known
  g.findSome? fun p =>
    match g.find? (·.seq = p.seq + step) with
    | some q =>
      if !Pos.ahead p.centre x && Pos.ahead q.centre x then
        let k := roundHalfUp (64 * Pos.diff x p.centre) (Pos.diff q.centre p.centre)
        some (if k = 64 then (p.seq + step, 0) else (p.seq, k))
      else none
    | none => none

/-- The taps of a block sample as (target sequence, weight), those of nonzero weight: R85, R86, and R88 for targets of
another epoch and for a coordinate that no two grid lines bracket. A tap whose target would come before sequence 0 is
moved to the sample's own line like one of another epoch (assumption 32). -/
def State.taps (s : State) (own : FeltLine) (ep : Nat) (x : Pos) : List (Nat × Int) :=
  let l := own.line
  let raw := if own.taps = 0 then [(l.seq, (1024 : Int))]
    else match s.bracket l.field own.step ep x with
      | none => [(l.seq, 1024)]
      | some (a, k) =>
        (tapWeights own.taps k).filterMap fun (i, w) =>
          let t : Int := a + i * own.step
          let mine := decide (0 ≤ t) && decide ((s.period t.toNat).map (·.epoch) = some ep)
          some (if mine then t.toNat else l.seq, w)
  raw.filter fun (_, w) => w != 0

/-- The latest epoch of a sample's exposures (R88). -/
def lastEpoch (xs : List (Nat × Period)) : Nat := xs.foldl (fun e (_, p) => max e p.epoch) 0

/-! ### Accumulators (R87, R89 to R92) -/

/-- The sticky top of an accumulator (R90). -/
def accTop : Int := 0x7FFFFF

/-- R90: a saturating addition; the top is sticky. -/
def accAdd (acc a : Int) : Int := if acc = accTop then accTop else clampInt (-0x800000) accTop (acc + a)

/-- R87: the contribution of one tap. -/
def contribution (sd n w : Int) : Int := roundHalfUp (sd * n * w) 4194304

/-- A held area row has an accumulator for a physical column (R105). -/
def AreaHeld.spans (l : AreaHeld) (c : Nat) : Bool :=
  decide (24 * l.line.word0 ≤ c) && decide (c < 24 * l.line.word0 + l.accs.length)

/-- Accumulators of a column in use (R89), those of the area rows held among them (R105). -/
def Felt.inUse (f : Felt) (c : Nat) : Nat :=
  (f.lines.filter fun l => (mget c l.acc).isSome).length + (f.areaHeld.filter (·.spans c)).length

/-- The most accumulators in use in one of `n` columns from `c0` on. -/
def Felt.mostInUse (f : Felt) (c0 n : Nat) : Nat :=
  if f.lines.isEmpty then (f.areaHeld.filter (·.spans c0)).length
  else ((List.range n).map fun i => f.inUse (c0 + i)).foldl max 0

/-- An update of one open line. -/
def State.onLine (p seq : Nat) (g : FeltLine → FeltLine) (s : State) : State :=
  s.modFelt fun f =>
    { f with lines := f.lines.map fun l => if l.line.prod = p && l.line.seq = seq then g l else l }

/-- One contribution to one column of a line (R87, R90, R92). -/
def State.accumulate (p seq c : Nat) (a : Int) (sat : Bool) (s : State) : State :=
  match s.openLine p seq with
  | none => s
  | some l =>
    let have' := mget c l.acc
    let used := s.felt.inUse c
    if have'.isNone && decide (264 ≤ used) then
      (s.onLine p seq (·.mark .poolEmpty)).raise R.fltEvtAccExh
    else
      let v := if sat then accTop else accAdd (have'.getD 0) a
      let s := s.onLine p seq fun l => { l with acc := mput c v l.acc }
      let s := s.modFelt fun f => { f with peak := max f.peak (used + b2n have'.isNone) }
      s.iff (v == accTop && have' != some accTop) (·.raise R.fltEvtAccSat)

/-- Whether a product's deckle under a furnish holds a physical column. -/
def Furnish.holds (u : Furnish) (p c : Nat) : Bool := decide (u.col0 p ≤ c) && decide (c < u.col0 p + u.cols p)

/-- The columns of a slice that both the packet's and the target's deckle hold (R94), as offsets in the slice. -/
def sharedCols (u v : Furnish) (p slice : Nat) : List Nat :=
  (List.range 432).filter fun i => u.holds p (432 * slice + i) && v.holds p (432 * slice + i)

/-! ### Closure conditions (R97) -/

/-- The blocks within the depth of a line. -/
def FeltLine.blocks (l : FeltLine) : List Nat := (List.range l.cap).map (l.first + ·)

/-- R97: whether a sample of block `b` of packet `seq` at `x` is the last one of its block that a line waits for. -/
def State.closesFor (l : FeltLine) (seq : Nat) (x : Pos) (s : State) : Bool :=
  if l.taps = 0 then l.line.seq == seq
  else match s.period (l.line.seq + l.taps * l.step) with
    | some y => y.known && !Pos.behind x y.centre
    | none => false

/-- R97: a sample of block `b` of packet `seq`, latched in period `per`, has been placed at `x` (or counts as placed
with weight 0): the lines of its product for which it is the last of its block note it, and the line period. -/
def State.meet (p b seq per : Nat) (x : Pos) (s : State) : State :=
  let now := s.tb.nextSeq
  s.modFelt fun fe =>
    { fe with lines := fe.lines.map fun l =>
        if l.line.prod != p then l
        else match l.passed.find? (·.1 = b) with
          | some q => if q.2 = per then { l with metAt := now } else l
          | none => if s.closesFor l seq x then { l with passed := (b, per) :: l.passed, metAt := now } else l }

/-! ### Delivery of a block sample (R58, R79 to R92) -/

/-- R406: samples handled while a VDD_CORE droop reaches are void. -/
def State.droopVoids (s : State) : Bool :=
  match s.thm.droopFrom with
  | some n => decide (s.tb.nextSeq ≤ n + 2)
  | none => false

/-- One tap of a delivery, of block `b` latched in period `per`: a void sample marks its target; else the target takes
the coast flag, the exposure generation, the epochs, and the contributions of the shared columns. A saturated gain
counts once for a sample and target (R82, R83), at the first slice that brings one that is not void. -/
def State.place (p sb slice : Nat) (own : FeltLine) (xs : List (Nat × Period)) (e : Nat) (delta : Int)
    (codes : List (BitVec 12)) (void : Option Cause) (per b : Nat) (t : Nat × Int) (s : State) : State :=
  match s.openLine p t.1 with
  | none => s
  | some l =>
    let f := l.line.field
    let v := s.furnish l.line.furnish
    let u := s.furnish own.line.furnish
    let g := gainOf (v.gainNum p f sb) (e * own.cap)
    let s := if g.2 && void.isNone then
        let s := s.onLine p t.1 (·.mark .gainSat)
        s.iff (!s.felt.gsat.contains (per, b, t.1)) fun s =>
          ((s.modFelt fun fe => { fe with gsat := (per, b, t.1) :: fe.gsat }).raise R.fltEvtGainSat).count R.fltGsatCnt 1
      else s
    if !v.usesSlice p slice then s
    else
      let add (a : List Nat) (i : Nat) : List Nat := if a.contains i then a else a ++ [i]
      let eps := (xs.map fun (_, q) => q.epoch).foldl add l.epochs
      let s := s.onLine p t.1 fun l => { l with epochs := eps }
      let s := s.iff (decide (1 < eps.length)) fun s => (s.onLine p t.1 (·.mark .epochs)).raise R.fltEvtEpochBreak
      match void with
      | some c => s.onLine p t.1 (·.mark c)
      | none =>
        let coast := xs.any fun (_, q) => q.coast
        let gens := (xs.map fun (_, q) => q.gen f).foldl add l.gens
        let s := s.onLine p t.1 fun l =>
          { l with
            gens := gens, hadSlice := l.hadSlice ||| (1 <<< slice),
            line := { l.line with flags := { l.line.flags with coast := l.line.flags.coast || coast,
                                                               blend := l.line.flags.blend || decide (1 < gens.length) } } }
        if e = 0 then s
        else
          let bank := s.cal.banks[u.darkBank]
          s.each (sharedCols u v p slice) fun i s =>
            let c := 432 * slice + i
            let code := (codes[i]?.getD 0).toNat
            let sd := 16 * (code : Int) - bank.dark false sb c - delta
            s.accumulate p t.1 c (contribution sd g.1 t.2) (code == 4095 && decide (512 ≤ t.2))

/-- A block sample reaches the couch stage, or is lost on its way (`void`): clamp, placement, closure conditions. A sample
of a line that R64 closes is discarded if it was latched at or after the boundary. A block counts as received once a slice
of the line's deckle has delivered a sample of it. -/
def State.couch (slice b per : Nat) (codes : List (BitVec 12)) (void : Option Cause) (s : State) : State :=
  let s := s.formClamp per b
  let delta := (s.delta? per b).getD 0
  let sb := s.blockAt per b
  let p := prodOf sb
  match entryOf per b with
  | none => s
  | some seq =>
    let xs := s.exposures per
    let (e, x) := objectOf b xs
    match s.packetLine p seq with
    | none => s
    | some own =>
      if !own.blocks.contains b || (own.closing && decide (s.hb.cutSeq ≤ per)) then s
      else
        let droop := (s.period per).any (·.adcDroop)
        let missed := void.isSome
        let void := if void.isSome then void else if s.droopVoids then some .void else if droop then some .adcDroop
          else none
        let s := match void with
          | some c => s.iff ((s.furnish own.line.furnish).usesSlice p slice) fun s => s.onLine p seq (·.mark c)
          | none => s
        let s := s.each (s.taps own (lastEpoch xs) x) fun t s => s.place p sb slice own xs e delta codes void per b t
        let s := s.onLine p seq fun l =>
          { l with got := if l.got.contains b || missed || !(s.furnish l.line.furnish).usesSlice p slice then l.got
                          else b :: l.got }
        s.meet p b seq per x

/-- Blocks that bring no sample to wait for (their packet uses them in no line, or none came) count as placed once
their window has closed: at the trigger of period `n`, those latched in period n − 2 (R97, assumption 31). -/
def State.passUnplaced (n : Nat) (s : State) : State :=
  if n < 2 then s
  else
    let per := n - 2
    let xs := s.exposures per
    if xs.isEmpty then s
    else
      s.each (List.range 32) fun b s =>
        match entryOf per b with
        | some seq => s.meet (prodOf (s.blockAt per b)) b seq per (objectOf b xs).2
        | none => s

/-- At the trigger of period `n`, packets are forgotten whose last samples' windows have closed. -/
def State.dropShells (n : Nat) (s : State) : State :=
  s.modFelt fun f => { f with shells := f.shells.filter fun l => decide (n ≤ l.line.seq + 8 * (l.first + l.cap) + 2) }

/-! ### Errors of accumulator words (R89) -/

/-- R89: the word of a slice that holds a column. -/
def accWord (c : Nat) : Nat × Nat := (sliceOf c, c % 432 / 10)

/-- An accumulator word is allocated to a line. -/
def FeltLine.hasWord (l : FeltLine) (slice word : Nat) : Bool := l.acc.any fun e => accWord e.1 == (slice, word)

/-- Corrected accumulator words: each counts. -/
def State.accCorrected (n : Nat) (s : State) : State :=
  s.iff (decide (0 < n)) fun s => (s.raise R.fltEvtEccCe).count R.fltCeCnt n

/-- An uncorrectable accumulator word: it counts; an open line that it is allocated to is broke and delivers its columns
as 0. -/
def State.accUncorrectable (p seq slice word : Nat) (s : State) : State :=
  let s := (s.raise R.fltEvtEccUe).count R.fltUeCnt 1
  s.onLine p seq fun l =>
    if l.hasWord slice word then { (l.mark .accUe) with lost := (slice, word) :: l.lost } else l

/-! ### Closure (R97 to R101) -/

/-- Whether some slice of a line's deckle still holds a sample that a condition on its period and block picks. -/
def State.holdsSample (s : State) (l : FeltLine) (p : Nat → Nat → Bool) : Bool :=
  s.hb.slices.toList.zipIdx.any fun e =>
    (s.furnish l.line.furnish).usesSlice l.line.prod e.2 && e.1.buf.any fun x => p x.period x.block.val

/-- Whether a sample of a transfer and block is still to be delivered to a line. -/
def State.undelivered (s : State) (l : FeltLine) (per b : Nat) : Bool :=
  s.holdsSample l fun q c => q == per && c == b

/-- R97, R64: the line may close; by itself only once the line period of its last closing sample has ended; where R64
closes it, once the samples latched before the boundary have been delivered. -/
def State.closable (s : State) (l : FeltLine) : Bool :=
  if l.closing then
    if l.taps = 0 then
      l.blocks.all fun b =>
        let per := l.line.seq + 8 * b + 8
        decide (s.hb.cutSeq ≤ per) || !s.undelivered l per b
    else !s.holdsSample l fun q c => decide (q < s.hb.cutSeq) && prodOf (s.blockAt q c) == l.line.prod
  else
    decide (l.line.seq + l.taps * l.step + 8 * l.first < s.tb.nextSeq) && decide (l.metAt < s.tb.nextSeq) &&
      l.req.all fun b => l.passed.any fun q => q.1 == b && !s.undelivered l q.2 b

/-- R97, R103: its turn has come: no earlier line of its product, and no line of an earlier product that may close. -/
def State.itsTurn (s : State) (l : FeltLine) : Bool :=
  s.felt.lines.all fun o =>
    !(o.line.prod == l.line.prod && decide (o.line.seq < l.line.seq)) &&
      !(decide (o.line.prod < l.line.prod) && s.closable o)

/-- R98: lin20 of an accumulator. -/
def lin20 (acc : Int) : Nat :=
  if acc = accTop then fullScale else (clampInt 0 fullScale (floorDiv (acc + 2) 4)).toNat

/-- R98: the value would pass full scale, or is sticky. -/
def clipped (acc : Int) : Bool := acc == accTop || decide ((fullScale : Int) < floorDiv (acc + 2) 4)

/-- The accumulator of a column at closure: nothing in an invalid slice or a lost word. -/
def FeltLine.at (l : FeltLine) (c : Nat) : Int :=
  if bitOf l.line.valid (sliceOf c) && !l.lost.contains (accWord c) then (mget c l.acc).getD 0 else 0

/-- R99: `n` columns binned. -/
def binned (n : Nat) (accs : List Int) : Nat :=
  if accs.any (· == accTop) then fullScale else ((accs.map lin20).sum + n / 2) / n

/-- A list cut into groups of `n`. -/
def chunks {α : Type} (n : Nat) (l : List α) : List (List α) :=
  (List.range ((l.length + n - 1) / n)).map fun i => (l.drop (i * n)).take n

/-- R98, R99, R102: the pixels of a line from its accumulators. -/
def pixels (hbin : Nat) (ply10 : Bool) (accs : List Int) : List Nat :=
  let v := if hbin = 1 then accs.map lin20 else (chunks hbin accs).map (binned hbin)
  if ply10 then v.map plyEncode else v

/-- A dark statistics packet is sent (R104) on a virtual channel. -/
def State.sendDark (vc : Nat) (s : State) : State :=
  match s.felt.due with
  | some (ream, _, means) => s.modFelt fun f => { f with due := none, stock := f.stock ++ [.dark vc ream means] }
  | none => s

/-- A line packet leaves on the stock stream (R101); the statistics packet that is due follows it (R104). -/
def State.toStock (l : Line) (s : State) : State :=
  let s := s.modFelt fun f => { f with stock := f.stock ++ [.line l] }
  let s := s.bump (0x54 + 4 * l.prod + l.field) 1
  match s.felt.due with
  | some _ => s.sendDark l.prod
  | none => s

/-- The line of an open line at its closure: position, tick, validity, flags, pixels (R84, R95, R98 to R101). -/
def State.closed (s : State) (l : FeltLine) : Line :=
  let u := s.furnish l.line.furnish
  let p := l.line.prod
  let slices := (List.range 38).filter (u.usesSlice p)
  let padded := slices.any fun i => !bitOf l.line.valid i
  let accs := (List.range (u.cols p)).map fun i => l.at (u.col0 p + i)
  let line := { l.line with
    head := BitVec.ofNat 16 (s.fget R.wlkHeadId),
    depth := if l.closing then l.got.length else l.cap,
    pix := pixels (u.hbin p) l.line.ply10 accs, ncomp := 1 }
  let line := match s.period l.line.seq with
    | some q =>
      let y := if q.known then q.centre else q.wStart
      { line with wc := y.wc, tick := (q.start.getD q.trig + q.stop.getD q.trig) / 2 }
    | none => line
  if padded then line.pad else line

/-- A line closes. -/
def State.closeLine (l : FeltLine) (s : State) : State :=
  let line := s.closed l
  let clip := l.acc.any fun (c, a) => clipped a && l.at c == a
  let s := s.modFelt fun f =>
    { f with lines := f.lines.filter fun o => !(o.line.prod == l.line.prod && o.line.seq == l.line.seq),
             shells := if l.taps = 0 || l.closing then f.shells
               else f.shells ++ [{ l with acc := [], lost := [], passed := [], got := [] }] }
  let s := s.iff clip fun s => s.count R.fltClipCnt 1
  s.toStock line

/-! ### Birth of a line (R93 to R96, R120) -/

/-- R70, R71: the slices in service, whose columns are valid in a line or frame that enters at sequence `seq`. -/
def State.validSlices (seq : Nat) (s : State) : BitVec 38 :=
  (List.range 38).foldl (fun (v : BitVec 38) i =>
    match s.hb.slices[i]? with
    | some sl => if sl.up && decide (sl.validFrom ≤ seq) then v ||| (1 <<< i) else v
    | none => v) 0

/-- A line of product `p` opens at its entry period: its packet entered at `q`, the furnish in force is its birth
furnish (R120); `ceil` is FLT_CEIL after the step of this trigger. -/
def State.openIn (p : Nat) (q : Period) (s : State) : State :=
  let u := s.fu.inForce
  let d := min (u.depth p) s.felt.ceil
  let e := entryBlock u.reverse p
  let near (l : FeltLine) (taps step : Nat) : Bool :=
    l.line.prod == p && l.line.field == q.field && decide (l.line.seq + taps * step ≥ q.seq) &&
      decide (l.line.seq ≤ q.seq + taps * step)
  let valid := s.validSlices q.seq
  let blocks := (List.range d).map (e + ·)
  let join (a b : List Nat) : List Nat := a ++ b.filter (!a.contains ·)
  let olds := s.felt.lines.filter fun l => near l u.taps q.fields
  let edge := (List.range u.taps).any fun i =>
    decide ((i + 1) * q.fields ≤ q.seq) &&
      (match s.period (q.seq - (i + 1) * q.fields) with | some r => !bitOf r.prods p | none => false)
  let line : Line :=
    { prod := p, field := q.field, seq := q.seq, furnish := u.id, hbin := u.hbin p, word0 := u.word0 p,
      epoch := q.epoch, ream := q.ream, ply10 := u.ply10 p, valid := valid, depth := d,
      flags := { throttled := decide (s.felt.ceil < u.depth p) } }
  let line := ((((line.markIf q.early .early).markIf q.resync .resync).markIf q.fieldBreak .fieldBreak).markIf
    edge .prodEdge)
  let new : FeltLine :=
    { line := line, first := e, cap := d, taps := u.taps, step := q.fields,
      req := olds.foldl (fun a l => join a l.blocks) blocks }
  s.modFelt fun f =>
    { f with lines := (f.lines.map fun l =>
        if near l l.taps l.step then { l with req := join l.req blocks } else l) ++ [new] }

/-- R96: a packet is born with product `p` disabled: open lines whose taps reach it are broke. -/
def State.bornDisabled (p : Nat) (q : Period) (s : State) : State :=
  let s := s.modTb fun t =>
    { t with periods := t.periods.map fun r =>
        if r.seq = q.seq then { r with prods := r.prods &&& ~~~((1 : BitVec 3) <<< p) } else r }
  s.markLines (fun l => l.line.prod == p && l.line.field == q.field && l.line.seq != q.seq &&
    decide (l.line.seq + l.taps * l.step ≥ q.seq) && decide (l.line.seq ≤ q.seq + l.taps * l.step)) .prodEdge

/-- The entry periods that begin at trigger `n` (R93): packet n − 8 e_p of each product. No line of a packet that
R64 cuts, of a trigger in a clearing, or after a critical stop (R418). -/
def State.births (n : Nat) (s : State) : State :=
  let u := s.fu.inForce
  if u.area then s
  else s.each [0, 1, 2] fun p s =>
    let e := entryBlock u.reverse p
    if n < 8 * e then s
    else match s.period (n - 8 * e) with
      | none => s
      | some q =>
        if !q.makes || decide (q.seq < s.hb.cutSeq) then s
        else if u.prodOn p then s.openIn p q else s.bornDisabled p q

/-! ### Area rows (R105) -/

/-- First physical rows of the groups of an area window, in ascending order (R76). -/
def Furnish.areaGroups (u : Furnish) : List Nat :=
  (List.range 256).filter fun r =>
    let g := u.rowGroup (r / 8)
    r % g == 0 && decide (u.rowFirst ≤ r + g - 1) && decide (r ≤ u.rowLast)

/-- R105: the gain of area rows. -/
def Furnish.areaGain (u : Furnish) (sb e expo : Nat) : Nat × Bool :=
  let num := 4096 * u.get R.fltAreaEref * u.get (R.fltBgain sb) * u.get (R.fltPgain 3 e)
  let n := (roundHalfUp num (expo * 2 ^ 26)).toNat
  if expo = 0 ∨ 0xFFFF < n then (0xFFFF, true) else (n, false)

/-- What a row readout of a block gives: the row, whether the gain or an accumulator saturated, and its clamp. -/
structure AreaRow where
  row     : AreaHeld
  gainSat : Bool
  accSat  : Bool
  delta   : Int
deriving DecidableEq, Repr, Inhabited

/-- One row readout of block `sb` as a line of product A (R76, R105): `codes` are the 48 left dark columns, the window,
and the 48 right dark columns; `void`: a droop makes it void (R73, R406), so that it counts with weight 0 (R98). Its
columns are valid in the slices that have been in service since its frame entered (R70, R71). -/
def State.areaRow (s : State) (fr : SubFrame) (sb row : Nat) (codes : List (BitVec 12)) (void : Option Cause) :
    AreaRow :=
  let u := s.furnish fr.furnish
  let bank := s.cal.banks[u.darkBank]
  let n := u.cols 3
  let up (i : Nat) : Bool := (s.hb.slices[i]?.map Slice.up).getD false
  let left := if up 0 then some (codes.take 48) else none
  let right := if up 37 then some (codes.drop (48 + n)) else none
  let delta := if u.on R.fltCtrlDclamp then clampOf bank true sb left right else 0
  let g := u.areaGain sb fr.sub (u.areaExpo fr.sub)
  let accs := ((codes.drop 48).take n).mapIdx fun i (x : BitVec 12) =>
    let c := u.col0 3 + i
    if void.isSome || !bitOf fr.valid (sliceOf c) || u.areaExpo fr.sub == 0 then 0
    else if x = 4095 then accTop
    else accAdd 0 (contribution (16 * (x.toNat : Int) - bank.dark true sb c - delta) g.1 1024)
  let q := s.period fr.seq
  let line : Line :=
    { prod := 3, field := fr.sub, seq := fr.seq, furnish := fr.furnish, depth := u.rowGroup sb, hbin := u.hbin 3,
      word0 := u.word0 3, wc := fr.w, row := row, epoch := (q.map (·.epoch)).getD s.tb.epoch, tick := fr.tick,
      ream := (q.map (·.ream)).getD s.tb.ream.toNat, head := BitVec.ofNat 16 (s.fget R.wlkHeadId), valid := fr.valid,
      flags := { coast := fr.coast }, ncomp := 1 }
  let line := if ((List.range 38).filter (u.usesSlice 3)).any (!bitOf fr.valid ·) then line.pad else line
  let sat := g.2 && void.isNone
  let line := ((line.markIf sat .gainSat).markIf (q.any (·.early)) .early).markIf (q.any (·.resync)) .resync
  { row := { line := match void with | some c => line.mark c | none => line, accs := accs },
    gainSat := sat, accSat := accs.contains accTop, delta := delta }

/-- A held row leaves the pool: its pixels are converted and binned (R98, R99), and a clamped one counts; `g` marks it. -/
def State.releaseRow (g : Line → Line) (h : AreaHeld) (s : State) : State :=
  (s.iff (h.accs.any clipped) (·.count R.fltClipCnt 1)).toStock
    (g { h.line with pix := pixels h.line.hbin false h.accs })

/-- Rows converted are released in ascending order, each once every lower row of the window has been (R105). -/
def State.releaseRows (s : State) : State :=
  let go := s.felt.areaHeld.filter fun l => s.felt.areaTodo.all fun r => decide (l.line.row < r)
  let s := s.modFelt fun f =>
    { f with areaHeld := f.areaHeld.filter fun l => !(f.areaTodo.all fun r => decide (l.line.row < r)) }
  s.each go fun l s => s.releaseRow id l

/-- An uncorrectable accumulator word of a row (R89, R105): it counts; a row held that it is allocated to is broke and
delivers its columns as 0. -/
def State.areaUncorrectable (row slice word : Nat) (s : State) : State :=
  let s := (s.raise R.fltEvtEccUe).count R.fltUeCnt 1
  let hit (l : AreaHeld) (i : Nat) : Bool := accWord (24 * l.line.word0 + i) == (slice, word)
  s.modFelt fun f =>
    { f with areaHeld := f.areaHeld.map fun l =>
        if l.line.row == row && (List.range l.accs.length).any (hit l) then
          { line := l.line.mark .accUe, accs := l.accs.mapIdx fun i a => if hit l i then 0 else a }
        else l }

/-- A row put in order. -/
def insertRow (l : AreaHeld) : List AreaHeld → List AreaHeld
  | [] => [l]
  | o :: t => if l.line.row < o.line.row then l :: o :: t else o :: insertRow l t

/-! ### The commands -/

/-- LINE_CLOSURE (R97, R89): the line's accumulators are read, `ce` words of them corrected, the words `ue`
uncorrectable; then it closes. -/
def State.closure (p seq ce : Nat) (ue : List (Fin 38 × Fin 44)) (s : State) : State :=
  match s.openLine p seq with
  | some l =>
    if s.closable l && s.itsTurn l then
      let s := (s.accCorrected ce).each ue fun w s => s.accUncorrectable p seq w.1 w.2
      match s.openLine p seq with
      | some l => s.closeLine l
      | none => s
    else s
  | none => s

/-- LINE_CLOSURE (R97, R89). -/
def execLineClosure (prod : Fin 3) (seq : Nat) (ce : Nat) (ue : List (Fin 38 × Fin 44)) (s : State) : Answer :=
  .next (s.closure prod seq ce ue)

/-- DARK_STATS_TIMEOUT (R104): no line packet has closed within 2^k line periods of the ream boundary. -/
def execDarkStatsTimeout (s : State) : Answer :=
  .next (match s.felt.due with
    | some (_, n, _) => if n + 2 ^ s.tb.reamK ≤ s.tb.nextSeq then s.sendDark 0 else s
    | none => s)

end Sys2Proof.Machine
end

