-- ==== Sys2Proof/Machine/CalStages.lean ====
section
/-! DEFINITION. The arithmetic of the calender (R129 to R142, R146): the stages on the components of one line, under
the line's birth furnish and the table bank it selects. -/

namespace Sys2Proof.Machine

/-- R130: the clamp of a stage to `[0, FS − 1]`. -/
def fsClamp (v : Int) : Nat := (clampInt 0 ((fullScale : Int) - 1) v).toNat

/-- R130: a result is FS when an input read with a nonzero coefficient is FS, else its clamped value. -/
def fsOr (reads : List (Int × Nat)) (v : Int) : Nat :=
  if reads.any fun (k, x) => k != 0 && x == fullScale then fullScale else fsClamp v

/-- The component at an index. -/
def comp (x : List Nat) (i : Nat) : Nat := x[i]?.getD 0

/-- R159: the column of pixel `i` of a line: its own column, or its bin's first one (R132). -/
def Line.column (l : Line) (i : Nat) : Nat := 24 * l.word0 + l.hbin * i

/-- The section of a line's rows: its product, or that of the physical row of an area row (R129, R54). -/
def Line.section (l : Line) : Nat := if l.prod = 3 then prodOf (l.row / 8) else l.prod

/-- R133: the coefficient set of a column (0 C, 1 N, 2 Gr, 3 R, 4 Gb, 5 B). -/
def Line.xtSet (l : Line) (i : Nat) : Nat :=
  match l.section with | 0 => 0 | 1 => 2 + i % 4 | _ => 1

/-- Stage 1a (R133). -/
def stage1a (u : Furnish) (l : Line) (x : List Nat) : List Nat :=
  if !u.on R.calCtrlXtEn || l.hbin != 1 then x
  else x.mapIdx fun i v =>
    let k (t : Nat) : Int := signed 16 (u.get (R.calXtCoef (3 * l.xtSet i + t)))
    let first := decide (i = 0)
    let last := decide (i + 1 = x.length)
    let k0 := if first then 0 else k 0
    let k2 := if last then 0 else k 2
    let k1 := k 1 + (if first then k 0 else 0) + (if last then k 2 else 0)
    let a := comp x (i - 1)
    let b := comp x (i + 1)
    fsOr [(1, v), (k0, a), (k2, b)] (roundHalfUp (k0 * a + k1 * v + k2 * b) 16384)

/-- Stage 1b (R134). -/
def stage1b (u : Furnish) (l : Line) (x : List Nat) : List Nat :=
  if !u.on R.calCtrlGrgbEn || l.hbin != 1 || l.section != 1 then x
  else x.mapIdx fun i v =>
    if i % 4 = 2 then fsOr [(1, v)] (roundHalfUp ((v * u.get (R.calGbGain l.field) : Nat) : Int) 16384) else v

/-- Keys of the residual and flat tables. -/
def residualKey (p c : Nat) : Nat := p * 16416 + c

def flatKey (p f c : Nat) : Nat := (p * 4 + f) * 16416 + c

/-- A residual entry: 0 until written (R138, R383). -/
def TableBank.res (b : TableBank) (p c : Nat) : Int := (mget (residualKey p c) b.residual).getD 0

/-- A flat gain: 0x4000 at identity, else what the factory stored (R138, R383). -/
def TableBank.gain (b : TableBank) (p f c : Nat) : Int :=
  (mget (flatKey p f c) b.flat).getD
    (if b.base = .factory then ((Config.factoryFlat p f c % 65536 : Nat) : Int) else 0x4000)

/-- A word of the defect map: 0 at identity, else what the factory stored. -/
def TableBank.defect (b : TableBank) (i : Nat) : Word :=
  match mget i b.defects with
  | some v => BitVec.ofInt 32 v
  | none => if b.base = .factory then Config.factoryDefects i else 0

/-- The words of the defect map that may hold an entry, in ascending order. -/
def TableBank.map (b : TableBank) : List Word :=
  if b.base = .factory then (List.range 4096).map b.defect else b.defects.map fun (i, _) => b.defect i

/-- Stage 2 (R136). -/
def stage2 (u : Furnish) (b : TableBank) (l : Line) (x : List Nat) : List Nat :=
  if !u.on R.calCtrlColresEn then x
  else x.mapIdx fun i v => fsOr [(1, v)] ((v : Int) - b.res l.prod (l.column i))

/-- Stage 3 (R136). -/
def stage3 (u : Furnish) (b : TableBank) (l : Line) (x : List Nat) : List Nat :=
  if !u.on R.calCtrlFlatEn then x
  else x.mapIdx fun i v => fsOr [(1, v)] (roundHalfUp (v * b.gain l.prod l.field (l.column i)) 16384)

/-- R137: the listed pixels of a line with their METHOD; an entry of a binned line applies to its bin. -/
def defectsOf (b : TableBank) (l : Line) : List (Nat × Nat) :=
  b.map.filterMap fun w =>
    let c := bits w 0 14
    let i := (c - l.column 0) / l.hbin
    if bitOf w 31 && bits w 14 2 == l.prod && decide (l.column 0 ≤ c) && decide (i < l.pix.length) then
      some (i, bits w 16 2)
    else none

/-- R137: the nearest qualifying neighbour on a side, at most 8 steps away. A step is one pixel of the line, so on a
binned line it is a bin: whether its steps of 4 and the limit of 8 steps count pixels or columns is stated nowhere (DESIGN
CHOICE, log 75). -/
def neighbour (bad : List (Nat × Nat)) (n step i : Nat) (left : Bool) : Option Nat :=
  ((List.range 8).filterMap fun m =>
    let d := step * (m + 1)
    if left then (if d ≤ i then some (i - d) else none) else (if i + d < n then some (i + d) else none)).find? fun j =>
    !bad.any (·.1 = j)

/-- The concealed value of a listed pixel, and whether no neighbour qualified (R137). -/
def conceal (x : List Nat) (bad : List (Nat × Nat)) (step i method : Nat) : Nat × Bool :=
  let v := comp x i
  let l := neighbour bad x.length step i true
  let r := neighbour bad x.length step i false
  let one (j : Nat) : Nat × Bool := (fsOr [(1, v), (1, comp x j)] (comp x j), false)
  match l, r with
  | none, none => (fsOr [(1, v)] 0, true)
  | some j, none => one j
  | none, some j => one j
  | some j, some k =>
    if method = 1 then one j
    else if method = 2 then one k
    else (fsOr [(1, v), (1, comp x j), (1, comp x k)] (((comp x j + comp x k + 1) / 2 : Nat) : Int), false)

/-- Stage 4 (R137): the components and whether DPC_VOID is set. -/
def stage4 (u : Furnish) (b : TableBank) (l : Line) (x : List Nat) : List Nat × Bool :=
  if !u.on R.calCtrlDpcEn then (x, false)
  else
    let bad := defectsOf b l
    let step := if l.prod = 1 then 4 else 1
    let y := x.mapIdx fun i v =>
      match bad.find? (·.1 = i) with
      | some (_, m) => conceal x bad step i m
      | none => (v, false)
    (y.map (·.1), y.any (·.2))

/-- Stages 1 to 4 (R129). -/
def stages14 (u : Furnish) (b : TableBank) (l : Line) (x : List Nat) : List Nat × Bool :=
  stage4 u b l (stage3 u b l (stage2 u b l (stage1b u l (stage1a u l x))))

/-! ### Colour reconstruction (R139 to R142) -/

/-- A reference outside the deckle replaced by the nearest column inside it at the same place in its period (R132). -/
def refCol (n per : Nat) (j : Int) : Nat :=
  if j < 0 then (j % per).toNat
  else if (n : Int) ≤ j then n - 1 - (((n : Int) - 1 - j) % per).toNat
  else j.toNat

/-- The two columns between which a phase is interpolated at `j`, with their weights (R140). -/
def brackets (n per ph j : Nat) : (Nat × Int) × (Nat × Int) :=
  let r := ((j : Int) - ph) % per
  if r = 0 then ((j, 1), (j, 0))
  else ((refCol n per ((j : Int) - r), per - r), (refCol n per ((j : Int) - r + per), r))

/-- The interpolated value of R140, rounded. -/
def interp (n per ph j : Nat) (v : Nat → Int) : Int :=
  let (a, b) := brackets n per ph j
  roundHalfUp (a.2 * v a.1 + b.2 * v b.1) (a.2 + b.2)

/-- Whether the interpolation reads a saturated column. -/
def interpSat (n per ph j : Nat) (sat : Nat → Bool) : Bool :=
  let (a, b) := brackets n per ph j
  (a.2 != 0 && sat a.1) || (b.2 != 0 && sat b.1)

/-- Period and first column of a colour: R, G, B as 0, 1, 2. -/
def colourPhase (col : Nat) : Nat × Nat := match col with | 0 => (4, 1) | 1 => (2, 0) | _ => (4, 3)

/-- Index in CAL_NIR_K of the colour of a phase (R140: gr and gb use k_g). -/
def phaseColour (i : Nat) : Nat := match i % 4 with | 1 => 0 | 3 => 2 | _ => 1

/-- The columns of a line lie over those of another (R139). -/
def Line.covers (g l : Line) : Bool :=
  decide (g.column 0 ≤ l.column 0) && decide (l.column l.pix.length ≤ g.column g.pix.length)

/-- The value of a partner line at column `j` of a line. -/
def Line.sampleAt (g l : Line) (j : Nat) : Nat := comp g.pix ((l.column j - g.column 0) / g.hbin)

/-- The NIR term `round_half_up(k × n / 16384)`. -/
def nirTerm (k n : Nat) : Int := roundHalfUp ((k * n : Nat) : Int) 16384

/-- Clear-guided reconstruction (R140): the three components of every column; `c` and `nir` give C and N there. -/
def clearGuided (u : Furnish) (x : List Nat) (c : Nat → Nat) (nir : Option (Nat → Nat)) : List Nat :=
  let n := x.length
  let e : Int := max 64 (u.get R.calGuideFloor)
  let k (i : Nat) : Nat := if nir.isSome then u.get (R.calNirK i) else 0
  let nv (j : Nat) : Nat := match nir with | some f => f j | none => 0
  let c1 : List Int := (List.range n).map fun j => max 0 ((c j : Int) - nirTerm (k 3) (nv j))
  let cs := (List.range n).map fun j => c j == fullScale || (k 3 != 0 && nv j == fullScale)
  let s1 : List Int := x.mapIdx fun i (v : Nat) => max 0 ((v : Int) - nirTerm (k (phaseColour i)) (nv i))
  let ss := x.mapIdx fun i v => v == fullScale || (k (phaseColour i) != 0 && nv i == fullScale)
  let q : List Int := (List.range n).map fun i =>
    min 0xFFFFF (floorDiv (65536 * ((s1[i]?.getD 0) + e)) ((c1[i]?.getD 0) + e))
  (List.range n).flatMap fun j => [0, 1, 2].map fun col =>
    let (per, ph) := colourPhase col
    if cs[j]?.getD false || interpSat n per ph j fun a => ss[a]?.getD false || cs[a]?.getD false then fullScale
    else fsClamp (roundHalfUp (((c1[j]?.getD 0) + e) * interp n per ph j fun a => q[a]?.getD 0) 65536 - e)

/-- G of edge-aware reconstruction at an odd column (R141). -/
def edgeGreen (tau : Int) (x : List Nat) (i : Nat) : Nat :=
  let at' (d : Int) : Nat := comp x (refCol x.length 4 ((i : Int) + d))
  let v (d : Int) : Int := at' d
  let el := 4 * v (-1) + v 0 - v (-4)
  let er := 4 * v 1 + v 0 - v 4
  let dl : Int := ((v (-1) - v (-3)).natAbs + (v 0 - v (-4)).natAbs : Nat)
  let dr : Int := ((v 1 - v 3).natAbs + (v 0 - v 4).natAbs : Nat)
  let g := if dl + tau < dr then roundHalfUp el 4 else if dr + tau < dl then roundHalfUp er 4 else roundHalfUp (el + er) 8
  fsOr ([-4, -3, -1, 0, 1, 3, 4].map fun d => ((1 : Int), at' d)) g

/-- Edge-aware reconstruction (R141). -/
def edgeAware (u : Furnish) (x : List Nat) : List Nat :=
  let n := x.length
  let tau : Int := u.get R.calEdgeTau
  let g := x.mapIdx fun i v => if i % 2 = 0 then fsOr [(1, v)] v else edgeGreen tau x i
  let diff (a : Nat) : Int := (comp x a : Int) - comp g a
  let sat (a : Nat) : Bool := comp x a == fullScale || comp g a == fullScale
  let colour (ph j : Nat) : Nat :=
    if comp g j == fullScale || interpSat n 4 ph j sat then fullScale else fsClamp (comp g j + interp n 4 ph j diff)
  (List.range n).flatMap fun j => [colour 1 j, comp g j, colour 3 j]

/-- Stage 6 (R141): NIR leak subtracted from an edge-aware line. -/
def stage6 (u : Furnish) (nir : Nat → Nat) (y : List Nat) : List Nat :=
  y.mapIdx fun i v =>
    let k := u.get (R.calNirK (i % 3))
    let n := nir (i / 3)
    fsOr [(1, v), (k, n)] ((v : Int) - nirTerm k n)

/-- Stage 7 (R142): the matrix of the line's field on one pixel. -/
def colourMatrix (u : Furnish) (f : Nat) (p : List Nat) : List Nat :=
  if p.contains fullScale then [fullScale, fullScale, fullScale]
  else (List.range 3).map fun r =>
    let sum := ((List.range 3).map fun k => signed 16 (u.get (R.calCmCoef f r k)) * (comp p k : Int)).sum
    fsClamp (roundHalfUp sum 4096 + signed 21 (u.get (R.calCmOfs f r)))

def stage7 (u : Furnish) (f : Nat) (y : List Nat) : List Nat :=
  if u.on R.calCtrlCmEn then (chunks 3 y).flatMap (colourMatrix u f) else y

/-! ### Field merge (R145, R146) -/

/-- The product that CAL_MERGE.PROD names. -/
def Furnish.mergeProd (u : Furnish) : Option Nat :=
  match u.get R.calMergeProd with | 0 => some 0 | 1 => some 2 | 2 => some 3 | _ => none

/-- R145: the merge is active: two different fields below the field count (assumption 36), and a product. -/
def Furnish.mergeActive (u : Furnish) : Bool :=
  u.get R.calMergeSec != u.get R.calMergePri && u.mergeProd.any fun p =>
    decide (u.get R.calMergePri < u.fieldsOf p) && decide (u.get R.calMergeSec < u.fieldsOf p)

/-- R145: the line may be the partner of a primary born under the furnish. -/
def Furnish.partners (u : Furnish) (l : Line) : Bool :=
  u.on R.calMergeEn && u.mergeProd == some l.prod && l.field == u.get R.calMergeSec && u.mergeActive

/-- R145: the line is a merge primary. -/
def Furnish.primary (u : Furnish) (l : Line) : Bool :=
  u.on R.calMergeEn && u.mergeProd == some l.prod && l.field == u.get R.calMergePri &&
    u.mergeActive

/-- R145: the partner of a primary, as product, field, sequence and row. -/
def Furnish.partnerOf (u : Furnish) (l : Line) : Nat × Nat × Nat × Nat :=
  let sec := u.get R.calMergeSec
  if l.prod = 3 then (3, sec, l.seq, l.row)
  else (l.prod, sec, l.seq + (sec + u.fields - u.get R.calMergePri) % u.fields, l.row)

/-- R146: one merged component. A K1 that is not above K0 makes a step at K0, where the rule's first test decides. -/
def mergeComp (u : Furnish) (long short : Nat) : Nat :=
  let k0 : Int := u.get R.calMergeK0
  let k1 : Int := max k0 (u.get R.calMergeK1)
  let s := roundHalfUp ((short * max 1 (u.get R.calMergeRatio) : Nat) : Int) 1024
  let l : Int := long
  let m := if long = fullScale ∨ k1 ≤ l then s else if l ≤ k0 then l
    else roundHalfUp ((k1 - l) * l + (l - k0) * s) (k1 - k0)
  if short = fullScale then fullScale
  else (clampInt 0 ((fullScale : Int) - 1) (roundHalfUp m (2 ^ min 4 (u.get R.calMergeShift)))).toNat

/-- R146: the primary merged with its partner; its first `upto` components pass the stage, the others came by the
bypass path. A column outside the partner's deckle takes the nearest one inside (R132). -/
def mergeLine (u : Furnish) (upto : Nat) (p q : Line) : Line :=
  let at' (i : Nat) : Nat :=
    comp q.pix (min (q.pix.length - 1) ((p.column i - q.column 0) / q.hbin))
  let f := p.flags
  let g := q.flags
  { p with
    pix := p.pix.mapIdx fun i v => if i < upto then mergeComp u v (at' i) else v,
    cause := p.cause ||| q.cause,
    flags := { f with broke := f.broke || g.broke, padded := f.padded || g.padded,
                      throttled := f.throttled || g.throttled, coast := f.coast || g.coast,
                      blend := f.blend || g.blend || p.furnish != q.furnish } }

end Sys2Proof.Machine
end

