-- ==== Sys2Proof/Machine/Stats.lean ====
section
/-! DEFINITION. The statistics (R173 to R183): histograms and zone sums by period, the two result banks and the bytes of
result memory. -/

namespace Sys2Proof.Machine

/-! ### What a line gives (R174 to R176) -/

/-- R174: the product and field of a line are enabled in its birth furnish. -/
def Furnish.counts (u : Furnish) (p f : Nat) : Bool :=
  bitOf (BitVec.ofNat 4 (u.get R.stsCtrlProdEn)) p && bitOf (BitVec.ofNat 4 (u.get R.stsCtrlFieldEn)) f

/-- The slice of a pixel: its (first) column as a physical one (R19). -/
def Line.pixelSlice (l : Line) (i : Nat) : Nat := sliceOf (l.column i + if l.prod = 3 then 0 else 48)

/-- R176: the zone of a sheet word. -/
def Furnish.zone (u : Furnish) (p word : Nat) : Option Nat :=
  let first := u.get R.stsZoneFirst
  let z := (word - first) / max 1 (u.get R.stsZoneWords)
  if first ≤ word ∧ word ≤ (if p = 3 then 683 else 679) ∧ z ≤ u.get R.stsZoneCntM1 then some z else none

/-- A saturating addition to an entry of a table. -/
def tadd (top : Nat) (k n : Nat) (t : Table) : Table := mput k (min top ((mget k t).getD 0 + n)) t

def top32 : Nat := 0xFFFFFFFF
def top64 : Nat := 0xFFFFFFFFFFFFFFFF

/-- One component of a pixel: its bin, and its zone's sum and count of saturated values. -/
def StatPeriod.take (zone : Option Nat) (k v : Nat) (r : StatPeriod) : StatPeriod :=
  let r := { r with hist := tadd top32 (256 * k + plyEncode v / 4) 1 r.hist }
  match zone with
  | some z => { r with zsum := tadd top64 (3 * z + k) v r.zsum,
                       zsat := if v = fullScale then tadd top32 (3 * z + k) 1 r.zsat else r.zsat }
  | none => r

/-- One pixel of a line, unless its slice is not valid (R174). -/
def StatPeriod.pixel (u : Furnish) (l : Line) (i : Nat) (comps : List Nat) (r : StatPeriod) : StatPeriod :=
  if !bitOf l.valid (l.pixelSlice i) then r
  else
    let z := u.zone l.prod (l.column i / 24)
    let r := (comps.zipIdx).foldl (fun r (v, k) => r.take z k v) r
    match z with
    | some z => { r with zpix := tadd top32 z 1 r.zpix }
    | none => r

/-- The line counted into its period, or excluded as broke (R174, R182). -/
def StatPeriod.line (u : Furnish) (l : Line) (vals : List Nat) (r : StatPeriod) : StatPeriod :=
  let inc (b : Bool) (n : Nat) : Nat := if b then min top32 (n + 1) else n
  let r := { r with last := l.seq }
  if l.flags.broke && !u.on R.stsCtrlBrokeInc then { r with excl := inc true r.excl }
  else
    let r := { r with lines := inc true r.lines, coast := inc l.flags.coast r.coast, blend := inc l.flags.blend r.blend,
                      thr := inc l.flags.throttled r.thr }
    (chunks l.ncomp vals).zipIdx.foldl (fun r (p, i) => r.pixel u l i p) r

/-! ### Banks (R178 to R180) -/

/-- Ream `a` is later than ream `b` (32-bit indices). -/
def reamAfter (a b : Nat) : Bool :=
  let d := (BitVec.ofNat 32 a - BitVec.ofNat 32 b).toNat
  decide (1 ≤ d) && decide (d < 2 ^ 31)

/-- The bank of a ream. -/
def bankOf (ream : Nat) : Fin 2 := if ream % 2 = 0 then 0 else 1

def State.onBank (b : Fin 2) (g : StatBank → StatBank) (s : State) : State :=
  s.modSts fun t => { t with banks := vupd t.banks b g }

/-- First trigger of a ream (R181). -/
def State.reamFirst (s : State) (ream : Nat) : Nat :=
  match s.tb.reamLog.find? (·.1 = ream) with
  | some e => e.2
  | none => s.tb.reamSeq

/-- The bank is taken for a ream (R178, R179, R181): periods still open are closed incomplete, which the
header says from then on (assumption 77); RES_OVERRUN if its BANK_DONE is still set, that is, has not been cleared since
this bank set it (R195). -/
def State.takeBank (ream : Nat) (s : State) : State :=
  let b := bankOf ream
  let k := s.sts.banks[b]
  let s := s.iff (k.told && s.flag R.stsEvtBankDone) (·.raise R.stsEvtResOverrun)
  let closed := (k.recs.filter (·.isOpen)).length
  let s := s.bump 0x87 closed
  let first := s.reamFirst ream
  s.onBank b fun k =>
    { k with taken := true, genStart := k.genStart + 1, ream := ream, firstSeq := first, complete := false, told := false,
             darkValid := false, lostP := false, incompl := decide (0 < closed), nrec := 0, lostIds := [],
             recs := k.recs.map fun r => if r.isOpen then { r with isOpen := false, incompl := true } else r }

/-- The record of a line's period, opened if need be (R177, R179). -/
def State.openPeriodRec (u : Furnish) (l : Line) (s : State) : State :=
  let b := bankOf l.ream
  let k := s.sts.banks[b]
  let same (r : StatPeriod) : Bool := r.isOpen && r.prod == l.prod && r.field == l.field && r.furnish == l.furnish
  if k.recs.any same then s
  else if k.nrec < 511 then
    let r : StatPeriod :=
      { ream := l.ream, prod := l.prod, field := l.field, tap := u.on R.stsCtrlTap, ncomp3 := decide (l.ncomp = 3),
        furnish := l.furnish, first := l.seq, last := l.seq,
        zone := setBits (regGet u.regs 0x050004) 16 10 (max 1 (u.get R.stsZoneWords)) }
    s.onBank b fun k =>
      { k with nrec := k.nrec + 1, complete := false, recs := k.recs.take k.nrec ++ [r] ++ k.recs.drop (k.nrec + 1) }
  else
    let id := (l.prod, l.field, l.furnish)
    if k.lostIds.contains id then s
    else
      ((s.onBank b fun k => { k with lostP := true, lostIds := id :: k.lostIds }).raise R.stsEvtPeriodLost).count
        R.stsLostCnt 1

/-- STATS_LINE (R173, R174, R178, R179): a line reaches the statistics with its values at the two taps. -/
def State.statsLine (l : Line) (tap0 tap1 : List Nat) (s : State) : State :=
  let b := bankOf l.ream
  let k := s.sts.banks[b]
  if k.taken && reamAfter k.ream l.ream then (s.raise R.stsEvtLateLine).count R.stsLateCnt 1
  else
    let s := s.iff (!(k.taken && k.ream == l.ream)) (·.takeBank l.ream)
    let u := s.furnish l.furnish
    if !u.counts l.prod l.field then s
    else
      (s.openPeriodRec u l).onBank b fun k =>
        { k with recs := k.recs.map fun r =>
            if r.isOpen && r.prod == l.prod && r.field == l.field && r.furnish == l.furnish then
              r.line u l (if u.on R.stsCtrlTap then tap1 else tap0)
            else r }

/-- The dark statistics packet (R180). -/
def State.statsDark (ream : Nat) (means : List Int) (s : State) : State :=
  let b := bankOf ream
  let k := s.sts.banks[b]
  if k.taken && k.ream % 65536 == ream % 65536 then s.onBank b fun k => { k with dark := means, darkValid := true }
  else s.raise R.stsEvtDarkLost

/-! ### Closing (R177, R183) -/

/-- Lines in the felt and in the calender. -/
def State.linesInside (s : State) : List Line :=
  s.felt.lines.map (·.line) ++ (s.felt.stock.filterMap fun i => match i with | .line l => some l | .dark .. => none) ++
    s.felt.areaHeld.map (·.line) ++ (s.cal.pair.filter (·.kind != .guide)).map (·.line) ++ s.cal.ready.map (·.line) ++
    (s.cal.lanes.toList.flatMap fun l => l.map (·.line)) ++ s.cal.done.map (·.1)

/-- A line of a product and field may still be born of a packet in the array under a furnish: of any ream, or of one. -/
def State.coming (s : State) (p f : Nat) (id : BitVec 16) (ream : Option Nat) : Bool :=
  let u := s.fu.inForce
  let ok (r : Nat) : Bool := ream.all (· == r)
  if p = 3 then
    (u.id == id && u.area && ok s.tb.ream.toNat) ||
      s.hb.area.any fun a =>
        let of (seq : Nat) : Bool := ok ((s.period seq).map (·.ream) |>.getD s.tb.ream.toNat)
        (a.furnish == id && of a.seq) || (a.loaded.any fun g => g.furnish == id && of g.seq) ||
          a.next.any fun g => g.2 == id && of g.1
  else
    u.id == id && u.prodOn p && !u.area && decide (f < u.fields) &&
      (ok s.tb.ream.toNat || s.tb.periods.any fun q =>
        ok q.ream && q.field == f && q.makes && decide (s.hb.cutSeq ≤ q.seq) &&
          decide (s.tb.nextSeq ≤ q.seq + 8 * entryBlock u.reverse p))

/-- R123, R177: its ream has ended, nothing of a period is left, and nothing of it can come. -/
def State.periodOver (s : State) (r : StatPeriod) : Bool :=
  s.tb.ream.toNat != r.ream &&
  !(s.linesInside.any fun l =>
      l.ream == r.ream && l.prod == r.prod && l.field == r.field && l.furnish == r.furnish) &&
    !s.coming r.prod r.field r.furnish (some r.ream)

/-- Every period of a ream has closed and none can open any more. -/
def State.reamOver (s : State) (k : StatBank) : Bool :=
  k.taken && decide (0 < k.nrec) && s.tb.ream.toNat != k.ream && !(k.recs.any (·.isOpen)) &&
    !(s.linesInside.any fun l => l.ream == k.ream && (s.furnish l.furnish).counts l.prod l.field) &&
    (let u := s.fu.inForce
     !([0, 1, 2, 3].any fun p => [0, 1, 2, 3].any fun f => u.counts p f && s.coming p f u.id (some k.ream)))

/-- COMPLETE of a bank, and BANK_DONE for it (R181, R183): where software has cleared BANK_DONE, no earlier bank's is still
set (R195). -/
def State.bankDone (b : Fin 2) (s : State) : State :=
  let fresh := !s.flag R.stsEvtBankDone
  let s := s.modSts fun t => { t with banks := vmap (fun k => { k with told := k.told && !fresh }) t.banks }
  (s.onBank b fun k => { k with complete := true, told := true, genEnd := k.genStart }).raise R.stsEvtBankDone

/-- The periods of a bank that are over close; COMPLETE and BANK_DONE follow the last one (R181, R183). -/
def State.closePeriods (b : Fin 2) (s : State) : State :=
  let done := (s.sts.banks[b].recs.filter fun r => r.isOpen && s.periodOver r).length
  let past := s.periodOver
  let s := (s.onBank b fun k =>
    { k with recs := k.recs.map fun r => if r.isOpen && past r then { r with isOpen := false } else r }).bump 0x87 done
  let k := s.sts.banks[b]
  if !k.complete && s.reamOver k then s.bankDone b else s

/-! ### Result memory (R178, R181, R182) -/

/-- A 32-bit word of the bank header. -/
def StatBank.headerWord (k : StatBank) (o : Nat) : Nat :=
  let dark (b : Nat) : Nat := unsigned 16 (k.dark[b]?.getD 0)
  if o = 0x000 then k.genStart.toNat
  else if o = 0x004 then k.ream
  else if o = 0x008 then k.firstSeq % 2 ^ 32
  else if o = 0x00C then k.firstSeq / 2 ^ 32 % 65536
  else if o = 0x010 then
    k.nrec + 2 ^ 16 * b2n k.complete + 2 ^ 17 * b2n k.darkValid + 2 ^ 18 * b2n k.lostP + 2 ^ 19 * b2n k.incompl
  else if 0x040 ≤ o ∧ o < 0x080 then dark ((o - 0x040) / 2) + 65536 * dark ((o - 0x040) / 2 + 1)
  else if o = 0x0FC then k.genEnd.toNat
  else 0

/-- A 32-bit word of a period record. -/
def StatPeriod.word (r : StatPeriod) (o : Nat) : Nat :=
  let at' (t : Table) (i : Nat) : Nat := ((mget i t).getD 0).toNat
  if o = 0x000 then
    r.prod + 4 * r.field + 16 * b2n r.tap + 32 * b2n r.ncomp3 + 64 * b2n r.incompl + 65536 * r.furnish.toNat
  else if o = 0x008 then r.first % 2 ^ 32
  else if o = 0x00C then r.first / 2 ^ 32 % 65536
  else if o = 0x010 then r.last % 2 ^ 32
  else if o = 0x014 then r.last / 2 ^ 32 % 65536
  else if o = 0x018 then r.lines
  else if o = 0x01C then r.excl
  else if o = 0x020 then r.coast
  else if o = 0x024 then r.blend
  else if o = 0x028 then r.thr
  else if o = 0x02C then r.zone.toNat
  else if 0x100 ≤ o ∧ o < 0xD00 then at' r.hist ((o - 0x100) / 4)
  else if 0xD00 ≤ o ∧ o < 0xD00 + 24 * 64 then
    let v := at' r.zsum ((o - 0xD00) / 8)
    if (o - 0xD00) / 4 % 2 = 0 then v % 2 ^ 32 else v / 2 ^ 32
  else if 0x1300 ≤ o ∧ o < 0x1400 then at' r.zpix ((o - 0x1300) / 4)
  else if 0x1400 ≤ o ∧ o < 0x1400 + 12 * 64 then at' r.zsat ((o - 0x1400) / 4)
  else 0

/-- The word of result memory at a BAR0 offset from 0x80_0000 on: an unwritten slot reads 0. -/
def State.resultWord (s : State) (off : Nat) : Word :=
  let b : Fin 2 := if off < 0xC00000 then 0 else 1
  let k := s.sts.banks[b]
  let o := off % 0x400000
  BitVec.ofNat 32 (match o / 0x2000 with
    | 0 => k.headerWord (o % 0x2000)
    | n + 1 => match k.recs[n]? with
      | some r => r.word (o % 0x2000)
      | none => 0)

end Sys2Proof.Machine
end

