-- ==== Sys2Proof/Machine/Screens.lean ====
section
/-! DEFINITION. The screens (R184 to R194): references, hits, runs, candidates, shive records and their rate limit. -/

namespace Sys2Proof.Machine

/-- A run of hits of one polarity in a line (R188): its pixels, its columns, its peak with that pixel's reference. -/
structure ScrRun where
  bright : Bool
  pixels : Nat
  col0   : Nat
  col1   : Nat
  peak   : Nat
  ref    : Nat
deriving DecidableEq, Repr, Inhabited

/-! ### Settings (R184, R196) -/

def Furnish.scrProd (u : Furnish) : Nat := if u.get R.scrCtrlProd = 3 then 0 else u.get R.scrCtrlProd

/-- The line is screened: its birth furnish enables the screens for its product and field. -/
def Furnish.screens (u : Furnish) (l : Line) : Bool :=
  u.screensField l.field && l.prod == u.scrProd

/-- 2^k of R185. -/
def Furnish.scrPow (u : Furnish) : Nat := 2 ^ clampNat 1 16 (u.get R.scrCtrlK)

def Furnish.scrSpanMax (u : Furnish) : Nat := if u.get R.scrSpan = 0 then 65535 else u.get R.scrSpan

/-! ### References and hits (R185 to R187) -/

/-- R185: references stand by field and column, whatever the product screened. -/
def scrKey (l : Line) (i : Nat) : Nat := l.field * 16416 + l.column i

/-- R187: bright (some true), dark (some false) or no hit. -/
def Furnish.hit (u : Furnish) (x ref : Nat) : Option Bool :=
  let a := u.get R.scrAbs
  if u.on R.scrCtrlBrightEn &&
      (x == fullScale || (decide (ref * u.get R.scrBrightRatio < 4096 * x) && decide (ref + a ≤ x))) then some true
  else if u.on R.scrCtrlDarkEn && decide (4096 * x < ref * u.get R.scrDarkRatio) && decide (x + a ≤ ref) then some false
  else none

/-- One pixel: its reference afterwards, and its hit with the reference it was classified against. -/
def Furnish.screenPixel (u : Furnish) (key x : Nat) (old : Option ScrRef) : ScrRef × Option (Bool × Nat) :=
  match old with
  | none => ({ key := key, refq := 65536 * x, warm := u.scrPow }, none)
  | some r =>
    let ref := r.refq / 65536
    let h := if r.warm = 0 then u.hit x ref else none
    let q := ((r.refq : Int) + floorDiv (65536 * (x : Int) - r.refq) u.scrPow).toNat
    ({ r with refq := if h.isSome && u.on R.scrCtrlFreeze then r.refq else q, warm := r.warm - 1 }, h.map (·, ref))

/-- R188: the runs of a line in ascending column order, from (bright, column, last column, value, reference) by pixel. -/
def scrRuns (px : List (Option (Bool × Nat × Nat × Nat × Nat))) : List ScrRun :=
  let step (acc : List ScrRun × Bool) (p : Option (Bool × Nat × Nat × Nat × Nat)) : List ScrRun × Bool :=
    match p with
    | none => (acc.1, false)
    | some (br, c0, c1, x, ref) =>
      match acc.1, acc.2 with
      | r :: rs, true =>
        if r.bright = br then
          let better := if br then decide (r.peak < x) else decide (x < r.peak)
          ({ r with pixels := r.pixels + 1, col1 := c1, peak := if better then x else r.peak,
                    ref := if better then ref else r.ref } :: rs, true)
        else (⟨br, 1, c0, c1, x, ref⟩ :: r :: rs, true)
      | rs, _ => (⟨br, 1, c0, c1, x, ref⟩ :: rs, true)
  (px.foldl step ([], false)).1.reverse

/-! ### Records (R191, R193, R194) -/

/-- CONTRAST of R191. -/
def contrast (peak ref : Nat) : Nat :=
  if ref = 0 then 0xFFFF else min 0xFFFF ((8192 * peak + ref) / (2 * ref))

/-- The 32 bytes of a shive record; `cont` and `fin` are the CLASS bits of its closing (R190). -/
def Candidate.record (c : Candidate) (cont fin : Bool) (rseq : BitVec 16) : List Byte :=
  leBytes 6 c.wc.toNat ++ leBytes 6 c.first ++ leBytes 2 c.span ++ leBytes 2 c.colFirst ++ leBytes 2 c.colLast ++
    leBytes 4 (min top32 c.area) ++ leBytes 2 (plyEncode c.peak) ++ leBytes 2 (contrast c.peak c.peakRef) ++
    leBytes 1 (b2n c.bright + 2 * b2n cont + 4 * b2n fin + 8 * b2n c.edge + 16 * b2n (c.peak == fullScale)
      + 32 * b2n c.broke + 64 * b2n c.mixed) ++
    leBytes 1 (c.prod + 4 * c.field) ++ leBytes 2 c.furnish.toNat ++ leBytes 2 rseq.toNat

/-- SHIVE_RECORD_EMIT (R194): a record leaves on its channel as class 0, or BIND_CLASS where the channel has another. -/
def State.emitShive (r : BitVec 256) (dc : Nat) (s : State) : State :=
  if s.chClass dc = 0 then
    let s := (s.bump 0x85 1).count R.scrRecCnt 1
    s.handUnit (Fin.ofNat 16 dc) { kind := .shive, seq := bits r 48 48, wc := BitVec.ofNat 48 (bits r 0 48),
                                   bytes := leBytes 32 r.toNat }
  else s.raise R.scrEvtBindClass

/-- R193, R194: a waiting record leaves on a token; without one the token is held, at most 64. -/
def State.takeToken (s : State) : State :=
  match s.scr.fifo with
  | (r, dc) :: t => (s.modScr fun x => { x with fifo := t }).emitShive r dc
  | [] => s.modScr fun x => { x with tokens := min 64 (x.tokens + 1) }

/-- R193: the tokens that have arrived, one per 250 ticks. Beyond 256 records and 64 tokens more of them change nothing. -/
def State.shiveToken (s : State) : State :=
  let due := (s.now - s.scr.tokenAt) / 250
  let s := s.modScr fun x => { x with tokenAt := x.tokenAt + 250 * due }
  s.times (·.takeToken) (min due 320)

/-- A record is formed (R191, R193): it leaves on a token, waits, or is dropped by the full FIFO. Tokens that arrive
up to this tick are counted first. -/
def State.formShive (c : Candidate) (cont fin : Bool) (s : State) : State :=
  let s := s.shiveToken
  let r := BitVec.ofNat 256 (ofLeBytes (c.record cont fin s.scr.rseq))
  let s := (s.modScr fun t => { t with rseq := t.rseq + 1 }).bump 0x84 1
  if s.scr.fifo.isEmpty && decide (0 < s.scr.tokens) then
    (s.modScr fun t => { t with tokens := t.tokens - 1 }).emitShive r c.dc
  else if s.scr.fifo.length < 256 then s.modScr fun t => { t with fifo := t.fifo ++ [(r, c.dc)] }
  else ((s.raise R.scrEvtOverflow).count R.scrDropCnt 1).bump 0x86 1

/-- A candidate that has left the open ones closes (R190): with CONT always, else if its area suffices. -/
def State.closeCandidate (c : Candidate) (cont fin : Bool) (s : State) : State :=
  s.iff (cont || decide (c.areaMin ≤ c.area)) (·.formShive c cont fin)

/-- The open candidates that a condition picks close with END. -/
def State.endCandidates (p : Candidate → Bool) (s : State) : State :=
  let go := s.scr.cands.filter p
  (s.modScr fun t => { t with cands := t.cands.filter (!p ·) }).each go fun c s => s.closeCandidate c false true

/-! ### Runs and candidates (R189, R190) -/

/-- Two column ranges overlap or lie directly next to each other. -/
def adjacent (a b : Nat × Nat) : Bool := decide (a.1 ≤ b.2 + 1) && decide (b.1 ≤ a.2 + 1)

/-- A run joins a candidate: area, peak, extent. -/
def Candidate.absorb (l : Line) (c : Candidate) (r : ScrRun) : Candidate :=
  let better := if c.bright then decide (c.peak < r.peak) else decide (r.peak < c.peak)
  { c with
    area := c.area + r.pixels, colFirst := min c.colFirst r.col0, colLast := max c.colLast r.col1,
    peak := if better then r.peak else c.peak, peakRef := if better then r.ref else c.peakRef,
    edge := c.edge || r.col0 == l.column 0 || r.col1 + 1 == l.column l.pix.length }

/-- A new candidate from the runs of one line (R189; R190 for the successor of one that closed with CONT). -/
def openCandidate (u : Furnish) (l : Line) (npix : Nat) (r : ScrRun) (rs : List ScrRun) : Candidate :=
  let c : Candidate :=
    { field := l.field, bright := r.bright, prod := l.prod, wc := l.wc, first := l.seq, last := l.seq, span := 1,
      spanMax := u.scrSpanMax, runs := (r :: rs).map fun r => (r.col0, r.col1), colFirst := r.col0, colLast := r.col1,
      area := r.pixels, peak := r.peak, peakRef := r.ref,
      edge := r.col0 == l.column 0 || r.col1 + 1 == l.column npix, broke := false, mixed := false, furnish := l.furnish,
      areaMin := u.get R.scrSizeAreaMin, epoch := l.epoch, dc := u.get R.scrCtrlDc }
  rs.foldl (·.absorb { l with pix := List.replicate npix 0 }) c

/-- Whether `a` survives a merge with `b` (R189). -/
def survives (a b : Candidate) : Bool :=
  decide (a.first < b.first) || (a.first == b.first && decide (a.colFirst ≤ b.colFirst))

/-- Two candidates merged; the first survives. -/
def Candidate.join (a b : Candidate) : Candidate :=
  let better := if a.bright then decide (a.peak < b.peak) else decide (b.peak < a.peak)
  { a with
    runs := a.runs ++ b.runs, area := a.area + b.area, colFirst := min a.colFirst b.colFirst,
    colLast := max a.colLast b.colLast, peak := if better then b.peak else a.peak,
    peakRef := if better then b.peakRef else a.peakRef, edge := a.edge || b.edge, broke := a.broke || b.broke,
    mixed := a.mixed || b.mixed || a.furnish != b.furnish }

/-- A candidate in work for a line: itself, as it stood before the line or newly opened, and the line's runs in it. -/
structure ScrWork where
  cand  : Candidate
  fresh : Bool
  now   : List ScrRun
deriving DecidableEq, Repr, Inhabited

/-- Candidates in work that a run touches are merged into the survivor, which takes the run. -/
def mergeTouched (r : ScrRun) (w : ScrWork) (ws : List ScrWork) : ScrWork :=
  let m := ws.foldl (fun a b =>
    { cand := if survives a.cand b.cand then a.cand.join b.cand else b.cand.join a.cand, fresh := false,
      now := a.now ++ b.now }) w
  { m with now := m.now ++ [r] }

/-- One run (R189): the candidates in work afterwards, or none where it would open one beyond 512. -/
def takeRun (u : Furnish) (l : Line) (npix others : Nat) (r : ScrRun) (ws : List ScrWork) : Option (List ScrWork) :=
  let hit (w : ScrWork) : Bool :=
    !w.fresh && w.cand.bright == r.bright && w.cand.runs.any (adjacent (r.col0, r.col1))
  match ws.filter hit with
  | [] =>
    if 512 ≤ others + ws.length then none
    else some (ws ++ [{ cand := openCandidate u l npix r [], fresh := true, now := [r] }])
  | w :: t => some (ws.filter (!hit ·) ++ [mergeTouched r w t])

/-- A candidate after the line: what its runs added. -/
def ScrWork.result (l : Line) (w : ScrWork) : Candidate :=
  if w.fresh then w.cand
  else
    let c := w.now.foldl (·.absorb l) w.cand
    { c with last := l.seq, span := c.span + c.skipped + 1, skipped := 0, runs := w.now.map fun r => (r.col0, r.col1),
             mixed := c.mixed || c.furnish != l.furnish }

/-- A candidate of the field after the line's runs (R190): closed for want of a run, closed with CONT and followed by
its successor, or open. -/
def State.finishCandidate (u : Furnish) (l : Line) (w : ScrWork) (s : State) : State :=
  match w.now with
  | [] => s.closeCandidate w.cand false false
  | r :: rs =>
    let c := w.result l
    if c.spanMax ≤ c.span then
      (s.closeCandidate c true false).modScr fun t =>
        { t with cands := t.cands ++ [openCandidate u l l.pix.length r rs] }
    else s.modScr fun t => { t with cands := t.cands ++ [c] }

/-- The runs of a screened line sorted into candidates in work: those, the runs ignored, and the most that were open. -/
structure ScrSort where
  works : List ScrWork
  lost  : Nat
  most  : Nat
deriving DecidableEq, Repr, Inhabited

/-- One more run (R189). -/
def ScrSort.add (u : Furnish) (l : Line) (others : Nat) (a : ScrSort) (r : ScrRun) : ScrSort :=
  match takeRun u l l.pix.length others r a.works with
  | some ws => { a with works := ws, most := max a.most (others + ws.length) }
  | none => { a with lost := a.lost + 1 }

/-- The runs of a screened line are sorted into candidates. PEAK counts those open while the line is sorted, which close
behind it. -/
def State.sortRuns (u : Furnish) (l : Line) (runs : List ScrRun) (s : State) : State :=
  let mine (c : Candidate) : Bool := c.field == l.field && c.prod == l.prod
  let others := (s.scr.cands.filter (!mine ·)).length
  let ws : List ScrWork := (s.scr.cands.filter mine).map fun c => { cand := c, fresh := false, now := [] }
  let a := runs.foldl (ScrSort.add u l others) { works := ws, lost := 0, most := s.scr.cands.length }
  let s := s.iff (decide (0 < a.lost)) fun s => (s.raise R.scrEvtCandOvf).count R.scrDropCnt a.lost
  let s := s.modScr fun t => { t with cands := t.cands.filter (!mine ·) }
  (s.each a.works fun w s => s.finishCandidate u l w).modScr fun t =>
    { t with peak := max (max t.peak a.most) t.cands.length }

/-- R186: the references of a field are cold once the screens have been disabled for it: for a screened line at or behind
such a boundary, whatever products the furnish in between made. -/
def State.coolRefs (l : Line) (s : State) : State :=
  let past (e : Nat × Nat) : Bool := e.1 == l.field && decide (e.2 ≤ l.seq)
  s.iff (s.scr.offs.any past) (·.modScr fun t =>
    { t with offs := t.offs.filter (!past ·), refs := t.refs.filter fun r => r.key / 16416 != l.field })

/-- SCREEN_LINE (R184 to R190): a line as handed to the output formatter, with one value per pixel (G for an unbinned S
line). -/
def State.screenLine (l : Line) (vals : List Nat) (s : State) : State :=
  let u := s.furnish l.furnish
  let l := { l with pix := vals }
  let ours (k : Nat) : Bool := k / 16416 == l.field
  if l.prod = 3 then s
  else if l.flags.broke then
    s.modScr fun t => { t with cands := t.cands.map fun c =>
      if c.field = l.field ∧ c.prod = l.prod then { c with broke := true, skipped := c.skipped + 1 } else c }
  else if !u.screens l then s.endCandidates fun c => c.field == l.field && c.prod == l.prod
  else
      let s := s.coolRefs l
      let s := s.endCandidates fun c => c.field == l.field && c.prod != l.prod
      let s := s.endCandidates fun c => c.field == l.field && c.epoch != l.epoch
      let px := vals.mapIdx fun i x =>
        if bitOf l.valid (l.pixelSlice i) then
          let k := scrKey l i
          let (r, h) := u.screenPixel k x (s.scr.refs.find? (·.key = k))
          (some r, h.map fun (br, ref) => (br, l.column i, l.column i + l.hbin - 1, x, ref))
        else (none, none)
      let s := s.modScr fun t =>
        { t with refs := t.refs.filter (fun r => !ours r.key) ++ px.filterMap (·.1) }
      let runs := (scrRuns (px.map (·.2))).filter fun r => decide (max 1 (u.get R.scrSizeRunMin) ≤ r.pixels)
      let s := s.iff (decide (256 < runs.length)) (·.raise R.scrEvtRunOvf)
      s.sortRuns u l (runs.take 256)

/-! ### The commands -/

/-- R190: candidates whose field has no later line in the felt, the calender or the array close with END. -/
def State.endScreens (s : State) : State :=
  s.endCandidates fun c =>
    !(s.linesInside.any fun l => l.prod == c.prod && l.field == c.field) &&
      !s.coming c.prod c.field s.fu.inForce.id none

/-- STATS_PERIOD_CLOSE (R177, R183, R190). -/
def execStatsPeriodClose (s : State) : Answer := .next (((s.closePeriods 0).closePeriods 1).endScreens)

/-- SHIVE_TOKEN (R193). -/
def execShiveToken (s : State) : Answer := .next s.shiveToken

end Sys2Proof.Machine
end

