-- ==== Sys2Proof/Machine/Calender.lean ====
section
/-! DEFINITION. The calender (R129 to R154): arrival, the pairing store, the lanes with their deadlines and bypass, the
exit of a line and its hand-over. -/

namespace Sys2Proof.Machine

/-! ### The pairing store (R143, R144) -/

/-- Components of a line as R22 counts them (R148): three per pixel of S, by either method, binned or not. -/
def Line.comps (l : Line) : Nat := if l.prod = 1 then 3 * l.pix.length else l.pix.length

/-- The form in which the store holds a component: rounded to ply10. -/
def plyRound (v : Nat) : Nat := plyDecode (plyEncode v)

def State.pairFree (s : State) : Bool := decide (s.cal.pair.length < 320)

/-- A slot is filled. -/
def State.storePair (p : PairSlot) (s : State) : State :=
  s.modCal fun c => { c with pair := c.pair ++ [p], peak := max c.peak (c.pair.length + 1) }

/-- The guide copy of a product and sequence. -/
def State.guideCopy (s : State) (p seq : Nat) : Option PairSlot :=
  s.cal.pair.find? fun q => q.kind == .guide && q.line.prod == p && q.line.seq == seq

/-- The partners for which an S line waits: products C and N as its birth furnish calls for them (R139, R143). -/
def Furnish.wants (u : Furnish) (l : Line) : List Nat :=
  if l.prod = 1 ∧ l.hbin = 1 then
    (if u.on R.calCtrlRecMethod then [] else [0]) ++ (if u.on R.calCtrlNirEn then [2] else [])
  else []

/-- The highest sequence of a product that has arrived. -/
def State.highOf (s : State) (p : Nat) : Nat :=
  (List.range 4).foldl (fun m f => max m (s.cal.high[4 * p + f]?.getD 0)) 0

/-- Lines in the input buffers and the lanes. -/
def State.inLanes (s : State) : List Line :=
  s.cal.ready.map (·.line) ++ s.cal.lanes.toList.flatMap fun l => l.map (·.line)

/-- The partners a waiting line still lacks: product, sequence, and whether it is in the calender. -/
def State.lacks (s : State) (q : PairSlot) : List (Nat × Nat × Bool) :=
  let u := s.furnish q.line.furnish
  match q.kind with
  | .guide => []
  | .waitS =>
    ((u.wants q.line).filter fun p => !q.gone.contains p && (s.guideCopy p q.line.seq).isNone).map fun p =>
      (p, q.line.seq, s.inLanes.any fun l => l.prod == p && l.seq == q.line.seq)
  | .waitPrimary =>
    let (p, f, n, row) := u.partnerOf q.line
    if q.gone.contains p then []
    else [(p, n, s.inLanes.any fun l => l.prod == p && l.field == f && l.seq == n && l.row == row)]

/-- R143: the partners that a higher sequence shows to be absent. One that is in the calender has arrived. -/
def State.absentOf (s : State) (q : PairSlot) : List Nat :=
  (s.lacks q).filterMap fun (p, n, here) => if !here && decide (n < s.highOf p) then some p else none

/-! ### Bypass, readiness (R147, R149) -/

/-- A line whose components come by the bypass path: raw, an unbinned S sample in all three components. -/
def Line.raw (l : Line) : Line :=
  if l.prod = 1 ∧ l.hbin = 1 then { l with pix := l.pix.flatMap fun v => [v, v, v], ncomp := 3 } else l

/-- A line is at stage 9, with its values at TAP 1. -/
def State.finish (l : Line) (tap1 : List Nat) (s : State) : State :=
  s.modCal fun c => { c with done := c.done ++ [(l, tap1)] }

/-- The events of a missed deadline (R149). -/
def State.lateEvents (s : State) : State :=
  (((s.raise R.calEvtLate).raise R.glbBudgetCalOver).count R.calLateCnt 1).bump 0x7A 1

/-- The whole of a ready line goes by the bypass path. -/
def State.bypassReady (r : ReadyLine) (s : State) : State :=
  let l := r.line.raw.mark .late
  ((s.modCal fun c => { c with ready := c.ready.filter (· != r) }).lateEvents).finish l l.pix

def sameStream (a b : Line) : Bool := a.prod == b.prod && a.field == b.field

/-- A line becomes ready: the deadline of the line before it is set; a third one sends the oldest by the bypass path.
The "next line" of R149 is the one that becomes ready next in its stream: where an S line of lower sequence is released
after a higher one is ready, it sets the deadline of that one (DESIGN CHOICE, log 75: the rule does not say). -/
def State.becomeReady (l : Line) (s : State) : State :=
  let now := s.now
  let t := now + s.tb.tLine
  let s := s.modCal fun c =>
    { c with
      ready := c.ready.map fun r =>
        if sameStream r.line l && r.deadline.isNone then { r with deadline := some t } else r,
      lanes := vmap (fun js => js.map fun j =>
        if sameStream j.line l && j.deadline.isNone && decide (now < j.stop) then { j with deadline := some t } else j)
        c.lanes }
  let mine := s.cal.ready.filter fun r => sameStream r.line l
  let s := match mine with
    | r :: _ :: _ => s.bypassReady r
    | _ => s
  s.modCal fun c => { c with ready := c.ready ++ [{ line := l, since := now }] }

/-- A merge primary passes unmerged (R146, MERGE_ALONE). -/
def State.mergeAlone (l : Line) (tap1 : List Nat) (s : State) : State :=
  (s.raise R.calEvtMergeAlone).finish (l.mark .late) tap1

/-- A waiting line that lacks no partner any more leaves its slot (PAIRING_RELEASE). -/
def State.releasePair (q : PairSlot) (s : State) : State :=
  let s := s.modCal fun c => { c with pair := c.pair.filter (· != q) }
  match q.kind with
  | .waitS => s.becomeReady q.line
  | .waitPrimary => s.mergeAlone q.line q.tap1
  | .guide => s

/-- Absent partners are declared and lines that lack none are released. -/
def State.settlePairs (s : State) : State :=
  let gone (q : PairSlot) : List Nat := s.absentOf q
  let n := (s.cal.pair.map fun q => (gone q).length).sum
  let s := (s.modCal fun c => { c with pair := c.pair.map fun q => { q with gone := q.gone ++ gone q } }).bump 0x7F n
  s.each (s.cal.pair.filter fun q => q.kind != .guide && (s.lacks q).isEmpty) fun q s => s.releasePair q

/-! ### Hand-over (stage 9, R152) -/

/-- Sequence and row order within a stream. -/
def Line.before (a b : Line) : Bool :=
  sameStream a b && (decide (a.seq < b.seq) || (a.seq == b.seq && decide (a.row < b.row)))

/-- An earlier line of its stream is still in the calender. -/
def State.overtakes (s : State) (l : Line) : Bool :=
  s.inLanes.any (·.before l) || (s.cal.pair.any fun q => q.kind != .guide && q.line.before l) ||
    s.cal.done.any fun d => d.1.before l

/-- A line is handed to the output formatter; the statistics and the screens read it (R173, R184). -/
def State.handOver (l : Line) (tap1 : List Nat) (s : State) : State :=
  let s := s.modCal fun c => { c with done := c.done.filter (· != (l, tap1)) }
  let f := l.flags
  let s := s.bump (0x64 + 4 * l.prod + l.field) (b2n f.broke)
  let s := (((s.bump 0x74 (b2n f.blend)).bump 0x75 (b2n f.coast)).bump 0x76 (b2n f.throttled)).bump 0x77 (b2n f.padded)
  let s := s.statsLine l l.pix tap1
  let s := s.screenLine l (if l.ncomp = 3 then (chunks 3 l.pix).map (comp · 1) else l.pix)
  s.modFmt fun t => { t with queue := t.queue ++ [l] }

/-- Lines whose turn has come are handed over, one after another. -/
def State.drain : Nat → State → State
  | 0, s => s
  | n + 1, s =>
    match s.cal.done.find? fun d => !s.overtakes d.1 with
    | some (l, tap1) => State.drain n (s.handOver l tap1)
    | none => s

/-- What follows every change of the calender: absences, releases, hand-overs. -/
def State.calSettle (s : State) : State :=
  let s := s.settlePairs
  s.drain s.cal.done.length

/-! ### Arrival (R131, R143, R147) -/

/-- CALENDER_LINE_ARRIVAL: the next item of the stock stream. -/
def State.lineArrives (s : State) : State :=
  match s.felt.stock with
  | [] => s
  | .dark _ ream means :: t => (s.modFelt fun f => { f with stock := t }).statsDark ream means
  | .line l :: t =>
    let l := if l.ply10 then { l with ply10 := false, pix := l.pix.map plyDecode } else l
    let l := { l with came := s.tb.nextSeq }
    let s := s.modFelt fun f => { f with stock := t }
    let s := s.modCal fun c =>
      { c with high := vgen 16 fun i =>
          let h := c.high[i]?.getD 0
          if i = 4 * l.prod + l.field then max h l.seq else h }
    let q : PairSlot := { kind := .waitS, line := l, since := l.came }
    let absent := s.absentOf q
    let q := { q with gone := absent }
    let s := s.bump 0x7F absent.length
    let s :=
      if (s.lacks q).isEmpty then s.becomeReady l
      else if s.pairFree then
        (s.storePair { q with line := { l with pix := l.pix.map plyRound } }).bump 0x7E 1
      else (s.raise R.calEvtPairFull).becomeReady l
    s.calSettle

/-! ### Lanes (R147, R148) -/

/-- R147: within a product and field lines are taken in ascending sequence, behind those that are held. -/
def State.inTurn (s : State) (r : ReadyLine) : Bool :=
  !(s.cal.ready.any fun q => q.line.before r.line) &&
    !(s.cal.pair.any fun q => q.kind == .waitS && q.line.before r.line)

/-- The ready line that R147 chooses. -/
def State.choose (s : State) : Option ReadyLine :=
  ((List.range 4).findSome? fun p =>
    (List.range 4).findSome? fun i =>
      let f := ((s.cal.ptr[p]?.getD 0) + i) % 4
      s.cal.ready.find? fun r => r.line.prod == p && r.line.field == f && s.inTurn r)

/-- A lane takes a new line once every component of its previous line has entered. -/
def State.laneFree (s : State) (k : Fin 2) : Bool := s.cal.lanes[k].all fun j => decide (j.stop ≤ s.now)

/-- LANE_TAKE. -/
def State.laneTake (s : State) : State :=
  match [(0 : Fin 2), 1].find? s.laneFree, s.choose with
  | some k, some r =>
    let n := r.line.comps
    let j : LaneJob := { line := r.line, entered := s.now, stop := s.now + ceilDiv n 24, upto := n, deadline := r.deadline }
    s.modCal fun c =>
      { c with ready := c.ready.filter (· != r), lanes := vupd c.lanes k (· ++ [j]),
               ptr := vgen 4 fun p => if p = r.line.prod then (r.line.field + 1) % 4 else c.ptr[p]?.getD 0 }
  | _, _ => s

/-! ### Errors (R150) -/

/-- The Tender is asked to reload a store (R384). -/
def State.askReload (r : Sum (Fin 2) (BitVec 16)) (s : State) : State :=
  s.modTnd fun t => { t with asleep := false, reload := if t.reload.contains r then t.reload else t.reload ++ [r] }

def State.calCorrected (s : State) : State := (s.raise R.calEvtEccCe).count R.calCeCnt 1

def State.calUncorrectable (s : State) : State := (s.raise R.calEvtEccUe).count R.calUeCnt 1

/-- The bank that a furnish selects. -/
def Furnish.tblBank (u : Furnish) : Fin 2 := if u.on R.calCtrlTblBank then 1 else 0

/-- Whether processing a line reads a table word. -/
def Furnish.readsWord (u : Furnish) (l : Line) (w : BadWord) : Bool :=
  let at' := (List.range l.pix.length).any fun i => l.column i / 16 == w.word
  match w.tab with
  | 0 => u.on R.calCtrlColresEn && w.prod == l.prod && at'
  | 1 => u.on R.calCtrlFlatEn && w.prod == l.prod && w.field == l.field && at'
  | _ => u.on R.calCtrlDpcEn

/-- R139: the C line of an S line can guide it. -/
def PairSlot.guides (q : PairSlot) (l : Line) : Bool :=
  !q.bad && !q.line.flags.broke && !q.line.flags.padded && q.line.hbin == l.hbin && q.line.covers l

/-- R139: the N line of an S line can give its NIR leak. -/
def PairSlot.gives (q : PairSlot) (l : Line) : Bool :=
  !q.bad && !q.line.flags.broke && !q.line.flags.padded && q.line.covers l

/-- R139: the guide copy that an S line uses, if any. -/
def State.guideOf (s : State) (l : Line) : Option PairSlot :=
  (s.guideCopy 0 l.seq).filter fun q => !(s.furnish l.furnish).on R.calCtrlRecMethod && q.guides l

/-- R139: the N copy that an S line uses, if any. -/
def State.nirOf (s : State) (l : Line) : Option PairSlot :=
  (s.guideCopy 2 l.seq).filter fun q => (s.furnish l.furnish).on R.calCtrlNirEn && q.gives l

/-- Whether processing a line reads a coefficient register of its furnish (R133, R134, R140 to R142, R146). -/
def State.readsReg (s : State) (l : Line) (off : Nat) : Bool :=
  let u := s.furnish l.furnish
  let colour := l.prod == 1 && l.hbin == 1
  if off = 0x040000 ∨ off = 0x040200 then true
  else if 0x040010 ≤ off ∧ off < 0x040058 then
    let set := (off - 0x040010) / 12
    u.on R.calCtrlXtEn && l.hbin == 1 &&
      (match l.section with | 0 => set == 0 | 1 => decide (2 ≤ set) | _ => set == 1)
  else if 0x040060 ≤ off ∧ off < 0x040070 then
    u.on R.calCtrlGrgbEn && l.hbin == 1 && l.section == 1 && (off - 0x040060) / 4 == l.field
  else if off = 0x040070 then colour && (s.guideOf l).isNone
  else if off = 0x040074 then colour && (s.guideOf l).isSome
  else if 0x040078 ≤ off ∧ off < 0x040088 then
    colour && (s.nirOf l).isSome && (off != 0x040084 || (s.guideOf l).isSome)
  else if 0x040100 ≤ off ∧ off < 0x040200 then colour && u.on R.calCtrlCmEn && (off - 0x040100) / 64 == l.field
  else decide (0x040204 ≤ off) && decide (off < 0x040210) && u.primary l

/-- Whether it reads a register of a coefficient word. -/
def State.readsCoef (s : State) (l : Line) (w : Nat) : Bool :=
  (List.range 8).any fun i => s.readsReg l (0x040000 + 32 * w + 4 * i)

/-- R150: components `n w` to `n w + n − 1` of a line, a word of it, are delivered as 0, and the line is broke. -/
def Line.lose (l : Line) (n w : Nat) : Line :=
  { l.mark .calUe with pix := l.pix.mapIdx fun i v => if i / n = w then 0 else v }

/-- R150: a word of a line that the calender holds is uncorrectable: 12 components in a buffer, a sheet word of 24 in the
pairing store. -/
def State.loseHeld (p f seq row w : Nat) (s : State) : State :=
  let hit (l : Line) : Bool := l.prod == p && l.field == f && l.seq == seq && l.row == row
  let buf (l : Line) : Line := if hit l then l.lose 12 w else l
  let waits (q : PairSlot) : Bool := q.kind != .guide && hit q.line
  if (s.inLanes.any hit) || (s.cal.done.any fun d => hit d.1) || s.cal.pair.any waits then
    s.calUncorrectable.modCal fun c =>
      { c with
        ready := c.ready.map fun r => { r with line := buf r.line },
        lanes := vmap (fun js => js.map fun j => { j with line := buf j.line }) c.lanes,
        done := c.done.map fun d => (buf d.1, d.2),
        pair := c.pair.map fun q => if waits q then { q with line := q.line.lose 24 w } else q }
  else s

/-- What an error of a calender word does when a line meets it: the line afterwards and the state. -/
def State.calFault (fault : CalFault) (l : Line) (s : State) : Line × State :=
  let u := s.furnish l.furnish
  match fault with
  | .lineCe | .guideCe | .tableCe => (l, s.calCorrected)
  | .lineUe w =>
    (l.lose 12 w, s.calUncorrectable)
  | .guideUe nir =>
    let p := if nir then 2 else 0
    (l, s.calUncorrectable.modCal fun c =>
      { c with pair := c.pair.map fun q =>
          if q.kind = .guide ∧ q.line.prod = p ∧ q.line.seq = l.seq then { q with bad := true } else q })
  | .tableUe tab p f w =>
    let b := u.tblBank
    let word : BadWord := { tab := tab, prod := p, field := f, word := w }
    if u.readsWord l word then
      (l, (s.calUncorrectable.modCal fun c =>
        { c with banks := vupd c.banks b fun k => { k with bad := word :: k.bad } }).askReload (.inl b))
    else (l, s)
  | .coefUe w =>
    if s.readsCoef l w then
      (l, (s.calUncorrectable.modCal fun c => { c with badCoef := (l.furnish, w) :: c.badCoef }).askReload
        (.inr l.furnish))
    else (l, s)
  | .heldUe .. => (l, s)

/-- The errors that one line meets in its lane, each with its effect and its count (R150). -/
def State.calFaults (faults : List CalFault) (l : Line) (s : State) : Line × State :=
  faults.foldl (fun r f => r.2.calFault f r.1) (l, s)

/-- Uncorrectable words of lines held elsewhere in the calender (R150). -/
def State.heldFaults (faults : List CalFault) (s : State) : State :=
  s.each faults fun f s => match f with
    | .heldUe p f seq row w => s.loseHeld p f seq row w
    | _ => s

/-- The line reads a word that is uncorrectable and not reloaded yet. -/
def State.readsBad (s : State) (l : Line) : Bool :=
  let u := s.furnish l.furnish
  (s.cal.badCoef.any fun e => e.1 == l.furnish && s.readsCoef l e.2) || s.cal.banks[u.tblBank].bad.any (u.readsWord l)

/-! ### Exit (R129, R148) -/

/-- Stages 5 to 7 of an unbinned S line: its values at TAP 1 and behind stage 7, with the events of R139. -/
def State.reconstruct (u : Furnish) (l : Line) (x : List Nat) (s : State) : List Nat × List Nat × State :=
  let sample (q : PairSlot) (j : Nat) : Nat := q.line.sampleAt l j
  let c := s.guideOf l
  let n := s.nirOf l
  let s := s.iff n.isNone (·.raise R.calEvtNirSkip)
  let s := s.iff c.isNone fun s => ((s.raise R.calEvtGuideFallback).count R.calGfbCnt 1).bump 0x7B 1
  let y := match c with
    | some q => clearGuided u x (sample q) (n.map sample)
    | none =>
      let y := edgeAware u x
      match n with
      | some q => stage6 u (sample q) y
      | none => y
  (y, stage7 u l.field y, s)

/-- The first `n` components processed, the others as the bypass path copied them. -/
def splice (n : Nat) (done raw : List Nat) : List Nat := done.take n ++ raw.drop n

/-- GUIDE_COPY_STORE: the stage 4 output of a C or N line. -/
def State.storeGuide (l : Line) (x : List Nat) (s : State) : State :=
  if (l.prod = 0 ∨ l.prod = 2) ∧ s.guidesKept then
    if s.pairFree then
      (s.storePair { kind := .guide, line := { l with pix := x.map plyRound }, since := s.tb.nextSeq }).bump 0x7D 1
    else s.raise R.calEvtPairFull
  else s

/-- The primaries that wait for a line are merged with it (FIELD_MERGE, R146). -/
def State.mergeWith (l : Line) (s : State) : State :=
  let mine (q : PairSlot) : Bool :=
    q.kind == .waitPrimary && (s.furnish q.line.furnish).partnerOf q.line == (l.prod, l.field, l.seq, l.row)
  s.each (s.cal.pair.filter mine) fun q s =>
    let s := (s.modCal fun c => { c with pair := c.pair.filter (· != q) }).bump 0x7C 1
    s.finish (mergeLine (s.furnish q.line.furnish) q.upto q.line l) q.tap1

/-- R145: a line behind stage 7 that a primary still to come may need as its partner is kept for it, beside the store
(assumption 36); those that no primary took for 256 sequences go. -/
def State.keepPassed (l : Line) (s : State) : State :=
  let served := s.cal.pair.any fun q =>
    q.kind == .waitPrimary && (s.furnish q.line.furnish).partnerOf q.line == (l.prod, l.field, l.seq, l.row)
  if !served && ((s.fu.inForce :: s.fu.retained).any fun u => u.partners l) then
    s.modCal fun c => { c with passed := (c.passed.filter fun q => q.prod != l.prod || decide (l.seq ≤ q.seq + 256)) ++ [l] }
  else s

/-- The partner of a primary, where it has passed stage 7 before it. -/
def State.passedPartner (s : State) (l : Line) : Option Line :=
  let (p, f, n, row) := (s.furnish l.furnish).partnerOf l
  s.cal.passed.find? fun q => q.prod == p && q.field == f && q.seq == n && q.row == row

/-- A line behind stage 7 passes stage 8: a primary is merged with a partner that has passed, waits for its partner, or
passes unmerged where that is absent or the store is full. -/
def State.stage8 (l : Line) (upto : Nat) (tap1 : List Nat) (s : State) : State :=
  let s := (s.keepPassed l).mergeWith l
  let u := s.furnish l.furnish
  if !u.primary l then s.finish l tap1
  else match s.passedPartner l with
  | some q =>
    ((s.modCal fun c => { c with passed := c.passed.filter (· != q) }).bump 0x7C 1).finish (mergeLine u upto l q) tap1
  | none =>
  if s.pairFree then
    s.storePair { kind := .waitPrimary, line := { l with pix := splice upto (l.pix.map plyRound) l.pix },
                  since := l.came, tap1 := tap1, upto := upto }
  else (s.raise R.calEvtPairFull).mergeAlone l tap1

/-- A line leaves its lane: stages 1 to 8. -/
def State.process (j : LaneJob) (faults : List CalFault) (s : State) : State :=
  let (l, s) := s.calFaults faults j.line
  let u := s.furnish l.furnish
  let l := ((l.markIf (decide (j.upto < l.comps)) .late).markIf (j.droop || s.readsBad l) .calUe)
  let raw := l.raw
  let (x, void) := stages14 u s.cal.banks[u.tblBank] l l.pix
  let s := s.iff void (·.raise R.calEvtDpcVoid)
  let s := s.storeGuide l x
  -- R143: a guide copy goes when an S line of its sequence or a higher one has passed stage 5
  let past (s : State) : State := s.iff (l.prod == 1) fun s => s.modCal fun c =>
    { c with pair := c.pair.filter fun q => q.kind != .guide || decide (l.seq < q.line.seq) }
  if l.prod = 1 ∧ l.hbin = 1 then
    let (t, y, s) := s.reconstruct u l x
    (past s).stage8 { raw with pix := splice j.upto y raw.pix } j.upto (splice j.upto t raw.pix)
  else
    let n := if l.prod = 1 then j.upto / 3 else j.upto
    let x := splice n x raw.pix
    (past s).stage8 { raw with pix := x } n x

/-- CALENDER_LINE_EXIT of the oldest line of a lane, 192 clocks after its last component entered. -/
def State.laneExit (k : Fin 2) (faults : List CalFault) (s : State) : State :=
  match s.cal.lanes[k] with
  | [] => s
  | j :: t =>
    if j.stop + 192 ≤ s.now then
      ((s.modCal fun c => { c with lanes := vupd c.lanes k fun _ => t }).process j faults).calSettle
    else s

/-! ### Deadlines (R149) -/

/-- CALENDER_DEADLINE: the deadline of a line of a stream passes while components of it have not entered a lane; every
line whose deadline has passed is late. -/
def State.missDeadline (p f : Nat) (s : State) : State :=
  let now := s.now
  let due (l : Line) (d : Option Nat) : Bool := l.prod == p && l.field == f && d.any fun t => decide (t ≤ now)
  let hit (j : LaneJob) : Bool := due j.line j.deadline && decide (now < j.stop)
  let late := s.cal.lanes.toList.flatMap (·.filter hit)
  let rs := s.cal.ready.filter fun r => due r.line r.deadline
  if rs.isEmpty && late.isEmpty then s
  else
    let s := s.modCal fun c => { c with lanes := vmap (fun js => js.map fun j =>
      if hit j then { j with upto := min j.upto (24 * (now - j.entered)), stop := now } else j) c.lanes }
    ((s.each late fun _ s => s.lateEvents).each rs fun r s => s.bypassReady r).calSettle

/-- 256 line periods have passed since a waiting line arrived: the partners it lacks are declared absent. -/
def State.partnerAbsent (p seq row : Nat) (s : State) : State :=
  let hit (q : PairSlot) : Bool :=
    q.kind != .guide && q.line.prod == p && q.line.seq == seq && q.line.row == row &&
      decide (q.since + 256 ≤ s.tb.nextSeq)
  let n := ((s.cal.pair.filter hit).map fun q => (s.lacks q).length).sum
  let s := s.modCal fun c =>
    { c with pair := c.pair.map fun q => { q with gone := if hit q then q.gone ++ (s.lacks q).map (·.1) else q.gone } }
  (s.bump 0x7F n).calSettle

/-! ### The commands -/

/-- CALENDER_LINE_ARRIVAL (R143, R147). -/
def execCalenderLineArrival (s : State) : Answer := .next s.lineArrives

/-- PARTNER_ABSENT (R143): 256 line periods have passed since a waiting line arrived. -/
def execPartnerAbsent (prod : Fin 4) (seq row : Nat) (s : State) : Answer := .next (s.partnerAbsent prod seq row)

/-- GUIDE_COPY_EXPIRY (R143): 264 line periods after it was stored. -/
def execGuideCopyExpiry (s : State) : Answer :=
  .next (s.modCal fun c =>
    { c with pair := c.pair.filter fun q => q.kind != .guide || decide (s.tb.nextSeq < q.since + 264) }).calSettle

/-- LANE_TAKE (R147). -/
def execLaneTake (s : State) : Answer := .next s.laneTake

/-- CALENDER_LINE_EXIT (R148) with every error of a word met since; those in lines held elsewhere in the calender take
their effect first (R150). -/
def execCalenderLineExit (lane : Fin 2) (faults : List CalFault) (s : State) : Answer :=
  .next ((s.heldFaults faults).laneExit lane faults)

/-- CALENDER_DEADLINE (R149). -/
def execCalenderDeadline (prod field : Fin 4) (s : State) : Answer := .next (s.missDeadline prod field)

end Sys2Proof.Machine
end

