-- ==== Sys2Proof/Machine/Headbox.lean ====
section
/-! DEFINITION. The headbox (R52 to R78): the transfer window and exposures of a line period, the latching and delivery
of block samples, missed windows, slice failure and rearming, the VDD_ADC droop, and the slots of area mode. -/

namespace Sys2Proof.Machine

/-! ### Slices (R66 to R72) -/

def State.onSlice (i : Fin 38) (g : Slice → Slice) (s : State) : State :=
  s.modHb fun h => { h with slices := vupd h.slices i g }

def State.slice (s : State) (i : Fin 38) : Slice := s.hb.slices[i]

/-- R70: the last block sample of slice `i` that an open line waits for has been delivered. -/
def State.hasAll (l : FeltLine) (i : Fin 38) (s : State) : Bool :=
  let sl := s.slice i
  if l.closing then
    sl.buf.all fun e => decide (s.hb.cutSeq ≤ e.period) || prodOf (s.blockAt e.period e.block.val) != l.line.prod
  else l.req.all fun b => l.passed.any fun q =>
    q.1 == b && sl.latched.any (q.2 ≤ ·) && !sl.buf.any fun e => e.period == q.2 && e.block.val == b

/-- R69, R70: a slice fails. Its converters stop and what it held is lost; its columns are not valid in any open line
or area frame that still waits for a sample of it, and a line that had samples from it is broke. A slice that has failed
already fails no further, and keeps its CAUSE (assumption 33). -/
def State.failSlice (i : Fin 38) (cause : BitVec 4) (s : State) : State :=
  if (s.slice i).state = .failed then s
  else
    let off (v : BitVec 38) : BitVec 38 := v &&& ~~~((1 : BitVec 38) <<< i.val)
    let lines := s.felt.lines.map fun l =>
      if s.hasAll l i then l
      else
        let l := { l with line := { l.line with valid := off l.line.valid } }
        if bitOf l.hadSlice i.val then l.mark .sliceFail else l
    let s := s.modFelt fun f => { f with lines := lines }
    let s := s.modHb fun h =>
      { h with area := h.area.map fun a =>
          { a with valid := off a.valid, loaded := a.loaded.map fun g => { g with valid := off g.valid } } }
    let s := s.onSlice i fun sl => { sl with state := .failed, cause := cause, buf := [] }
    (s.raise R.hbxEvtSliceFail |>.alarmOf R.hbxEvtSliceFail (s.tb.nextSeq - 1)).trace 0x06 i.val
      (cause.zeroExtend 32)

/-- R68, R69: a window of a slice is missed, once per period; after HBX_FAIL_LIM in a row the slice fails. -/
def State.missWindow (i : Fin 38) (per : Nat) (cause : BitVec 4) (s : State) : State :=
  let s := s.raise R.hbxEvtMissedWin
  if (s.slice i).missed = some per then s
  else
    let s := (s.onSlice i fun sl => { sl with run := min 255 (sl.run + 1), missed := some per }).count
      (R.hbxSlMiss i.val) 1
    s.iff (decide (max 1 (s.fget R.hbxFailLim) ≤ (s.slice i).run)) (·.failSlice i cause)

/-- The latest line period. -/
def State.lastPeriod (s : State) : Option Period := s.tb.periods.head?

/-- The block samples of a slice that a packet's line needs (R66): its line uses the block, and its deckle
reaches the slice; slices 0 and 37 convert every block for their dark columns. -/
def State.needsSample (s : State) (i per b : Nat) : Bool :=
  i == 0 || i == 37 ||
    (match (entryOf per b).bind (s.packetLine (prodOf (s.blockAt per b))) with
     | some l => !l.closing && l.blocks.contains b && (s.furnish l.line.furnish).usesSlice l.line.prod i
     | none => false)

/-- BLOCK_SAMPLE_LATCH (R57, R60): at tick 959 of a period the results of slice `i` stand in its output buffer. -/
def State.latch (i : Fin 38) (codes : List (List (BitVec 12))) (s : State) : State :=
  match s.lastPeriod with
  | none => s
  | some q =>
    let sl := s.slice i
    if s.now < q.base + 959 ∨ sl.latched = some q.seq ∨ ¬ sl.up ∨ s.fu.inForce.area then s
    else
      let met := !(sl.buf.any fun e => decide (e.period < q.seq)) && sl.missed != some (q.seq - 1)
      let new := (List.range 32).filterMap fun b =>
        match codes[b]? with
        | some row => if s.needsSample i.val q.seq b then
              some { period := q.seq, block := Fin.ofNat 32 b, codes := row } else none
        | none => none
      let s := s.onSlice i fun sl =>
        { sl with buf := sl.buf ++ new, latched := some q.seq, run := if met then 0 else sl.run }
      let s := s.iff (!new.isEmpty) (·.bump (0x2E + i.val) 1)
      let side (k : Nat) (cut : List (BitVec 12) → List (BitVec 12)) (s : State) : State :=
        s.modHb fun h =>
          { h with darks := h.darks.filter (fun d => q.seq ≤ d.1 + 3) ++
              (codes.mapIdx fun b row => (q.seq, b, k, cut row)) }
      if i = 0 then side 0 (·.take 48) s else if i = 37 then side 1 (·.drop 384) s else s

/-- A stored sample leaves the output buffer. -/
def State.takeSample (i : Fin 38) (e : BlockSample) (s : State) : State :=
  s.onSlice i fun sl => { sl with buf := sl.buf.erase e }

/-- The dark columns of a sample that is lost are not valid (R80). -/
def State.loseDark (i : Fin 38) (e : BlockSample) (s : State) : State :=
  s.modHb fun h =>
    { h with darks := h.darks.filter fun d =>
        !(d.1 == e.period && d.2.1 == e.block.val && i.val == 37 * d.2.2.1) }

/-- A sample is discarded (R68): it counts with weight 0, and its lines are broke. -/
def State.discard (i : Fin 38) (e : BlockSample) (s : State) : State :=
  ((s.takeSample i e).loseDark i e).couch i.val e.block.val e.period e.codes (some .void)

/-- A parity error in the furnish copy of a slice (R68): a missed window for all of its samples of period `per`, whether
it holds any or not; the copy is reloaded before the next pre-trigger. -/
def State.badFurnishCopy (i : Fin 38) (per : Nat) (s : State) : State :=
  let held := (s.slice i).buf.filter (·.period = per)
  let s := s.each held fun e s => s.discard i e
  let s := s.each (List.range 32) fun b s =>
    match entryOf per b with
    | some seq =>
      let p := prodOf (s.blockAt per b)
      s.onLine p seq fun l =>
        if l.blocks.contains b && (s.furnish l.line.furnish).usesSlice p i.val then l.mark .void else l
    | none => s
  let s := s.onSlice i fun sl => { sl with badCopy := true }
  (s.raise R.hbxEvtCfgPar).missWindow i per 3

/-- BLOCK_SAMPLE_DELIVERY (R58, R68, R89). A parity error of the furnish copy strikes also where nothing is to be
delivered. -/
def State.deliver (i : Fin 38) (b : Fin 32) (fault : DeliveryFault) (s : State) : State :=
  match (s.slice i).buf.find? (·.block = b) with
  | none => s.iff (fault == .cfgParity) fun s => match s.lastPeriod with
    | some q => s.badFurnishCopy i q.seq
    | none => s
  | some e =>
    let good (s : State) : State :=
      ((s.takeSample i e).couch i.val b.val e.period e.codes none).bump (0x08 + i.val) 1
    match fault with
    | .none => good s
    | .bufferUe => (s.discard i e).missWindow i e.period 6
    | .cfgParity => s.badFurnishCopy i e.period
    | .accCe => (good s).accCorrected 1
    | .accUe prod seq slice word => (good s).accUncorrectable prod seq slice word

/-- MISSED_WINDOW (R68): the window closes at tick 959 of the next period with samples not delivered. -/
def State.missedWindow (i : Fin 38) (s : State) : State :=
  match s.lastPeriod with
  | none => s
  | some q =>
    let late := (s.slice i).buf.filter fun e =>
      decide (e.period + 1 < q.seq) || (decide (e.period < q.seq) && decide (q.base + 959 ≤ s.now))
    match late.getLast? with
    | none => s
    | some l => (s.each late fun e s => s.discard i e).missWindow i l.period 1

/-- The clock of a slice is on bypass, relocking, or below 1.000 GHz (R364). -/
def State.sliceSlow (s : State) (i : Fin 38) : Bool :=
  s.clk.slices.toList[i.val / 2]?.getD .relocking != .locked || s.flag R.clkTargetSlice

/-- SLICE_REARM (R71): no effect unless the slice is failed and FORCE_FAIL is 0; it fails again, with cause 0x2, while
its clock is on bypass (R71, R364). Its reinitialisation clears RUN (assumption 33). -/
def State.rearmSlice (i : Fin 38) (s : State) : State :=
  if (s.slice i).state ≠ .failed ∨ s.flag (R.hbxSlCtrlForceFail i.val) then s
  else
    let s := s.onSlice i fun sl => { sl with state := .rejoining, run := 0, missed := none }
    if s.sliceSlow i then s.failSlice i 2 else s

/-- R71: a rejoining slice becomes active at a ream boundary, its columns valid from the line that enters there. -/
def State.activateSlices (n : Nat) (s : State) : State :=
  s.each (List.finRange 38) fun i s =>
    if (s.slice i).state = .rejoining then
      (s.onSlice i fun sl => { sl with state := .active, validFrom := n, needed := some n }).trace 0x07 i.val 0
    else s

/-- Whether the furnish's products need the converters of a slice (R66). -/
def Furnish.needsSlice (u : Furnish) (i : Nat) : Bool :=
  i == 0 || i == 37 ||
    (if u.area then u.usesSlice 3 i else [0, 1, 2].any fun p => u.prodOn p && u.usesSlice p i)

/-- R66: at trigger `n`, a slice that the furnish in force needs is awake; one that no line has needed for 256 line
periods idles, counted from sequence 0 for a slice that no line has ever needed (assumption 33). -/
def State.wakeAndIdle (n : Nat) (s : State) : State :=
  s.each (List.finRange 38) fun i s =>
    let sl := s.slice i
    if s.fu.inForce.needsSlice i.val then
      s.onSlice i fun sl => { sl with needed := some n, state := if sl.state = .idle then .active else sl.state }
    else if sl.state = .active ∧ sl.needed.getD 0 + 256 ≤ n then s.onSlice i fun sl => { sl with state := .idle }
    else s

/-! ### The line period (R42, R55, R59, R60) -/

/-- A change of the latest period's record. -/
def State.onPeriod (g : Period → Period) (s : State) : State :=
  s.modTb fun t => { t with periods := match t.periods with | p :: r => g p :: r | [] => [] }

/-- The latest period becomes a coasting one where the timebase coasts now (R43). -/
def State.coastPeriod (s : State) : State :=
  match s.lastPeriod with
  | some p => s.iff s.coastingNow (·.markCoast p.seq)
  | none => s

/-- The exposure of the latest period starts now. -/
def State.beginExposure (s : State) : State :=
  let now := s.now
  let w := s.tb.wf
  (s.coastPeriod.onPeriod fun p => { p with start := some now, wStart := w }).modHb fun h =>
    { h with exposing := true }

/-- The exposure of the latest period ends now (R42). -/
def State.finishExposure (s : State) : State :=
  let now := s.now
  let w := s.tb.wf
  (s.coastPeriod.onPeriod fun p => { p with stop := some now, wStop := w }).modHb fun h =>
    { h with exposing := false }

/-- The pre-trigger (R59): an exposure that still runs ends; one that never began is recorded with no length (R81); in
TDI every register shifts one row (R55); furnish copies that failed their parity check have been reloaded (R68). -/
def State.preTrigger (s : State) : State :=
  let now := s.now
  let s := if s.fu.inForce.area then s
    else
      let s := if s.hb.exposing then s.finishExposure
        else match s.lastPeriod with
          | some p => if p.start.isNone then s.beginExposure.finishExposure else s
          | none => s
      s.modHb fun h => { h with shifts := h.shifts + 1 }
  let s := s.modHb fun h => { h with slices := vmap (fun sl => { sl with badCopy := false }) h.slices }
  s.modTb fun t => { t with window := some now, droopNext := false }

/-- The tick at which the next trigger of time mode falls (R37). -/
def State.timeDue (s : State) : Nat :=
  (s.tb.lastTrig.getD s.tb.timeBase).max s.tb.timeBase + s.fu.inForce.timePeriod

/-- Triggers may be raised: READY, not stopped, the core clock at full speed (R364, R418, R430). -/
def State.triggersOn (s : State) : Bool := s.rst.ready && s.thm.stop != .draining && !s.coreSlow

/-- R59: the pre-trigger of the next line period is due. In pin-engine mode it comes with the request (R347). In web
mode W is taken with its fraction bits, 30 v truncated to them (assumption 75). -/
def State.preTriggerDue (s : State) : Bool :=
  s.tb.window.isNone && s.triggersOn && s.producing &&
    (match s.fu.inForce.trigSrc with
     | 1 => decide (s.timeDue ≤ s.now + 30)
     | 2 => false
     | _ =>
       !s.tb.reversed &&
         let v := s.speedQ
         !Pos.behind (s.tb.wf.move (floorDiv (30 * (v.1 : Int)) v.2)) s.tb.t)

/-- EXPOSURE_START (R60, R74). -/
def State.exposureStart (s : State) : State :=
  if s.fu.inForce.area then
    match s.hb.area with
    | some fr =>
      let u := s.furnish fr.furnish
      if fr.tail ∨ fr.tStart.isSome ∨ s.now + 30 + u.areaExpo fr.sub < fr.slot + fr.length then s
      else
        let now := s.now
        let w := s.tb.wf
        (s.modHb fun h =>
          { h with area := some { fr with tStart := some now, wStart := w }, exposing := true }).coastExposure
    | none => s
  else match s.lastPeriod with
    | some p => if p.start.isSome ∨ s.tb.window.isSome ∨ s.now < p.planned then s else s.beginExposure
    | none => s

/-- EXPOSURE_END (R60, R74, R84). -/
def State.exposureEnd (s : State) : State :=
  if s.fu.inForce.area then
    match s.hb.area with
    | some fr =>
      if fr.tail ∨ fr.tStart.isNone ∨ fr.tStop.isSome ∨ s.now + 30 < fr.slot + fr.length then s
      else
        let now := s.now
        let w := s.tb.wf
        s.coastExposure.modHb fun h =>
          { h with area := h.area.map fun fr => { fr with tStop := some now, wStop := w }, exposing := false }
    | none => s
  else match s.lastPeriod with
    | some p => if s.hb.exposing ∧ p.start.getD 0 + p.tExp ≤ s.now then s.finishExposure else s
    | none => s

/-- R73 in area mode: the row readout of the slot in which `now` falls is flagged. -/
def State.areaDroop (now : Nat) (s : State) : State :=
  s.modHb fun h =>
    { h with area := h.area.map fun a =>
        if a.loaded.isSome ∧ a.slot + 1000 ≤ now ∧ now < a.slot + 9000 then
          { a with droops := ((now - a.slot) / 1000 - 1) :: a.droops }
        else a }

/-- ADC_DROOP (R73): within T − 26 to T + 959 of a conversion its samples are flagged; T is the tick from which the
sequence of the period counts (R59). In the transfer window of the next conversion T is not known yet: from 4 ticks after
the window opens, which is T − 26 of a trigger that comes as predicted, up to the trigger a droop flags that conversion.
In area mode it flags the row readout that is under way (assumption 35). -/
def State.adcDroop (s : State) : State :=
  let now := s.now
  let s := s.areaDroop now
  let inConv := (s.lastPeriod).any fun p => decide (p.base ≤ now + 26) && decide (now ≤ p.base + 959)
  let inWin := s.tb.window.any fun w => decide (w + 4 ≤ now)
  let seq := if inWin then s.tb.nextSeq else s.tb.nextSeq - 1
  if inConv ∨ inWin then
    let s := s.iff inConv fun s => s.onPeriod fun p => { p with adcDroop := true }
    let s := s.iff inWin fun s => s.modTb fun t => { t with droopNext := true }
    ((s.raise R.hbxEvtAdcDroop).bump 0xE3 1).trace 0x05 0 (BitVec.ofNat 32 seq)
  else ((s.raise R.hbxEvtAdcDroop).bump 0xE3 1).trace 0x05 0 (BitVec.ofNat 32 seq)

/-! ### Area mode (R74 to R76) -/

/-- A frame begins at tick `at'` with its sub-frame 0; the registers hold `got`; `wait` are the frames that wait. -/
def State.startFrame (seq : Nat) (id : BitVec 16) (at' : Nat) (got : Option SubFrame) (wait : List (Nat × BitVec 16))
    (s : State) : State :=
  let u := s.furnish id
  let v := s.validSlices seq
  let c := (s.period seq).any (·.coast)
  s.modHb fun h =>
    { h with area := some { seq := seq, furnish := id, count := u.subFrames, slot := at', length := u.slotLength 0,
                            loaded := got, next := wait, valid := v, coast := c } }

/-- R74, R75: whether a trigger now would start a frame (at once or at the end of a tail slot). -/
def State.frameFree (s : State) : Bool :=
  match s.hb.area with
  | none => true
  | some fr => fr.tail

/-- A frame trigger (R74, R75): it starts a frame, turns a tail slot into slot 0, waits for the tail's end, or is
skipped. Frames that wait for the end of one tail start one behind the other (assumption 35). -/
def State.frameTrigger (seq : Nat) (s : State) : State :=
  let id := s.fu.inForce.id
  let u := s.fu.inForce
  let v := s.validSlices seq
  let c := (s.period seq).any (·.coast)
  match s.hb.area with
  | none => s.startFrame seq id s.now none []
  | some fr =>
    if fr.tail then
      if fr.next.isEmpty ∧ s.now + 30 + u.areaExpo 0 ≤ fr.slot + u.slotLength 0 then
        s.modHb fun h =>
          { h with area := some { fr with seq := seq, furnish := id, sub := 0, count := u.subFrames, tail := false,
                                          length := u.slotLength 0, tStart := none, tStop := none, coast := c,
                                          valid := v } }
      else s.modHb fun h => { h with area := some { fr with next := fr.next ++ [(seq, id)] } }
    else (s.raise R.hbxEvtAreaSkip).count R.hbxAreaSkip 1

/-- AREA_SLOT_END (R74, R75): global transfer, then the next slot, a tail slot, or a frame that waits. -/
def State.slotEnd (s : State) : State :=
  match s.hb.area with
  | none => s
  | some fr =>
    let stop := fr.slot + fr.length
    if s.now < stop then s
    else if fr.tail then
      match fr.next with
      | (seq, id) :: rest => s.startFrame seq id stop none rest
      | [] => s.modHb fun h => { h with area := none }
    else
      let u := s.furnish fr.furnish
      let w : Pos := fr.wStart.move (floorDiv (Pos.diff fr.wStop fr.wStart) 2)
      let got : SubFrame :=
        { seq := fr.seq, furnish := fr.furnish, sub := fr.sub, w := w.wc, coast := fr.coast, valid := fr.valid,
          tick := (fr.tStart.getD stop + fr.tStop.getD stop) / 2 }
      let s := s.modFelt fun f => { f with areaTodo := u.areaGroups, areaHeld := [] }
      let last := decide (fr.count ≤ fr.sub + 1)
      match last, fr.next with
      | true, (seq, id) :: rest => s.startFrame seq id stop (some got) rest
      | _, _ =>
      s.modHb fun h =>
        { h with area := some { fr with
            slot := stop, tail := last, sub := if last then fr.sub else fr.sub + 1,
            length := if last then 10000 else u.slotLength (fr.sub + 1),
            loaded := some got, readout := 0, tStart := none, tStop := none, droops := [] } }

/-- AREA_ROW_READOUT (R76, R105): one row, or one summed group, of every block; of the pool's words that are read, `ce`
are corrected and those of `ue` (row, slice, word) uncorrectable (R89). -/
def State.readRows (codes : List (List (BitVec 12))) (ce : Nat) (ue : List (Nat × Fin 38 × Fin 44)) (fr : AreaFrame)
    (got : SubFrame) (s : State) : State :=
  let u := s.furnish got.furnish
  let void : Option Cause :=
    if s.droopVoids then some .void else if fr.droops.contains fr.readout then some .adcDroop else none
  let s := s.each (List.range 32) fun sb s =>
    let g := u.rowGroup sb
    let row := 8 * sb + g * fr.readout
    if 8 ≤ g * fr.readout ∨ ¬ u.areaGroups.contains row then s
    else
      let r := s.areaRow got sb row (codes[sb]?.getD []) void
      let s := (s.iff (u.on R.fltCtrlDclamp) (·.clampEvents)).noteClamp (sbOf u.reverse sb) r.delta
      let s := s.iff r.gainSat fun s => (s.raise R.fltEvtGainSat).count R.fltGsatCnt 1
      let s := s.iff r.accSat (·.raise R.fltEvtAccSat)
      s.modFelt fun f =>
        let g := { f with areaHeld := insertRow r.row f.areaHeld, areaTodo := f.areaTodo.erase row }
        { g with peak := max g.peak (g.mostInUse (u.col0 3) (u.cols 3)) }
  let s := s.each (List.range 38) fun i s => s.iff (u.usesSlice 3 i) (·.bump (0x08 + i) 32)
  let s := (s.accCorrected ce).each ue fun w s => s.areaUncorrectable w.1 w.2.1 w.2.2
  (s.modHb fun h => { h with area := some { fr with readout := fr.readout + 1 } }).releaseRows

/-! ### The commands -/

/-- PRE_TRIGGER (R59, R55, R42). -/
def execPreTrigger (s : State) : Answer := .next (if s.preTriggerDue then s.preTrigger else s)

/-- EXPOSURE_START (R60). -/
def execExposureStart (s : State) : Answer := .next s.exposureStart

/-- EXPOSURE_END (R60). -/
def execExposureEnd (s : State) : Answer := .next s.exposureEnd

/-- BLOCK_SAMPLE_LATCH (R57). -/
def execBlockSampleLatch (slice : Fin 38) (codes : List (List (BitVec 12))) (s : State) : Answer :=
  if wfLatch codes then .next (s.latch slice codes) else .fault .illFormed

/-- BLOCK_SAMPLE_DELIVERY (R58). -/
def execBlockSampleDelivery (slice : Fin 38) (block : Fin 32) (fault : DeliveryFault) (s : State) : Answer :=
  .next (s.deliver slice block fault)

/-- MISSED_WINDOW (R68). -/
def execMissedWindow (slice : Fin 38) (s : State) : Answer := .next (s.missedWindow slice)

/-- SLICE_REFERENCE_FAULT (R69, R431): the converter references are out of range. -/
def execSliceReferenceFault (slice : Fin 38) (s : State) : Answer := .next (s.failSlice slice 4)

/-- FORCE_FAIL (R69): software sets HBX_SL_CTRL.FORCE_FAIL. -/
def State.forceFail (i : Fin 38) (s : State) : State := (s.fset (R.hbxSlCtrlForceFail i.val) 1).failSlice i 0xF

/-- ADC_DROOP (R73). -/
def execAdcDroop (s : State) : Answer := .next s.adcDroop

/-- AREA_ROW_READOUT (R74, R76, R105). -/
def execAreaRowReadout (codes : List (List (BitVec 12))) (ce : Nat) (ue : List (Nat × Fin 38 × Fin 44)) (s : State) :
    Answer :=
  if !wfArea codes then .fault .illFormed
  else match s.hb.area with
    | some fr =>
      match fr.loaded with
      | some got =>
        if 8 ≤ fr.readout ∨ s.now < fr.slot + 1000 * (fr.readout + 2) then .next s
        else if (codes.head?.map List.length) = some (96 + (s.furnish got.furnish).cols 3) then
          .next (s.readRows codes ce ue fr got)
        else .fault .illFormed
      | none => .next s
    | none => .next s

/-- AREA_SLOT_END (R74, R75). -/
def execAreaSlotEnd (s : State) : Answer := .next s.slotEnd

end Sys2Proof.Machine
end

