-- ==== Sys2Proof/Machine/Furnish.lean ====
section
/-! DEFINITION. The furnish sequencer (R20 to R27, R62, R91, R107 to R128, R430): admission, capture, checks, pending
commits, boundary lines, coming into force, retention, history. -/

namespace Sys2Proof.Machine

/-! ### Streams and products of a furnish (R467) -/

/-- R467: a product is made. -/
def Furnish.makes (u : Furnish) (p : Nat) : Bool := if p = 3 then u.area else u.prodOn p && !u.area

/-- R467: stream k of a product and field is live. -/
def Furnish.live (u : Furnish) (p f k : Nat) : Bool :=
  u.on (R.outStreamEn p f k) && u.makes p && decide (f < u.fieldsOf p)

/-- R467: the furnish records the V stream of a product and field. -/
def Furnish.records (u : Furnish) (p f : Nat) : Bool := u.live p f 0 && u.on (R.outStreamRec p f 0)

/-- R467: the furnish binds stream k of a product and field to a channel. -/
def Furnish.binds (u : Furnish) (p f k : Nat) : Bool := u.live p f k && u.on (R.outStreamHost p f k)

/-- Index of a stream in `Furnish.since`. -/
def streamIdx (p f k : Nat) : Nat := 12 * p + 3 * f + k

/-! ### Sizes and admission (R22 to R27) -/

/-- Components per pixel of a product's lines after stage 5 (R132). -/
def Furnish.comps (u : Furnish) (p : Nat) : Nat := if p = 1 ∧ u.hbin 1 = 1 then 3 else 1

/-- R23: sheet words of a line of stream k, watermark included; V of S counts three components, binned or not. Of an area
row binned by HBIN2 the binned width counts (R99), truncated where it makes no whole word (DESIGN CHOICE, assumption
89). -/
def Furnish.streamWords (u : Furnish) (p k : Nat) : Nat :=
  let w := u.width p
  match k with
  | 0 => (if p = 1 then 3 else 1) * w / 24 + 1
  | 1 => ceilDiv (3 * w) 256 + 1
  | _ => (if u.on R.outKCtrlHalf then w / 24 else w / 12) + 1

/-- GLB_RATE_CEIL and GLB_FRAME_CEIL as R27 takes them. -/
def Furnish.lineCeil (u : Furnish) : Nat :=
  let n := u.get R.glbLineCeil
  if n = 0 ∨ 1000000 < n then 1000000 else n

def Furnish.frameCeil (u : Furnish) : Nat :=
  let n := u.get R.glbFrameCeil
  if n = 0 ∨ 100000 < n then 100000 else n

/-- OUT_P_CTRL.PERIOD and OUT_K_CTRL.PERIOD (R171). -/
def Furnish.pPeriod (u : Furnish) : Nat := max 33334 (u.get R.outPCtrlPeriod)
def Furnish.kPeriod (u : Furnish) : Nat := max 1000 (u.get R.outKCtrlPeriod)

/-- R22: a product is charged: made, or a guide of S. -/
def Furnish.charged (u : Furnish) (p : Nat) : Bool :=
  u.makes p || (u.makes 1 && u.comps 1 == 3 &&
    ((p == 0 && u.get R.calCtrlRecMethod == 0) || (p == 2 && u.on R.calCtrlNirEn)))

/-- Calender load, in components per second (R22). An area row counts the columns of its window, binned by HBIN2 or not
(DESIGN CHOICE, assumption 89). -/
def Furnish.calRate (u : Furnish) : Nat :=
  ([0, 1, 2].map fun p => if u.charged p then (if p = 1 then 3 else 1) * u.width p * u.lineCeil else 0).sum
    + (if u.area then (u.rowLast - u.rowFirst + 1) * u.frameCeil * u.cols 3 else 0)

/-- Lines per second of one field of a product, times F. -/
def Furnish.rateF (u : Furnish) (p : Nat) : Nat :=
  if p = 3 then u.areaGroups.length * u.frameCeil * u.fields else u.lineCeil

/-- The sum of `g p f` over products and fields. -/
def overFields (g : Nat → Nat → Nat) : Nat :=
  ([0, 1, 2, 3].map fun p => ([0, 1, 2, 3].map fun f => g p f).sum).sum

/-- The scale of the byte rates below: F times the K period. -/
def Furnish.scale (u : Furnish) : Nat := u.fields * u.kPeriod

/-- Recorded bytes per second, scaled. -/
def Furnish.recRate (u : Furnish) : Nat :=
  overFields fun p f => if u.records p f then 32 * u.streamWords p 0 * u.rateF p * u.kPeriod else 0

/-- R334: bytes per second of the seam copies a head receives, scaled. -/
def Furnish.seamRate (u : Furnish) : Nat :=
  if u.on R.wlkSeamRxEn then
    let fs := ((List.range u.fields).filter fun f => bitOf (BitVec.ofNat 4 (u.get R.wlkSeamFields)) f).length
    let sides := u.get R.wlkSeamRxSides % 2 + u.get R.wlkSeamRxSides / 2
    fs * sides * (u.get R.wlkSeamWordsM1 + 2) * 32 * u.lineCeil * u.kPeriod
  else 0

/-- Class 2 bytes per second, scaled. -/
def Furnish.lnk2Rate (u : Furnish) : Nat :=
  (overFields fun p f => if u.binds p f 0 then 32 * u.streamWords p 0 * u.rateF p * u.kPeriod else 0) + u.seamRate

/-- Class 3 bytes per second, scaled. -/
def Furnish.lnk3Rate (u : Furnish) : Nat :=
  overFields fun p f =>
    (if u.binds p f 1 then 32 * u.streamWords p 1 * min (u.rateF p) (30000 * u.fields) * u.kPeriod else 0) +
      (if u.binds p f 2 then 32 * u.streamWords p 2 * 1000000000 * u.fields else 0)

/-- R26: the detail of the first inequality that fails. -/
def Furnish.overBudget (u : Furnish) : Option Nat :=
  if 48000000000 < u.calRate then some 1
  else if 48000000000 * u.scale < u.recRate then some 2
  else if 23000000000 * u.scale < u.lnk2Rate then some 3
  else if 25500000000 * u.scale < u.lnk2Rate + u.lnk3Rate then some 4
  else none

/-- A percentage rounded up, saturating at 255 (R27). -/
def percent (x cap : Nat) : Nat := min 255 (ceilDiv (100 * x) cap)

/-- R91: the accumulators a furnish needs beside others in flight. -/
def Furnish.need (u : Furnish) (others : List Furnish) : Nat :=
  let used := [0, 1, 2].filter u.prodOn
  let first := used.foldl (fun a p => min a (entryBlock u.reverse p)) 32
  let last := used.foldl (fun a p => max a (entryBlock u.reverse p + u.depth p)) 0
  let span := last - first
  let all := u :: others
  let mine := (all.map fun v => if v.pitch = 0 then 0 else ceilDiv (8 * span * v.optPitch) v.pitch).foldl max 0
  mine + (all.map Furnish.taps).foldl max 0 * (all.map Furnish.fields).foldl max 0

/-- R77: ρ as unsigned 2.14, and the spread bound. -/
def Furnish.ratio (u : Furnish) : Nat := min 0xFFFF (roundHalfUp (u.pitch * 16384) u.optPitch).toNat
def Furnish.smear (u : Furnish) : Nat :=
  min 255 (ceilDiv (512 * (u.pitch - u.optPitch + (u.optPitch - u.pitch))) u.optPitch)

/-! ### The checks (R111) -/

/-- Why a captured furnish is refused: status and detail. -/
def State.checkFurnish (s : State) (u : Furnish) (prior : List Commit) : Option (Nat × Nat) :=
  let ids := s.fu.inForce.id :: (s.fu.retained.map (·.id) ++ prior.map (·.furnish.id))
  if u.id = 0 then some (2, 0x01)
  else if ids.contains u.id then some (2, 0x02)
  else if 4 ≤ prior.length then some (3, 0)
  else if u.optPitch = 0 ∨ 2 * u.pitch < u.optPitch ∨ 2 * u.optPitch < u.pitch then some (2, 0x40)
  else if u.get R.hbxCtrlFields = 3 then some (2, 0x42)
  else if 264 < u.need (s.fu.inForce :: prior.map (·.furnish)) ∨
      ([0, 1, 2].any fun p => u.prodOn p && u.words p % u.hbin p != 0) then some (2, 0x41)
  else u.overBudget.map fun d => (4, d)

/-! ### Completion of a commit (R127, R283) -/

/-- A register request that RESULT still follows takes a result. -/
def State.furnResult (n res detail : Nat) (s : State) : State :=
  s.modFu fun f => if f.reqNo = n then { f with result := res, detail := detail } else f

/-- A commit reaches its final outcome. -/
def State.commitDone (c : Commit) (status detail line res : Nat) (s : State) : State :=
  let s := match status, detail with
    | 0, 1 => s.raise R.glbFurnStatLate
    | 0, 2 => s.raise R.glbFurnStatSuperseded
    | 0, 4 => s.raise R.glbFurnStatHeld
    | _, _ => s
  match c.by' with
  | .packet p => s.done p status detail (line % 2 ^ 32)
  | .register n => (s.furnResult n res detail).raise R.glbFurnStatDone

/-! ### Coming into force (R115, R118, R122, R127, R430) -/

/-- The values reported of the furnish in force (R27, R62, R77, R91). -/
def State.furnReports (s : State) : State :=
  let u := s.fu.inForce
  let k := u.scale
  s.fset R.hbxRatio u.ratio |>.fset R.hbxSmear u.smear |>.fset R.fltOpenNeed (min 511 (u.need []))
    |>.fset R.glbBudgetCalLoad (percent u.calRate 48000000000)
    |>.fset R.glbBudgetRelLoad (percent u.recRate (48000000000 * k))
    |>.fset R.glbBudgetLnkLoad (max (percent u.lnk2Rate (23000000000 * k))
      (percent (u.lnk2Rate + u.lnk3Rate) (25500000000 * k)))

/-- For each stream, the number of the commit that last enabled it (R172). -/
def Furnish.sinceFrom (old u : Furnish) (no : Nat) : List Nat :=
  (List.range 48).map fun i =>
    let f := R.outStreamEn (i / 12) (i / 3 % 4) (i % 3)
    if u.on f && !old.on f then no else old.since[i]?.getD 0

/-- R118: a line, a statistics period, a candidate or a frame still refers to a furnish. -/
def State.furnishUsed (s : State) (id : BitVec 16) : Bool :=
  let ln (l : Line) : Bool := l.furnish == id
  (s.felt.lines.any fun l => ln l.line) || (s.felt.shells.any fun l => ln l.line) ||
    (s.felt.stock.any fun i => match i with | .line l => ln l | .dark .. => false) ||
    s.felt.areaHeld.any (ln ·.line) ||
    (s.hb.area.any fun a => (!a.tail && a.furnish == id) || a.loaded.any (fun g => g.furnish == id && !s.felt.areaTodo.isEmpty)
      || a.next.any (·.2 == id)) ||
    (s.cal.pair.any fun p => p.kind != .guide && ln p.line) ||
    (s.cal.ready.any fun r => ln r.line) || (s.cal.lanes.toList.any fun l => l.any fun j => ln j.line) ||
    (s.cal.done.any fun d => ln d.1) || s.fmt.queue.any ln ||
    (s.sts.banks.toList.any fun b => b.recs.any fun r => r.isOpen && r.furnish == id) ||
    s.scr.cands.any fun c => c.furnish == id

/-- A furnish that is no longer in force is retained while something refers to it (R118). -/
def State.retire (u : Furnish) (s : State) : State :=
  if s.furnishUsed u.id then s.modFu fun f => { f with retained := u :: f.retained } else s

/-- R122: the generations after a boundary. -/
def stepGens (old new : Furnish) (g : BitVec 32) : BitVec 32 :=
  let all := old.get R.tbsExpoMin != new.get R.tbsExpoMin || old.get R.hbxCtrlExpoAlign != new.get R.hbxCtrlExpoAlign ||
    old.get R.tbsPitch != new.get R.tbsPitch || old.get R.tbsTimePeriod != new.get R.tbsTimePeriod
  [0, 1, 2, 3].foldl (fun g f =>
    if all || old.get (R.tbsExpo f) != new.get (R.tbsExpo f) then setBits g (8 * f) 8 (bits g (8 * f) 8 + 1) else g) g

/-- R186: the fields that the screens leave at boundary line `n`. -/
def State.screensLeave (old new : Furnish) (n : Nat) (s : State) : State :=
  let off := (List.range 4).filter fun f => old.screensField f && !new.screensField f
  s.modScr fun t => { t with offs := t.offs ++ off.map fun f => (f, n) }

/-- The furnish in force takes boundary line `n`: line, history, generations against `old`, trace, count (R115). -/
def State.boundaryAt (old : Furnish) (n : Nat) (s : State) : State :=
  let u := s.fu.inForce
  let g := stepGens old u s.fu.gens
  let s := s.screensLeave old u n
  let s := s.modFu fun f =>
    { f with inForce := { u with line := n }, gens := g, hist := ({ id := u.id, line := n, gen := g } :: f.hist).take 8 }
  (s.trace 0x08 0 (BitVec.ofNat 32 (u.id.toNat + 65536 * (n % 65536)))).bump 0xDA 1

/-- R40, R321: the ream size exponent of the furnish in force; on a slave REAM_K has no effect. -/
def State.loadReamK (s : State) : State :=
  let k := s.fu.inForce.reamK
  s.iff (!s.onLink) (·.modTb fun t => { t with reamK := k })

/-- A captured furnish replaces the one in force; with STBY_EN cleared it returns the timebase to ENC0 (R46), and
standstill is judged against its floor (R36). -/
def State.install (c : Commit) (s : State) : State :=
  let s := s.iff (!c.furnish.on R.tbsCtrlStbyEn) (·.returnEnc0)
  let s := s.modFu fun f =>
    { f with inForce := { c.furnish with since := c.furnish.sinceFrom f.inForce (f.commitNo + 1) },
             commitNo := f.commitNo + 1 }
  s.furnReports.loadReamK.judgeStill

/-- R430: a commit armed before the first trigger after READY comes into force at once; an earlier such commit, whose
boundary line would be the same, is superseded (R116). It completes at its boundary line (assumption 29). In time mode
the first period counts from now (R37). -/
def State.applyEarly (c : Commit) (s : State) : State :=
  let old := s.fu.inForce
  let now := s.now
  let s := match s.fu.early with
    | some e => s.commitDone e 0 2 0 4
    | none => s.retire old
  let s := s.modFu fun f => { f with early := some c, earlyFrom := some (f.earlyFrom.getD old) }
  (s.install c).dropGuides.modTb fun t => { t with timeBase := now }

/-- R112: the oldest commit, once accepted, is armed; R430: before the first trigger it comes into force. -/
def State.armOnce (s : State) : State :=
  match s.fu.commits with
  | c :: rest =>
    if c.stage = .pending then
      if s.tb.raisedRdy then
        let now := s.now
        s.modFu fun f => { f with commits := { c with stage := .armed now } :: rest }
      else (s.modFu fun f => { f with commits := rest }).applyEarly c
    else s
  | [] => s

def State.arm (s : State) : State := (List.range 4).foldl (fun s _ => s.armOnce) s

/-! ### Boundary lines (R113 to R119) -/

/-- R114: the commit changes FIELDS or REAM_K. -/
def State.atReamOnly (s : State) (u : Furnish) : Bool :=
  u.get R.hbxCtrlFields != s.cur R.hbxCtrlFields || u.get R.tbsCtrlReamK != s.cur R.tbsCtrlReamK

/-- The oldest commit. -/
def State.onCommit (g : Commit → Commit) (s : State) : State :=
  s.modFu fun f => { f with commits := match f.commits with | c :: r => g c :: r | [] => [] }

/-- May a trigger at `pos`, a ream boundary or not, be the boundary line of the armed commit `c`? -/
def State.judge (c : Commit) (pos : WC) (ream : Bool) (s : State) : State :=
  let ok := match c.kind with
    | .nextLine => true
    | .nextReam => ream
    | .webCount => !WC.behind pos c.x
  let late := ok && c.first && c.kind == .webCount
  let c := { c with first := false, detail := if late then 1 else c.detail }
  s.onCommit fun _ =>
    if !(ok || c.reached) then c
    else if s.atReamOnly c.furnish && !ream then { c with reached := true }
    else if 7 ≤ s.fu.retained.length then { c with stage := .held }
    else { c with stage := .distributing }

/-- At a trigger, what the next one may bring: it lies at `pos` (web modes), a ream boundary or not (R113, R115,
R118). The next position of the series is judged even if it is skipped later (R44, R364): the boundary line is then the
one after it (DESIGN CHOICE, assumption 90). -/
def State.distribute (pos : WC) (ream : Bool) (s : State) : State :=
  match s.fu.commits with
  | c :: _ =>
    match c.stage with
    | .armed since =>
      if s.now ≤ since ∨ (c.kind = .webCount ∧ ¬ s.fu.inForce.webMode ∧ ¬ c.reached) then s else s.judge c pos ream
    | .held =>
      if 7 ≤ s.fu.retained.length then s
      else if s.atReamOnly c.furnish ∧ ¬ ream then
        s.onCommit fun c => { c with stage := .armed 0, kind := .nextReam, detail := 4 }
      else s.onCommit fun c => { c with stage := .distributing, detail := 4 }
    | _ => s
  | [] => s

/-- R113 in time and pin-engine mode: W at the tick of trigger n decides; trigger n − 1 fell after arming. Where W stands
still with X reached, the commit applies at that trigger, late (DESIGN CHOICE, assumption 90). -/
def State.judgeHere (ream : Bool) (s : State) : State :=
  match s.fu.commits with
  | c :: _ =>
    match c.stage with
    | .armed since =>
      if c.kind = .webCount ∧ ¬ s.fu.inForce.webMode ∧ s.tb.lastTrig.any (since < ·) then s.judge c s.wc ream else s
    | _ => s
  | [] => s

/-- R119: a resynchronisation step from `w0` to `w1` carries W across the X of an armed web-count commit. -/
def State.crossX (w0 w1 : WC) (s : State) : State :=
  let now := s.now
  s.onCommit fun c =>
    match c.stage with
    | .armed _ =>
      if c.kind = .webCount ∧ WC.ahead c.x w0 ∧ ¬ WC.ahead c.x w1 then
        { c with kind := .nextLine, detail := 3, stage := .armed now }
      else c
    | _ => c

/-- R114: a boundary line of area mode is a trigger that starts a frame. -/
def State.lineMayBound (s : State) : Bool := !s.fu.inForce.area || s.frameFree

/-- At trigger `n`, a distributed furnish comes into force (R115); the first trigger after READY is the boundary line
of a commit applied before it (R430). Such a commit changed MODE or DIR before any line was in the array: the registers
are not cleared at its boundary line, and DISCARD is not set (R64; DESIGN CHOICE, assumption 91). -/
def State.applyFurnish (n : Nat) (ream : Bool) (s : State) : State :=
  match s.fu.early, s.fu.earlyFrom with
  | some e, some old =>
    let s := (s.boundaryAt old n).modFu fun f => { f with early := none, earlyFrom := none }
    s.commitDone e 0 0 n 3
  | _, _ =>
    let s := s.judgeHere ream
    match s.fu.commits with
    | c :: rest =>
      if c.stage = .distributing ∧ s.lineMayBound then
        let old := s.fu.inForce
        let s := (s.modFu fun f => { f with commits := rest }).install c
        let s := (s.retire old).dropGuides.boundaryAt old n
        (s.commitDone c 0 c.detail n 3).arm
      else s
    | [] => s

/-- A retained furnish that nothing refers to any more is released (R118). -/
def State.releaseFurnish (s : State) : State :=
  match s.fu.retained.reverse.find? fun u => !s.furnishUsed u.id with
  | some u => s.modFu fun f => { f with retained := f.retained.erase u }
  | none => s

/-! ### Capture and cancel (R110, R117) -/

/-- The kind of a KIND field. -/
def kindOf (k : Nat) : BoundKind := match k with | 1 => .nextReam | 2 => .webCount | _ => .nextLine

/-- A register commit goes ahead of the packets' commits of the same core cycle (R283). -/
def Commit.place (c : Commit) : List Commit → List Commit
  | [] => [c]
  | o :: t =>
    let packet := match o.by' with | .packet _ => true | .register _ => false
    if packet && o.taken == c.taken && o.stage == .checking then c :: o :: t else o :: c.place t

/-- The staging copy is captured with an ID, a kind and X: in the core cycle of writes to it (`same`), as it stood before
them (R302). -/
def State.capture (same : Bool) (id : BitVec 16) (kind : Nat) (x : WC) (who : CommitBy) (s : State) : State :=
  let now := s.now
  let regs := if same then s.before.fu.staging else s.fu.staging
  s.modFu fun f =>
    let c : Commit := { furnish := { id := id, regs := regs }, kind := kindOf kind, x := x, by' := who, taken := now }
    { f with commits := match who with
        | .register _ => if same then c.place f.commits else f.commits ++ [c]
        | .packet _ => f.commits ++ [c] }

/-- A register request begins; RESULT follows it. -/
def State.newRequest (res : Nat) (s : State) : State :=
  s.modFu fun f => { f with reqNo := f.reqNo + 1, result := res, detail := 0 }

/-- A write of GLB_FURN_CMD.COMMIT. -/
def State.registerCommit (same : Bool) (s : State) : State :=
  let s := s.newRequest 1
  let x := BitVec.ofNat 48 (s.fget R.glbFurnWcLo + 2 ^ 32 * s.fget R.glbFurnWcHi)
  s.capture same (BitVec.ofNat 16 (s.fget R.glbFurnIdStageId)) (s.fget R.glbFurnCmdKind) x (.register s.fu.reqNo)

/-- The most recent commit is removed, unless its distribution has begun (R117): status and detail. -/
def State.cancelCommit (s : State) : (Nat × Nat) × State :=
  match s.fu.commits.getLast? with
  | none => ((3, 2), s)
  | some c =>
    if c.stage = .distributing then ((3, 1), s)
    else ((0, 0), (s.modFu fun f => { f with commits := f.commits.dropLast }).commitDone c 5 0 0 5)

/-- A write of GLB_FURN_CMD.CANCEL. -/
def State.registerCancel (s : State) : State :=
  let s := s.newRequest 0
  let (r, s) := s.cancelCommit
  (s.furnResult s.fu.reqNo (if r.1 = 0 then 5 else 0xA) r.2).raise R.glbFurnStatDone

/-- COMMIT_CHECK_DONE (R111): the oldest commit under check is refused or accepted. -/
def State.checkDone (s : State) : State :=
  match s.fu.commits.findIdx? (·.stage = .checking) with
  | none => s
  | some i =>
    match s.fu.commits[i]? with
    | none => s
    | some c =>
      match s.checkFurnish c.furnish (s.fu.commits.take i) with
      | some (st, det) =>
        let s := s.modFu fun f => { f with commits := f.commits.eraseIdx i }
        let s := (s.trace 0x09 st (BitVec.ofNat 32 (c.furnish.id.toNat + 65536 * det))).bump 0xDB 1
        (s.commitDone c st det 0 (if st = 4 then 8 else if st = 3 then 0xA else 9)).arm
      | none =>
        let s := s.modFu fun f =>
          { f with commits := f.commits.set i { c with stage := .pending }, accepted := true }
        let s := match c.by' with | .register n => s.furnResult n 2 0 | .packet _ => s
        s.arm

/-- R418: pending commits end, none applies. -/
def State.endCommits (s : State) : State :=
  let cs := s.fu.commits
  (s.modFu fun f => { f with commits := [] }).each cs fun c s => s.commitDone c 8 5 0 6

/-! ### The commands -/

/-- FURNISH_COMMIT (R283): the fast path presents a commit. -/
def execFurnishCommit (p : PktRef) (same : Bool) (s : State) : Answer :=
  .next (s.pelquel p 0x0101 false fun k s =>
    (((s.count R.cmdFastCnt 1).bump 0xD9 1).accept p).capture same (BitVec.ofNat 16 (k.par 0 2)) (k.par 2 1 % 4)
      (BitVec.ofNat 48 (k.par 4 6)) (.packet p))

/-- FURNISH_COMMIT_CANCEL (R283). -/
def execFurnishCommitCancel (p : PktRef) (s : State) : Answer :=
  .next (s.pelquel p 0x0101 true fun _ s =>
    let (r, s) := s.cancelCommit
    s.done p r.1 r.2 0)

end Sys2Proof.Machine
end

