-- ==== Sys2Proof/Machine/Reel.lean ====
section
/-! DEFINITION. The reel (R198 to R217): layout, recording with its write buffer and directory, write tags, cuts, and the
CXL.mem window. The save-all stands with the DMA channels. -/

namespace Sys2Proof.Machine

/-! ### Layout (R199, R200) -/

/-- Ring size in MiB. -/
def Reel.ringMib (r : Reel) : Nat := 16384 - 64 * r.saveUnits - 256 * r.memUnits

/-- Ring size in 32-byte words. -/
def Reel.ringWords (r : Reel) : Nat := 32768 * r.ringMib

/-- Window size in bytes. -/
def Reel.windowSize (r : Reel) : Nat := 268435456 * r.memUnits

/-- Some furnish held records the V stream of a product and field (R467). -/
def State.recordsStream (s : State) (p f : Nat) : Bool := (s.fu.inForce :: s.fu.retained).any (·.records p f)

def State.recordsAny (s : State) : Bool :=
  [0, 1, 2, 3].any fun p => [0, 1, 2, 3].any fun f => s.recordsStream p f

/-- Cuts queued or active: accepted, their record not handed over yet. -/
def Reel.live (r : Reel) : List Cut := r.cuts.filter (!·.recorded)

/-- R200: a condition that refuses a new layout. -/
def State.layoutBusy (s : State) : Bool :=
  s.recordsAny || !s.reel.live.isEmpty || s.reel.chunks != 0 || s.dma.chans.toList.any (!·.saved.isEmpty) ||
    s.link.hdmCommitted

/-- An HDM_COMMIT succeeds (R230): one way, the size of the window in force, not zero, not locked. -/
def State.hdmGood (ways size : Nat) (s : State) : Bool :=
  s.link.up && !s.link.d3 && s.link.cxl && !s.link.hdmLock && ways == 1 && size != 0 && size == s.reel.windowSize

/-- A commit of the HDM decoder that succeeds comes in this same core cycle: it is judged first (R231). -/
def State.hdmComes (s : State) : Bool :=
  s.pending.any fun | .hdmCommit ways _ size _ same => same && s.hdmGood ways size | _ => false

/-- The cut that a parameter block asks for, or the status and detail of its refusal. -/
def State.cutOf (p : Packet) (s : State) : Except (Nat × Nat) Cut :=
  let pf := p.par 2 1
  let c : Cut :=
    { id := BitVec.ofNat 16 (p.par 0 2), prod := pf % 4, field := pf / 4 % 4, dc := Fin.ofNat 16 (pf / 16),
      wait := p.par 3 1 % 2 == 1, wcFrom := BitVec.ofNat 48 (p.par 4 6), wcTo := BitVec.ofNat 48 (p.par 10 6),
      colFirst := p.par 16 2 % 16384, colLast := p.par 18 2 % 16384, by' := some p.ref }
  if !WC.ahead c.wcTo c.wcFrom then .error (2, 0x51)
  else if c.colLast < c.colFirst ∨ 16415 < c.colLast then .error (2, 0x52)
  else if s.chClass c.dc.val ≠ 4 then .error (2, 0x53)
  else if 8 ≤ s.reel.live.length then .error (3, 0)
  else .ok c

/-- A cut request that is queued comes in this same core cycle: RELAYOUT is judged after it (R217). -/
def State.cutComes (s : State) : Bool :=
  s.pending.any fun
    | .cut k true => (s.started k 0x0500 false).any fun p => match s.cutOf p with | .ok _ => true | .error _ => false
    | _ => false

/-- RELAYOUT (R200): the layout of REL_LAYOUT is applied, or refused as busy or for its size. -/
def State.relayout (s : State) : State :=
  let save := min 64 (s.fget R.relSaveSize)
  let mem := s.fget R.relMemSize
  if s.layoutBusy || s.hdmComes || s.cutComes then s.modReel fun r => { r with result := 2 }
  else if 16384 < 64 * save + 256 * mem + 1024 then s.modReel fun r => { r with result := 3 }
  else
    let s := s.modReel fun r =>
      { r with saveUnits := save, memUnits := mem, result := 1, layouts := r.layouts + 1, ring := [], wptr := 0, dir := [] }
    ({ s with window := [], poison := [] } : State).raise R.relEvtLayoutDone

/-! ### Recording (R201 to R205) -/

/-- The entry's words, watermark included, overlap `n` words from address `a` in a ring of `size` words. -/
def DirEntry.overlaps (e : DirEntry) (size a n : Nat) : Bool :=
  e.held && (decide ((a + size - e.addr) % size < e.words + 1) || decide ((e.addr + size - a) % size < n))

/-- The write position after `n` words, and the lap. -/
def Reel.advance (n : Nat) (r : Reel) : Reel :=
  let p := r.wptr + n
  if r.ringWords ≤ p then { r with wptr := p - r.ringWords, lap := r.lap + 1 } else { r with wptr := p }

/-- The codeword of a data word (R198). -/
def codeword (tag : BitVec 6) (w : BitVec 256) : Codeword := { data := w, check := Config.checkBits w, tag := tag }

/-- The 272 bits of a codeword (R198). -/
def Codeword.word (c : Codeword) : BitVec 272 := c.tag ++ c.check ++ c.data

/-- The channel of a reel word address: groups of four words alternate (R198). -/
def reelChannel (a : Nat) : Nat := a / 4 % 2

/-- One word is written with the lap in force (R206). -/
def Reel.write (w : BitVec 256) (r : Reel) : Reel :=
  ({ r with ring := mput r.wptr (codeword r.lap w) r.ring }).advance 1

/-- The 256-bit words of a unit's bytes. -/
def wordsOf (bs : List Byte) : List (BitVec 256) := (chunks 32 bs).map fun w => BitVec.ofNat 256 (ofLeBytes w)

/-- A new entry is made; the oldest goes when the directory is full (R203). -/
def State.enter (e : DirEntry) (s : State) : State :=
  let full := decide (1048576 ≤ s.reel.dir.length)
  (s.iff full (·.raise R.relEvtDirEvict)).modReel fun r => { r with dir := (if full then r.dir.drop 1 else r.dir) ++ [e] }

/-- R208: a web count lies in the span of a cut. -/
def Cut.spans (c : Cut) (w : WC) : Bool := !WC.behind w c.wcFrom && WC.ahead c.wcTo w

/-- R209: active cuts with WAIT take a new entry, or finish on an accepted line not behind WC_TO. -/
def Cut.offer (e : DirEntry) (c : Cut) : Cut :=
  if c.active && c.wait && !c.ended && !c.recorded && c.prod == e.prod && c.field == e.field then
    if c.spans e.wc then { c with todo := c.todo ++ [e] }
    else if e.held && !WC.behind e.wc c.wcTo then { c with ended := true } else c
  else c

/-- An update of every cut. -/
def State.onCuts (g : Cut → Cut) (s : State) : State := s.modReel fun r => { r with cuts := r.cuts.map g }

def State.offer (e : DirEntry) (s : State) : State := s.onCuts (·.offer e)

/-- REEL_RECORD (R201 to R204): a V line is offered; `bytes` are its payload words and its watermark. -/
def State.record (l : Line) (bytes : List Byte) (s : State) : State :=
  if s.flag R.relCtrlFreeze then s.count R.relFrozenCnt 1
  else
    let n := bytes.length / 32
    let e : DirEntry :=
      { seq := l.seq, wc := l.wc, prod := l.prod, field := l.field, word0 := l.word0, hbin := l.hbin, words := n - 1,
        pixels := l.pix.length / l.ncomp, ncomp := l.ncomp, held := false }
    if s.reelOff || decide (1048576 < s.reel.occ + bytes.length + 32768 * (4 * l.prod + l.field)) then
      let s := ((s.raise R.relEvtDrop).raise R.glbBudgetRelOver).count R.relDropCnt 1
      ((s.bump 0x8A 1).enter e).offer e
    else
      let a := s.reel.wptr
      let e := { e with held := true, addr := a, lap := s.reel.lap }
      let s := s.modReel fun r =>
        { r with occ := r.occ + bytes.length, dir := r.dir.filter fun o => !o.overlaps r.ringWords a n }
      let s := s.modReel fun r => (wordsOf bytes).foldl (fun r w => r.write w) r
      (((s.bump 0x88 1).bump 0x89 n).enter e).offer e

/-- REL_TAIL_WC and REL_HEAD_WC (R205). -/
def Reel.tailWc (r : Reel) : WC := match r.dir.find? (·.held) with | some e => e.wc | none => 0

def Reel.headWc (r : Reel) : WC := match r.dir.reverse.find? (·.held) with | some e => e.wc | none => 0

/-! ### Cuts (R207 to R212) -/

/-- The cut record (R210). -/
def Cut.record (c : Cut) : List Byte :=
  leBytes 2 c.id.toNat ++ leBytes 1 (c.prod + 4 * c.field) ++
    leBytes 1 (b2n c.trunc + 2 * b2n c.cancel + 4 * b2n c.strmEnd) ++ leBytes 4 c.entries ++ leBytes 4 c.present ++
    leBytes 6 c.first ++ leBytes 6 c.last ++ leBytes 6 c.wcFrom.toNat ++ [0, 0]

/-- A cut is over: nothing left to serve, and nothing more to wait for. -/
def Cut.finished (c : Cut) : Bool := !c.recorded && (c.cancel || (c.active && c.todo.isEmpty && (!c.wait || c.ended)))

/-- The stream of a cut begins with the place of its record (R210). -/
def State.placeCut (c : Cut) (s : State) : State := s.handClass 4 c.dc { kind := .cutPlace c.id }

/-- Cuts that are over hand their record to their channel, in order, which writes it at its place at the head of their
stream (R210); the turn stays with the cut it had come to. -/
def State.finishCuts (s : State) : State :=
  let go := s.reel.cuts.filter Cut.finished
  let s := s.modReel fun r =>
    { r with turn := (((r.cuts.filter (·.active)).take r.turn).filter (!·.finished)).length }
  let s := s.onCuts fun c => if c.finished then { c with recorded := true, active := false } else c
  s.each go fun c s =>
    (s.iff (!c.placed) (·.placeCut c)).handClass 4 c.dc { kind := .cutRecord c.id, seq := c.last, bytes := c.record }

/-- R209: cuts whose stream no furnish held records any more take no later line. -/
def State.endStreams (s : State) : State :=
  (s.onCuts fun c =>
    if c.active && c.wait && !c.ended && !s.recordsStream c.prod c.field then { c with ended := true, strmEnd := true }
    else c).finishCuts

/-- Insertion of an entry by its sequence. -/
def insertSeq (e : DirEntry) : List DirEntry → List DirEntry
  | [] => [e]
  | o :: t => if e.seq < o.seq then e :: o :: t else o :: insertSeq e t

/-- The entries that a cut finds as it becomes active: in the core cycle of what came since the last tick (`same`), a cut
with WAIT = 0 takes no line accepted in it (R217). -/
def State.cutFinds (s : State) (same : Bool) (c : Cut) : List DirEntry :=
  s.reel.dir.filter fun e =>
    e.prod == c.prod && e.field == c.field && (c.wait || !same || s.before.reel.dir.contains e)

/-- CUT_ACTIVATE (R209, R211): the first queued cut becomes active while fewer than four are. -/
def State.activateCut (same : Bool) (s : State) : State :=
  let live := s.reel.live
  if 4 ≤ (live.filter (·.active)).length then s
  else match live.find? (!·.active) with
    | none => s
    | some c =>
      let mine := s.reel.dir.filter fun e => e.prod == c.prod && e.field == c.field
      let trunc := match mine.find? (·.held) with
        | some e => WC.behind c.wcFrom e.wc
        | none => false
      let todo := ((s.cutFinds same c).filter fun e => c.spans e.wc).foldl (fun l e => insertSeq e l) []
      let c' := { c with active := true, placed := true,
                         trunc := trunc, todo := if s.reel.trained then todo else [],
                         ended := c.ended || !s.reel.trained }
      ((s.onCuts fun o => if o = c then c' else o).placeCut c).endStreams

/-- R208: first word and last word + 1 of a line's payload that a cut delivers, none if outside the deckle. -/
def cutWords (c : Cut) (e : DirEntry) : Option (Nat × Nat) :=
  let off := 24 * e.word0
  if c.colLast < off then none
  else
    let j0 := (c.colFirst - off) / e.hbin
    let j1 := min (e.pixels - 1) ((c.colLast - off) / e.hbin)
    if j1 < j0 then none else some (j0 * e.ncomp / 24, j1 * e.ncomp / 24 + 1)

/-- The codeword `i` of a recorded line, and whether its tag matches (R206). -/
def Reel.readWord (r : Reel) (e : DirEntry) (i : Nat) : BitVec 256 × Bool :=
  let a := (e.addr + i) % r.ringWords
  match mget a r.ring with
  | some w => (w.data, w.tag == (if a < e.addr then e.lap + 1 else e.lap))
  | none => (0, false)

/-- The entry word of a selected line (R210). -/
def cutEntry (e : DirEntry) (status first n : Nat) : List Byte :=
  leBytes 6 e.seq ++ leBytes 6 e.wc.toNat ++ leBytes 1 status ++ leBytes 1 (e.prod + 4 * e.field) ++ leBytes 2 (first % 1024)
    ++ leBytes 2 n ++ leBytes 2 e.word0 ++ leBytes 1 (e.hbin / 2) ++ List.replicate 11 0

/-- A cut's entry has been made: counts, and the next cut's turn. -/
def Cut.took (e : DirEntry) (status : Nat) (c : Cut) : Cut :=
  { c with todo := c.todo.drop 1, entries := c.entries + 1, present := c.present + b2n (status == 0),
           first := if c.entries = 0 then e.seq else c.first, last := e.seq }

/-- The line of an entry is read and delivered (R206, R210, R212): `stale` and `ue` name words, by their place among the
words delivered, that the read finds stale or uncorrectable; `ce` words were corrected. -/
def State.deliverCut (c : Cut) (e : DirEntry) (stale ue : List Nat) (ce : Nat) (s : State) : State :=
  let hand (st first n : Nat) (body : List Byte) (broke : Bool) (s : State) : State :=
    let s := (s.onCuts fun o => if o = c then o.took e st else o).bump 0x8B 1
    s.handClass 4 c.dc { kind := .cutEntry c.id, seq := e.seq, wc := e.wc, broke := broke,
                         bytes := cutEntry e st first n ++ body }
  if !e.held then hand 1 0 0 [] false s
  else match cutWords c e with
    | none => hand 4 0 0 [] false s
    | some (a, b) =>
      let idx := (List.range (b - a)).map (a + ·) ++ [e.words]
      let s := s.charge (32 * idx.length)
      let words := idx.mapIdx fun k i =>
        let (w, ok) := s.reel.readWord e i
        (if ue.contains k then 0 else w, ok && !stale.contains k, ue.contains k)
      let nStale := (words.filter (!·.2.1)).length
      let nUe := (words.filter (·.2.2)).length
      let s := s.iff (decide (0 < nStale)) fun s => ((s.raise R.relEvtStale).count R.relStaleCnt nStale).bump 0x8F nStale
      let s := s.iff (decide (0 < nUe)) fun s => (s.raise R.relEvtEccUe).count R.relUeCnt nUe
      let s := s.iff (decide (0 < ce)) fun s => ((s.raise R.relEvtEccCe).count R.relCeCnt ce).bump 0x8E ce
      let broke := match words.getLast? with | some (w, _) => bitOf w 136 | none => false
      hand (if 0 < nStale then 2 else if 0 < nUe then 3 else 0) a (b - a)
        (words.flatMap fun w => leBytes 32 w.1.toNat) broke s

/-- A channel waits for a replay read (R258). -/
def State.replayWaits (s : State) : Bool :=
  s.dma.chans.toList.any fun c => c.state == .replaying && c.staging.isEmpty && !c.saved.isEmpty

/-- The active cut whose turn it is and that has a line to serve; replay reads go before cut reads (R215). -/
def State.cutTurn (s : State) : Option Cut :=
  let act := s.reel.cuts.filter (·.active)
  if s.replayWaits then none
  else ((act.drop s.reel.turn) ++ act.take s.reel.turn).find? (!·.todo.isEmpty)

/-- CUT_LINE (R208, R211): one line of the cut whose turn it is; an entry removed meanwhile is not selected (R217). -/
def State.cutLine (stale ue : List Nat) (ce : Nat) (s : State) : State :=
  if s.reelOff && s.reel.trained then s
  else match s.cutTurn with
    | none => s
    | some c =>
      let act := s.reel.cuts.filter (·.active)
      let k := (act.findIdx? (· = c)).getD 0
      let s := s.modReel fun r => { r with turn := (k + 1) % act.length }
      let s := match c.todo with
        | [] => s
        | e :: rest =>
          if s.reel.dir.contains e then s.deliverCut c e stale ue ce
          else s.onCuts fun o => if o = c then { o with todo := rest } else o
      s.finishCuts

/-- CUT_CANCEL (R211, R284): whether a cut of that ID is queued or active; it stops. -/
def State.cancelCut (id : BitVec 16) (s : State) : Bool × State :=
  match s.reel.live.find? (·.id = id) with
  | none => (false, s)
  | some c =>
    (true, (s.onCuts fun o => if o = c then { o with cancel := true, todo := [] } else o).finishCuts)

/-- CUT_RECORD_WRITTEN (R211, R284): the packet of a cut completes once its record has been written; a record that was
dropped is returned data lost (R273). -/
def State.cutWritten (id : BitVec 16) (s : State) : State :=
  match s.reel.cuts.find? fun c => c.id = id && c.recorded &&
      (c.written || (s.dma.chans[c.dc]).lostCuts.contains id) with
  | none => s
  | some c =>
    let s := s.modReel fun r => { r with cuts := r.cuts.erase c }
    let s := s.iff (!c.written) (·.onCh c.dc fun h => { h with lostCuts := h.lostCuts.erase id })
    match c.by' with
    | none => s
    | some p =>
      if !c.written then s.done p 0x0B 1 c.entries
      else s.done p (if c.cancel then 5 else 0) 0 c.entries

/-! ### The window (R214, R230, R232) -/

/-- A byte of the window: as written, else undefined (R200, R214). -/
def State.windowByte (s : State) (a : Nat) : Byte := (mget a s.window).getD (Config.windowByte s.reel.layouts a)

/-- The window is reachable: decoder committed, CXL running, the DRAM trained (R219, R230, R434). -/
def State.windowThere (s : State) (line : Nat) : Bool :=
  s.link.hdmCommitted && s.link.up && s.link.cxl && !s.link.d3 && s.reel.trained &&
    decide (64 * line + 64 ≤ s.reel.windowSize)

/-- The window answers: reachable, with the memory clock off bypass (R364). -/
def State.windowOpen (s : State) (line : Nat) : Bool := s.windowThere line && s.clk.mem == .locked

/-- The codeword of a word of the window: tag 0b00_0000 (R198, R206). -/
def State.windowWord (s : State) (i : Nat) : Codeword :=
  codeword 0 (BitVec.ofNat 256 (ofLeBytes ((List.range 32).map fun k => s.windowByte (32 * i + k))))

/-- The line of the window that a host physical address maps onto (R230). -/
def State.windowLine (s : State) (addr : Nat) : Option Nat :=
  if s.link.hdmBase ≤ addr ∧ (addr - s.link.hdmBase) % 64 = 0 ∧ s.windowOpen ((addr - s.link.hdmBase) / 64) then
    some ((addr - s.link.hdmBase) / 64)
  else none

/-- An access to the window waits for the memory clock (R364). -/
def State.windowWait (addr : Nat) (w : WindowAccess) (s : State) : State :=
  let line := (addr - s.link.hdmBase) / 64
  s.iff (decide (s.link.hdmBase ≤ addr) && (addr - s.link.hdmBase) % 64 == 0 && s.windowThere line &&
    s.clk.mem != .locked) (·.modReel fun r => { r with waits := r.waits ++ [w] })

/-- WINDOW_READ of the 64-byte line at a host address: two codewords, of which `ce` were corrected. -/
def State.readWindow (addr ce : Nat) (ue : Bool) (s : State) : State :=
  match s.windowLine addr with
  | none => s.windowWait addr (.read addr ce ue)
  | some line =>
    let data : BitVec 512 := (s.windowWord (2 * line + 1)).data ++ (s.windowWord (2 * line)).data
    let n := min 2 ce
    let s := s.iff (decide (0 < n)) fun s => ((s.raise R.relEvtEccCe).count R.relCeCnt n).bump 0x8E n
    let poison := ue || s.poison.contains line
    (s.iff poison (·.raise R.glbLinkEvtPoisonRd)).emit
      (.windowData line data (poison || s.link.viralIn || s.link.viralOut))

/-- The bytes of a line are stored. -/
def storeLine (a : Nat) (bs : List Byte) (m : List Host.Cell) : List Host.Cell :=
  (bs.zipIdx).foldl (fun m (b, i) => mput (a + i) b m) m

/-- WINDOW_WRITE of the 64-byte line at a host address. -/
def State.writeWindow (addr : Nat) (data : BitVec 512) (poison : Bool) (s : State) : State :=
  match s.windowLine addr with
  | none => s.windowWait addr (.write addr data poison)
  | some line =>
    if s.link.viralIn || s.link.viralOut then s
    else { s with window := storeLine (64 * line) (leBytes 64 data.toNat) s.window,
                  poison := (s.poison.filter (· != line)) ++ (if poison then [line] else []) }

/-- The memory clock is back: the accesses that wait are served in order (R364). -/
def State.serveWindow (s : State) : State :=
  let waits := s.reel.waits
  s.modReel (fun r => { r with waits := [] }) |>.each waits fun w s =>
    match w with
    | .read addr ce ue => s.readWindow addr ce ue
    | .write addr data poison => s.writeWindow addr data poison

/-! ### The commands -/

/-- FURNISH_RELEASE (R118): guide copies and cuts follow (R143, R209). -/
def execFurnishRelease (s : State) : Answer := .next s.releaseFurnish.dropGuides.endStreams

/-- COMMIT_CHECK_DONE (R111): a commit in force at once may end the stream of a cut (R209). -/
def execCommitCheckDone (s : State) : Answer := .next s.checkDone.endStreams

/-- CUT_ACTIVATE (R211). -/
def execCutActivate (same : Bool) (s : State) : Answer := .next (s.activateCut same)

/-- CUT_LINE (R208, R210). -/
def execCutLine (stale ue : List Nat) (ce : Nat) (s : State) : Answer := .next (s.cutLine stale ue ce)

/-- CUT_RECORD_WRITTEN (R211). -/
def execCutRecordWritten (cutId : BitVec 16) (s : State) : Answer := .next (s.cutWritten cutId)

/-- WINDOW_READ (R214, R232). -/
def execWindowRead (addr ce : Nat) (ue : Bool) (s : State) : Answer := .next (s.readWindow addr ce ue)

/-- WINDOW_WRITE (R214, R232). -/
def execWindowWrite (addr : Nat) (data : BitVec 512) (poison : Bool) (s : State) : Answer :=
  .next (s.writeWindow addr data poison)

end Sys2Proof.Machine
end

