-- ==== Sys2Proof/Machine/Link.lean ====
section
/-! DEFINITION. The CXL link (R218 to R244): coming up, retraining, going down, the resets that come over it, power
states, viral, the HDM decoder, CXL.cache, the configuration-space enables, MSI-X, and the PHY test. -/

namespace Sys2Proof.Machine

/-! ### What a link reset restores (R236, R264, R287) -/

/-- The ring registers of a channel at their reset values; CLASS and SAVE_MAX are kept where asked (R264). -/
def State.resetChRegs (ch : Fin 16) (keep : Bool) (s : State) : State :=
  let n := ch.val
  let ctrl := 0x090000 + 512 * n
  let old := s.reg ctrl
  let w := if keep then setBits (setBits (resetWord ctrl) 4 3 (bits old 4 3)) 16 15 (bits old 16 15) else resetWord ctrl
  (s.setReg ctrl w).each [0x04, 0x08, 0x0C, 0x10, 0x14] fun i s => s.setReg (ctrl + i) (resetWord (ctrl + i))

/-- CHANNEL_HELD (R264): every channel that is enabled and not in error is held, with its ring registers reset. -/
def State.holdAll (s : State) : State :=
  s.each (List.finRange 16) fun ch s => s.iff (s.ch ch).enabled fun s => (s.holdCh ch).resetChRegs ch true

/-- A channel that was not running takes all its host-facing registers back to reset, those of its rings among them. -/
def State.resetIdle (s : State) : State :=
  s.each (List.finRange 16) fun ch s =>
    s.iff (!(s.ch ch).enabled) fun s =>
      (s.onCh ch fun c =>
        { c with state := .disabled, dHead := 0, dTail := 0, cHead := 0, cTail := 0, phase := true }).resetChRegs ch false

/-- The registers of the DMA region that are no ring registers (R236, R426): the events, the last fault and notice of each
channel, the shared registers. The counters that only a cold reset clears stay (R265). -/
def State.resetDmaRegs (s : State) : State :=
  let s := s.each (List.finRange 16) fun ch s =>
    (s.each [0x24, 0x40, 0x44] fun i s => s.setReg (0x090000 + 512 * ch.val + i) 0).onCh ch fun c =>
      { c with nseq := 0, lastNseq := 0 }
  s.each [0x092000, 0x092008, 0x09200C, 0x092010] fun o s => s.setReg o (resetWord o)

/-- Every queue is disabled and its registers reset; the completions discarded with it are counted (R287). -/
def State.resetQueues (s : State) : State :=
  s.each (List.finRange 8) fun q s =>
    let off := 0x0A0000 + 64 * q.val
    let s := s.each [0x00, 0x04, 0x08, 0x0C, 0x10, 0x14, 0x24] fun i s => s.setReg (off + i) (resetWord (off + i))
    (s.iff (s.queue q).enabled (·.stopQueue q)).onQueue q fun _ => {}

/-- The link state after a link reset; `keep` for a Function Level Reset, which keeps the HDM decoder, CXL.cache (R239)
and viral (R241). -/
def Link.afterReset (keep : Bool) (l : Link) : Link :=
  { l with
    ats := false, pri := false, pasid := false, priOff := false, cfg := {}, table := vrep 64 {},
    mask := BitVec.allOnes 64, pend := 0, d3 := false, l1 := false,
    hdmBase := if keep then l.hdmBase else 0, hdmSize := if keep then l.hdmSize else 0,
    hdmCommitted := keep && l.hdmCommitted, hdmLock := keep && l.hdmLock, hdmError := keep && l.hdmError,
    waiting := if keep then l.waiting else [], snoops := if keep then l.snoops else [],
    viralIn := keep && l.viralIn, viralOut := keep && l.viralOut }

/-- What a link reset restores (R236). A Function Level Reset keeps the window, and with it the accesses that wait for it
(R239). -/
def State.linkReset (keep : Bool) (s : State) : State :=
  let s := s.resetQueues.resetDmaRegs.holdAll.resetIdle
  let s := s.modDma fun d => { d with atc := [], pageReq := [], priQ := [], invs := [], priFail := false }
  (s.iff (!keep) (·.modReel fun r => { r with waits := [] })).modLink (·.afterReset keep)

/-! ### GLB_LINK_STAT (R243) -/

/-- R221: below x8 at 32.0 GT/s. -/
def Link.degraded (l : Link) : Bool := l.up && (l.width != 8 || l.rate != 5)

/-- GLB_LINK_STAT [18:0]. -/
def Link.stat (l : Link) : Nat :=
  b2n l.up + 2 * b2n l.cxl + 4 * l.width + 64 * l.rate + 512 * b2n l.reversed + 1024 * l.polInv.toNat
    + 2 ^ 18 * b2n l.degraded

/-- R238: WAKE_N is driven low. An alarm is pending while GLB_ATTN.ALARM is 1; once low, only L0 or a clear of WAKE_EN
releases it (`Link.wake`). -/
def State.wakeLow (s : State) : Bool :=
  !s.link.up && s.flag R.glbLinkCtrlWakeEn && (s.flag R.glbAttnAlarm || s.link.wake)

/-! ### The configuration space (R226, R228) -/

/-- Range 1 of the CXL Device DVSEC: its size, and whether its memory info is valid (R228, R434). -/
def State.range1 (s : State) : Nat × Bool := (s.reel.windowSize, s.reel.trained)

/-- The Device Serial Number (R218). -/
def State.serialNumber (_ : State) : BitVec 64 := Config.serial

/-- The PHY refreshes its mirror (R298): it is enabled and has its clock. -/
def Link.refreshes (l : Link) : Bool := l.phyOn && !l.noRef

/-- The PHY's mirror block (R243), by offset. -/
def State.linkMirror (s : State) : List (Nat × Word) :=
  (0x000400, BitVec.ofNat 32 s.link.stat) :: (0x000440, s.link.prbsLock.zeroExtend 32) ::
    (0x00040C :: (List.range 8).map fun l => 0x000420 + 4 * l).map fun o => (o, s.reg o)

/-- The PHY is about to lose its enable or its clock: AGE counts from now on, and its mirror keeps its last copy (R298,
R299). -/
def State.phyDark (s : State) : State :=
  let now := s.now
  let copy := s.linkMirror
  s.iff s.link.refreshes (·.modLink fun l => { l with darkAt := now, copy := copy })

/-! ### Up, down, retraining -/

/-- The trace record of a change of the link (R443). -/
def State.traceLink (arg : Nat) (s : State) : State := s.trace 0x15 arg (BitVec.ofNat 32 s.link.stat)

/-- LINK_DEGRADE (R221). -/
def State.degrade (s : State) : State := s.raiseAlarm R.glbLinkEvtDegrade

/-- The lanes used at a width (R220). -/
def lanesOf (width : Nat) (reversed : Bool) : List Nat := (List.range width).map fun i => if reversed then 7 - i else i

/-- The widest width whose lanes all work; 0 where not even x1 does (R220). -/
def trainWidth (working : BitVec 8) (reversed : Bool) : Nat :=
  ([8, 4, 2, 1].find? fun w => (lanesOf w reversed).all (bitOf working)).getD 0

/-- LINK_UP (R219, R220, R221): the PHY runs, PERST_N and HOLD are released, and at least lane 0, or 7 reversed, works.
A lane that works and was found inverted in Polling is inverted back and reported. -/
def State.linkUp (cxl : Bool) (working : BitVec 8) (rate : Nat) (reversed : Bool) (inverted : BitVec 8) (s : State) :
    State :=
  let width := trainWidth working reversed
  if s.link.up || !s.link.refreshes || s.link.perstLow || s.flag R.glbLinkCtrlHold || width == 0 then s
  else
    let s := s.modLink fun l =>
      { l with up := true, cxl := cxl && decide (2 ≤ rate), width := width, rate := rate + 1,
               reversed := reversed, polInv := inverted &&& working, l1 := false, wake := false }
    let s := (s.modTnd fun t => { t with lostAt := none }).traceLink 1
    s.iff s.link.degraded State.degrade

/-- R219, R233: a link that has lost CXL writes the notices that wait for a grant as posted writes. -/
def State.postWaiting (s : State) : State :=
  let late := s.link.waiting
  let s := s.modLink fun l => { l with waiting := [], snoops := [] }
  (s.each late fun (ch, pa, bytes, irq) s =>
    (s.writeOut (s.ch ch).pasid? pa bytes).iff irq (·.msix (16 + ch.val))).issuedNotices late.length

/-- LINK_RETRAIN (R221): directed by the host. -/
def State.retrainLink (lanes rate : Nat) (s : State) : State :=
  if !s.link.up then s
  else
    let old := s.link
    let s := s.modLink fun l =>
      { l with width := 2 ^ lanes, rate := rate + 1, cxl := l.cxl && decide (2 ≤ rate), l1 := false }
    let s := s.iff (!s.link.cxl) State.postWaiting
    (s.raise R.glbLinkEvtRetrain).iff (old.width != s.link.width || old.rate != s.link.rate) State.degrade

/-- DL_DOWN (R237, R387), with the link reset it brings (R236). -/
def State.linkDown (s : State) : State :=
  if !s.link.up then s
  else
    let s := s.modLink fun l =>
      { l with up := false, cxl := false, width := 0, rate := 0, reversed := false, polInv := 0, l1 := false }
    let s := ((s.count R.glbLinkDownCnt 1).raiseAlarm R.glbLinkEvtDown).traceLink 0
    let seq := s.tb.nextSeq - 1
    let head := s.reel.headWc
    let data := leBytes 6 head.toNat ++ leBytes 4 seq
    let s := if s.tnd.up then s.logOwn 0x0050 data else s.modTnd fun t => { t with downs := t.downs ++ [data] }
    let now := s.now
    (s.modTnd fun t => { t with lostAt := some now }).linkReset false

/-! ### GLB_LINK_CTRL (R224, R243, R244) -/

/-- What the transmit lanes send (R224): with HOLD and a TEST_MODE, PRBS7, 15 or 31 at TEST_RATE, of which 0b000, 0b110
and 0b111 are taken as 0b101 (R243). -/
def State.prbsSent (s : State) : Option (Nat × Nat) :=
  let mode := s.fget R.glbLinkCtrlTestMode
  let rate := s.fget R.glbLinkCtrlTestRate
  if s.flag R.glbLinkCtrlHold ∧ mode ≠ 0 ∧ s.link.phyOn then
    some (if mode = 1 then 7 else if mode = 2 then 15 else 31, if rate = 0 ∨ 5 < rate then 5 else rate)
  else none

/-- A write of GLB_LINK_CTRL: HOLD brings the link down; a change of TEST_MODE clears the error counters; no checker
holds lock without HOLD and TEST_MODE; the generators start, change or cease; a cleared WAKE_EN releases WAKE_N. -/
def State.writeLinkCtrl (v : Word) (s : State) : State :=
  let mode := s.fget R.glbLinkCtrlTestMode
  let sent := s.prbsSent
  let s := s.setReg 0x000404 (v &&& 0x7F)
  let s := s.iff (s.prbsSent != sent) fun s => s.emit (.prbs s.prbsSent)
  let s := s.iff (!s.flag R.glbLinkCtrlWakeEn) (·.modLink fun l => { l with wake := false })
  let s := s.iff (s.fget R.glbLinkCtrlTestMode != mode) fun s =>
    (s.each (List.range 8) fun l s => s.fset (R.glbLinkPrbsErr l) 0).modLink fun l => { l with prbsLock := 0 }
  let s := s.iff (!s.flag R.glbLinkCtrlHold || s.fget R.glbLinkCtrlTestMode == 0) (·.modLink fun l =>
    { l with prbsLock := 0 })
  s.iff (s.flag R.glbLinkCtrlHold) (·.linkDown)

/-- LINK_PRBS_TEST (R224): the test runs with HOLD set; the checkers' lock and the errors they count are measured. -/
def State.linkPrbs (mode rate : Nat) (lock : BitVec 8) (errs : List Nat) (s : State) : State :=
  let s := s.writeLinkCtrl (setBits (setBits (s.reg 0x000404) 2 2 mode) 4 3 rate)
  if !s.flag R.glbLinkCtrlHold || mode == 0 then s
  else
    let s := s.modLink fun l => { l with prbsLock := lock }
    s.each (List.range 8) fun l s => s.iff (bitOf lock l) (·.countSat (R.glbLinkPrbsErr l) (errs[l]?.getD 0))

/-! ### Power states, viral, the decoder, CXL.cache -/

/-- D3HOT_ENTRY (R240). -/
def State.enterD3 (s : State) : State :=
  if !s.link.up || s.link.d3 then s else s.holdAll.modLink fun l => { l with d3 := true, l1 := false }

/-- Pending vectors that are not masked are sent once they can be (R242). -/
def State.sendPending (s : State) : State :=
  s.each (List.range 64) fun v s =>
    s.iff (bitOf s.link.pend v && s.link.up && !s.link.d3 && !bitOf s.link.mask v) fun s =>
      (s.modLink fun l => { l with pend := l.pend &&& ~~~((1 : BitVec 64) <<< v) }).emit (.msix v (s.link.entry v))

/-- D0_RETURN (R240). -/
def State.returnD0 (s : State) : State :=
  if s.link.d3 then (s.modLink fun l => { l with d3 := false }).sendPending else s

/-- A channel has nothing to ask of the link, and no request of it is outstanding (R240). -/
def Channel.quiet (c : Channel) : Bool :=
  c.asks.isEmpty && match c.state with
    | .held | .error => true
    | .disabled => c.notices.isEmpty
    | _ => c.staging.isEmpty && c.saved.isEmpty && c.notices.isEmpty && (c.buf.isSome || c.dEmpty)

/-- L1_ENTRY (R240): every channel and ring idle, no request outstanding. -/
def State.enterL1 (s : State) : State :=
  let idle := s.dma.chans.toList.all (·.quiet) && s.dma.pageReq.isEmpty && s.dma.invs.isEmpty && s.link.waiting.isEmpty &&
    s.cmd.packets.all (·.ref.tw) && s.cmd.queues.toList.all fun q => !q.enabled || q.sqEmpty
  s.iff (s.link.up && !s.link.d3 && idle) (·.modLink fun l => { l with l1 := true })

/-- VIRAL_IN (R241): the host indicates viral. -/
def State.viralFromHost (s : State) : State :=
  if s.link.up then (s.modLink fun l => { l with viralIn := true }).raise R.glbLinkEvtViralIn |>.holdAll else s

/-- VIRAL_OUT (R241): the device enters viral. -/
def State.viralOwn (s : State) : State :=
  ((s.modLink fun l => { l with viralOut := true }).raise R.glbLinkEvtViralOut).holdAll

/-- HDM_COMMIT (R230, R231): one way, the size of the window in force, not zero, not locked. -/
def State.commitHdm (ways base size : Nat) (lock : Bool) (s : State) : State :=
  if !s.link.up || s.link.d3 || !s.link.cxl || s.link.hdmLock then s
  else
    let good := s.hdmGood ways size
    s.modLink fun l =>
      { l with hdmBase := base, hdmSize := size, hdmCommitted := good, hdmError := !good, hdmLock := good && lock }

/-- A line is held: its notice is the oldest that waits and its grant has come in this same core cycle, so that a
CXL_CACHE_GRANT of it is among the commands that wait (R233, assumption 81). -/
def State.holdsLine (s : State) (addr : Nat) : Bool :=
  s.hostUp && s.link.cxl && (s.link.waiting.head?.any (·.2.1 == addr)) && s.pending.any (· == .cxlCacheGrant true)

/-- CACHE_SNOOP (R233): a line held between its grant and its write is answered after the write, any other at once. -/
def State.snoop (addr : Nat) (s : State) : State :=
  if s.holdsLine addr then s.modLink fun l => { l with snoops := l.snoops ++ [addr] }
  else s.iff (s.link.up && s.link.cxl) (·.emit (.snoopAnswer addr))

/-- CXL_CACHE_GRANT (R233): the oldest coherent notice is written; its vector and the snoops it delayed follow. -/
def State.cacheGrant (s : State) : State :=
  match s.link.waiting with
  | [] => s
  | (ch, pa, bytes, irq) :: rest =>
    if !s.hostUp || !s.link.cxl then s
    else
      let late := s.link.snoops.filter (· == pa)
      let s := s.modLink fun l => { l with waiting := rest, snoops := l.snoops.filter (· != pa) }
      let s := ((s.emit (.cacheWrite pa bytes)).bump 0xB7 1).iff irq (·.msix (16 + ch.val))
      (s.each late fun a s => s.emit (.snoopAnswer a)).issuedNotices 1

/-- No page request is raised without ATS (R235): channels that wait for a slot go on untranslated. -/
def State.dropPri (s : State) : State :=
  let q := s.dma.priQ
  (s.modDma fun d => { d with priQ := [] }).each q fun ch s =>
    (s.unpark ch fun c => { c with priWait := false }).settle ch

/-- The enables (R235, R254): PRI cleared and set again lifts PRI_FAIL. -/
def State.setEnables (ats pri pasid : Bool) (s : State) : State :=
  let lift := pri && s.link.priOff
  let s := s.modLink fun l => { l with ats := ats, pri := pri, pasid := pasid, priOff := !pri }
  (s.iff lift (·.modDma fun d => { d with priFail := false })).iff (!ats) (·.dropPri)

/-- A change of the configuration space. -/
def State.modCfg (f : ConfigSpace → ConfigSpace) (s : State) : State := s.modLink fun l => { l with cfg := f l.cfg }

/-- CONFIG_SPACE_WRITE (R218, R226, R227, R235, R254): a BAR's base keeps no bit below its size. -/
def State.configWrite (w : ConfigWrite) (s : State) : State :=
  if !s.link.up then s
  else match w with
    | .enables ats pri pasid => s.setEnables ats pri pasid
    | .bar i base => s.modCfg fun c =>
      { c with bars := vupd c.bars i fun b => { b with base := base % 2 ^ 64 / b.size * b.size } }
    | .readRequest log => s.modCfg fun c => { c with readRequest := 128 * 2 ^ log.val }
    | .clearUnsupported => s.modCfg fun c => { c with unsupported := false }

/-- MSIX_VECTOR_UNMASK (R242). -/
def State.unmask (v : Nat) (s : State) : State :=
  if s.link.up && !s.link.d3 then (s.modLink fun l => { l with mask := l.mask &&& ~~~((1 : BitVec 64) <<< v) }).sendPending else s

/-- A 32-bit write to the MSI-X table at a BAR2 offset, entries of 16 bytes: address, data, vector control with the mask
bit (R226, R242). -/
def State.writeTable (off : Nat) (v : Word) (s : State) : State :=
    let i : Fin 64 := Fin.ofNat 64 ((off - 0x10000) / 16)
    let on (f : MsixEntry → MsixEntry) : State := s.modLink fun l => { l with table := vupd l.table i f }
    match off % 16 with
    | 0 => on fun e => { e with addr := (e.addr >>> 32) <<< 32 ||| (v &&& ~~~3).zeroExtend 64 }
    | 4 => on fun e => { e with addr := v.zeroExtend 64 <<< 32 ||| (e.addr &&& 0xFFFFFFFF) }
    | 8 => on fun e => { e with data := v }
    | _ =>
      if bitOf v 0 then s.modLink fun l => { l with mask := l.mask ||| ((1 : BitVec 64) <<< i.val) }
      else s.unmask i.val

/-- A 32-bit write at a BAR2 offset (R226): the doorbells of the queues and of the channels, the MSI-X table. Whatever lies
between takes no write. -/
def State.write2 (off : Nat) (v : Word) (s : State) : State :=
  let idx : BitVec 13 := v.truncate 13
  if off < 0x100 then
    let q := Fin.ofNat 8 (off / 32)
    if off % 32 = 0 then s.sqDoorbell q idx else if off % 32 = 4 then s.cqDoorbell q idx else s
  else if 0x8000 ≤ off ∧ off < 0x8200 then
    let ch := Fin.ofNat 16 ((off - 0x8000) / 32)
    if off % 32 = 0 then s.ringTail ch idx else if off % 32 = 4 then s.ringHead ch idx else s
  else if 0x10000 ≤ off ∧ off < 0x10400 then s.writeTable off v
  else s

/-- A 32-bit read at a BAR2 offset (R226): the MSI-X table and its pending bits; the doorbells and what is unused read 0. -/
def State.read2 (s : State) (off : Nat) : Word :=
  if 0x10000 ≤ off ∧ off < 0x10400 then
    let i := (off - 0x10000) / 16
    let e := s.link.entry i
    match off % 16 with
    | 0 => e.addr.truncate 32
    | 4 => (e.addr >>> 32).truncate 32
    | 8 => e.data
    | _ => if bitOf s.link.mask i then 1 else 0
  else if off = 0x18000 then s.link.pend.truncate 32
  else if off = 0x18004 then (s.link.pend >>> 32).truncate 32
  else 0

/-! ### The commands -/

/-- LINK_UP (R220). -/
def execLinkUp (cxl : Bool) (working : BitVec 8) (rate : Fin 5) (reversed : Bool) (inverted : BitVec 8) (s : State) :
    Answer :=
  .next (s.linkUp cxl working rate.val reversed inverted)

/-- LINK_RETRAIN (R221). -/
def execLinkRetrain (lanes : Fin 4) (rate : Fin 5) (s : State) : Answer := .next (s.retrainLink lanes.val rate.val)

/-- DL_DOWN (R237). -/
def execDlDown (s : State) : Answer := .next s.linkDown

/-- LINK_RESET (R236). -/
def execLinkReset (s : State) : Answer := .next (s.linkReset false)

/-- FLR (R239). -/
def execFlr (s : State) : Answer := .next (s.iff s.link.up (·.linkReset true))

/-- D3HOT_ENTRY (R240). -/
def execD3hotEntry (s : State) : Answer := .next s.enterD3

/-- D0_RETURN (R240). -/
def execD0Return (s : State) : Answer := .next s.returnD0

/-- L1_ENTRY (R240). -/
def execL1Entry (s : State) : Answer := .next s.enterL1

/-- VIRAL_IN (R241). -/
def execViralIn (s : State) : Answer := .next s.viralFromHost

/-- VIRAL_OUT (R241). -/
def execViralOut (s : State) : Answer := .next s.viralOwn

/-- HDM_COMMIT (R230). -/
def execHdmCommit (ways base size : Nat) (lock _same : Bool) (s : State) : Answer := .next (s.commitHdm ways base size lock)

/-- CACHE_SNOOP (R233). -/
def execCacheSnoop (addr : Nat) (s : State) : Answer := .next (s.snoop addr)

/-- CONFIG_SPACE_WRITE (R235). -/
def execConfigSpaceWrite (write : ConfigWrite) (s : State) : Answer := .next (s.configWrite write)

/-- MSIX_VECTOR_UNMASK (R242). -/
def execMsixVectorUnmask (v : Fin 64) (s : State) : Answer := .next (s.unmask v.val)

/-- CXL_CACHE_GRANT (R233). -/
def execCxlCacheGrant (_same : Bool) (s : State) : Answer := .next s.cacheGrant

end Sys2Proof.Machine
end

