-- ==== Sys2Proof/Machine/Clock.lean ====
section
/-! DEFINITION. The clocks (R356 to R370): loss of a reference or of lock, bypass, relocking, the tick offset, and what a
change of CLK_REF_MODE or CLK_TARGET brings about. -/

namespace Sys2Proof.Machine

/-- The device reference is present (R357, R358). -/
def State.refPresent (s : State) : Bool := if s.flag R.clkRefModeSel then s.clk.refOk else s.clk.xtalOk

def State.mdll (s : State) (m : Mdll) : MdllState :=
  match m with
  | .core => s.clk.core
  | .memory => s.clk.mem
  | .slice i => s.clk.slices[i]

def State.setMdll (m : Mdll) (st : MdllState) (s : State) : State :=
  s.modClk fun c =>
    match m with
    | .core => { c with core := st }
    | .memory => { c with mem := st }
    | .slice i => { c with slices := vupd c.slices i fun _ => st }

/-- The CLK_EVT bit of an MDLL's bypass (R369). -/
def bypassEvent : Mdll → Fld
  | .core => R.clkEvtCoreByp
  | .memory => R.clkEvtMemByp
  | .slice _ => R.clkEvtSliceByp

/-- An MDLL takes a state off lock (R359, R360, R364): each transition onto bypass is an event with an alarm, and fails the
two slices of a slice MDLL. -/
def State.unlock (m : Mdll) (st : MdllState) (s : State) : State :=
  let was := s.mdll m
  let s := s.setMdll m st
  let s := s.iff (was == .locked) fun s => (s.raiseAlarm (bypassEvent m)).bump 0xE5 1
  match m with
  | .slice i => (s.failSlice (Fin.ofNat 38 (2 * i.val)) 2).failSlice (Fin.ofNat 38 (2 * i.val + 1)) 2
  | _ => s

/-- The 21 MDLLs. -/
def allMdlls : List Mdll := [.core, .memory] ++ (List.finRange 19).map .slice

/-- The device reference is lost: every MDLL goes to the crystal (R359). -/
def State.loseRef (s : State) : State :=
  let s := (s.modClk fun c => { c with counting := false }).raiseAlarm R.clkEvtRefLost
  s.each allMdlls fun m s => s.unlock m .bypassRef

/-- The latest measurement of REFCLK lies within ±300 ppm (R358), in 1/16 ppm. -/
def Clocks.inRange (c : Clocks) : Bool := decide (-4800 ≤ c.ppm) && decide (c.ppm ≤ 4800)

/-- REFCLK has ceased to deliver edges (R358, R359): the CXL loop without it loses the link (R364). -/
def State.refclkStops (s : State) : State :=
  let was := s.clk.refOk
  let s := (s.phyDark.modLink fun l => { l with noRef := true }).linkDown
  let s := s.modClk fun c => { c with noEdges := true, refOk := false }
  s.iff (was && s.flag R.clkRefModeSel) (·.loseRef)

/-- A lost device reference is back: stable cycles are counted (R361). -/
def State.refBack (s : State) : State :=
  let lost := allMdlls.any fun m => s.mdll m == .bypassRef
  if lost ∧ ¬ s.clk.counting then (s.modClk fun c => { c with counting := true }).raiseAlarm R.clkEvtRefBack else s

/-- REFERENCE_RETURN (R361): REFCLK counts as present while its latest measurement lies in range (R358). -/
def State.referenceReturns (refclk : Bool) (s : State) : State :=
  let sel := s.flag R.clkRefModeSel
  if refclk then
    let s := s.modClk fun c => { c with noEdges := false, refOk := c.inRange }
    let s := s.modLink fun l => { l with noRef := false }
    s.iff (sel && s.clk.refOk) (·.refBack)
  else (s.modClk fun c => { c with xtalOk := true }).iff (!sel) (·.refBack)

/-- MDLL_LOCK_LOSS (R359): while the reference is present. -/
def State.lockLost (m : Mdll) (s : State) : State :=
  if s.mdll m = .locked ∧ s.refPresent then s.unlock m .bypassLock else s

/-- STABLE_COUNT_DONE (R361): relocking begins. -/
def State.stableDone (m : Mdll) (s : State) : State :=
  if s.mdll m = .bypassRef ∧ s.clk.counting ∧ s.refPresent then s.setMdll m .relocking else s

/-- The offset D_t of R363, within half a reference period, in 1/16 tick; an earlier one gives way to it (R370). -/
def State.tickOffset (d : Int) (s : State) : State :=
  let half : Int := if s.flag R.clkRefModeSel then 80 else 320
  let d := clampInt (-half) (half - 1) d
  let now := s.now
  if d = 0 then s.modClk fun c => { c with resid := 0 }
  else
    (s.modClk fun c =>
      { c with resid := d, slewing := true, slewAt := if c.slewing then c.slewAt else now }).raiseAlarm R.clkEvtTickStep

/-- The references that MDLLs were waiting for have all been counted (R361). -/
def State.countOver (s : State) : State :=
  if allMdlls.any fun m => s.mdll m == .bypassRef then s else s.modClk fun c => { c with counting := false }

/-- MDLL_RELOCK (R360, R363, R364): the output leaves bypass. -/
def State.relocked (m : Mdll) (d : Int) (s : State) : State :=
  if (s.mdll m = .relocking ∨ s.mdll m = .bypassLock) ∧ s.refPresent then
    let s := (s.setMdll m .locked).countOver.raiseAlarm R.clkEvtRelock
    match m with
    | .core => s.tickOffset d
    | .memory => s.serveWindow
    | .slice i =>
      let want := s.flag R.clkCtrlTenderRearm && !s.flag R.clkTargetSlice
      s.modClk fun c => { c with rearm := if want then c.rearm.filter (· ≠ i.val) ++ [i.val] else c.rearm }
  else s

/-- TICK_SLEW_DONE (R363). -/
def State.slewDone (s : State) : State :=
  if s.clk.resid = 0 then s.modClk fun c => { c with slewing := false } else s

/-- The sign of an offset. -/
def unit (x : Int) : Int := if 0 < x then 1 else if x < 0 then -1 else 0

/-- The absorption of an offset: at 50 ppm, 1/16 tick in 1,250 ticks (R363). A positive offset is a counter ahead of the
grid, which runs slow (DESIGN CHOICE, assumption 85). -/
def Clocks.absorb (now : Nat) (c : Clocks) : Clocks :=
  if c.slewing ∧ c.slewAt + 1250 ≤ now then
    { c with resid := c.resid - unit c.resid, slip := c.slip - unit c.resid, slewAt := c.slewAt + 1250 }
  else c

/-- The ticks that the core cycle which runs now adds (R363): one fewer or one more where a whole tick has been
absorbed. -/
def State.cycleTicks (s : State) : Nat :=
  if s.clk.slip ≤ -16 then s.coreCycle - 1 else if 16 ≤ s.clk.slip then s.coreCycle + 1 else s.coreCycle

/-- What has been absorbed once the core cycle that runs now has taken its share. -/
def Clocks.taken (c : Clocks) : Int :=
  if c.slip ≤ -16 then c.slip + 16 else if 16 ≤ c.slip then c.slip - 16 else c.slip

/-- REFCLK_MEASUREMENT (R358): over each 1 ms, REFCLK against the crystal, in 1/16 ppm. -/
def State.measureRef (edges : Bool) (ppm : Int) (s : State) : State :=
  let sel := s.flag R.clkRefModeSel
  let was := s.clk.refOk
  let s := s.modClk fun c => { c with ppm := ppm }
  if !edges then s.refclkStops
  else
    let s := (s.modLink fun l => { l with noRef := false }).modClk fun c => { c with noEdges := false, refOk := c.inRange }
    if s.clk.refOk then s.iff sel (·.refBack) else s.iff (was && sel) (·.loseRef)

/-- What a change of CLK_REF_MODE or CLK_TARGET brings about (R360, R370): the MDLLs it affects go on bypass and relock.
One that waits for its lost reference goes on waiting; a change of SEL selects another reference, which is lost where it
is not present. -/
def State.clkWritten (oldMode oldTarget : Word) (s : State) : State :=
  let mode := s.reg 0x0D0000
  let target := s.reg 0x0D0004
  let sel := bits mode 0 1 != bits oldMode 0 1
  -- 0b11 of a mode, and of the memory target, is taken as 0b00 (R369)
  let field (w : Word) (lo n : Nat) : Nat := if bits w lo n = 3 then 0 else bits w lo n
  let hit (lo n tlo tn : Nat) : Bool := sel || field mode lo n != field oldMode lo n || field target tlo tn != field oldTarget tlo tn
  let go (m : Mdll) (s : State) : State :=
    s.unlock m (if !s.refPresent || (!sel && s.mdll m == .bypassRef) then .bypassRef else .relocking)
  let s := s.iff sel (·.modClk fun c => { c with counting := false })
  if sel && !s.refPresent then s.loseRef
  else
    let s := s.iff (hit 1 2 0 1) (go .core)
    let s := s.iff (hit 3 2 1 2) (go .memory)
    s.iff (hit 5 2 3 1) fun s => s.each (List.finRange 19) fun i s => go (.slice i) s

/-- TENDER_SLICE_REARM (R364). -/
def State.tenderRearm (m : Fin 19) (s : State) : State :=
  if s.clk.rearm.contains m.val && s.tnd.up && !s.tnd.asleep then
    let s := s.modClk fun c => { c with rearm := c.rearm.filter (· ≠ m.val) }
    (s.rearmSlice (Fin.ofNat 38 (2 * m.val))).rearmSlice (Fin.ofNat 38 (2 * m.val + 1))
  else s

/-! ### The commands -/

/-- MDLL_LOCK_LOSS (R359). -/
def execMdllLockLoss (m : Mdll) (s : State) : Answer := .next (s.lockLost m)

/-- STABLE_COUNT_DONE (R361). -/
def execStableCountDone (m : Mdll) (s : State) : Answer := .next (s.stableDone m)

/-- MDLL_RELOCK (R360). -/
def execMdllRelock (m : Mdll) (offset16 : Int) (s : State) : Answer := .next (s.relocked m offset16)

/-- TICK_SLEW_DONE (R363). -/
def execTickSlewDone (s : State) : Answer := .next s.slewDone

/-- REFCLK_MEASUREMENT (R358). -/
def execRefclkMeasurement (edges : Bool) (ppm16 : Int) (s : State) : Answer := .next (s.measureRef edges ppm16)

/-- TENDER_SLICE_REARM (R364). -/
def execTenderSliceRearm (m : Fin 19) (s : State) : Answer := .next (s.tenderRearm m)

/-- REFERENCE_RETURN (R361). -/
def execReferenceReturn (refclk : Bool) (s : State) : Answer := .next (s.referenceReturns refclk)

end Sys2Proof.Machine
end

