-- ==== Sys2Proof/Machine/PinEngine.lean ====
section
/-! DEFINITION. The pin engines (R337 to R355): steps, the instruction set, stamps, FIFOs and stalls, exposure records,
trigger requests, start and stop, flags. -/

namespace Sys2Proof.Machine

def State.eng (s : State) (e : Fin 8) : Engine := s.pen.engs[e]

def State.onEng (e : Fin 8) (g : Engine → Engine) (s : State) : State :=
  s.modPen fun p => { p with engs := vupd p.engs e g }

/-! ### Steps (R341) -/

/-- Ticks of a step. -/
def Engine.len (g : Engine) : Nat := 4 * (g.div + 1)

/-- A step of the engine starts now: among the ticks of this core cycle (R363, assumption 85). -/
def State.stepStarts (s : State) (e : Fin 8) : Bool :=
  let g := s.eng e
  decide (g.origin ≤ s.now) && decide ((s.now - g.origin) % g.len < max 1 s.clk.cycle)

/-- An instruction starts now: the engine runs, and this step has executed none yet. -/
def State.stepDue (s : State) (e : Fin 8) : Bool :=
  (s.eng e).state == .running && s.stepStarts e && (s.eng e).stepAt != some s.now

/-- The word at the program counter. -/
def Engine.word (g : Engine) : Word := g.store.toList[g.pc]?.getD 0

/-- Bits [31:28] of an instruction word. -/
def opOf (w : Word) : Nat := bits w 28 4

/-- The instruction takes this step; the next one follows at the next address. -/
def State.nextStep (e : Fin 8) (s : State) : State :=
  let now := s.now
  s.onEng e fun g =>
    { g with pc := (g.pc + 1) % 32, ran := g.pc, state := .running, held := false, stepAt := some now }

/-- The address executing (R354): that of the instruction whose step runs, else the next one's. -/
def Engine.executing (now : Nat) (g : Engine) : Nat :=
  if g.state = .running ∧ g.stepAt.any (fun t => decide (now - (now - g.origin) % g.len ≤ t)) then g.ran else g.pc

/-- An instruction of an opcode is executed if its step is due. -/
def State.penExec (e : Fin 8) (op : Nat) (f : Word → State → State) (s : State) : State :=
  let w := (s.eng e).word
  if s.stepDue e && opOf w == op then f w s else s

/-! ### Pins (R338 to R340, R352) -/

/-- Window size (R354). -/
def State.outCnt (s : State) (e : Fin 8) : Nat := min 32 (s.fget (R.penPinsOutCnt e.val))

/-- The index of window pin k. -/
def State.winPin (s : State) (e : Fin 8) (k : Nat) : Nat := (s.fget (R.penPinsOutBase e.val) + k) % 32

/-- An index lies in the window of an engine. -/
def State.inWindow (s : State) (e : Fin 8) (i : Nat) : Bool :=
  decide ((i + 32 - s.fget (R.penPinsOutBase e.val)) % 32 < s.outCnt e)

/-- The engine is neither disabled nor in error. -/
def Engine.active (g : Engine) : Bool := g.state != .disabled && g.state != .error

/-- The owner of an index (R339). -/
def State.owner (s : State) (i : Nat) : Option (Fin 8) :=
  (List.finRange 8).find? fun e => (s.eng e).active && s.inWindow e i

/-- An index takes a level. -/
def setLevel (i : Nat) (b : Bool) (p : PinEngines) : PinEngines :=
  let m : BitVec 32 := (1 : BitVec 32) <<< i
  { p with level := if b then p.level ||| m else p.level &&& ~~~m, hiz := p.hiz &&& ~~~m }

/-- Window pin k takes a level if the engine owns its index; else PIN_CONFLICT. -/
def State.drivePin (e : Fin 8) (k : Nat) (b : Bool) (s : State) : State :=
  let i := s.winPin e k
  if s.owner i = some e then s.modPen (setLevel i b) else s.raise (R.penEvtPinConflict e.val)

/-- The device drives an index; in reset every output is released (R427). -/
def State.drives (s : State) (i : Nat) : Bool :=
  s.rst.phase != .inReset && bitOf (BitVec.ofNat 32 (s.fget R.penOe)) i && !bitOf s.pen.hiz i

/-- What an index reads (R340); an output pair that is not driven has no stated level: bit i of `w`. -/
def State.pinReads (s : State) (w : Word) (i : Nat) : Bool :=
  if s.drives i then bitOf s.pen.level i else if i < 24 then bitOf s.pen.pins i else bitOf w i

/-- The levels at the PE_IO balls as the engines see them now; a free word stands for undriven pairs (assumption 7). -/
def State.samplePins (pins : BitVec 24) (s : State) : State :=
  { s with free := s.free + 1, pen := { s.pen with pins := pins } }

/-- An index as read after `samplePins`. -/
def State.seesPin (s : State) (i : Nat) : Bool := s.pinReads (Config.freeWord (s.free - 1)) i

/-- PEN_SAFE of an index. -/
def State.safeOf (s : State) (i : Nat) : Nat :=
  if i < 16 then bits (s.reg 0x0C0010) (2 * i) 2 else bits (s.reg 0x0C0014) (2 * (i - 16)) 2

/-- An index takes its PEN_SAFE level (R352). -/
def State.makeSafe (i : Nat) (s : State) : State :=
  match s.safeOf i with
  | 1 => s.modPen (setLevel i false)
  | 2 => s.modPen (setLevel i true)
  | 3 => s.modPen fun p => { p with hiz := p.hiz ||| ((1 : BitVec 32) <<< i) }
  | _ => s

/-- Steps of a DLY that have passed are taken off its count, and the rest counts from now. -/
def Engine.settleDly (now : Nat) (g : Engine) : Engine :=
  let gone := if g.state = .waiting ∧ opOf g.cur = 0xB then (now - g.dlyFrom) / g.len else 0
  { g with dly := g.dly - gone, dlyFrom := now }

/-- An engine is disabled, or enters error: the indices it owned take their PEN_SAFE levels; it holds no stamp, and would
resume at the AT of a pin action that waited for one, or with the rest of its DLY (R351, R352). -/
def State.quitEng (e : Fin 8) (st : EngState) (s : State) : State :=
  if !(s.eng e).active then s
  else
    let owned := (List.range 32).filter fun i => s.owner i == some e
    let now := s.now
    let s := s.onEng e fun g =>
      { g.settleDly now with
               state := st, was := if g.held then .running else g.state,
               pc := if g.held then (g.stamp.map (·.at')).getD g.pc else g.pc, held := false, stamp := none }
    s.each owned fun i s => s.makeSafe i

/-- Every engine is disabled, one in error too (R352). -/
def State.quitAll (s : State) : State :=
  s.each (List.finRange 8) fun e s =>
    if (s.eng e).state = .error then s.onEng e fun g => { g with state := .disabled } else s.quitEng e .disabled

/-! ### Pin actions and stamps (R342, R344) -/

/-- The effect of OUT or SET on the window, and of OUT on EMR. -/
def State.pinEffect (e : Fin 8) (w : Word) (s : State) : State :=
  let cnt := s.outCnt e
  if opOf w = 1 then
    let n := if bits w 16 5 = 0 then 32 else bits w 16 5
    let emr := (s.eng e).emr
    let s := s.each (List.range (min n cnt)) fun k s => s.drivePin e k (bitOf emr k)
    s.onEng e fun g => { g with emr := g.emr >>> n, emrLeft := g.emrLeft - n }
  else s.each (List.range (min cnt 24)) fun k s => s.drivePin e k (bitOf w k)

/-- The tick at which a tick target is placed: itself, or on bypass of the core clock the nearest bypass period, which a
core below 1.000 GHz counts as (R364). -/
def State.placed (s : State) (t : Nat) : Nat :=
  let p := s.coreCycle
  (t + p / 2) / p * p

/-- The target of a stamp has been reached: the tick, or a web count not ahead of W. -/
def State.reached (s : State) (t : Stamp) : Bool :=
  if t.isWc then !WC.ahead (BitVec.ofNat 48 t.target) s.wc else decide (s.placed t.target ≤ s.now)

/-- The target lies behind. -/
def State.passed (s : State) (t : Stamp) : Bool :=
  if t.isWc then WC.behind (BitVec.ofNat 48 t.target) s.wc else decide (t.target < s.now)

/-- A stamp that was met in the step in which it was armed is not late (R355): a tick of that step, or a web count that W
has reached in it. -/
def Stamp.inArming (g : Engine) (t : Stamp) : Bool := t.ahead && (t.met || !t.isWc && decide (t.target < t.armed + g.len))

/-- W stands where it does at this tick: web-count stamps it has reached in the step in which they were armed (R355). -/
def State.noteMet (s : State) : State :=
  s.each (List.finRange 8) fun e s =>
    let g := s.eng e
    match g.stamp with
    | some t =>
      if t.isWc && t.ahead && !t.met && !g.held && decide (s.now < t.armed + g.len) && s.reached t then
        s.onEng e fun g => { g with stamp := some { t with met := true } }
      else s
    | none => s

/-- OUT and SET: at once, or held for the stamp. -/
def State.pinAction (e : Fin 8) (w : Word) (s : State) : State :=
  let g := s.eng e
  let act (s : State) : State := ((s.pinEffect e w).onEng e fun g => { g with stamp := none }).nextStep e
  match g.stamp with
  | none => act s
  | some t =>
    if s.passed t && !t.inArming g then ((act s).raise (R.penEvtLate e.val)).bump (0xC8 + e.val) 1
    else if t.met || s.reached t then (act s).bump (0xC8 + e.val) 1
    else
      let now := s.now
      s.onEng e fun g => { g with state := .waiting, held := true, cur := w, stepAt := some now }

/-- A held pin action takes effect: its stamp is met. -/
def State.releaseHeld (e : Fin 8) (s : State) : State :=
  (((s.pinEffect e (s.eng e).cur).onEng e fun g => { g with stamp := none }).nextStep e).bump (0xC8 + e.val) 1

/-- STAMP_MET (R344). -/
def State.stampMet (e : Fin 8) (s : State) : State :=
  let g := s.eng e
  match g.stamp with
  | some t => if g.held && s.reached t then s.releaseHeld e else s
  | none => s

/-- R49, R344: a resynchronisation step has carried W from `w0` to `w1`: web-count stamps passed are met now and set
STEPPED; a pin action that has not begun takes effect when it does, LATE where its target then lies behind W (DEDUCED,
assumption 86). -/
def State.steppedPast (w0 w1 : WC) (s : State) : State :=
  s.each (List.finRange 8) fun e s =>
    let g := s.eng e
    match g.stamp with
    | some t =>
      let x := BitVec.ofNat 48 t.target
      if t.isWc && WC.ahead x w0 && !WC.ahead x w1 then
        let arming := decide (s.now < t.armed + g.len)
        let s := if g.held then s.releaseHeld e
          else s.onEng e fun g => { g with stamp := some { t with met := true, ahead := t.ahead && arming } }
        s.raise (R.penEvtStepped e.val)
      else s
    | none => s

/-- AT arms a stamp. -/
def State.armStamp (e : Fin 8) (w : Word) (s : State) : State :=
  let g := s.eng e
  let r := (g.g.toList[bits w 24 2]?.getD 0).toNat
  let o := signed 20 (bits w 0 20)
  let kind := bits w 26 2
  let t : Nat := if kind = 1 then unsigned 48 ((r : Int) + o)
    else unsigned 64 ((if kind = 2 then (s.now : Int) else r) + o)
  let st : Stamp := { isWc := kind == 1, target := t, at' := g.pc, armed := s.now, ahead := false }
  let ok := !s.passed st
  (s.onEng e fun g => { g with stamp := some { st with ahead := ok } }).nextStep e

/-! ### Data (R342, R348, R349) -/

/-- A general register. -/
def Engine.gen (g : Engine) (i : Nat) : BitVec 64 := g.g.toList[i]?.getD 0

/-- A general register takes a value. -/
def Engine.setGen (i : Nat) (v : BitVec 64) (g : Engine) : Engine :=
  { g with g := if h : i < 4 then g.g.set i v h else g.g }

/-- One half of a 64-bit value replaced. -/
def putHalf (hi : Bool) (w : Word) (v : BitVec 64) : BitVec 64 :=
  if hi then BitVec.ofNat 64 (v.toNat % 2 ^ 32 + 2 ^ 32 * w.toNat) else BitVec.ofNat 64 (v.toNat / 2 ^ 32 * 2 ^ 32 + w.toNat)

/-- The FIFO code of PULL and PUSH: 1 to 4 name G0 to G3, all others EMR or CPR. -/
def fifoCode (w : Word) : Option Nat :=
  let c := bits w 24 3
  if 1 ≤ c ∧ c ≤ 4 then some (c - 1) else none

/-- A PULL delivers a word. -/
def Engine.pulled (w : Word) (v : Word) (g : Engine) : Engine :=
  match fifoCode w with
  | none => { g with emr := v, emrLeft := 32 }
  | some i => g.setGen i (putHalf (bitOf w 27) v (g.gen i))

/-- The value a PUSH adds. -/
def Engine.pushes (w : Word) (g : Engine) : Word :=
  match fifoCode w with
  | none => g.cpr
  | some i => BitVec.ofNat 32 ((g.gen i).toNat / (if bitOf w 27 then 2 ^ 32 else 1))

/-- A PUSH of CPR clears it. -/
def Engine.pushed (w : Word) (g : Engine) : Engine :=
  match fifoCode w with
  | none => { g with cpr := 0, cprCnt := 0 }
  | some _ => g

/-- A PULL or PUSH that can complete does; else the engine stalls, or goes on with NOSTALL (R349). -/
def State.fifoStep (e : Fin 8) (w : Word) (s : State) : State :=
  let g := s.eng e
  let soft := s.flag (R.penCtrlNostall e.val)
  let now := s.now
  let stall (s : State) : State := s.onEng e fun g => { g with state := .stalled, cur := w, stepAt := some now }
  if opOf w = 3 then
    match g.tx with
    | v :: rest => (s.onEng e fun g => { (g.pulled w v) with tx := rest, lastTx := v }).nextStep e
    | [] =>
      let s := s.raise (R.penEvtUnder e.val)
      if soft then (s.onEng e fun g => g.pulled w g.lastTx).nextStep e else stall s
  else if g.rx.length < 4 then
    (s.onEng e fun g => { (g.pushed w) with rx := g.rx ++ [g.pushes w] }).nextStep e
  else
    let s := s.raise (R.penEvtOver e.val)
    if soft then (s.onEng e (·.pushed w)).nextStep e else stall s

/-- STALL_RELEASE (R349): a stalled instruction completes at a step in which its FIFO allows. -/
def State.unstall (e : Fin 8) (s : State) : State :=
  let g := s.eng e
  let free := if opOf g.cur = 3 then !g.tx.isEmpty else decide (g.rx.length < 4)
  if g.state == .stalled && s.stepStarts e && free then s.fifoStep e g.cur else s

/-- PULL and PUSH. -/
def State.fifoOp (e : Fin 8) (op : Nat) (s : State) : State :=
  let g := s.eng e
  if g.state == .stalled && opOf g.cur == op then s.unstall e else s.penExec e op (fun w s => s.fifoStep e w)

/-- A write of PEN_TX (R348). -/
def State.txWrite (e : Fin 8) (v : Word) (s : State) : State :=
  let s := s.setReg (0x0C0110 + 64 * e.val) v
  if (s.eng e).tx.length < 4 then (s.onEng e fun g => { g with tx := g.tx ++ [v] }).unstall e
  else s.raise (R.penEvtTxOvf e.val)

/-- The go-bit PEN_RX_POP (R348). -/
def State.rxPop (e : Fin 8) (s : State) : State := (s.onEng e fun g => { g with rx := g.rx.drop 1 }).unstall e

/-- IN: the indices from IN_BASE upward shift into CPR. -/
def State.shiftIn (e : Fin 8) (w : Word) (s : State) : State :=
  let n := if bits w 16 5 = 0 then 32 else bits w 16 5
  let b := s.fget (R.penPinsInBase e.val)
  let v := (List.range n).foldl (fun v k => v + (if s.seesPin ((b + k) % 32) then 2 ^ k else 0)) 0
  (s.onEng e fun g =>
    { g with cpr := (if n = 32 then 0 else g.cpr >>> n) ||| (BitVec.ofNat 32 v <<< (32 - n)),
             cprCnt := min 32 (g.cprCnt + n) }).nextStep e

/-- A source code of MOV (R342); before any exposure record, ESTART, EEND and ESEQ read 0 (assumption 42). -/
def State.source (s : State) (e : Fin 8) (c : Nat) : Nat :=
  let g := s.eng e
  match c with
  | 0 | 1 | 2 | 3 => (g.gen c).toNat
  | 4 => g.emr.toNat
  | 5 => g.cpr.toNat
  | 6 => s.wc.toNat
  | 7 => s.now
  | 8 => (s.pen.record.map (·.start)).getD 0
  | 9 => (s.pen.record.map (·.stop)).getD 0
  | 10 => (s.pen.record.map (·.seq)).getD 0
  | _ => 0

/-- MOV. -/
def State.move (e : Fin 8) (w : Word) (s : State) : State :=
  let v : BitVec 64 := BitVec.ofInt 64 ((s.source e (bits w 20 4) : Int) + signed 20 (bits w 0 20))
  let d := bits w 24 4
  (s.onEng e fun g =>
    if d = 4 then { g with emr := v.setWidth 32, emrLeft := 32 }
    else if d = 5 then { g with cpr := v.setWidth 32, cprCnt := 0 }
    else g.setGen (if d < 4 then d else 0) v).nextStep e

/-! ### Waiting (R343) and jumping (R345) -/

/-- The kind of a WAIT. -/
def waitKind (w : Word) : Nat := if bits w 24 4 ≤ 6 then bits w 24 4 else 5

/-- The latest exposure record of a field in the mask that was published since the WAIT began. -/
def State.expSince (s : State) (e : Fin 8) (mask : Nat) : Option ExpRecord :=
  ((List.range 4).filterMap fun f =>
    match s.pen.byField.toList[f]? with
    | some (some r) => if bitOf (BitVec.ofNat 4 mask) f && decide ((s.eng e).sawExp < r.idx) then some r else none
    | _ => none).foldl (fun (b : Option ExpRecord) r => match b with
      | some x => if x.idx < r.idx then some r else some x
      | none => some r) none

/-- WAIT begins. -/
def State.beginWait (e : Fin 8) (w : Word) (s : State) : State :=
  let p := s.pen
  let now := s.now
  s.onEng e fun g =>
    { g with state := .waiting, held := false, cur := w, sawExp := p.published, sawTrig := p.trigs, sawReam := p.reams,
             stepAt := some now }

/-- The condition of the WAIT under way is true. -/
def State.waitTrue (s : State) (e : Fin 8) : Bool :=
  let g := s.eng e
  let w := g.cur
  match waitKind w with
  | 0 => s.seesPin (bits w 0 5) == bitOf w 5
  | 1 => bitOf s.pen.flags (bits w 0 3) == bitOf w 3
  | 2 => !WC.ahead ((g.gen (bits w 16 2)).extractLsb' 0 48) s.wc
  | 3 => decide ((g.gen (bits w 16 2)).toNat ≤ s.now)
  | 4 => (s.expSince e (bits w 0 4)).isSome
  | 6 => decide (g.sawReam < s.pen.reams)
  | _ => decide (g.sawTrig < s.pen.trigs)

/-- WAIT_MET: the condition is true at the start of a step. -/
def State.waitMet (e : Fin 8) (s : State) : State :=
  let g := s.eng e
  if g.state != .waiting || g.held || opOf g.cur != 7 || !s.stepStarts e || !s.waitTrue e then s
  else
    let s := if waitKind g.cur = 4 then
        match s.expSince e (bits g.cur 0 4) with
        | some r => s.onEng e fun g => (g.setGen 0 (BitVec.ofNat 64 r.start)).setGen 1 (BitVec.ofNat 64 r.stop)
        | none => s
      else s
    s.nextStep e

/-- The condition of a JMP (R345). -/
def State.jumps (s : State) (e : Fin 8) (w : Word) : Bool :=
  let g := s.eng e
  let a := g.gen (bits w 20 2)
  let b := g.gen (bits w 18 2)
  match bits w 24 4 with
  | 1 => a != 0
  | 2 => a == b
  | 3 => decide (a.toNat < b.toNat)
  | 4 => s.seesPin (bits w 8 5)
  | 5 => bitOf s.pen.flags (bits w 8 3)
  | 6 => decide (2 ≤ g.tx.length)
  | 7 => g.emrLeft == 0
  | 8 => WC.ahead (a.extractLsb' 0 48) s.wc
  | 9 => g.rx.isEmpty
  | _ => true

/-- JMP. -/
def State.jump (e : Fin 8) (w : Word) (s : State) : State :=
  let t := if s.jumps e w then some (bits w 0 5) else none
  let s := s.nextStep e
  match t with
  | some a => s.onEng e fun g => { g with pc := a }
  | none => s

/-! ### Flags, requests, delays (R342, R347, R353) -/

/-- Flags are set. -/
def State.setFlags (m : BitVec 8) (s : State) : State :=
  let now := s.now
  s.modPen fun p =>
    { p with flags := p.flags ||| m, setNow := (if p.setAt = now then p.setNow else 0) ||| m, setAt := now }

/-- Flags are cleared, but those set in the same cycle (R353): by anything in this tick for an engine (`same`), and for
software that acts in that core cycle (assumption 83). -/
def State.clrFlags (same : Bool) (m : BitVec 8) (s : State) : State :=
  let now := s.now
  s.modPen fun p => { p with flags := p.flags &&& ~~~(m &&& ~~~(if same ∧ p.setAt = now then p.setNow else 0)) }

/-- TRIGGER_REQUEST (R347): the pre-trigger is now, the trigger 30 ticks later (R59). A request that comes while the
window of an earlier one is open gets no pre-trigger of its own then: its window opens when its trigger is raised (DESIGN
CHOICE, assumption 87). -/
def State.request (e : Fin 8) (s : State) : State :=
  if s.fu.inForce.trigSrc = 2 ∧ s.cur R.tbsCtrlExtPe = e.val then
    let now := s.now
    let s := s.modTb fun t => { t with extDue := t.extDue ++ [now + 30] }
    s.iff (s.tb.window.isNone && s.triggersOn && s.producing) (·.preTrigger)
  else s.raise (R.penEvtTrigIgn e.val)

/-- FLAG. -/
def State.flagOp (e : Fin 8) (w : Word) (s : State) : State :=
  let m : BitVec 8 := (1 : BitVec 8) <<< bits w 0 3
  let s := match bits w 24 4 with
    | 1 => s.clrFlags true m
    | 2 => s.request e
    | 3 => s.raise (R.penEvtSig e.val)
    | _ => s.setFlags m
  s.nextStep e

/-- DLY begins. -/
def State.delay (e : Fin 8) (w : Word) (s : State) : State :=
  let now := s.now
  s.onEng e fun g =>
    { g with state := .waiting, held := false, cur := w, dly := max 1 (bits w 0 24), dlyFrom := now, stepAt := some now }

/-- DLY_DONE: its steps have passed; the next instruction may start in this step. -/
def State.delayDone (e : Fin 8) (s : State) : State :=
  let g := s.eng e
  if g.state == .waiting && !g.held && opOf g.cur == 0xB && decide (g.dlyFrom + g.dly * g.len ≤ s.now) then
    (s.nextStep e).onEng e fun g => { g with stepAt := none }
  else s

/-! ### Exposure records (R346) -/

/-- A record is published to all engines. -/
def State.publish (start stop seq field : Nat) (s : State) : State :=
  s.modPen fun p =>
    let r : ExpRecord := { idx := p.published + 1, start := start, stop := stop, seq := seq, field := field }
    { p with record := some r, published := p.published + 1, byField := p.byField.set! field (some r) }

/-- EXPOSURE_RECORD: 2 ticks after the trigger, or at the start of a sub-frame's slot. -/
def State.exposureRecord (s : State) : State :=
  if s.fu.inForce.area then
    match s.hb.area with
    | some fr =>
      let t := (s.furnish fr.furnish).areaExpo fr.sub
      let stop := fr.slot + fr.length - 30
      let start := stop - min t (fr.length - 30)
      if fr.tail || decide (s.now < fr.slot) ||
          s.pen.record.any (fun r => r.seq == fr.seq && r.field == fr.sub && r.stop == stop) then s
      else s.publish start stop fr.seq fr.sub
    | none => s
  else match s.lastPeriod with
    | some p =>
      if s.now < p.trig + 2 || s.pen.record.any (·.seq == p.seq) then s
      else s.publish p.planned (p.planned + p.tExp) p.seq p.field
    | none => s

/-! ### Start and stop (R351) -/

/-- The step counter starts from this tick; the count of a DLY is kept. -/
def Engine.restart (now div : Nat) (g : Engine) : Engine :=
  { g.settleDly now with origin := now, div := div, stepAt := none }

/-- The engine starts at its entry. -/
def Engine.begin (now div entry : Nat) (g : Engine) : Engine :=
  { g with pc := entry, emr := 0, emrLeft := 0, cpr := 0, cprCnt := 0, g := vrep 4 0, stamp := none, held := false,
           lastTx := 0, state := .running, cur := 0, dly := 0, origin := now, div := div, stepAt := none }

/-- One engine acts on an OP at the action tick. -/
def State.actOn (op : BitVec 2) (e : Fin 8) (s : State) : State :=
  let now := s.now
  let div := s.fget (R.penCtrlDiv e.val)
  let entry := s.fget (R.penCtrlEntry e.val)
  let st := (s.eng e).state
  match op.toNat with
  | 0 => s.onEng e (·.begin now div entry)
  | 1 =>
    if st = .error then s.onEng e (·.begin now div entry)
    else if st = .disabled then
      s.onEng e fun g => { g with state := g.was, origin := now, div := div, dlyFrom := now, stepAt := none }
    else s.onEng e (·.restart now div)
  | 2 => if (s.eng e).active then s.onEng e (·.restart now div) else s
  | _ => s.quitEng e .disabled

/-- PEN_ACTION_TICK: the requests whose tick has come, in order. -/
def State.actionTick (s : State) : State :=
  let now := s.now
  let due := s.pen.action.filter fun a => decide (a.2.2 ≤ now)
  let s := s.modPen fun p => { p with action := p.action.filter fun a => decide (now < a.2.2) }
  s.each due fun a s => s.each (List.finRange 8) fun e s => s.iff (bitOf a.1 e.val) (·.actOn a.2.1 e)

/-- GO is accepted: the action tick is 32 ticks later. -/
def State.goEngines (mask : BitVec 8) (op : BitVec 2) (s : State) : State :=
  let now := s.now
  s.modPen fun p => { p with action := p.action ++ [(mask, op, now + 32)] }

/-- A write of PEN_START. -/
def State.writePenStart (v : Word) (s : State) : State :=
  let s := s.setReg 0x0C0000 (v &&& 0x6FF)
  s.iff (bitOf v 8) (·.goEngines (v.extractLsb' 0 8) (v.extractLsb' 9 2))

/-- PEN_START as an OP writes it. -/
def State.penOp (mask : BitVec 8) (op : Nat) (s : State) : State :=
  s.writePenStart (BitVec.ofNat 32 (mask.toNat + 256 + 512 * op))

/-- The store of an engine may be written (R350). -/
def Engine.writable (g : Engine) : Bool := !g.active || g.state == .stalled

/-- The store may be written: by an access of the core cycle that runs (`same`), as the engine stood when it began. -/
def State.storeOpen (same : Bool) (s : State) (e : Fin 8) : Bool :=
  if same then (s.before.pen.engs[e]).writable else (s.eng e).writable

/-- A word of the store. -/
def Engine.putWord (a : Nat) (v : Word) (g : Engine) : Engine :=
  { g with store := if h : a < 32 then g.store.set a v h else g.store }

/-- A write to PEN_STORE (R350). -/
def State.storeWrite (same : Bool) (e : Fin 8) (a : Nat) (v : Word) (s : State) : State :=
  if s.storeOpen same e then s.onEng e fun g => { (g.putWord a v) with epoch := g.epoch + 1 }
  else s.raise (R.penEvtProgBusy e.val)

/-! ### The commands that fetch no instruction; the others are in Accesses.lean -/

/-- WAIT_MET (R343). -/
def execWaitMet (e : Fin 8) (pins : BitVec 24) (s : State) : Answer := .next ((s.samplePins pins).waitMet e)

/-- STAMP_MET (R344). -/
def execStampMet (e : Fin 8) (s : State) : Answer := .next (s.stampMet e)

/-- DLY_DONE (R341). -/
def execDlyDone (e : Fin 8) (s : State) : Answer := .next (s.delayDone e)

/-- EXPOSURE_RECORD (R346). -/
def execExposureRecord (s : State) : Answer := .next s.exposureRecord

/-- PEN_ACTION_TICK (R351). -/
def execPenActionTick (s : State) : Answer := .next s.actionTick

end Sys2Proof.Machine
end

