-- ==== Sys2Proof/Machine/Trigger.lean ====
section
/-! DEFINITION. Line triggers (R37 to R43, R48, R63, R64, R88, R104, R315 to R329, R416): which trigger is raised when,
and everything that a raised trigger brings about. -/

namespace Sys2Proof.Machine

/-! ### Ream marks (R321) -/

/-- A 54-byte chunk: 52 bytes and their CRC. -/
def chunkOf (bs : List Byte) : BitVec 432 :=
  let b := fit 52 bs
  BitVec.ofNat 432 (ofLeBytes (b ++ leBytes 2 (crc16 b)))

/-- The chunk of a ream mark. -/
def markChunk (m : Mark) : BitVec 432 :=
  chunkOf (leBytes 1 1 ++ leBytes 1 m.k ++ leBytes 6 m.seq ++ leBytes 8 m.t.toNat ++ leBytes 4 m.ream.toNat)

/-- The upstream port in use (R317). -/
def State.upPort (s : State) : Fin 4 := Fin.ofNat 4 (if s.wl.onSec then s.fget R.wlkCtrlUpSec else s.fget R.wlkCtrlUpPri)

/-- An upstream port (R317): primary, or secondary while one is in use. -/
def State.isUpstream (s : State) (p : Nat) : Bool :=
  s.wl.role != .source && (p == s.fget R.wlkCtrlUpPri || (s.flag R.wlkCtrlSecEn && p == s.fget R.wlkCtrlUpSec))

/-- The downstream ports (R317). -/
def State.downPorts (s : State) : List (Fin 4) :=
  (List.finRange 4).filter fun p => bitOf (BitVec.ofNat 4 (s.fget R.wlkCtrlDownEn)) p.val && !s.isUpstream p.val

def State.onPort (p : Fin 4) (g : Port → Port) (s : State) : State :=
  s.modWl fun w => { w with ports := vupd w.ports p g }

def State.port (s : State) (p : Fin 4) : Port := s.wl.ports[p]

/-- A chunk is queued for sending on a port that is up, with its rank (R330). -/
def State.sendChunk (p : Fin 4) (rank : Nat) (c : BitVec 432) (s : State) : State :=
  if (s.port p).state = .up then s.onPort p fun q => { q with chunks := q.chunks ++ [(rank, c)] } else s

/-- WLK_P_STAT.STATE (R335). -/
def PortState.code : PortState → Nat
  | .off => 0 | .absent => 1 | .training => 2 | .up => 3 | .idle => 4 | .test => 5

/-- R324: the primary is no longer up with a valid λ, so that the ream in which it must be starts anew. -/
def State.primaryLapse (p : Fin 4) (s : State) : State :=
  if p.val = s.fget R.wlkCtrlUpPri then s.modWl fun w => { w with primUp := 0 } else s

/-- A port changes its state, which is traced (R443). -/
def State.setPort (p : Fin 4) (st : PortState) (s : State) : State :=
  if (s.port p).state = st then s
  else ((s.onPort p fun q => { q with state := st }).trace 0x14 p.val (BitVec.ofNat 32 st.code)).primaryLapse p

/-- The secondary upstream port, where the head has one (R317, R335). -/
def State.secPort (s : State) : Option (Fin 4) :=
  if s.onLink && s.flag R.wlkCtrlSecEn && s.fget R.wlkCtrlUpSec != s.fget R.wlkCtrlUpPri then
    some (Fin.ofNat 4 (s.fget R.wlkCtrlUpSec))
  else none

/-- The sets of one kind that a training port sends on its lanes (R312). -/
def State.sendSets (ts2 : Bool) (p : Fin 4) (s : State) : State :=
  let id := BitVec.ofNat 16 (s.fget R.wlkHeadId)
  let sec := s.secPort == some p
  (s.emit (.trainSets ts2 p.val 0 id sec)).emit (.trainSets ts2 p.val 1 id sec)

/-- A port starts to train: TS1 sets go out on both lanes (R312); not without the crystal, whose loop clocks it (R362). -/
def State.beginTraining (p : Fin 4) (s : State) : State :=
  let now := s.now
  if !s.clk.xtalOk then s
  else
    ((s.onPort p fun q =>
      { q with lock := 0, partnerOk := false, lossAt := none, trainAt := now, lamOk := false, outAt := none, meas := [],
               chunks := [] }).setPort p .training).sendSets false p

/-- A port goes to electrical idle. -/
def State.idlePort (p : Fin 4) (s : State) : State :=
  (s.onPort p fun q => { q with lock := 0, lossAt := none, chunks := [] }).setPort p .idle

/-- A ream mark goes to every downstream port (R321). -/
def State.sendMark (m : Mark) (s : State) : State := s.each s.downPorts fun p s => s.sendChunk p 1 (markChunk m)

/-! ### Sequence, reams, line periods (R39 to R41) -/

/-- R39, R44: a position or request is skipped and counted. -/
def State.skipOne (s : State) : State := (s.modTb fun t => { t with skip := t.skip + 1 }).bump 7 1

/-- Trigger `n` is a ream boundary (R40): on a slave where a mark says so, and where a mark is due by the ream size of
the marks but has failed to arrive (R321, assumption 76). -/
def State.isReam (s : State) (n : Nat) : Bool :=
  n % 2 ^ s.tb.reamK == 0 || (s.onLink && s.wl.mark.any (·.seq = n))

/-- R38: the series moved to its first position not behind W (`strict`: ahead of W). -/
def State.catchUp (strict : Bool) (s : State) : State :=
  let pitch := s.fu.inForce.pitch
  let w := s.tb.wf
  s.modTb fun t =>
    if Pos.ahead t.t w then t
    else
      let d := (w - t.t).toNat
      { t with t := t.t.move ((if strict then d / pitch + 1 else ceilDiv d pitch) * pitch : Nat) }

/-- t_line of a period whose trigger falls now (R41). -/
def State.lineTime (s : State) : Nat :=
  let u := s.fu.inForce
  if u.trigSrc = 1 then u.timePeriod
  else match s.tb.fresh, s.tb.lastTrig with
    | true, some l => min (s.now - l) 0xFFFFFFFF
    | _, _ =>
      if u.trigSrc = 2 then u.timePeriod
      else
        let v := s.speedQ
        if v.1 = 0 then 0xFFFFFFFF else min (ceilDiv (u.pitch * v.2) v.1) 0xFFFFFFFF

/-- t_exp of a field for a line period of `t` ticks (R41). -/
def Furnish.expoTime (u : Furnish) (f t : Nat) : Nat :=
  min (max (roundHalfUp (u.get (R.tbsExpo f) * t) 65536).toNat u.expoMin) (t - 30)

/-! ### FLT_CEIL (R412, R416) -/

/-- d_top of R412. -/
def Furnish.dTop (u : Furnish) : Nat := (([0, 1, 2].filter u.prodOn).map u.depth).foldl max 0

/-- THM_TUNE.MIN_DEPTH as it is taken (R422). -/
def State.minDepth (s : State) : Nat := clampNat 1 24 (s.fget R.thmTuneMinDepth)

/-- The ceiling target (R416). -/
def State.ceilTarget (s : State) : Nat :=
  let k := s.thm.level - 2
  if k = 0 then 32 else max s.minDepth (s.fu.inForce.dTop - k)

/-- One step of FLT_CEIL. -/
def State.ceilStep (s : State) : State :=
  let t := s.ceilTarget
  s.modFelt fun f => { f with ceil := if f.ceil < t then f.ceil + 1 else if t < f.ceil then f.ceil - 1 else f.ceil }

/-! ### What a boundary changes in flight (R63, R64, R88) -/

/-- R63: FIELDS changes with lines in the array, those of the last 255 triggers. -/
def State.fieldBreak (s : State) : State :=
  let n := s.tb.nextSeq
  let s := s.markLines (fun l => decide (n ≤ l.line.seq + 255)) .fieldBreak
  let s := s.modTb fun t => { t with periods := t.periods.map fun p =>
    if t.nextSeq ≤ p.seq + 255 then { p with fieldBreak := true } else p }
  s.raise R.hbxEvtFieldBreak

/-- Rows of area frames in progress are released as they are, broke (R64). -/
def State.dropArea (s : State) : State :=
  let held := s.felt.areaHeld
  let s := s.modFelt fun f => { f with areaHeld := [], areaTodo := [] }
  let s := s.each held fun l s => s.releaseRow (·.mark .modeChange) l
  s.modHb fun h => { h with area := none, exposing := false }

/-- R64: MODE or DIR changes at trigger `n`. -/
def State.modeChange (n : Nat) (s : State) : State :=
  let now := s.now
  let s := (s.markLines (fun _ => true) .modeChange).modFelt fun f =>
    { f with lines := f.lines.map fun l => { l with closing := true },
             shells := f.shells.map fun l => { l with closing := true } }
  let s := s.dropArea
  (s.modHb fun h => { h with clearTo := some (now + 2000), cutSeq := n }).raise R.hbxEvtDiscard

/-- What a new furnish brings with it at its boundary `n`. Causes that fall at one trigger advance the grid epoch once each,
so that two start two epochs (R88; DESIGN CHOICE, assumption 75: the rule does not say whether they start one). -/
def State.furnishChange (old : Furnish) (n : Nat) (s : State) : State :=
  let u := s.fu.inForce
  let mode := old.area != u.area || old.reverse != u.reverse
  let fields := old.fields != u.fields
  let place := old.webMode != u.webMode
  let s := s.iff fields (·.fieldBreak)
  let s := s.iff mode (·.modeChange n)
  let s := s.iff (old.trigSrc != u.trigSrc) (·.modTb fun t => { t with fresh := false })
  s.modTb fun t => { t with epoch := t.epoch + b2n fields + b2n mode + b2n place }

/-! ### Membership and roles (R315, R324, R326 to R329) -/

/-- R327: the state of a head that is no member, from what its upstream brings. -/
def State.baseMember (s : State) : Member :=
  let q := s.port s.upPort
  if q.state ≠ .up ∨ s.wl.lastPkt.isNone then .unfed
  else if q.lamOk ∧ s.wl.mark.isSome ∧ s.fu.inForce.trigSrc = 3 ∧ s.wl.hops < 17 then .aligned
  else .fed

/-- A head that is no member takes the state that holds now. -/
def State.refreshMember (s : State) : State :=
  match s.wl.member with
  | .unfed | .fed | .aligned =>
    let m := s.baseMember
    s.modWl fun w => { w with member := m }
  | _ => s

/-- The role requested (R315). -/
def State.roleReq (s : State) : Role :=
  match s.fget R.wlkCtrlRoleReq with | 1 => .source | 2 => .standby | _ => .slave

/-- The role that a request has come to: a standby source that has taken over stays the source until another role is
requested (R326). -/
def State.roleDue (s : State) : Role := if s.wl.took && s.roleReq == .standby then .source else s.roleReq

/-- The position of the own ENC0 in 1/4,096 wc (R326). -/
def State.enc0Pos (s : State) : Int := s.tb.encs[(0 : Fin 2)].edges * (s.fu.inForce.edge false : Int)

/-- Downstream ports that a leave or a reset had idled train again (R328, R432). -/
def State.wakeDown (s : State) : State :=
  s.each s.downPorts fun p s => s.iff ((s.port p).state == .idle && !(s.port p).partnerSec) (·.beginTraining p)

/-- The head takes its web count from its own encoder, anchored at the present W, at the speed it had (R315). -/
def State.becomeSource (s : State) : State :=
  let v := s.wl.speed / 16
  let k := s.fu.inForce.reamK
  let id := BitVec.ofNat 16 (s.fget R.wlkHeadId)
  let s := s.modWl fun w =>
    { w with role := .source, member := .source, onSec := false, hops := 0, upHold := false, upCoast := false,
             follow := false, source := id, parent := id, joinRef := false, roleRef := false }
  s.wakeDown.modTb fun t =>
    if t.runOn then { t with runOn := false, reamK := k }
    else
    { t with reamK := k, q := t.wf.toNat, m := t.wf.toNat, intervals := [], rate := v, heldRate := some v, tAdv := none,
             tLast := none, revSeen := false, mode := if t.mode = .lost then .tracking else t.mode }

/-- A source becomes a slave or standby source (R315): with an upstream port up and MEMBER set it goes on as a member, W at
its last speed until the first valid packet of the new source, which is the reference event of R48; the holdover counts
from here. Otherwise it is no member and joins under R328 (DESIGN CHOICE, assumption 76). -/
def State.leaveSource (r : Role) (s : State) : State :=
  let now := s.now
  let speed := s.speed16
  let s := s.modWl fun w => { w with role := r, sourceOk := false, took := false, mark := none, refused := false }
  if (s.port s.upPort).state = .up ∧ s.flag R.wlkCtrlMember then
    (s.modWl fun w =>
      { w with member := .member, roleRef := true, lastPkt := some now, speed := speed }).modTb fun t =>
        { t with rate := speed / 16 }
  else (s.modWl fun w => { w with member := .unfed, lastPkt := none, roleRef := true }).refreshMember

/-- A role comes into force; the head's W meets the reference event of R48 from its new source (R315). -/
def State.takeRole (r : Role) (s : State) : State :=
  if r = s.wl.role then s
  else if r = .source then
    let marked := s.coastingNow
    let s := s.becomeSource
    if s.curOn R.tbsCtrlZref ∧ s.cur R.tbsEncEpr ≠ 0 ∧ s.tb.zLast.isSome then
      s.modTb fun t => { t with mode := .returning }
    else s.reference 0 marked
  else if s.wl.role = .source then s.leaveSource r
  else s.modWl fun w => { w with role := r }

/-- R326: a standby source whose stream coasts, silent or carrying COAST, takes over, if its encoder delivers edges and it
is not leaving. -/
def State.takeOver (s : State) : State :=
  if s.wl.role = .standby ∧ (s.wl.member = .coasting ∨ s.wl.member = .member ∧ s.wl.upCoast) ∧ s.encRuns false then
    let d := Pos.diff (BitVec.ofInt 60 (s.enc0Pos + s.wl.standOff)) s.tb.wf
    let s := s.becomeSource
    ((s.reference d true).modWl fun w => { w with took := true }).raise R.wlkEvtTakeover
  else s

/-- R324: after a whole ream of a good primary, the head returns to it. -/
def State.revert (s : State) : State :=
  let p := s.port (Fin.ofNat 4 (s.fget R.wlkCtrlUpPri))
  let good := p.state == .up && p.lamOk
  let back := s.wl.onSec && good && decide (1 ≤ s.wl.primUp) && s.flag R.wlkCtrlRevert
  s.modWl fun w =>
    { w with primUp := if good then w.primUp + 1 else 0, onSec := w.onSec && !back,
             joinRef := w.joinRef || back, sourceOk := w.sourceOk && !back }

/-- Packets that complete at a ream boundary (R315, R329). -/
def State.reamDone (s : State) : State :=
  let l := s.cmd.atReam
  s.each l fun p s => s.done p 0 0 0

/-- Packets that act at once on a head without ream boundaries: all but a WL_MEMBER that joins (R329). -/
def State.roleDone (s : State) : State :=
  let l := s.cmd.atReam.filter fun r => match s.packet r with
    | some p => !(p.op == 0x0304 && p.par 0 1 % 2 == 0)
    | none => true
  s.each l fun p s => s.done p 0 0 0

/-- R329: a leaving member is at its ream boundary: no further trigger; its downstream ports, up or looking for a partner,
go to electrical idle. -/
def State.leaveNow (s : State) : State :=
  let s := s.each s.downPorts fun p s =>
    match (s.port p).state with
    | .up | .training | .absent => s.idlePort p
    | _ => s
  let s := s.modWl fun w => { w with member := .fed, follow := true }
  let s := s.modTb fun t => { t with held := none, heldPos := none, fresh := false }
  (s.refreshMember.raise R.wlkEvtLeft).reamDone

/-- R321: at a slave's boundary `n`, crossed at `pos`: the mark gives k; a mark that failed to arrive is a mismatch; a
mismatch found before is ended by reanchoring. -/
def State.meetMark (n : Nat) (pos : Pos) (s : State) : State :=
  if !s.onLink then s
  else match s.wl.mark with
    | some m =>
      if m.seq = n then
        let s := s.modTb fun t => { t with reamK := m.k }
        if s.wl.mismatch then
          let d := Pos.diff m.t pos
          let pitch := s.fu.inForce.pitch
          let s := (s.modTb fun t => { t with t := m.t.move pitch }).modWl fun w => { w with mismatch := false }
          s.reference d s.coastingNow
        else s
      else (s.raiseAlarm R.wlkEvtEpochMismatch).modWl fun w => { w with mismatch := true }
    | none => (s.raiseAlarm R.wlkEvtEpochMismatch).modWl fun w => { w with mismatch := true }

/-! ### Ream boundaries (R40, R48, R104) -/

/-- R104: the means of the ream that ends, due on the stock stream, rounded half up and saturated to the signed 16 bits of
the packet's fields (assumption 34). A block that gave no clamp has no mean: a free value. -/
def State.darkDue (n : Nat) (s : State) : State :=
  let s := s.iff s.felt.due.isSome (·.sendDark 0)
  let base := s.free
  let means := (List.range 32).map fun i =>
    match s.felt.dcnt[i]?, s.felt.dsum[i]? with
    | some (c + 1), some t => clampInt (-0x8000) 0x7FFF (roundHalfUp t (c + 1))
    | _, _ => signed 16 (Config.freeWord (base + i)).toNat
  let r := s.tb.ream.toNat % 2 ^ 16
  let s := s.modFelt fun f => { f with due := some (r, n, means), dsum := vrep 32 0, dcnt := vrep 32 0 }
  { s with free := base + 32 }

/-- R48: a resynchronisation that waits acts at this boundary, unless its reference event falls on this tick (R49). -/
def State.resync (s : State) : State :=
  if s.tb.refTick = some s.now then s
  else if s.tb.mode = .resyncFwd then
    let w0 := s.wc
    let s := s.modTb fun t =>
      { t with wf := t.wf.move t.slewLeft, q := t.q + t.slewLeft, m := t.m + t.slewLeft, mode := .tracking,
               slewLeft := 0, slewWeb := 0, epoch := t.epoch + 1, fresh := false }
    let s := (s.crossX w0 s.wc).steppedPast w0 s.wc
    ((s.catchUp true).raise R.tbsStatResync).trace 0x0C 0 (BitVec.ofInt 32 s.tb.slewD)
  else if s.tb.mode = .resyncHold then
    let s := s.modTb fun t =>
      { t with q := t.q + t.slewLeft, m := t.m + t.slewLeft, mode := .holding, epoch := t.epoch + 1, fresh := false }
    ((s.raise R.tbsStatResync).raise R.tbsStatGap).trace 0x0C 1 (BitVec.ofInt 32 s.tb.slewD)
  else s

/-- What falls at ream boundary `n`, crossed at `pos` (R40, R71, R104, R315, R321, R324, R326); `join` at the boundary
at which the head joins, where the counts have been loaded. -/
def State.reamBoundary (n : Nat) (pos : Pos) (join : Bool) (s : State) : State :=
  let s := s.iff (s.tb.raised && !join) fun s => (s.darkDue n).modTb fun t => { t with ream := t.ream + 1 }
  let s := s.modTb fun t => { t with reamSeq := n, reamLog := ((t.ream.toNat, n) :: t.reamLog).take 8 }
  let s := s.modPen fun p => { p with reams := p.reams + 1 }
  let s := (s.bump 5 1).activateSlices n
  let s := s.iff (!join) fun s =>
    let r := s.roleDue
    ((((s.meetMark n pos).modWl fun w => { w with took := w.took && r == .source }).takeRole r).takeOver).revert
  s.resync.reamDone

/-! ### A trigger (R37 to R41) -/

/-- R48, R321: lines that start now lie between a reference event and its boundary. -/
def State.resyncing (s : State) : Bool :=
  s.tb.mode == .resyncFwd || s.tb.mode == .resyncHold || s.wl.mismatch

/-- The record of the line period that begins now with trigger `n`. -/
def State.openPeriod (n : Nat) (early : Bool) (s : State) : State :=
  let u := s.fu.inForce
  let now := s.now
  let f := n % u.fields
  let tl := s.lineTime
  let te := u.expoTime f tl
  let base := match s.tb.window with | some w => max now (w + 30) | none => now
  let clear := s.hb.clearTo.any (now < ·)
  let p : Period :=
    { seq := n, trig := now, field := f, fields := u.fields, tLine := tl, tExp := te, base := base,
      planned := base + u.expoStart tl te, early := early, resync := s.resyncing,
      makes := !clear && s.thm.stop == .none, furnish := u.id, gens := s.fu.gens, epoch := s.tb.epoch,
      ream := s.tb.ream.toNat, ceil := s.felt.ceil, optPitch := u.optPitch, adcDroop := s.tb.droopNext,
      bySeq := !u.webMode, rev := u.reverse }
  (s.modTb fun t =>
    { t with periods := (p :: t.periods).take 320, tLine := tl, lastTrig := some now, fresh := true, window := none,
             droopNext := false, nextSeq := n + 1, raised := true, raisedRdy := true, held := none,
             heldPos := none }).modHb fun h => { h with clearTo := if clear then h.clearTo else none }

/-- R431: the slices whose start-up check failed fail in the first line period after READY. -/
def State.failLate (s : State) : State :=
  let due := s.rst.failDue
  (s.modRst fun r => { r with failDue := [] }).each due fun e s => s.failSlice e.1 e.2

/-- R294: the read-only fields that apply at a line take their values at its trigger (R106, R205). -/
def State.latchSeen (s : State) : State :=
  (s.modReel fun r => { r with tailSeen := r.tailWc, headSeen := r.headWc }).modFelt fun f =>
    { f with deltaSeen := f.delta }

/-- R114, R321: REAM_K as it will be at the ream boundary `n`, whose trigger position is `pos`, by the commits accepted so
far: those that will have reached their boundary line by then, in order. A commit accepted after the mark has gone out is
not in it (DESIGN CHOICE, assumption 76). -/
def State.reamKAt (pos : WC) (s : State) : Nat :=
  let met (c : Commit) : Bool := match c.kind with
    | .webCount => c.reached || (s.fu.inForce.webMode && !WC.behind pos c.x)
    | _ => true
  let ready := (s.fu.commits.takeWhile fun c => c.stage != .checking && met c)
  let first := ready.takeWhile fun c => c.kind != .nextReam
  match (first ++ (ready.drop first.length).take 1).getLast? with
  | some c => c.furnish.reamK
  | none => s.fu.inForce.reamK

/-- Trigger n is raised: `pos` is the trigger position (W where the source has none); `early` if R39 held it; `join` at
a join, where the counts have been loaded. -/
def State.raiseTrigger (pos : Pos) (early join : Bool) (s : State) : State :=
  let s := s.iff s.tb.window.isNone (·.preTrigger)
  let n := s.tb.nextSeq
  let ream := s.isReam n
  let s := (s.passUnplaced n).dropShells n
  let old := s.fu.inForce
  let wasWeb := old.webMode
  let s := (s.applyFurnish n ream).endStreams.latchSeen
  let u := s.fu.inForce
  let s := s.modTb fun t =>
    { t with t := if wasWeb && t.t == pos.move old.pitch then pos.move u.pitch else t.t,
             coastRun := if t.mode = .coasting ∨ s.fedCoast then t.coastRun + 1 else t.coastRun }
  let s := s.furnishChange old n
  let s := s.iff ream (·.reamBoundary n pos join)
  let s := s.iff (u.webMode && !wasWeb) (·.catchUp false)
  let s := s.ceilStep
  let s := ((s.openPeriod n early).coastPeriod.bump 0 1).modPen fun p => { p with trigs := p.trigs + 1 }
  let s := s.modThm fun t => { t with droopFrom := t.droopFrom.filter (n < · + 2) }
  let made := (s.period n).any (·.makes)
  let s := ((s.births n).wakeAndIdle n).failLate
  let s := s.iff (u.area && made) (·.frameTrigger n)
  let next := n + 1
  let s := s.distribute (if u.webMode then s.tb.t.wc else s.wc) (s.isReam next)
  -- R321: the mark of the ream that starts 32 lines on
  s.iff (s.wl.role == .source && (n + 32) % 2 ^ s.tb.reamK == 0) fun s =>
    let t := s.tb.t.move (31 * u.pitch : Nat)
    s.sendMark { k := s.reamKAt t.wc, seq := n + 32, t := t, ream := s.tb.ream + 1 }

/-- A leaving head at its boundary raises no trigger (R329); any other does. -/
def State.triggerOrLeave (pos : Pos) (early : Bool) (s : State) : State :=
  if s.wl.member = .leaving ∧ s.isReam s.tb.nextSeq then s.leaveNow else s.raiseTrigger pos early false

/-- R39: a crossing, period or request: raised, held until 1,000 ticks after the trigger before, or skipped. -/
def State.crossing (pos : Pos) (s : State) : State :=
  if s.tb.held.isSome then (s.skipOne).raise R.tbsStatOverspeed
  else match s.tb.lastTrig with
    | some l =>
      if s.now < l + 1000 then s.modTb fun t => { t with held := some (l + 1000), heldPos := some pos }
      else s.triggerOrLeave pos false
    | none => s.triggerOrLeave pos false

/-! ### Join (R328) -/

/-- The compensated position of the upstream now: the latest one, advanced at its speed. -/
def State.upstreamNow (s : State) : Pos :=
  match s.wl.lastPkt with
  | some t => s.wl.upPos.move ((s.wl.speed * (s.now - t) / 16 : Nat) : Int)
  | none => s.wl.upPos

/-- WLK_HOLDOVER as R335 takes it. -/
def State.holdover (s : State) : Nat := max 64 (s.fget R.wlkHoldover)

/-- R323: the stream in use has brought no valid packet for the holdover. -/
def State.holdoverPast (s : State) : Bool := s.wl.lastPkt.any fun t => decide (t + s.holdover ≤ s.now)

/-- An aligned head at the boundary of the mark it holds (R328), S formed with the mark's k. A head that is refused, or
whose stream is silent (R336), stays aligned and waits for the next mark. -/
def State.join (m : Mark) (s : State) : State :=
  let p := s.upstreamNow
  let d := Pos.diff p s.tb.wf
  let stay (s : State) : State := s.modWl fun w => { w with refused := true }
  let lim := (s.modTb fun t => { t with reamK := m.k }).slewLimit
  if s.holdoverPast then stay s
  else if m.seq < s.tb.nextSeq ∨ m.ream.toNat < s.tb.ream.toNat ∨ d < -lim then (stay s).raise R.wlkEvtSeqBehind
  else
    let pitch := s.fu.inForce.pitch
    let s := s.modTb fun t =>
      { t with wf := if 0 ≤ d then p else t.wf, mode := .tracking, runOn := false, nextSeq := m.seq, ream := m.ream, reamK := m.k,
               t := m.t.move pitch, fresh := false }
    let s := s.modWl fun w =>
      { w with member := .member, follow := false, mismatch := false, joinSeq := m.seq, roleRef := false, joinRef := false }
    let s := s.iff (decide (d < 0)) (·.reference d s.coastingNow)
    (s.wakeDown.raiseTrigger m.t false true).raise R.wlkEvtJoined

/-! ### The commands -/

/-- R44, R47, R48: no trigger is raised, from any source, while the timebase is lost, while Q is below M (on a slave,
while the upstream W holds for a reversal), or while W holds for a resynchronisation. -/
def State.triggersStopped (s : State) : Bool :=
  s.tb.mode == .lost || (if s.onLink then s.wl.upHold else s.tb.reversed) || s.tb.mode == .holding

/-- R44: DIR_REV was set in the excursion, and the position `p` does not lie beyond M + TBS_REVERSE_HYST. -/
def State.withinHyst (p : Pos) (s : State) : Bool :=
  s.tb.revSeen && (!s.onLink || !Pos.ahead p (BitVec.ofInt 60 s.tb.revLimit))

/-- R44, R47, R48 for the sources that raise triggers at W itself. -/
def State.triggersBarred (s : State) : Bool := s.triggersStopped || s.withinHyst s.tb.wf

/-- LINE_TRIGGER (R38): W, with its fraction bits, has reached T_n (assumption 75). Under other sources, before READY
and while no trigger may be raised the position passes; an aligned head joins at its mark (R328). -/
def State.lineTrigger (s : State) : State :=
  let u := s.fu.inForce
  let pass (s : State) : State := s.modTb fun t => { t with t := t.t.move u.pitch }
  if s.wl.member = .aligned then
    match s.wl.mark with
    | some m =>
      if s.triggersOn ∧ s.flag R.wlkCtrlMember ∧ ¬ s.wl.refused ∧ ¬ Pos.behind s.upstreamNow m.t then s.join m else s
    | none => s
  else if !s.producing || Pos.ahead s.tb.t s.tb.wf then s
  else if !s.rst.ready || !u.webMode || s.thm.stop == .draining then pass s
  else if s.triggersStopped then s
  else if s.withinHyst s.tb.t || s.coreSlow then (pass s).skipOne
  else
    let pos := s.tb.t
    (pass s).crossing pos

/-- LINE_TRIGGER (R38). -/
def execLineTrigger (s : State) : Answer := .next s.lineTrigger

/-- TIME_MODE_TRIGGER (R37); one that falls due while triggers are stopped waits (assumption 26). -/
def execTimeModeTrigger (s : State) : Answer :=
  .next (if s.fu.inForce.trigSrc = 1 ∧ s.triggersOn ∧ s.producing ∧ s.timeDue ≤ s.now ∧ ¬ s.triggersBarred then
    s.crossing s.tb.wf
  else s)

/-- EXTERNAL_TRIGGER (R37, R347): the trigger of a request of the pin engine is due; while triggers are stopped it is
skipped (R44, assumption 26). -/
def execExternalTrigger (s : State) : Answer :=
  .next (match s.tb.extDue with
    | t :: rest =>
      if s.now < t then s
      else
        let s := s.modTb fun t => { t with extDue := rest }
        if s.fu.inForce.trigSrc = 2 ∧ s.triggersOn ∧ s.producing then
          if s.triggersBarred then s.skipOne else s.crossing s.tb.wf
        else s
    | [] => s)

/-- HELD_TRIGGER (R39): 1,000 ticks have passed since the trigger before. While triggers are stopped it stays held. -/
def execHeldTrigger (s : State) : Answer :=
  .next (match s.tb.held with
    | some t =>
      if s.now < t then s
      else
        let pos := s.tb.heldPos.getD s.tb.wf
        if s.triggersOn ∧ s.producing then if s.triggersBarred then s else s.triggerOrLeave pos true
        else s.modTb fun t => { t with held := none, heldPos := none }
    | none => s)

end Sys2Proof.Machine
end

