-- ==== Sys2Proof/Machine/Output.lean ====
section
/-! DEFINITION. The output formatter (R158 to R172, R467): sheet words, watermarks, the V, P and K streams, selection,
length faults, and the seam copies of R333. -/

namespace Sys2Proof.Machine

/-! ### Words (R158 to R160) -/

/-- Components packed 10 bits each, component 0 lowest. -/
def packCodes : List Nat → Nat
  | [] => 0
  | c :: t => c % 1024 + 1024 * packCodes t

/-- A sheet word with its word stamp (R158). -/
def sheetWord (idx seq : Nat) (codes : List Nat) : Nat :=
  packCodes (codes.take 24) + 2 ^ 240 * (idx % 1024 + 1024 * (seq % 64))

/-- The payload of a line of components, 24 to a word. -/
def sheetBytes (seq : Nat) (codes : List Nat) : List Byte :=
  ((chunks 24 codes).mapIdx fun i c => leBytes 32 (sheetWord i seq c)).flatten

/-- A lin20 payload word (R102): 12 pixels of 20 bits, the word index, L mod 32. -/
def lin20Word (idx seq : Nat) (px : List Nat) : Nat :=
  (px.take 12).foldr (fun v n => v % 2 ^ 20 + 2 ^ 20 * n) 0 + 2 ^ 240 * (idx % 2048 + 2048 * (seq % 32))

/-- The watermark (R160). -/
def watermark (l : Line) (head stream flags : Nat) : List Byte :=
  leBytes 6 l.seq ++ leBytes 6 l.wc.toNat ++ leBytes 2 head ++ leBytes 1 (l.field + 4 * l.prod + 16 * stream) ++
    leBytes 2 l.furnish.toNat ++ leBytes 2 flags ++ leBytes 1 l.depth ++ leBytes 8 l.tick ++ [0, 0, 0, 0]

/-! ### The stock stream (R101, R102, R104) -/

/-- DTYPE (R102): field, format, kind (0 line, 1 watermark, 2 statistics). -/
def Line.dtype (l : Line) (kind : Nat) : Nat := l.field % 4 + 4 * b2n l.ply10 + 8 * kind

/-- The header word of a packet of a line (R101) with `len` payload words. -/
def Line.header (l : Line) (kind len : Nat) : Nat :=
  ofLeBytes (leBytes 1 (l.dtype kind) ++ leBytes 1 l.prod ++ leBytes 2 len ++ leBytes 6 l.seq ++
    leBytes 2 l.furnish.toNat ++ leBytes 2 l.flags.word ++ leBytes 1 l.depth ++ leBytes 1 (l.hbin / 2) ++
    leBytes 2 l.word0 ++ leBytes 2 l.cause.toNat ++ leBytes 6 l.wc.toNat ++ leBytes 2 l.row ++ leBytes 1 l.epoch)

/-- The payload words of a line packet: 12 lin20 pixels or 24 ply codes to a word. -/
def Line.payload (l : Line) : List Nat :=
  if l.ply10 then (chunks 24 l.pix).mapIdx fun i c => sheetWord i l.seq c
  else (chunks 12 l.pix).mapIdx fun i c => lin20Word i l.seq c

/-- Word `i` of a statistics packet (R104): the means of blocks 15 i to 15 i + 14, and the ream index. -/
def darkWord (ream : Nat) (means : List Int) (i : Nat) : Nat :=
  ((means.drop (15 * i)).take 15).foldr (fun v n => unsigned 16 v + 2 ^ 16 * n) 0 + 2 ^ 240 * (ream % 2 ^ 16)

/-- The header word of a statistics packet: DTYPE (field 0, kind 2), VC, LEN, and bits that no rule gives. -/
def darkHeader (vc ream : Nat) : Nat := (8 * 2 + 2 ^ 8 * (vc % 4) + 2 ^ 16 * 3) + 2 ^ 32 * (Config.statHeader ream % 2 ^ 224)

/-- The 256-bit words with which an item stands on the stock stream: a line packet and its watermark packet, or a
statistics packet. -/
def StockItem.words : StockItem → List Nat
  | .line l =>
    l.header 0 l.payload.length :: l.payload ++ [l.header 1 1, ofLeBytes (watermark l l.head.toNat 0 l.flags.word)]
  | .dark vc ream means => darkHeader vc ream :: (List.range 3).map (darkWord ream means)

/-! ### P (R163) -/

/-- t[i] of R163: the largest n up to 255 with `255 srgb((i + 1/2) / 4096) ≥ n − 1/2`, in exact integers. -/
def srgbByte (i : Nat) : Nat :=
  if (2 * i + 1) * 10000000 ≤ 31308 * 8192 then (roundHalfUp (329460 * (2 * i + 1 : Nat)) 819200).toNat
  else ((List.range 255).filter fun m =>
    decide (((2 * m + 1) * 1000 + 28050) ^ 12 * 8192 ^ 5 ≤ (2 * i + 1) ^ 5 * 538050 ^ 12)).length

/-- One byte of a P pixel from eight values. -/
def pByte (white : Nat) (v : List Nat) : Nat :=
  if v.contains fullScale then 255 else srgbByte (min 4095 (4096 * ((v.sum + 4) / 8) / max 1 white))

/-- Component `k` of the pixels of a list of components. -/
def channel (n k : Nat) (x : List Nat) : List Nat := (chunks n x).map (comp · k)

/-- The payload of a P line, filled with zeros to whole words. -/
def pBytes (white n : Nat) (x : List Nat) : List Byte :=
  let groups := x.length / n / 8
  let bs := (List.range groups).flatMap fun j =>
    let px := (x.drop (8 * n * j)).take (8 * n)
    [0, 1, 2].map fun c => BitVec.ofNat 8 (pByte white (channel n (if n = 3 then c else 0) px))
  fit (32 * ceilDiv bs.length 32) bs

/-! ### K (R164) -/

/-- E[i] of R164: the largest n up to 1,023 with `1023 oetf((i + 1/2) / 4096) ≥ n − 1/2`, in exact integers. -/
def oetfCode (i : Nat) : Nat :=
  if (2 * i + 1) * 1000 < 18 * 8192 then (roundHalfUp (46035 * (2 * i + 1 : Nat)) 81920).toNat
  else ((List.range 1023).filter fun m =>
    decide (((2 * m + 1) * 1000 + 202554) ^ 20 * 8192 ^ 9 ≤ (2 * i + 1) ^ 9 * 2248554 ^ 20)).length

def kCode (white v : Nat) : Nat := if v = fullScale then 1023 else oetfCode (min 4095 (4096 * v / max 1 white))

/-- Two values averaged, upwards on ties. -/
def mid (a b : Nat) : Nat := (a + b + 1) / 2

/-- The pixels of K: each a list of components, halved where HALF is set. -/
def kPixels (half : Bool) (n : Nat) (x : List Nat) : List (List Nat) :=
  if half then (chunks 2 (chunks n x)).map fun p =>
    (List.range n).map fun k =>
      let a := comp (p[0]?.getD []) k
      let b := comp (p[1]?.getD []) k
      if a = fullScale ∨ b = fullScale then fullScale else mid a b
  else chunks n x

/-- One row of OUT_K_MAT on three e (R164). -/
def Furnish.kRow (u : Furnish) (r : Nat) (e : List Nat) : Nat :=
  let sum := ((List.range 3).map fun k => signed 16 (u.get (R.outKMatCoef r k)) * (comp e k : Int)).sum
  (clampInt 4 1019 (roundHalfUp sum 4096 + u.get (R.outKMatOfs r))).toNat

/-- The components of a K line: Cb, Y, Cr, Y of each pixel pair. -/
def Furnish.kCodes (u : Furnish) (white n : Nat) (x : List Nat) : List Nat :=
  let e := (kPixels (u.on R.outKCtrlHalf) n x).map fun p =>
    [0, 1, 2].map fun k => kCode white (comp p (if n = 3 then k else 0))
  (chunks 2 e).flatMap fun pair =>
    let a := pair[0]?.getD []
    let b := pair[1]?.getD []
    let m := [0, 1, 2].map fun k => mid (comp a k) (comp b k)
    [u.kRow 1 m, u.kRow 0 a, u.kRow 2 m, u.kRow 0 b]

/-! ### Selection (R165, R166, R172, R415) -/

/-- The level that a selection now sees: in the tick of a step the one before it (R166, R172). -/
def State.pkLevel (s : State) : Nat :=
  match s.thm.stepped with
  | some (t, was) => if t = s.now then was else s.thm.level
  | none => s.thm.level

/-- The factor on every P and K period at the level in force (R415). -/
def State.pkFactor (s : State) : Nat := match s.pkLevel with | 0 => 1 | 1 => 4 | _ => 16

/-- Stream `k` of a line is selected, and the record of the selection afterwards. -/
def State.select (u : Furnish) (l : Line) (k : Nat) (s : State) : Bool × State :=
  let idx := streamIdx l.prod l.field k
  let since := u.since[idx]?.getD 0
  let old := s.fmt.sel.find? fun e => e.stream = idx && e.since = since
  let period := s.pkFactor * if k = 1 then u.pPeriod else u.kPeriod
  let rows := u.areaGroups.length
  -- in area mode the first row decides for its frame
  let later := l.prod == 3 && u.areaGroups.head? != some l.row
  let ok := match old with
    | none => !later
    | some e =>
      if later then e.frame == some l.seq
      else decide (e.tick + period * (if l.prod = 3 then rows else 1) ≤ l.tick)
  if ok then
    (true, s.modFmt fun t =>
      { t with sel := { stream := idx, tick := l.tick, since := since, frame := some l.seq } ::
          t.sel.filter (·.stream != idx) })
  else (false, s)

/-! ### Delivery (R167) -/

/-- A line of stream `k` goes to the channel it is bound to, or BIND_CLASS is set. -/
def State.bind (u : Furnish) (l : Line) (k : Nat) (bytes : List Byte) (s : State) : State :=
  if !u.binds l.prod l.field k then s
  else
    let dc := u.get (R.outStreamDc l.prod l.field k)
    if s.chClass dc = (if k = 0 then 2 else 3) then
      s.handUnit (Fin.ofNat 16 dc)
        { kind := match k with | 0 => .vline | 1 => .pline | _ => .kline,
          seq := l.seq, wc := l.wc, broke := l.flags.broke, bytes := bytes }
    else s.raise R.outEvtBindClass

/-- A formed line is counted. -/
def State.formed (k : Nat) (bytes : List Byte) (s : State) : State := (s.bump (0x80 + k) 1).bump 0x83 (bytes.length / 32)

/-- A seam segment (R330): product, field and side, SEQ, the index of the word, with bit 7 for the watermark, and the
word (assumption 41). -/
def seamChunk (l : Line) (right : Bool) (idx : Nat) (last : Bool) (word : List Byte) : BitVec 432 :=
  chunkOf (leBytes 1 7 ++ leBytes 1 (l.prod + 4 * l.field + 16 * b2n right) ++ leBytes 6 l.seq ++
    leBytes 1 (idx + 128 * b2n last) ++ List.replicate 11 0 ++ word)

/-- SEAM_COPY_SEND (R333): the first or last words of a V line, and its watermark, go out of a port. -/
def State.sendSeam (u : Furnish) (l : Line) (bytes : List Byte) (s : State) : State :=
  if u.seamProd != l.prod || !bitOf (BitVec.ofNat 4 (u.get R.wlkSeamFields)) l.field then s
  else
    let words := chunks 32 bytes
    let pay := words.dropLast
    let n := u.get R.wlkSeamWordsM1 + 1
    let wm := words.getLast?.getD []
    let copy (right : Bool) (p : Nat) (ws : List (List Byte)) (s : State) : State :=
      let s := s.each (ws.zipIdx) fun (w, i) s => s.sendChunk (Fin.ofNat 4 p) 5 (seamChunk l right i false w)
      s.sendChunk (Fin.ofNat 4 p) 5 (seamChunk l right ws.length true wm)
    let s := s.iff (u.on R.wlkSeamTxL) (copy false (u.get R.wlkSeamPortL) (pay.take n))
    s.iff (u.on R.wlkSeamTxR) (copy true (u.get R.wlkSeamPortR) (pay.drop (pay.length - n)))

/-! ### Faults (R168, R169) -/

/-- One fault of a line: the line afterwards and the state; components missing are taken off, components too many are
added, an uncorrectable word's become 0. A codeword of the formatter's buffers holds 24 components: section 07 gives no
number (DESIGN CHOICE, assumption 75). -/
def outFault (l : Line) (f : OutFault) (s : State) : Line × State :=
  match f with
  | .short n => ({ l with pix := l.pix.take (l.pix.length - max 1 n) }, s)
  | .long n => ({ l with pix := l.pix ++ List.replicate (max 1 n) 0 }, s)
  | .noWatermark =>
    ({ (l.mark .wmRebuilt) with tick := 0, head := BitVec.ofNat 16 (s.fget R.wlkHeadId) }, s.raise R.outEvtWmRebuilt)
  | .headerLost => (l, s)
  | .wordCe => (l, (s.raise R.outEvtEccCe).count R.outCeCnt 1)
  | .wordUe w =>
    ({ (l.mark .outUe) with pix := l.pix.mapIdx fun i v => if i / 24 = w then 0 else v },
      (s.raise R.outEvtEccUe).count R.outUeCnt 1)

/-- The line brought to its nominal length. -/
def fitLine (n : Nat) (l : Line) (s : State) : Line × State :=
  if l.pix.length < n then
    ({ (l.pad.mark .outUe) with pix := l.pix ++ List.replicate (n - l.pix.length) 0 },
      (s.raise R.outEvtLenShort).count R.outShortCnt 1)
  else if n < l.pix.length then
    let l := l.mark .outUe
    ({ l with pix := l.pix.take n, flags := { l.flags with cut := true } },
      (s.raise R.outEvtLenLong).count R.outLongCnt 1)
  else (l, s)

/-! ### The command -/

/-- OUTPUT_LINE of a line: the streams that its birth furnish makes live. -/
def State.emitLine (u : Furnish) (l : Line) (rebuilt : Bool) (s : State) : State :=
  let head := l.head.toNat
  let flags := l.flags.word
  let s := if u.live l.prod l.field 0 then
      let v := sheetBytes l.seq (l.pix.map plyEncode) ++ watermark l head 0 flags
      let s := s.formed 0 v
      let s := s.iff (u.records l.prod l.field) (·.record l v)
      (s.bind u l 0 v).sendSeam u l v
    else s
  let thr := decide (s.pkFactor ≠ 1)
  let flags := ({ l.flags with throttled := l.flags.throttled || thr } : Flags).word
  let one (k : Nat) (payload : List Byte) (s : State) : State :=
    let bytes := payload ++ watermark l head k flags
    (s.formed k bytes).bind u l k bytes
  let stream (k : Nat) (payload : Unit → List Byte) (s : State) : State :=
    if !u.live l.prod l.field k || rebuilt then s
    else
      let (ok, s) := s.select u l k
      if ok then one k (payload ()) s else s
  let s := stream 1 (fun _ => pBytes (u.get (R.outPWhite l.prod)) l.ncomp l.pix) s
  stream 2 (fun _ => sheetBytes l.seq (u.kCodes (u.get (R.outKWhite l.prod)) l.ncomp l.pix)) s

/-- OUTPUT_LINE (R162 to R172): the oldest line of the formatter. -/
def State.outputLine (faults : List OutFault) (s : State) : State :=
  match s.fmt.queue with
  | [] => s
  | l :: t =>
    let s := s.modFmt fun f => { f with queue := t }
    if faults.contains .headerLost then
      let s := s.each faults fun f s => match f with | .wordCe | .wordUe _ => (outFault l f s).2 | _ => s
      ((s.raise R.outEvtHdrLost).count R.outLostCnt 1).trace 0x03 l.prod 0
    else
      let u := s.furnish l.furnish
      let (l, s) := faults.foldl (fun (l, s) f => outFault l f s) (l, s)
      let (l, s) := fitLine (u.width l.prod * l.ncomp) l s
      (s.emitLine u l (faults.contains .noWatermark)).finishCuts

/-- OUTPUT_LINE (R168). -/
def execOutputLine (faults : List OutFault) (s : State) : Answer := .next (s.outputLine faults)

end Sys2Proof.Machine
end

