-- ==== Sys2Proof/Machine/WebLink.lean ====
section
/-! DEFINITION. The web link (R311 to R336): ports, position packets, latency, holdover and failover, ream marks,
enumeration, messages and seam copies. Membership, roles and what a ream boundary does to them stand in
Machine/Trigger.lean. -/

namespace Sys2Proof.Machine

/-! ### Ports (R312 to R314, R324) -/

/-- The port carries valid traffic: up, with symbol lock on both lanes (R313). -/
def State.carries (s : State) (p : Fin 4) : Bool := (s.port p).state == .up && (s.port p).lock == 3

/-- Ports that carry position: upstream in use and downstream (R332). -/
def State.positionPorts (s : State) : List (Fin 4) :=
  (List.finRange 4).filter fun p => (s.port p).state == .up && ((s.onLink && p == s.upPort) || s.downPorts.contains p)

/-- A port starts to train (R312). -/
def State.train (p : Fin 4) (s : State) : State := (s.beginTraining p).refreshMember

/-- A port leaves electrical idle, or begins frames after training: latency is measured at once (R319, R324). -/
def State.beginFrames (p : Fin 4) (s : State) : State :=
  (s.onPort p fun q =>
    { q with lock := 3, lossAt := none, meas := [], fresh := false, frames := 0, echoDue := true }).setPort p .up

/-! ### Chunks that the model lays out (assumption 41) -/

def chunkBytesOf (c : BitVec 432) : List Byte := leBytes 54 c.toNat

def chunkType (c : BitVec 432) : Nat := bits c 0 8

/-- The CRC of R318 stands over a chunk's first 52 bytes. -/
def chunkGood (c : BitVec 432) : Bool := crc16 ((chunkBytesOf c).take 52) == bits c 416 16

/-- A received chunk of the type a step is for; a bad CRC or an unknown type is counted and ignored (R318, R330). -/
def State.rxChunk (p : Fin 4) (type : Nat) (c : BitVec 432) (f : State → State) (s : State) : State :=
  if !s.carries p then s
  else if !chunkGood c || decide (7 < chunkType c) then (s.count (R.wlkPBad p.val) 1).bump (0xB9 + 4 * p.val) 1
  else s.iff (chunkType c == type) f

/-- An echo request: the sender's time in 1/16 tick. -/
def echoChunk (t : Nat) : BitVec 432 := chunkOf (leBytes 1 2 ++ [0] ++ leBytes 8 t)

/-- An echo reply: the stamp and the time it was held. -/
def replyChunk (t hold : Nat) : BitVec 432 := chunkOf (leBytes 1 3 ++ [0] ++ leBytes 8 t ++ leBytes 8 hold)

/-- An enumeration reply: a count and up to six entries. -/
def enumChunk (es : List (BitVec 64)) : BitVec 432 :=
  chunkOf (leBytes 1 5 ++ leBytes 1 es.length ++ [0, 0] ++ es.flatMap fun e => leBytes 8 e.toNat)

/-- A message segment: destination, source, number, segment, length of the message, 32 data bytes. -/
def msgChunk (dest src num seg len : Nat) (data : List Byte) : BitVec 432 :=
  chunkOf (leBytes 1 6 ++ [0] ++ leBytes 2 dest ++ leBytes 2 src ++ leBytes 1 num ++ leBytes 1 seg ++ leBytes 1 len
    ++ List.replicate 11 0 ++ fit 32 data)

/-! ### Messages (R332) -/

/-- The segments of a message go out of every port that carries position, but one. -/
def State.flood (but : Option (Fin 4)) (rank : Nat) (cs : List (BitVec 432)) (s : State) : State :=
  s.each (s.positionPorts.filter fun p => but != some p) fun p s => s.each cs fun c s => s.sendChunk p rank c

/-- A message of this head is sent. -/
def State.sendMessage (dest : Nat) (data : List Byte) (s : State) : State :=
  let n := s.wl.msgNo.toNat
  let me := s.fget R.wlkHeadId
  let seg (i : Nat) : BitVec 432 := msgChunk dest me n i data.length ((data.drop (32 * i)).take 32)
  let s := s.modWl fun w => { w with msgNo := w.msgNo + 1 }
  s.flood none 4 (if data.length ≤ 32 then [seg 0] else [seg 0, seg 1])

/-- A WL_MESSAGE that waited for a port is sent (R276). -/
def State.tryMessage (s : State) : State :=
  match s.cmd.message with
  | some (r, _) =>
    if s.positionPorts.isEmpty then s
    else
      match s.packet r with
      | some p =>
        ((s.sendMessage (p.par 0 2) p.block).modCmd fun c => { c with message := none }).done r 0 0 0
      | none => s.modCmd fun c => { c with message := none }
  | none => s

/-- A complete message reaches the receive FIFO (R332). -/
def State.messageIn (src : Nat) (bcast : Bool) (data : List Byte) (s : State) : State :=
  if s.wl.fifo.length < 16 then
    (s.modWl fun w =>
      { w with fifo := w.fifo ++ [{ src := BitVec.ofNat 16 src, bcast := bcast, data := data }] }).raise R.wlkEvtMsgRx
  else s.raise R.wlkEvtMsgOvf

/-- An alarm record received from another head is logged with REMOTE set (R377): 32 bytes that are a log record with a
good CRC and SEV of 2 or 3. -/
def State.remoteAlarm (data : List Byte) (s : State) : State :=
  let n := ofLeBytes data
  let w := BitVec.ofNat 256 n
  let good := data.length == 32 && crc16 (data.take 30) == bits w 240 16 && decide (2 ≤ bits w 112 2)
  if good && s.flag R.mgtCtrlLogRemote then
    s.queueLog (bits w 96 16) (bits w 112 2) (bits w 32 64) (bits w 128 16) true false ((data.drop 20).take 10)
  else s

/-- MESSAGE_SEGMENT: flooded on; complete messages for this head are taken. -/
def State.segmentIn (p : Fin 4) (c : BitVec 432) (s : State) : State :=
  if !s.positionPorts.contains p then s
  else
    let s := s.flood (some p) 4 [c]
    let dest := bits c 16 16
    let src := bits c 32 16
    let num : BitVec 8 := c.extractLsb' 48 8
    let seg := bits c 56 8 % 2
    let len := min 64 (bits c 64 8)
    let data := ((chunkBytesOf c).drop 20).take 32
    let mine (m : MsgPart) : Bool := m.src.toNat == src && m.num == num
    if dest != s.fget R.wlkHeadId && dest != 0xFFFF then s
    else
      let got := if seg = 0 then (if len ≤ 32 then some (data.take len) else none)
        else (s.wl.parts.find? mine).map fun m => (m.data ++ data).take len
      let s := s.modWl fun w =>
        { w with parts := w.parts.filter (fun m => m.src.toNat != src) ++
            (if seg = 0 ∧ got.isNone then [{ src := BitVec.ofNat 16 src, num := num, data := data }] else []) }
      match got with
      | some d => (s.messageIn src (dest == 0xFFFF) d).remoteAlarm d
      | none => s

/-! ### Port events -/

/-- PORT_UP (R312): the TS2 sets have been exchanged, and frames begin. -/
def State.portUp (p : Fin 4) (partner : BitVec 16) (pp pol : BitVec 2) (swapped sec : Bool) (s : State) : State :=
  if (s.port p).state ≠ .training then s
  else
    let s := (s.sendSets true p).onPort p fun q =>
      { q with partner := partner, partnerPort := pp, pol := pol, swapped := swapped, partnerOk := true,
               partnerSec := sec, chunks := [] }
    ((s.beginFrames p).raise R.wlkEvtPortUp).refreshMember.tryMessage

/-- PRIMARY_FAILOVER (R324): the secondary is brought out of idle; it becomes the stream in use with its first valid
packet. -/
def State.failOver (p : Fin 4) (s : State) : State :=
  match s.secPort with
  | some q =>
    if s.wl.onSec || p != s.upPort then s
    else
      let s := s.modWl fun w => { w with failing := some q.val, primUp := 0 }
      if (s.port q).state = .idle then (s.emit (.burst q.val)).beginFrames q else s
  | none => s

/-- SYMBOL_LOCK_LOSS (R313). A port whose partner uses it as a secondary and on which both lanes have fallen silent
follows its partner into electrical idle (R324; DESIGN CHOICE, assumption 76). -/
def State.lockLoss (p : Fin 4) (lane : Nat) (s : State) : State :=
  let q := s.port p
  let lock := q.lock &&& ~~~((1 : BitVec 2) <<< lane)
  if q.state ≠ .up then s
  else if q.partnerSec ∧ lock = 0 then s.idlePort p
  else
    let now := s.now
    ((s.onPort p fun q => { q with lock := lock, lossAt := some (q.lossAt.getD now) }).primaryLapse p).failOver p

/-- SYMBOL_LOCK_GAIN (R313). -/
def State.lockGain (p : Fin 4) (lane : Nat) (s : State) : State :=
  match (s.port p).lossAt with
  | some t =>
    if (s.port p).state = .up ∧ s.now < t + 2000 then
      s.onPort p fun q =>
        let l := q.lock ||| ((1 : BitVec 2) <<< lane)
        { q with lock := l, lossAt := if l = 3 then none else q.lossAt }
    else s
  | none => s

/-- PORT_DOWN (R313): lock has not returned within 2 µs. -/
def State.portDown (p : Fin 4) (s : State) : State :=
  match (s.port p).lossAt with
  | some t =>
    if (s.port p).state = .up ∧ t + 2000 ≤ s.now then
      ((s.count (R.wlkPDown p.val) 1).raise R.wlkEvtPortDown).train p
    else s
  | none => s

/-- PORT_ABSENT (R312). -/
def State.portAbsent (p : Fin 4) (s : State) : State :=
  if (s.port p).state = .training then s.setPort p .absent else s

/-- ABSENT_PORT_RETRY (R312): in every 10 ms. -/
def State.portRetry (p : Fin 4) (s : State) : State :=
  if (s.port p).state = .absent ∧ (s.port p).trainAt + 10000000 ≤ s.now then s.train p else s

/-- SECONDARY_LAMBDA_CHECK (R324): once a second the idle secondary leaves idle. -/
def State.secCheck (s : State) : State :=
  let now := s.now
  match s.secPort with
  | some q =>
    if (s.port q).state = .idle ∧ ¬ s.wl.onSec ∧ (s.port q).outAt.all (· + 1000000000 ≤ now) then
      (s.onPort q fun c => { c with outAt := some now }).beginFrames q
    else s
  | none => s

/-- R324: the port is the secondary, and not the stream in use or coming into use. -/
def State.spare (p : Fin 4) (s : State) : Bool := s.secPort == some p && !s.wl.onSec && s.wl.failing != some p.val

/-- R324: the 20 µs for which the idle secondary measures λ are over. -/
def State.checkOver (p : Fin 4) (s : State) : Bool :=
  s.spare p && (s.port p).outAt.any fun t => decide (t + 20000 ≤ s.now)

/-- ELECTRICAL_IDLE_EXIT (R324). -/
def State.idleExit (p : Fin 4) (s : State) : State :=
  if (s.port p).state = .idle then (s.beginFrames p).refreshMember.tryMessage else s

/-! ### Frames (R311, R318) -/

/-- The position packet this head sends (R318). -/
def State.posPacket (s : State) : BitVec 192 :=
  let me := s.fget R.wlkHeadId
  let b := leBytes 8 s.tb.wf.toNat ++ leBytes 4 s.speed16 ++ leBytes 4 s.tb.ream.toNat
    ++ leBytes 2 (if s.onLink then s.wl.source.toNat else me) ++ leBytes 2 me
    ++ leBytes 1 (s.wl.hops % 32 + 32 * b2n (s.tb.mode == .coasting || s.tb.mode == .returning || s.tb.mode == .slewing)
        + 64 * b2n (s.tb.mode == .lost) + 128 * b2n s.tb.still)
    ++ leBytes 1 (b2n (if s.onLink then s.wl.upHold else s.tb.reversed))
  BitVec.ofNat 192 (ofLeBytes (b ++ leBytes 2 (crc16 b)))

/-- A field that carries no valid position packet: its bytes are not stated and are free (assumption 7). -/
def State.noPacket (s : State) : BitVec 192 :=
  BitVec.ofNat 192 (ofLeBytes ((List.range 6).flatMap fun i => leBytes 4 (Config.freeWord (s.free + i)).toNat))

/-- The chunk with the highest rank, the oldest among equals (R330). -/
def topChunk (l : List (Nat × BitVec 432)) : Option (Nat × BitVec 432) :=
  l.foldl (fun b c => match b with
    | some x => if c.1 < x.1 then some c else some x
    | none => some c) none

/-- FRAME_TRANSMIT (R318): an up port sends its packet and a chunk; a head that is too deep forwards nothing (R316). A
secondary whose 20 µs are over goes back to idle instead (R324). -/
def State.sendFrame (p : Fin 4) (s : State) : State :=
  if (s.port p).state ≠ .up then s
  else if s.checkOver p then (s.idlePort p).refreshMember
  else
    let deep := decide (16 < s.wl.hops)
    let pos := if deep then s.noPacket else s.posPacket
    let s := { s with free := s.free + (if deep then 6 else 0) }
    let top := topChunk (s.port p).chunks
    let now := s.now
    let c := match top with
      | some (_, c) => if chunkType c = 2 then echoChunk (16 * now) else c
      | none => chunkOf []
    let s := s.onPort p fun q =>
      { q with frames := q.frames + 1, chunks := match top with | some x => q.chunks.erase x | none => q.chunks }
    s.emit (.frame p.val pos c)

/-! ### Latency (R319) -/

/-- ECHO_SEND: every 16 frames. -/
def State.sendEcho (p : Fin 4) (s : State) : State :=
  let q := s.port p
  if q.state ≠ .up ∨ ¬ (q.echoDue ∨ 16 ≤ q.frames) then s
  else (s.onPort p fun q => { q with echoDue := false, frames := 0 }).sendChunk p 2 (echoChunk 0)

/-- The mean of eight measurements, where they lie within 1/16 tick of it. -/
def steadyMean (l : List Nat) : Option Nat :=
  if l.length = 8 ∧ l.all (fun m => decide (8 * m ≤ l.sum + 8) && decide (l.sum ≤ 8 * m + 8)) then
    some (roundHalfUp (l.sum : Int) 8).toNat
  else none

/-- The latest eight of a list of measurements. -/
def lastEight (l : List Nat) : List Nat := l.drop (l.length - 8)

/-- λ after a measurement `m`: it becomes valid with eight steady ones, is taken anew with the first eight after frames
begin (R324) and every 256 echoes (4,096 frames), and is invalid once a measurement departs by more than 1/8 tick. -/
def Port.measure (m : Nat) (q : Port) : Port :=
  if q.lamOk ∧ (m + 2 < q.lam ∨ q.lam + 2 < m) then { q with lamOk := false, meas := [m] }
  else
    let l := q.meas ++ [m]
    match steadyMean (lastEight l) with
    | some x =>
      if !q.lamOk ∨ !q.fresh ∨ 256 ≤ l.length then { q with lam := x, lamOk := true, fresh := true, meas := [] }
      else { q with meas := l }
    | none => { q with meas := if q.lamOk ∧ q.fresh then l else lastEight l }

/-- ECHO_REPLY: half of the round trip less the hold time. A secondary not in use that has been measured idles, one that
has left idle for it when its 20 µs are over (R324). -/
def State.echoBack (p : Fin 4) (c : BitVec 432) (at16 : Nat) (s : State) : State :=
  let m := (roundHalfUp ((at16 : Int) - bits c 16 64 - bits c 80 64) 2).toNat
  let s := s.onPort p (·.measure m)
  let s := s.iff (!(s.port p).lamOk) (·.primaryLapse p)
  let done := (s.port p).fresh && (s.port p).lamOk && s.spare p && ((s.port p).outAt.isNone || s.checkOver p)
  (s.iff done (·.idlePort p)).refreshMember

/-! ### Position packets (R316, R318, R320, R323 to R326) -/

/-- The stream of a port comes into use (R324). -/
def State.useSecondary (s : State) : State :=
  (s.modWl fun w => { w with onSec := true, failing := none, sourceOk := false, joinRef := true, primUp := 0 }).raiseAlarm
    R.wlkEvtFailover

/-- A REVERSE packet holds W and begins the excursion of R44 on the slave. -/
def State.upReverse (rev : Bool) (s : State) : State :=
  let hyst : Int := s.cur R.tbsReverseHyst * 4096
  let hold := s.wl.upHold
  let began := rev && !hold
  let s := s.modWl fun w => { w with upHold := rev }
  if began then
    ((s.modTb fun t =>
      { t with q := t.wf.toNat, m := t.wf.toNat, revSeen := true, revLimit := (t.wf.toNat : Int) + hyst }).raise
      R.tbsStatDirRev).alarmOf R.tbsStatDirRev 0
  else
    let ended := hold && !rev
    let past := s.tb.revSeen && Pos.ahead s.tb.wf (BitVec.ofInt 60 s.tb.revLimit)
    (s.iff ended (·.modTb fun t => { t with fresh := false })).iff past (·.modTb fun t => { t with revSeen := false })

/-- W follows the compensated position `pc` at the rate of R320; after a holdover or a change of stream a difference
above WLK_SNAP_MAX is the reference event of R48; after a change of role the packet is (R315). A stream that carries COAST
brings no head back that is lost (R47, R317; DEDUCED, assumption 76). -/
def State.trackUp (pc : Pos) (s : State) : State :=
  let back := s.tb.mode == .coasting || (s.tb.mode == .lost && !s.wl.upCoast)
  let ref := back || s.wl.joinRef
  let role := s.wl.roleRef
  let run := s.tb.coastRun
  let keep := s.wl.upCoast
  let s := s.modWl fun w => { w with joinRef := false, roleRef := false, member := if w.member = .coasting then .member else w.member }
  let s := if back && s.wl.member == .lost then s.modWl fun w => { w with member := .fed } else s
  let d := Pos.diff pc s.tb.wf
  let far := decide ((s.fget R.wlkSnapMax : Int) * 4096 < (if d < 0 then -d else d))
  let s := if (role || ref && far) && s.producing then s.reference d (back || keep)
    else if back then
      let now := s.now
      let s := s.modTb fun t => { t with mode := .tracking, coastRun := 0, slewLeft := 0, slewWeb := 0, refTick := some now }
      s.trace 0x0B 0 (BitVec.ofNat 32 (s.tb.nextSeq - 1))
    else s
  let speed : Int := s.wl.speed / 16
  s.modTb fun t =>
    { t with rate := (max 0 (speed + Int.tdiv (Pos.diff pc (t.wf.move t.slewLeft)) 64)).toNat,
             coastRun := if keep then run else 0 }

/-- A packet of the stream in use is taken. -/
def State.takePacket (p : Fin 4) (b : BitVec 192) (s : State) : State :=
  let now := s.now
  let lam := (s.port p).lam
  let hops := bits b 160 5
  let speed := bits b 64 32
  let pc := Pos.move (b.extractLsb' 0 60) ((speed * lam / 256 : Nat) : Int)
  let off := (pc.toNat : Int) - s.enc0Pos
  let coast := bitOf b 165
  let s := s.modWl fun w =>
    { w with lastPkt := some now, speed := speed, upPos := pc, upCoast := coast, standOff := off,
             source := b.extractLsb' 128 16, sourceOk := true, parent := b.extractLsb' 144 16, hops := hops + 1 }
  let s := s.iff (decide (16 ≤ hops)) (·.raise R.wlkEvtTooDeep)
  ((s.upReverse (bitOf b 168)).trackUp pc).judgeStill.refreshMember.coastExposure.tryMessage

/-- POSITION_PACKET (R318, R320, R325). -/
def State.packetIn (p : Fin 4) (b : BitVec 192) (codeError : Bool) (s : State) : State :=
  if !s.carries p then s
  else
    let bad (s : State) : State := (s.count (R.wlkPBad p.val) 1).bump (0xB9 + 4 * p.val) 1
    let good := !codeError && crc16 ((leBytes 24 b.toNat).take 22) == bits b 176 16
    if !good then bad s
    else if !s.onLink then
      -- packets of other hops that name this head as their source come from its own tree (DEDUCED, assumption 76)
      let s := s.bump (0xB8 + 4 * p.val) 1
      if bits b 128 16 = s.fget R.wlkHeadId ∧ bits b 160 5 ≠ 0 then s else s.raiseOnce R.wlkEvtDualSource
    else
      let s := if s.wl.failing = some p.val then s.useSecondary else s
      if p != s.upPort then s.bump (0xB8 + 4 * p.val) 1
      else if s.wl.sourceOk ∧ b.extractLsb' 128 16 ≠ s.wl.source then bad s
      else (s.bump (0xB8 + 4 * p.val) 1).takePacket p b

/-- HOLDOVER_EXPIRY (R323): a slave that has a stream in use starts to coast; one that is aligned coasts as aligned (R336). -/
def State.holdoverExpire (s : State) : State :=
  if !s.onLink || s.wl.member == .unfed || !s.holdoverPast || s.tb.mode == .coasting || s.tb.mode == .lost then s
  else
    let s := s.modWl fun w => { w with member := if w.member = .member then .coasting else w.member }
    (s.beginCoast (s.wl.speed / 16)).raise R.wlkEvtCoast

/-! ### Ream marks (R321, R336) -/

/-- The trigger position this head has for sequence `n`. -/
def State.ownT (s : State) (n : Nat) : Pos := s.tb.t.move (((n : Int) - s.tb.nextSeq) * s.fu.inForce.pitch)

/-- REAM_MARK: the first copy is forwarded and held; a head that makes lines compares it with its own series. -/
def State.markIn (p : Fin 4) (c : BitVec 432) (s : State) : State :=
  let m : Mark := { k := clampNat 8 16 (bits c 8 5), seq := bits c 16 48, t := c.extractLsb' 64 60, ream := c.extractLsb' 128 32 }
  if !s.onLink || !(p == s.upPort || s.secPort == some p) || s.wl.mark.any (·.seq = m.seq) then s
  else
    let s := s.iff (decide (s.wl.hops ≤ 16)) (·.sendMark m)
    if s.producing then
      if m.seq < s.tb.nextSeq then s
      else
        let s := s.modWl fun w => { w with mark := some m, refused := false }
        if s.fu.inForce.webMode ∧ s.ownT m.seq ≠ m.t then
          (s.raiseAlarm R.wlkEvtEpochMismatch).modWl fun w => { w with mismatch := true }
        else s
    else (s.modWl fun w => { w with mark := some m, refused := false }).refreshMember

/-! ### Enumeration (R331) -/

/-- WLK_STAT.STATE (R327). -/
def Member.code : Member → Nat
  | .source => 0 | .unfed => 1 | .fed => 2 | .aligned => 3 | .member => 4 | .coasting => 5 | .lost => 6 | .leaving => 7

/-- The entry of this head. -/
def State.ownEntry (s : State) : BitVec 64 :=
  let me := s.fget R.wlkHeadId
  BitVec.ofNat 64 (ofLeBytes (leBytes 2 me ++ leBytes 2 (if s.onLink then s.wl.parent.toNat else me)
    ++ leBytes 1 (s.wl.hops % 32 + 32 * s.wl.member.code)
    ++ leBytes 1 ((if s.onLink then s.upPort.val else 0) + 4 * b2n s.wl.onSec + 8 * b2n s.secPort.isSome) ++ [0, 0]))

/-- Entries arrive at the source: a head ID twice is DUP_ID. -/
def State.collect (es : List (BitVec 64)) (s : State) : State :=
  s.each es fun e s =>
    let dup := s.cmd.entries.any fun o => bits o 0 16 == bits e 0 16
    (s.modCmd fun c => { c with entries := c.entries ++ [e] }).iff dup (·.raiseAlarm R.wlkEvtDupId)

/-- ENUMERATION_REQUEST: flooded down; a head that is fed replies upstream. -/
def State.enumRequest (p : Fin 4) (c : BitVec 432) (s : State) : State :=
  if !s.onLink || p != s.upPort then s
  else
    let s := s.each s.downPorts fun q s => s.sendChunk q 3 c
    if s.wl.member = .unfed then s else s.sendChunk p 3 (enumChunk [s.ownEntry])

/-- ENUMERATION_REPLY: passed up, or collected by the source. -/
def State.enumReply (p : Fin 4) (c : BitVec 432) (s : State) : State :=
  if !s.downPorts.contains p then s
  else if s.onLink then s.sendChunk s.upPort 3 c
  else if s.cmd.enum.isNone then s
  else s.collect ((List.range (min 6 (bits c 8 8))).map fun i => c.extractLsb' (32 + 64 * i) 64)

/-- ENUMERATION_DONE: 10 ms after the request. -/
def State.enumDone (s : State) : State :=
  match s.cmd.enum with
  | some (r, t) =>
    if s.now < t + 10000000 then s
    else
      let es := s.cmd.entries
      let s := s.modCmd fun c => { c with enum := none, entries := [] }
      if tooLong r (8 * min 8192 es.length) then s.done r 2 0xF5 0
      else s.complete r 0 0 es.length ((es.take 8192).flatMap fun e => leBytes 8 e.toNat)
  | none => s

/-! ### Seam copies received (R334) -/

/-- A received seam copy is whole: its words in order, then its watermark. -/
def SeamRx.whole (r : SeamRx) : Option (List (BitVec 256)) :=
  match r.words.find? (128 ≤ ·.1) with
  | some (k, wm) =>
    let ws := (List.range (k - 128)).filterMap fun i => (r.words.find? (·.1 = i)).map (·.2)
    if ws.length = k - 128 then some (ws ++ [wm]) else none
  | none => none

/-- The first sequence for which this head has expected seam lines: the boundary line of the oldest of the furnishes with
RX_EN that stand one behind the other up to the one in force; never a line before the join. -/
def State.seamStart (s : State) : Nat :=
  max s.wl.joinSeq (((s.fu.inForce :: s.fu.retained).takeWhile fun u => u.on R.wlkSeamRxEn).foldl (fun _ u => u.line) 0)

/-- The sequence from which copies of a side are still delivered: those behind it have been. -/
def State.seamDue (s : State) (right : Bool) : Nat := if right then s.wl.dueR else s.wl.dueL

/-- The next sequence from `n` on whose field lies in FIELDS. -/
def State.seamNext (s : State) (n : Nat) : Option Nat :=
  (List.range 4).findSome? fun i =>
    if bitOf (BitVec.ofNat 4 (s.cur R.wlkSeamFields)) ((n + i) % s.fu.inForce.fields) then some (n + i) else none

/-- The expected seam line that a side awaits next; a head that makes no lines expects none. -/
def State.seamAwaited (s : State) (right : Bool) : Option Nat :=
  if s.producing then s.seamNext (max s.seamStart (s.seamDue right)) else none

/-- A seam unit is handed over, and its sequence is done. -/
def State.seamUnit (right : Bool) (seq : Nat) (bytes : List Byte) (s : State) : State :=
  let wm := bytes.drop (bytes.length - 32)
  let u : DUnit :=
    { kind := .seam, seq := seq, wc := BitVec.ofNat 48 (ofLeBytes ((wm.drop 6).take 6)),
      broke := bitOf (wm[17]?.getD 0) 0, bytes := bytes }
  let s := s.modWl fun w =>
    { w with seams := w.seams.filter (fun r => !(r.right == right && decide (r.seq ≤ seq))),
             dueL := if right then w.dueL else seq + 1, dueR := if right then seq + 1 else w.dueR }
  s.handClass 2 (Fin.ofNat 16 (s.cur R.wlkSeamDc)) u

/-- The bytes of a received copy, the seam flag set in its watermark. -/
def seamBytes (ws : List (BitVec 256)) : List Byte :=
  let b := ws.flatMap fun w => leBytes 32 w.toNat
  b.mapIdx fun i x => if i + 15 = b.length then x ||| 0x40 else x

/-- The next whole copy of a side is delivered, unless an expected line before it is still awaited. -/
def State.seamStep (right : Bool) (s : State) : State :=
  let due := s.seamDue right
  let ready := (s.wl.seams.filter fun r => r.right == right && decide (due ≤ r.seq) && r.whole.isSome).foldl
    (fun (b : Option SeamRx) r => match b with
      | some x => if r.seq < x.seq then some r else some x
      | none => some r) none
  match ready with
  | some r =>
    match r.whole, s.seamAwaited right with
    | some ws, some e => if r.seq ≤ e then s.seamUnit right r.seq (seamBytes ws) else s
    | some ws, none => s.seamUnit right r.seq (seamBytes ws)
    | none, _ => s
  | none => s

def State.seamFlow (right : Bool) (s : State) : State :=
  (List.range (s.wl.seams.length + 1)).foldl (fun s _ => s.seamStep right) s

/-- Seam copies are received on a side (R334). -/
def State.seamSide (s : State) (right : Bool) : Bool :=
  s.curOn R.wlkSeamRxEn && bitOf (BitVec.ofNat 2 (s.cur R.wlkSeamRxSides)) (b2n right)

/-- SEAM_SEGMENT: the copy of the sender's right side is the left neighbour's. -/
def State.seamIn (p : Fin 4) (c : BitVec 432) (s : State) : State :=
  let s := s.bump (0xBA + 4 * p.val) 1
  let fromRight := bitOf c 12
  let l := p.val == s.cur R.wlkSeamPortL
  let r := p.val == s.cur R.wlkSeamPortR
  let right := if l && r then !fromRight else r
  let seq := bits c 16 48
  if !(l || r) || !s.seamSide right || decide (seq < s.seamDue right) then s
  else
    let word := (bits c 64 8, c.extractLsb' 160 256)
    let has := s.wl.seams.any fun r => r.right == right && r.seq == seq
    let s := s.modWl fun w =>
      { w with seams :=
          if has then w.seams.map fun r =>
            if r.right == right && r.seq == seq then { r with words := r.words.filter (·.1 ≠ word.1) ++ [word] } else r
          else w.seams ++ [{ right := right, seq := seq, prod := bits c 8 2, field := bits c 10 2, words := [word] }] }
    s.seamFlow right

/-- SEAM_LOST: 512 line periods after the trigger of an expected line. -/
def State.seamMiss (right : Bool) (s : State) : State :=
  if !s.seamSide right then s
  else match s.seamAwaited right with
    | none => s
    | some e =>
      if s.tb.nextSeq ≤ e + 512 then s
      else
        let u := s.fu.inForce
        let port := s.port (Fin.ofNat 4 (u.get (if right then R.wlkSeamPortR else R.wlkSeamPortL)))
        let l : Line := { prod := u.seamProd, field := e % u.fields, seq := e }
        let fl : Flags := { broke := true, padded := true, seam := true }
        let bytes := List.replicate (32 * (u.get R.wlkSeamWordsM1 + 1)) 0 ++ watermark l port.partner.toNat 0 fl.word
        (((s.count R.wlkSeamLost 1).raise R.wlkEvtSeamLost).seamUnit right e bytes).seamFlow right

/-! ### Registers (R314, R335) -/

/-- The requested role comes into force at once on a head that makes no lines: no ream boundary can come. One that asks
to be timing source while it receives valid position packets stays a slave (R432). -/
def State.roleNow (s : State) : State :=
  if s.producing then s
  else if s.roleReq = .source ∧ s.wl.role ≠ .source ∧ s.wl.lastPkt.isSome ∧ ¬ s.holdoverPast then
    (s.raiseAlarm R.wlkEvtDualSource).roleDone
  else (s.takeRole s.roleReq).refreshMember.roleDone

/-- What a write of WLK_CTRL brings about: the stream in use may change, a leave is requested or withdrawn (R329, R336),
a role is requested. -/
def State.wlkCtrlWritten (old : Fin 4) (s : State) : State :=
  let moved := s.onLink && s.upPort != old
  let s := s.modWl fun w => { w with sourceOk := w.sourceOk && !moved, joinRef := w.joinRef || moved }
  let want := s.flag R.wlkCtrlMember
  let coasts := s.tb.mode == .coasting
  let s := s.modWl fun w =>
    { w with member := match w.member with
        | .member | .coasting => if want then w.member else .leaving
        | .leaving => if want then (if coasts then .coasting else .member) else .leaving
        | m => m }
  s.refreshMember.roleNow.tryMessage

/-- A write of WLK_CTRL. -/
def State.writeWlkCtrl (v : Word) (s : State) : State :=
  let old := s.upPort
  (s.setReg 0x0B0000 (v &&& 0x3FFF)).wlkCtrlWritten old

/-- What the transmit lanes of a port in test send (R314). -/
def prbsOrder (mode : Nat) : Option Nat :=
  if mode = 0 then none else some (if mode = 1 then 7 else if mode = 2 then 15 else 31)

/-- A write of WLK_P_CTRL (R312, R314): EN, the RETRAIN go-bit and PRBS; PRBS on the upstream port in use is ignored. A
port that is off for another reason trains only when asked to (R295). -/
def State.writePortCtrl (p : Fin 4) (v : Word) (s : State) : State :=
  let off := 0x0B0100 + 64 * p.val
  let old := s.reg off
  let held := s.onLink && p == s.upPort && bits v 2 2 != 0
  let mode := if held then bits old 2 2 else bits v 2 2
  let sent := prbsOrder (if bitOf v 0 then mode else 0)
  let s := s.setReg off (setBits (v &&& 1) 2 2 mode)
  let s := s.iff (mode != bits old 2 2) fun s =>
    ((s.fset (R.wlkPErr p.val 0) 0).fset (R.wlkPErr p.val 1) 0).onPort p fun q => { q with prbsLock := 0 }
  let s := s.iff (sent != prbsOrder (if bitOf old 0 then bits old 2 2 else 0)) (·.emit (.portPrbs p.val sent))
  let st := (s.port p).state
  if !bitOf v 0 then
    ((s.onPort p fun q => { q with lock := 0, chunks := [], partnerOk := false, lamOk := false, lossAt := none }).setPort
      p .off).refreshMember
  else if mode ≠ 0 then
    if st = .test then s
    else ((s.onPort p fun q => { q with lock := 0, chunks := [], partnerOk := false, lamOk := false }).setPort p .test).refreshMember
  else if bitOf v 1 ∨ !bitOf old 0 ∨ st = .test then s.train p
  else s

/-- WL_PRBS_TEST (R314): the checkers' lock and the errors they count are measured. -/
def State.portPrbs (p : Fin 4) (mode : Nat) (lock : BitVec 2) (errs : List Nat) (s : State) : State :=
  let s := s.writePortCtrl p (setBits (setBits (s.reg (0x0B0100 + 64 * p.val)) 2 2 mode) 1 1 0)
  if (s.port p).state ≠ .test then s
  else
    let s := s.onPort p fun q => { q with prbsLock := lock }
    s.each (List.range 2) fun l s => s.iff (bitOf lock l) (·.countSat (R.wlkPErr p.val l) (errs[l]?.getD 0))

/-- RX_POP (R335). -/
def State.popMessage (s : State) : State := s.modWl fun w => { w with fifo := w.fifo.drop 1 }

/-- WL_MESSAGE has found no link within 10 ms (R276). -/
def State.messageTimeout (r : PktRef) (s : State) : State :=
  match s.cmd.message with
  | some (q, t) =>
    if q ≠ r then s
    else if !s.positionPorts.isEmpty then s.tryMessage
    else if t + 10000000 ≤ s.now then (s.modCmd fun c => { c with message := none }).done r 0x0D 0 0
    else s
  | none => s

/-! ### The commands -/

/-- PORT_UP (R312). -/
def execPortUp (p : Fin 4) (partner : BitVec 16) (partnerPort pol : BitVec 2) (swapped wantsSec : Bool)
    (s : State) : Answer :=
  .next (s.portUp p partner partnerPort pol swapped wantsSec)

/-- PORT_ABSENT (R312). -/
def execPortAbsent (p : Fin 4) (s : State) : Answer := .next (s.portAbsent p)

/-- SYMBOL_LOCK_LOSS (R313). -/
def execSymbolLockLoss (p : Fin 4) (lane : Fin 2) (s : State) : Answer := .next (s.lockLoss p lane.val)

/-- SYMBOL_LOCK_GAIN (R313). -/
def execSymbolLockGain (p : Fin 4) (lane : Fin 2) (s : State) : Answer := .next (s.lockGain p lane.val)

/-- PORT_DOWN (R313). -/
def execPortDown (p : Fin 4) (s : State) : Answer := .next (s.portDown p)

/-- ABSENT_PORT_RETRY (R312). -/
def execAbsentPortRetry (p : Fin 4) (s : State) : Answer := .next (s.portRetry p)

/-- ELECTRICAL_IDLE_EXIT (R324). -/
def execElectricalIdleExit (p : Fin 4) (s : State) : Answer := .next (s.idleExit p)

/-- FRAME_TRANSMIT (R318). -/
def execFrameTransmit (p : Fin 4) (s : State) : Answer := .next (s.sendFrame p)

/-- POSITION_PACKET (R320). -/
def execPositionPacket (p : Fin 4) (bytes : BitVec 192) (codeError : Bool) (s : State) : Answer :=
  .next (s.packetIn p bytes codeError)

/-- HOLDOVER_EXPIRY (R323). -/
def execHoldoverExpiry (s : State) : Answer := .next s.holdoverExpire

/-- SECONDARY_LAMBDA_CHECK (R324). -/
def execSecondaryLambdaCheck (s : State) : Answer := .next s.secCheck

/-- REAM_MARK (R321). -/
def execReamMark (p : Fin 4) (chunk : BitVec 432) (s : State) : Answer :=
  .next (s.rxChunk p 1 chunk (·.markIn p chunk))

/-- ECHO_SEND (R319). -/
def execEchoSend (p : Fin 4) (s : State) : Answer := .next (s.sendEcho p)

/-- ECHO_REQUEST (R319): returned with the time it was held. -/
def execEchoRequest (p : Fin 4) (chunk : BitVec 432) (hold : Nat) (s : State) : Answer :=
  .next (s.rxChunk p 2 chunk (·.sendChunk p 2 (replyChunk (bits chunk 16 64) hold)))

/-- ECHO_REPLY (R319). -/
def execEchoReply (p : Fin 4) (chunk : BitVec 432) (at16 : Nat) (s : State) : Answer :=
  .next (s.rxChunk p 3 chunk (·.echoBack p chunk at16))

/-- ENUMERATION_REQUEST (R331). -/
def execEnumerationRequest (p : Fin 4) (chunk : BitVec 432) (s : State) : Answer :=
  .next (s.rxChunk p 4 chunk (·.enumRequest p chunk))

/-- ENUMERATION_REPLY (R331). -/
def execEnumerationReply (p : Fin 4) (chunk : BitVec 432) (s : State) : Answer :=
  .next (s.rxChunk p 5 chunk (·.enumReply p chunk))

/-- ENUMERATION_DONE (R331). -/
def execEnumerationDone (s : State) : Answer := .next s.enumDone

/-- MESSAGE_SEGMENT (R332). -/
def execMessageSegment (p : Fin 4) (chunk : BitVec 432) (s : State) : Answer :=
  .next (s.rxChunk p 6 chunk (·.segmentIn p chunk))

/-- SEAM_SEGMENT (R334). -/
def execSeamSegment (p : Fin 4) (chunk : BitVec 432) (s : State) : Answer :=
  .next (s.rxChunk p 7 chunk (·.seamIn p chunk))

/-- SEAM_LOST (R334). -/
def execSeamLost (right : Bool) (s : State) : Answer := .next (s.seamMiss right)

/-- WL_MESSAGE_TIMEOUT (R276). -/
def execWlMessageTimeout (p : PktRef) (s : State) : Answer := .next (s.messageTimeout p)

end Sys2Proof.Machine
end

