-- ==== Sys2Proof/Machine/Thermal.lean ====
section
/-! DEFINITION. The thermal manager (R404 to R424): the model and its sensors, the throttle level, the orderly stop at the
critical temperature and safe state, the hardware trip, the supply monitors; and the crystal failure of R362 and R435,
which ends in the same safe state. Temperatures are in 1/16 °C. -/

namespace Sys2Proof.Machine

/-! ### The nodes (R409 to R411) -/

/-- The neighbours of a node (R410). -/
def neighbours (i : Nat) : List Nat :=
  if i < 38 then ([i + 1].filter (· < 38)) ++ (if 0 < i then [i - 1] else [])
  else match i with
    | 43 => [0, 1, 2, 3, 45]
    | 45 => [4, 5, 6, 7, 43, 44]
    | 44 => [8, 9, 10, 11, 45, 39]
    | 39 => [12, 13, 14, 15, 44, 38]
    | 38 => [16, 17, 18, 19, 20, 21, 39, 40]
    | 40 => [22, 23, 24, 25, 38, 41]
    | 41 => [26, 27, 28, 29, 40, 42]
    | 42 => [30, 31, 32, 33, 41, 46]
    | 46 => [34, 35, 36, 37, 42]
    | _ => []

/-- A reading outside −40 °C to 150 °C (R410). -/
def outOfRange (x : Int) : Bool := decide (x < -640) || decide (2400 < x)

def State.onNode (i : Fin 47) (g : ThmNode → ThmNode) (s : State) : State :=
  s.modThm fun t => { t with nodes := vupd t.nodes i g }

def State.node (s : State) (i : Fin 47) : ThmNode := s.thm.nodes[i]

/-- A sensor fails (R410). -/
def State.sensorFail (i : Fin 47) (s : State) : State :=
  (s.onNode i fun n => { n with failed := true, run := 0 }).raiseAlarm R.thmEvtSensFail

/-- Sensors that read out of range fail at once (R410). -/
def State.rangeCheck (s : State) : State :=
  s.each (List.finRange 47) fun i s =>
    s.iff (!(s.node i).failed && outOfRange (s.node i).sensor) (·.sensorFail i)

/-- The readings of the valid neighbours of a node. -/
def Thermal.around (t : Thermal) (i : Nat) : List Int :=
  (neighbours i).filterMap fun j =>
    match t.nodes.toList[j]? with
    | some n => if n.failed then none else some n.sensor
    | none => none

/-- A sensor differs by more than the limit from its model value and from the mean of its valid neighbours (R410). -/
def Thermal.suspect (t : Thermal) (lim i : Nat) (n : ThmNode) : Bool :=
  let nb := t.around i
  decide (lim < (n.sensor - n.model).natAbs) &&
    (nb.isEmpty || decide (lim * nb.length < (n.sensor * nb.length - nb.foldl (· + ·) 0).natAbs))

/-- The cross-check of R410: the eighth update in a row fails the sensor. All sensors are judged against the sensors that
were valid before. -/
def State.crossCheck (s : State) : State :=
  let t := s.thm
  let lim := 4 * s.fget R.thmTuneXchkLim
  s.each (List.finRange 47) fun i s =>
    let n := t.nodes[i]
    if n.failed then s
    else if t.suspect lim i.val n then
      let s := s.onNode i fun n => { n with run := n.run + 1 }
      s.iff (decide (8 ≤ n.run + 1)) (·.sensorFail i)
    else s.onNode i fun n => { n with run := 0 }

/-- The model advances by what the die fixes (R409, assumption 3). -/
def Thermal.advance (power : List Nat) (t : Thermal) : Thermal :=
  let old := t.nodes.toList.map (·.model)
  { t with nodes := vgen 47 fun i =>
      let n := (t.nodes.toList[i]?).getD {}
      { n with model := Config.thermalAdvance i old power t.tb } }

/-- Every node with a valid sensor is corrected by 1/8 of the difference, T_b by 1/64 of the mean difference (R409). -/
def Thermal.correct (t : Thermal) : Thermal :=
  let ds := t.nodes.toList.filterMap fun n => if n.failed then none else some (n.sensor - n.model)
  { t with
    nodes := vmap (fun n => if n.failed then n else { n with model := n.model + roundHalfUp (n.sensor - n.model) 8 }) t.nodes
    tb := t.tb + (if ds.isEmpty then 0 else roundHalfUp (ds.foldl (· + ·) 0) (64 * ds.length)) }

/-- The node temperature (R411). -/
def ThmNode.temp (n : ThmNode) : Int := if n.failed then n.model + 80 else n.sensor

/-- The hottest node, the lowest of equals, and its temperature (R411). -/
def hottest : List ThmNode → Nat → Nat × Int → Nat × Int
  | [], _, best => best
  | n :: t, i, best => hottest t (i + 1) (if best.2 < n.temp then (i, n.temp) else best)

def Thermal.findHot (t : Thermal) : Thermal :=
  let h := match t.nodes.toList with
    | [] => (0, 0)
    | n :: rest => hottest rest 1 (0, n.temp)
  { t with hotNode := h.1, tHot := h.2 }

/-! ### The throttle level (R412 to R414) -/

/-- THM_START as it is taken, in 1/16 °C. -/
def State.thmStart (s : State) : Int := 16 * clampNat 80 105 (s.fget R.thmCtrlStart)
/-- THM_CRIT as it is taken. -/
def State.thmCrit (s : State) : Int := 16 * clampNat 100 110 (s.fget R.thmCtrlCrit)
/-- THM_RATE as it is taken, in 0.25 °C/s. -/
def State.thmRate (s : State) : Int := clampNat 1 64 (s.fget R.thmCtrlRate)
def State.thmHyst (s : State) : Int := s.fget R.thmTuneHyst

/-- The target level formed with a temperature (R412, R413); it is 0 with THR_EN 0. -/
def State.levelTarget (s : State) (t : Int) : Nat :=
  if !s.flag R.thmCtrlThrEn then 0
  else
    let e := t - s.thmStart
    let n := if e < 0 then 0
      else min (2 + (s.fu.inForce.dTop - s.minDepth)) (1 + e.toNat / max 1 (s.fget R.thmTuneKp))
    if s.thm.rateStep then max 1 n else n

/-- The rate of rise and the early step (R413): T_hot of 2,500 updates ago is 250 ms old, so the rise in 1/16 °C is the
rate in 0.25 °C/s; the event and its alarm come once per excursion above RATE. -/
def State.rateOfRise (s : State) : State :=
  let t := s.thm
  let rise := match t.history[2499]? with | some old => t.tHot - old | none => 0
  let steep := decide (s.thmRate < rise)
  let fresh := steep && !(t.rateStep && t.rateOk == 0)
  let s := s.modThm fun t =>
    { t with rise := rise, history := (t.tHot :: t.history).take 2500,
             rateOk := if steep then 0 else t.rateOk + 1,
             rateStep := steep || (t.rateStep && decide (t.rateOk + 1 < 10000)) }
  s.iff fresh (·.raiseAlarm R.thmEvtRate)

/-- Whether the sensor of a node, by its number, has failed. -/
def Thermal.failedAt (t : Thermal) (i : Nat) : Bool := match t.nodes.toList[i]? with | some n => n.failed | none => false

/-- Hold begins when the sensor of the node that was hottest at the last update fails while L is above 0 (R414). -/
def State.enterHold (wasHot : Nat) (wasFailed : Bool) (s : State) : State :=
  if s.thm.hold.isNone && s.thm.failedAt wasHot && !wasFailed && decide (0 < s.thm.level) then
    (s.modThm fun t => { t with hold := some wasHot }).raiseAlarm R.thmEvtHold
  else s

/-- At an update: hold begins, or ends once T_hot is below THM_START − HYST (R414). -/
def State.holdCheck (wasHot : Nat) (wasFailed : Bool) (s : State) : State :=
  match s.thm.hold with
  | some _ => if s.thm.tHot < s.thmStart - s.thmHyst then s.modThm fun t => { t with hold := none } else s
  | none => s.enterHold wasHot wasFailed

/-- LEVEL_STEP (R412, R422, R443). -/
def State.levelStep (s : State) : State :=
  let t := s.thm.tHot
  let l := s.thm.level
  let n :=
    if l < s.levelTarget t then l + 1
    else if s.levelTarget t < l ∧ s.thm.hold = none ∧ s.levelTarget (t + s.thmHyst) < l then l - 1
    else l
  if n = l then s
  else
    let now := s.now
    let s := s.modThm fun t => { t with level := n, stepped := some (now, l) }
    let s := s.trace 0x12 n (BitVec.ofNat 32 s.ceilTarget)
    let s := s.iff (l == 0) (·.raiseAlarm R.thmEvtThrottle)
    s.iff (n == 0) (·.raise R.thmEvtRelease)

/-! ### Measured power (R407, R423) -/

/-- Power figures in 10 mW over 100 µs: the sum is in microjoules (R441). -/
def State.takePower (rails parts : List Nat) (s : State) : State :=
  let total := rails.foldl (· + ·) 0
  let uj := s.thm.energy + total
  (s.modThm fun t =>
    { t with rails := rails, parts := parts, peakPow := max t.peakPow total, energy := uj % 1000 }).bump 0xE0 (uj / 1000)

/-! ### The orderly stop and safe state (R418, R419) -/

/-- CRITICAL_STOP (R418): the alarm's line sequence is the first not formed. -/
def State.criticalStop (s : State) : State :=
  let seq := s.tb.nextSeq
  let now := s.now
  let s := ((s.raise R.thmEvtCritical).alarmOf R.thmEvtCritical seq).endCommits
  s.modThm fun t => { t with stop := .closing, stopSeq := seq, stopAt := now }

/-- Open lines and rows in flight are closed at once with what they hold, broke with cause bit 5 (R97, R418, R435). -/
def State.closeAll (s : State) : State :=
  let ls := s.felt.lines.map fun l => { l with closing := true }
  ((s.each ls fun l s => s.closeLine (l.mark .modeChange)).modFelt fun f => { f with shells := [] }).dropArea

/-- Triggers stop and the drain begins. -/
def State.beginDrain (s : State) : State :=
  let now := s.now
  s.closeAll.modThm fun t => { t with stop := .draining, stopAt := now }

/-- Nothing is left to drain: no line on its way to the formatter, no unit in a channel (R418). -/
def State.drained (s : State) : Bool :=
  s.felt.stock.isEmpty && s.cal.ready.isEmpty && s.cal.done.isEmpty && s.cal.lanes.toList.all (·.isEmpty) &&
    s.cal.pair.all (fun p => p.kind == .guide) && s.fmt.queue.isEmpty && s.scr.fifo.isEmpty &&
    s.dma.chans.toList.all fun c => !c.enabled || c.state == .held || c.holdings.isEmpty

/-- SAFE_STATE (R419): the headbox, the felt and the calender are unpowered or gated, so what they hold is gone. -/
def State.safeState (s : State) : State :=
  let s := s.quitAll
  let s := s.modHb fun h =>
    { h with exposing := false, area := none, darks := [],
             slices := vmap (fun sl => { sl with buf := [], needed := none }) h.slices }
  let s := s.modFelt fun f => { f with lines := [], stock := [], due := none, areaHeld := [], areaTodo := [] }
  let s := s.modCal fun c => { c with pair := [], ready := [], lanes := vrep 2 [], done := [] }
  let s := s.modRst fun r => { r with ready := false }
  s.modThm fun t => { t with safe := true }

/-! ### Trip, droop, supplies, crystal -/

/-- HARDWARE_TRIP (R420): clocks and synthesisers stop, the outputs float, the reel is lost; nothing runs until the rails
have been removed. -/
def State.trip (s : State) : State :=
  let s := s.modThm fun t => { t with trip := true, tripLatch := true, stop := .none }
  let s := s.modPen fun p => { p with hiz := BitVec.allOnes 32 }
  let s := s.modReel fun r => { r with ring := [], dir := [], cuts := [], layouts := r.layouts + 1 }
  let s := { s with window := [], poison := [] }
  let s := s.modClk fun c =>
    { c with core := .bypassRef, mem := .bypassRef, slices := vrep 19 .bypassRef, counting := false, slewing := false }
  let s := s.phyDark.modLink fun l => { l with up := false, cxl := false, width := 0, rate := 0, l1 := false, phyOn := false }
  let s := s.modWl fun w => { w with ports := vmap (fun p => { p with state := .off }) w.ports }
  let s := s.modTnd fun t => { t with up := false }
  s.modRst fun r => { r with phase := .inReset, ready := false }

/-- CORE_DROOP (R406). -/
def State.coreDroop (s : State) : State :=
  let n := s.tb.nextSeq - 1
  let s := s.modThm fun t => { t with droopFrom := some n }
  let s := s.modCal fun c => { c with lanes := vmap (fun js => js.map fun j => { j with droop := true }) c.lanes }
  let s := s.modFmt fun f => { f with queue := f.queue.map (·.mark .outUe) }
  ((s.raise R.thmEvtCoreDroop).trace 0x04 1 (BitVec.ofNat 32 n)).bump 0xE4 1

/-- CRYSTAL_FAILURE (R362, R435). -/
def State.crystalFails (s : State) : State :=
  if !s.clk.xtalOk then s
  else
    let seq := s.tb.nextSeq - 1
    let s := s.raiseAlarm R.clkEvtXtalFail
    let s := s.modClk fun c => { c with xtalOk := false }
    let s := s.iff (!s.flag R.clkRefModeSel) (·.loseRef)
    let s := s.modRst fun r => { r with ready := false }
    let s := s.each (List.finRange 4) fun p s => s.setPort p .off
    (s.postAlarm 0x0063 (leBytes 6 seq)).beginDrain

/-! ### The commands -/

/-- THERMAL_UPDATE (R409 to R414, R418): what the sensors and monitors measured over 100 µs. -/
def execThermalUpdate (sensors : List Int) (nodePower rails parts : List Nat) (s : State) : Answer :=
  if !wfThermal sensors nodePower rails parts then .fault .illFormed
  else
    let s := s.takePower rails parts
    let wasHot := s.thm.hotNode
    let wasFailed := s.thm.failedAt wasHot
    let s := s.modThm fun t =>
      { t with nodes := vgen 47 fun i => { (t.nodes.toList[i]?).getD {} with sensor := sensors[i]?.getD 0 } }
    let s := ((s.modThm (·.advance nodePower)).rangeCheck).crossCheck
    let s := (s.modThm (·.correct)).modThm (·.findHot)
    let s := (s.holdCheck wasHot wasFailed).rateOfRise.levelStep
    let s := s.iff (decide (0 < s.thm.level)) (·.bump 0xE1 1)
    let s := s.iff s.thm.hold.isSome (·.bump 0xE2 1)
    .next (s.iff (decide (s.thmCrit ≤ s.thm.tHot) && s.thm.stop == .none && !s.thm.safe && s.rst.phase != .inReset) (·.criticalStop))

/-- CRITICAL_CLOSURE (R418): the last line has closed, or 300 µs have passed. -/
def execCriticalClosure (s : State) : Answer :=
  .next (s.iff (s.thm.stop == .closing &&
    ((s.felt.lines.isEmpty && s.felt.areaHeld.isEmpty) || decide (s.thm.stopAt + 300000 ≤ s.now))) (·.beginDrain))

/-- CRITICAL_DRAIN_END (R418, R419, R435): all has drained, or 10 ms have passed and channels still parked become held. -/
def execCriticalDrainEnd (s : State) : Answer :=
  let late := decide (s.thm.stopAt + 10000000 ≤ s.now)
  .next (if s.thm.stop == .draining && !s.thm.safe && (s.drained || late) then
    let s := s.each (List.finRange 16) fun ch s => s.iff ((s.ch ch).state == .parked) (·.holdCh ch)
    s.safeState
  else s)

/-- THERMAL_TRIP (R420): the readings of two consecutive samples. -/
def execThermalTrip (sensors : List Int) (s : State) : Answer :=
  if !wfSensors sensors then .fault .illFormed
  else
    let hot := (List.range 47).any fun i =>
      decide (1920 ≤ sensors[i]?.getD 0) && !((s.thm.nodes.toList[i]?).getD {}).failed
    .next (s.iff (hot && !s.thm.trip) (·.trip))

/-- CORE_DROOP (R406). -/
def execCoreDroop (s : State) : Answer := .next s.coreDroop

/-- RAIL_UNDERVOLTAGE (R405). -/
def execRailUndervoltage (rail : Fin 14) (s : State) : Answer :=
  .next (if bitOf s.thm.uv rail.val then s
    else (s.modThm fun t => { t with uv := t.uv ||| ((1 : BitVec 14) <<< rail.val) }).raiseAlarm R.thmEvtSupplyUv)

/-- RAIL_UNDERVOLTAGE_END (R405, R422): THM_SUPPLY shows the rails that are undervoltage now. -/
def execRailUndervoltageEnd (rail : Fin 14) (s : State) : Answer :=
  .next (s.modThm fun t => { t with uv := t.uv &&& ~~~((1 : BitVec 14) <<< rail.val) })

/-- A reading of a slice's current monitor outside THM_ISL: above HI, or below LO while the slice's converters convert,
which they do unless it is idle or failed (R408, R66; DEDUCED, assumption 94). -/
def State.currentOut (i : Fin 38) (ma : Nat) (s : State) : Bool :=
  decide (s.fget R.thmIslHi < ma) ||
    (decide (ma < s.fget R.thmIslLo) && decide ((s.slice i).state = .active ∨ (s.slice i).state = .rejoining))

/-- SLICE_CURRENT_FAULT (R408): what a slice's monitor read, in mA, over 10 consecutive microseconds. -/
def execSliceCurrentFault (slice : Fin 38) (readings : List Nat) (s : State) : Answer :=
  .next (if (s.slice slice).state ≠ .failed ∧ readings ≠ [] ∧ readings.all (s.currentOut slice) then
      (s.failSlice slice 5).raiseAlarm R.thmEvtIsl
    else s)

/-- THM_CMD.SENS_REARM (R410, R422): every failure is cleared and judged afresh; a failure of the hottest node's sensor
brings hold here as at an update (R414). -/
def State.rearmSensors (s : State) : State :=
  ((s.modThm fun t => { t with nodes := vmap (fun n => { n with failed := false, run := 0 }) t.nodes }).rangeCheck).enterHold
    s.thm.hotNode false

/-- CRYSTAL_FAILURE (R362, R435). -/
def execCrystalFailure (s : State) : Answer := .next s.crystalFails

/-- REFERENCE_LOSS (R359, R362, R364): REFCLK or the crystal has ceased to deliver edges. -/
def execReferenceLoss (refclk : Bool) (s : State) : Answer := .next (if refclk then s.refclkStops else s.crystalFails)

end Sys2Proof.Machine
end

