-- ==== Sys2Proof/Machine/RegView.lean ====
section
/-! DEFINITION. What a register read returns (R291 to R302): the words software and hardware write stand in the register
store; every other value is formed here from the state that owns it. -/

namespace Sys2Proof.Machine

/-- A field replaced in a word. -/
abbrev put (lo n v : Nat) (w : Word) : Word := setBits w lo n v

/-- Word `i` of a number (R296). -/
def wordOf (v i : Nat) : Word := BitVec.ofNat 32 (v >>> (32 * i))

/-- A signed value in `n` bits, saturating. -/
def satBits (n : Nat) (v : Int) : Nat := unsigned n (clampInt (-(2 ^ (n - 1))) (2 ^ (n - 1) - 1) v)

/-- The bits of a list of Booleans, from bit 0 up. -/
def bitsOf : List Bool → Nat
  | [] => 0
  | b :: t => b2n b + 2 * bitsOf t

/-! ### Mirror blocks (R298, R299): AGE is that of the Tender's blocks, the PHY's, a port's and, by R402, CMD_TW_STAT. The
AON and SNS domains run whenever the device is powered, from the ring oscillator where the crystal stops (R362): their
blocks are always refreshed. A block that is refreshed shows its owner's present values (DESIGN CHOICE, assumption 84) -/

/-- Periods of 40 ns since a tick. -/
def State.ageFrom (s : State) (t : Nat) : Nat := min 255 ((s.now - t) / 40)

/-- Only an owner in reset or restarting delivers no refresh. -/
def State.tenderAge (s : State) : Nat := if s.tnd.up then 0 else s.ageFrom s.tnd.downAt

/-- The PHY block's: while it is not enabled or has no clock (R243). -/
def State.phyAge (s : State) : Nat := if s.link.refreshes then 0 else s.ageFrom s.link.darkAt

/-- A port block's: until the start-up has released its receive domain (R335, R428). -/
def State.portAge (s : State) : Nat := match s.wl.darkAt with | some t => s.ageFrom t | none => 0

/-- The PHY's mirror shows its last copy while it is not refreshed. -/
def State.linkCopy (s : State) (off : Nat) (w : Word) : Word :=
  if s.link.refreshes then w else ((s.link.copy.find? (·.1 = off)).map (·.2)).getD w

/-! ### The regions -/

/-- GLB (R127, R243, R309). -/
def State.viewGlb (s : State) (off : Nat) (w : Word) : Word :=
  let f := s.fu
  if 0x000240 ≤ off ∧ off < 0x0002C0 then
    match f.hist[(off - 0x000240) / 16]? with
    | none => 0
    | some h => match (off - 0x000240) % 16 with
      | 0 => h.id.zeroExtend 32
      | 4 => wordOf h.line 0
      | 8 => wordOf h.line 1 &&& 0xFFFF
      | 12 => h.gen
      | _ => 0
  else match off with
  | 0x000004 => BitVec.ofNat 32 (b2n s.rst.ready + 2 * b2n s.thm.safe + 4 * b2n s.tnd.bank + 8 * s.rst.cause)
  | 0x000200 => put 16 16 f.inForce.id.toNat w
  | 0x000210 => w |> put 0 3 (min 4 f.commits.length) |> put 4 4 (1 + f.retained.length) |> put 8 4 f.result
      |> put 12 8 f.detail
  | 0x000214 => f.gens
  | 0x000218 => wordOf f.inForce.line 0
  | 0x00021C => wordOf f.inForce.line 1 &&& 0xFFFF
  | 0x000400 => put 24 8 s.phyAge (s.linkCopy off (BitVec.ofNat 32 s.link.stat))
  | 0x000440 => s.linkCopy off (s.link.prbsLock.zeroExtend 32)
  | _ => s.linkCopy off w

/-- TBS (R50). -/
def State.viewTbs (s : State) (off : Nat) (w : Word) : Word :=
  let t := s.tb
  match off with
  | 0x010040 =>
    let coast := t.mode == .coasting || t.mode == .returning ||
      (s.onLink && (s.wl.upCoast || s.wl.member == .coasting))
    put 0 7 (bitsOf [coast, t.mode == .lost, t.still, t.reversed, t.mode == .slewing,
      t.mode == .resyncFwd || t.mode == .resyncHold, t.onEnc1]) w
  | 0x010050 => wordOf s.wc.toNat 0
  | 0x010054 => wordOf s.wc.toNat 1
  | 0x010058 => wordOf t.tick.toNat 0
  | 0x01005C => wordOf t.tick.toNat 1
  | 0x010060 => BitVec.ofNat 32 s.speed16
  | 0x010064 => BitVec.ofNat 32 (min 0xFFFFFF t.tLine)
  | 0x010068 => wordOf (t.nextSeq - 1) 0
  | 0x01006C => wordOf (t.nextSeq - 1) 1 &&& 0xFFFF
  | 0x010070 => t.ream
  | 0x010078 => wordOf t.zcap.toNat 0
  | 0x01007C => wordOf t.zcap.toNat 1
  | 0x010080 => BitVec.ofInt 32 (sat31 t.slewD)
  | 0x010084 => t.skip
  | _ => w

/-- HBX_SL_STAT.STATE (R78). -/
def SliceState.code : SliceState → Nat
  | .active => 0 | .idle => 1 | .failed => 2 | .rejoining => 3

/-- HBX (R77, R78). -/
def State.viewHbx (s : State) (off : Nat) (w : Word) : Word :=
  let fails := s.hb.slices.toList.map fun sl => sl.state == .failed
  match off with
  | 0x02F040 => BitVec.ofNat 32 (bitsOf (fails.take 32))
  | 0x02F044 => BitVec.ofNat 32 (bitsOf (fails.drop 32))
  | _ => match s.hb.slices.toList[(off - 0x020000) / 0x400]? with
    | none => w
    | some sl => match off % 0x400 with
      | 0 => BitVec.ofNat 32 (sl.state.code + 16 * sl.cause.toNat)
      | 0x00C => BitVec.ofNat 32 (min 255 sl.run)
      | _ => w

/-- FLT (R106), CAL (R153), STS (R195), SCR (R196). -/
def State.viewImaging (s : State) (off : Nat) (w : Word) : Word :=
  if 0x030300 ≤ off ∧ off < 0x030380 then
    BitVec.ofNat 32 (satBits 16 (s.felt.deltaSeen.toList[(off - 0x030300) / 4]?.getD 0))
  else match off with
  | 0x030010 => BitVec.ofNat 32 s.felt.ceil
  | 0x030014 => put 16 9 s.felt.peak w
  | 0x040314 => BitVec.ofNat 32 (s.cal.pair.length + 65536 * s.cal.peak)
  | 0x050014 => BitVec.ofNat 32 (bitsOf (s.sts.banks.toList.map (·.complete)))
  | 0x06002C => BitVec.ofNat 32 (s.scr.cands.length + 65536 * s.scr.peak)
  | _ => w

/-- REL (R216). -/
def State.viewRel (s : State) (off : Nat) (w : Word) : Word :=
  let r := s.reel
  match off with
  | 0x080008 => BitVec.ofNat 32 (r.result + 4 * (r.cuts.filter (·.active)).length + 32 * r.live.length)
  | 0x08000C => BitVec.ofNat 32 r.ringMib
  | 0x080010 => wordOf r.tailSeen.toNat 0
  | 0x080014 => wordOf r.tailSeen.toNat 1
  | 0x080018 => wordOf r.headSeen.toNat 0
  | 0x08001C => wordOf r.headSeen.toNat 1
  | 0x080020 => BitVec.ofNat 32 r.dir.length
  | 0x080024 => BitVec.ofNat 32 (r.chunks + 65536 * r.peak)
  | 0x080028 => r.lap.zeroExtend 32
  | _ => w

/-- DMA (R265, R266). -/
def State.viewDma (s : State) (off : Nat) (w : Word) : Word :=
  if off = 0x092004 then
    BitVec.ofNat 32 (s.dma.pageReq.length + 128 * b2n s.dma.priFail + 256 * s.dma.atc.length)
  else match s.dma.chans.toList[(off - 0x090000) / 0x200]? with
    | none => w
    | some c => match off % 0x200 with
      | 0x018 => BitVec.ofNat 32 (c.dHead + 65536 * c.dTail)
      | 0x01C => BitVec.ofNat 32 (c.cTail + 65536 * c.cHead + 2 ^ 31 * b2n c.phase)
      | 0x020 => BitVec.ofNat 32 (c.stateCode + 256 * c.causes + 65536 * c.chunks)
      | 0x048 => c.lastNseq
      | _ => w

/-- CMD, the mailbox and the two-wire port (R288, R289, R402). -/
def State.viewCmd (s : State) (off : Nat) (w : Word) : Word :=
  match off with
  | 0x0A0F00 => BitVec.ofNat 32 (b2n s.tnd.up + 256 * s.tenderAge)
  | 0x0A3004 =>
    BitVec.ofNat 32 (s.tw.strap.toNat + 8 * b2n s.tnd.asleep + 2 ^ 24 * min 255 ((s.now - s.tw.busAt) / 40))
  | 0x0A3008 => BitVec.ofNat 32 (min 0xFFFF s.tw.frame + 65536 * min 0xFFFF s.tw.partialN)
  | 0x0A300C =>
    BitVec.ofNat 32 (b2n (s.reg 0x000008 &&& s.reg 0x00000C != 0) + 2 * b2n s.tw.attn + 4 * min 7 s.tw.tries)
  | _ =>
    if off < 0x0A0200 then
      let q := Fin.ofNat 8 ((off - 0x0A0000) / 64)
      let k := s.queue q
      match off % 64 with
      | 0x18 => BitVec.ofNat 32 (k.sqHead + 65536 * k.sqTail)
      | 0x1C => BitVec.ofNat 32 (k.cqTail + 65536 * k.cqHead + 2 ^ 31 * b2n k.phase)
      | 0x20 =>
        BitVec.ofNat 32 ((s.cmd.packets.filter fun p => !p.ref.tw && p.ref.queue == q && !p.lost).length
          + 65536 * s.queueState q)
      | _ => w
    else w

/-- The role as ROLE_REQ encodes it (R315). -/
def Role.code : Role → Nat
  | .slave => 0 | .source => 1 | .standby => 2

/-- WLK_LAT_SUM (R335): the λ of the port in use and what lies beyond it (assumption 9). -/
def State.latSum (s : State) : Nat :=
  if !s.onLink then 0
  else (s.port s.upPort).lam + (if s.wl.hops ≤ 1 then 0 else Config.latBeyond s.wl.hops)

/-- A port's mirror block (R335), as its receive domain refreshes it. -/
def State.portFresh (s : State) (off : Nat) (w : Word) : Word :=
  let p := s.port (Fin.ofNat 4 ((off - 0x0B0100) / 64))
  match off % 64 with
  | 0x04 => BitVec.ofNat 32 (p.state.code + 8 * p.lock.toNat + 32 * p.pol.toNat + 128 * b2n p.swapped
      + 256 * p.prbsLock.toNat)
  | 0x08 => BitVec.ofNat 32 (p.lam % 2 ^ 20 + 2 ^ 20 * b2n p.lamOk)
  | 0x0C => BitVec.ofNat 32 (p.partner.toNat + 65536 * p.partnerPort.toNat + 2 ^ 18 * b2n p.partnerOk)
  | _ => w

/-- What the blocks show as their domains go into reset (R299). -/
def State.portMirror (s : State) : List (Nat × Word) :=
  if s.wl.darkAt.isSome then s.wl.copy
  else (List.range 4).flatMap fun p => (List.range 7).map fun i =>
    let o := 0x0B0104 + 64 * p + 4 * i
    (o, s.portFresh o (s.reg o))

/-- WLK (R335). -/
def State.viewWlk (s : State) (off : Nat) (w : Word) : Word :=
  if 0x0B0100 ≤ off ∧ off < 0x0B0200 then
    let v := if s.wl.darkAt.isNone ∨ off % 64 = 0 then s.portFresh off w
      else ((s.wl.copy.find? (·.1 = off)).map (·.2)).getD 0
    if off % 64 = 4 then put 24 8 s.portAge v else v
  else if 0x0B1004 ≤ off ∧ off < 0x0B1044 then
    match s.wl.fifo with
    | m :: _ => BitVec.ofNat 32 (ofLeBytes ((m.data.drop (off - 0x0B1004)).take 4))
    | [] => 0
  else match off with
  | 0x0B0008 => BitVec.ofNat 32 (s.wl.role.code + 4 * s.wl.member.code + 32 * b2n s.wl.onSec + 64 * (s.wl.hops % 32))
  | 0x0B000C => BitVec.ofNat 32 (s.wl.source.toNat + 65536 * s.wl.parent.toNat)
  | 0x0B0010 => BitVec.ofNat 32 (s.latSum % 2 ^ 24)
  | 0x0B1000 => match s.wl.fifo with
    | m :: _ => BitVec.ofNat 32 (m.src.toNat + 65536 * m.data.length + 2 ^ 23 * b2n m.bcast + 2 ^ 24 * s.wl.fifo.length)
    | [] => 0
  | _ => w

/-- PEN_STAT.STATE (R354). -/
def EngState.code : EngState → Nat
  | .disabled => 0 | .running => 1 | .waiting => 2 | .stalled => 3 | .error => 4

/-- PEN (R354). -/
def State.viewPen (s : State) (off : Nat) (w : Word) : Word :=
  if 0x0C1000 ≤ off ∧ off < 0x0C1400 then
    ((s.eng (Fin.ofNat 8 ((off - 0x0C1000) / 128))).store.toList[(off % 128) / 4]?).getD 0
  else if 0x0C0100 ≤ off ∧ off < 0x0C0300 then
    let g := s.eng (Fin.ofNat 8 ((off - 0x0C0100) / 64))
    let o := off % 64
    if 0x20 ≤ o then
      let v := (g.g.toList[(o - 0x20) / 8]?.getD 0).toNat
      if o % 8 = 0 then wordOf v 0 else wordOf v 1
    else match o with
    | 0x08 => BitVec.ofNat 32 (g.executing s.now % 32 + 32 * g.state.code + 256 * g.tx.length + 4096 * g.rx.length
        + 2 ^ 15 * b2n g.stamp.isSome + 65536 * g.emrLeft + 2 ^ 24 * g.cprCnt)
    | 0x14 => g.rx.headD 0
    | 0x1C => g.epoch
    | _ => w
  else match off with
  | 0x0C0004 => s.pen.flags.zeroExtend 32
  | 0x0C0018 => BitVec.ofNat 32 (bitsOf ((List.range 32).map (s.pinReads (Config.freeWord s.free))))
  | _ => w

/-- CLK_STAT encodings (R369). -/
def MdllState.code : MdllState → Nat
  | .locked => 0 | .bypassLock => 1 | .bypassRef => 2 | .relocking => 3

/-- CLK (R369). -/
def State.viewClk (s : State) (off : Nat) (w : Word) : Word :=
  let c := s.clk
  match off with
  | 0x0D0010 => BitVec.ofNat 32 (c.core.code + 4 * c.mem.code + 16 * b2n c.refOk + 32 * b2n c.xtalOk)
  | 0x0D0014 => BitVec.ofNat 32 (bitsOf (c.slices.toList.map (· != .locked)))
  | 0x0D0018 => BitVec.ofNat 32 (if c.noEdges then 0x8000 else satBits 16 c.ppm)
  | 0x0D0024 => BitVec.ofNat 32 (satBits 16 c.resid + 65536 * b2n c.slewing)
  | _ => w

/-- THM (R422). -/
def State.viewThm (s : State) (off : Nat) (w : Word) : Word :=
  let t := s.thm
  let fails := t.nodes.toList.map (·.failed)
  if 0x0E0100 ≤ off ∧ off < 0x0E01BC then
    match t.nodes.toList[(off - 0x0E0100) / 4]? with
    | some n => BitVec.ofNat 32 (satBits 16 n.sensor + 65536 * satBits 16 n.model)
    | none => w
  else match off with
  | 0x0E0020 => BitVec.ofNat 32 (satBits 16 t.tHot + 65536 * t.hotNode)
  | 0x0E0024 => BitVec.ofNat 32 (t.level + 32 * b2n t.hold.isSome + 64 * b2n t.rateStep + 256 * satBits 8 t.rise)
  | 0x0E0028 => BitVec.ofNat 32 (bitsOf (fails.take 32))
  | 0x0E002C => BitVec.ofNat 32 (bitsOf (fails.drop 32))
  | 0x0E0030 => t.uv.zeroExtend 32
  | _ => w

/-- The Tender's mirror block (R388), as the Tender refreshes it. -/
def State.mgtFresh (s : State) (off : Nat) (w : Word) : Word :=
  let t := s.tnd
  match off with
  | 0x0F0000 => BitVec.ofNat 32 (bitsOf [t.bank, t.boot.pref, t.trial, t.fallback, t.recovery, t.asleep, t.inhibit])
  | 0x0F0004 => BitVec.ofNat 32 (t.fuses + 128 * t.revoked.toNat)
  | 0x0F0008 => t.lseq
  | 0x0F000C => BitVec.ofNat 32 (32 * t.head)
  | 0x0F0010 => t.bootCount
  | 0x0F0014 => t.inhCnt
  | _ => w

/-- What the block shows as its owner goes down (R299). -/
def State.mgtMirror (s : State) : List (Nat × Word) :=
  [0x0F0000, 0x0F0004, 0x0F0008, 0x0F000C, 0x0F0010, 0x0F0014].map fun o => (o, s.mgtFresh o 0)

/-- MGT (R388): while the Tender is in reset or restarts, the last copy; its reset values where there is none. -/
def State.viewMgt (s : State) (off : Nat) (w : Word) : Word :=
  let v := if s.tnd.up ∨ 0x0F0018 ≤ off then s.mgtFresh off w
    else ((s.tnd.copy.find? (·.1 = off)).map (·.2)).getD 0
  if off = 0x0F0000 then put 24 8 s.tenderAge v else if off = 0x0F0100 then put 2 1 (b2n s.tnd.advDue) v else v

/-- OBS (R447). -/
def State.viewObs (s : State) (off : Nat) : Word :=
  if off < 0x100800 then
    let v := ((mget ((off - 0x100000) / 8) s.obs.cnt).getD 0).toNat
    if off % 8 = 0 then wordOf v 0 else wordOf v 1
  else s.obs.tseq

/-! ### The read -/

/-- A live register's word. -/
def State.live (s : State) (off : Nat) : Word :=
  let w := s.reg off
  match off / 65536 with
  | 0x00 => s.viewGlb off w
  | 0x01 => s.viewTbs off w
  | 0x02 => s.viewHbx off w
  | 0x03 | 0x04 | 0x05 | 0x06 => s.viewImaging off w
  | 0x08 => s.viewRel off w
  | 0x09 => s.viewDma off w
  | 0x0A => s.viewCmd off w
  | 0x0B => s.viewWlk off w
  | 0x0C => s.viewPen off w
  | 0x0D => s.viewClk off w
  | 0x0E => s.viewThm off w
  | 0x0F => s.viewMgt off w
  | 0x10 => s.viewObs off
  | _ => w

/-- What a read of a BAR0 offset returns (R291): RWF fields from the staging copy, or with VIEW from the furnish in force
(R108, R301); statistics result memory (R178); 0 where no register lies. -/
def State.readAs (s : State) (inForce : Bool) (off : Nat) : Word :=
  if 0x800000 ≤ off then s.resultWord off
  else match regAt off with
    | none => 0
    | some _ =>
      let m := maskOf (· == .rwf) off
      let f := regGet (if inForce then s.fu.inForce.regs else s.fu.staging) off
      ((s.live off &&& ~~~m) ||| (f &&& m)) ||| s.trim off

def State.readReg (s : State) (off : Nat) : Word := s.readAs (s.flag R.glbFurnCmdView) off

/-- What a read returns that is served in the core cycle of what came since the last tick (R128, R301, R302): the fields
that only hardware writes, the furnish in force and result memory as they stood at the tick; what software writes as the
accesses before it in the cycle have left it. The balls are read as they are. -/
def State.readSame (s : State) (off : Nat) : Word :=
  let view := s.flag R.glbFurnCmdView
  let old := s.atTick.readAs view off
  if 0x800000 ≤ off then old
  else if off = 0x0C0018 then s.readAs view off
  else
    let m := maskOf (fun a => match a with | .ro | .rom => true | .rwf => view | _ => false) off
    (old &&& m) ||| (s.readAs view off &&& ~~~m)

/-! ### Wide values (R296) -/

/-- The low words of result memory: the sequences of a bank header and of a period record and its
zone sums (R181 to R183). -/
def wideResult (off : Nat) : Bool :=
  let o := off % 0x2000
  decide (0x800000 ≤ off) && (if off % 0x400000 / 0x2000 = 0 then o == 0x008
    else o == 0x008 || o == 0x010 || (decide (0xD00 ≤ o) && decide (o < 0x1300) && o % 8 == 0))

/-- The offset of the word that follows a low word, for every value wider than 32 bits. -/
def wideHigh (off : Nat) : Option Nat :=
  let low := [0x000208, 0x000218, 0x010050, 0x010058, 0x010068, 0x010078, 0x080010, 0x080018].contains off ||
    (decide (0x000240 ≤ off) && decide (off < 0x0002C0) && off % 16 == 4) ||
    (decide (0x090000 ≤ off) && decide (off < 0x092000) && [0x08, 0x10, 0x28, 0x30, 0x40].contains (off % 512)) ||
    (decide (0x0A0000 ≤ off) && decide (off < 0x0A0200) && [0x08, 0x10].contains (off % 64)) ||
    (decide (0x0C0100 ≤ off) && decide (off < 0x0C0300) && decide (0x20 ≤ off % 64) && off % 8 == 0) ||
    (decide (0x100000 ≤ off) && decide (off < 0x100800) && off % 8 == 0) || wideResult off
  if low then some (off + 4) else none

/-- The shadow of a path for a high word. -/
def State.shadowOf (s : State) (path : Path) (off : Nat) : Option Word :=
  (s.shadow.find? fun e => e.1 == path && e.2.1 == off).map (·.2.2)

def State.dropShadow (path : Path) (off : Nat) (s : State) : State :=
  { s with shadow := s.shadow.filter fun e => !(e.1 == path && e.2.1 == off) }

end Sys2Proof.Machine
end

