-- ==== Sys2Proof/Machine/Image.lean ====
section
/-! DEFINITION. Firmware images (R379, R380): the fields of an image in its bank, and what its checks compute: SHA-384
(FIPS 180-4) and the verification of an ECDSA P-384 signature (FIPS 186). -/

namespace Sys2Proof.Machine

/-! ### SHA-384 -/

/-- The number that big-endian bytes spell. -/
def ofBeBytes (bs : List Byte) : Nat := bs.foldl (fun n b => n * 256 + b.toNat) 0

/-- A 64-bit word rotated right. -/
def rotr64 (n x : Nat) : Nat := (x >>> n) ||| ((x <<< (64 - n)) % 2 ^ 64)

/-- The initial hash value of SHA-384. -/
def shaInit : List Nat := [
    0xcbbb9d5dc1059ed8, 0x629a292a367cd507, 0x9159015a3070dd17, 0x152fecd8f70e5939, 0x67332667ffc00b31,
    0x8eb44a8768581511, 0xdb0c2e0d64f98fa7, 0x47b5481dbefa4fa4]

/-- The round constants. -/
def shaConst : List Nat := [
    0x428a2f98d728ae22, 0x7137449123ef65cd, 0xb5c0fbcfec4d3b2f, 0xe9b5dba58189dbbc, 0x3956c25bf348b538,
    0x59f111f1b605d019, 0x923f82a4af194f9b, 0xab1c5ed5da6d8118, 0xd807aa98a3030242, 0x12835b0145706fbe,
    0x243185be4ee4b28c, 0x550c7dc3d5ffb4e2, 0x72be5d74f27b896f, 0x80deb1fe3b1696b1, 0x9bdc06a725c71235,
    0xc19bf174cf692694, 0xe49b69c19ef14ad2, 0xefbe4786384f25e3, 0x0fc19dc68b8cd5b5, 0x240ca1cc77ac9c65] ++ [
    0x2de92c6f592b0275, 0x4a7484aa6ea6e483, 0x5cb0a9dcbd41fbd4, 0x76f988da831153b5, 0x983e5152ee66dfab,
    0xa831c66d2db43210, 0xb00327c898fb213f, 0xbf597fc7beef0ee4, 0xc6e00bf33da88fc2, 0xd5a79147930aa725,
    0x06ca6351e003826f, 0x142929670a0e6e70, 0x27b70a8546d22ffc, 0x2e1b21385c26c926, 0x4d2c6dfc5ac42aed,
    0x53380d139d95b3df, 0x650a73548baf63de, 0x766a0abb3c77b2a8, 0x81c2c92e47edaee6, 0x92722c851482353b] ++ [
    0xa2bfe8a14cf10364, 0xa81a664bbc423001, 0xc24b8b70d0f89791, 0xc76c51a30654be30, 0xd192e819d6ef5218,
    0xd69906245565a910, 0xf40e35855771202a, 0x106aa07032bbd1b8, 0x19a4c116b8d2d0c8, 0x1e376c085141ab53,
    0x2748774cdf8eeb99, 0x34b0bcb5e19b48a8, 0x391c0cb3c5c95a63, 0x4ed8aa4ae3418acb, 0x5b9cca4f7763e373,
    0x682e6ff3d6b2b8a3, 0x748f82ee5defb2fc, 0x78a5636f43172f60, 0x84c87814a1f0ab72, 0x8cc702081a6439ec] ++ [
    0x90befffa23631e28, 0xa4506cebde82bde9, 0xbef9a3f7b2c67915, 0xc67178f2e372532b, 0xca273eceea26619c,
    0xd186b8c721c0c207, 0xeada7dd6cde0eb1e, 0xf57d4f7fee6ed178, 0x06f067aa72176fba, 0x0a637dc5a2c898a6,
    0x113f9804bef90dae, 0x1b710b35131c471b, 0x28db77f523047d84, 0x32caab7b40c72493, 0x3c9ebe0a15c9bebc,
    0x431d67c49c100d4c, 0x4cc5d4becb3e42b6, 0x597f299cfc657e2a, 0x5fcb6fab3ad6faec, 0x6c44198c4a475817]

/-- The message schedule lengthened by `n` words, newest first. -/
def shaSchedule : Nat → List Nat → List Nat
  | 0, w => w
  | n + 1, w =>
    let g (i : Nat) : Nat := w[i]?.getD 0
    shaSchedule n (((g 15 + (rotr64 1 (g 14) ^^^ rotr64 8 (g 14) ^^^ (g 14 >>> 7)) + g 6 +
      (rotr64 19 (g 1) ^^^ rotr64 61 (g 1) ^^^ (g 1 >>> 6))) % 2 ^ 64) :: w)

/-- One round, with its constant and its word of the schedule. -/
def shaRound (k w : Nat) : List Nat → List Nat
  | [a, b, c, d, e, f, g, h] =>
    let t1 := h + (rotr64 14 e ^^^ rotr64 18 e ^^^ rotr64 41 e) + ((e &&& f) ^^^ ((2 ^ 64 - 1 - e) &&& g)) + k + w
    let t2 := (rotr64 28 a ^^^ rotr64 34 a ^^^ rotr64 39 a) + ((a &&& b) ^^^ (a &&& c) ^^^ (b &&& c))
    [(t1 + t2) % 2 ^ 64, a, b, c, (d + t1) % 2 ^ 64, e, f, g]
  | l => l

/-- A block of 128 bytes taken into the hash value. -/
def shaBlock (h : List Nat) (bs : List Byte) : List Nat :=
  let first := (List.range 16).map fun j => ofBeBytes ((bs.drop (8 * j)).take 8)
  let w := (shaSchedule 64 first.reverse).reverse
  List.zipWith (fun x y => (x + y) % 2 ^ 64) h ((shaConst.zip w).foldl (fun s kw => shaRound kw.1 kw.2 s) h)

/-- The padding of a message of `n` bytes: a one bit, zeros, the length in bits as 16 bytes. -/
def shaPad (n : Nat) : List Byte :=
  0x80 :: (List.replicate ((111 + 128 - n % 128) % 128) 0 ++ (leBytes 16 (8 * n)).reverse)

/-- SHA-384, as the number its 48 bytes spell. -/
def sha384 (bs : List Byte) : Nat :=
  let h := (chunks 128 (bs ++ shaPad bs.length)).foldl shaBlock shaInit
  (h.take 6).foldl (fun n w => n * 2 ^ 64 + w) 0

/-! ### ECDSA P-384 -/

/-- The field's modulus. -/
def p384 : Nat := 0xfffffffffffffffffffffffffffffffffffffffffffffffffffffffffffffffeffffffff0000000000000000ffffffff

/-- The order of the base point. -/
def p384Order : Nat := 0xffffffffffffffffffffffffffffffffffffffffffffffffc7634d81f4372ddf581a0db248b0a77aecec196accc52973

/-- The curve is y² = x³ − 3x + b. -/
def p384B : Nat := 0xb3312fa7e23ee7e4988e056be3f82d19181d9c6efe8141120314088f5013875ac656398d8a2ed19d2a85c8edd3ec2aef

/-- The base point. -/
def p384Base : Nat × Nat :=
  (0xaa87ca22be8b05378eb1c71ef320ad746e1d3b628ba79b9859f741e082542a385502f25dbf55296c3a545e3872760ab7,
   0x3617de4a96262c6f5d9e98bf9292dc29f8f41dbd289a147ce9da3113b5f0b8c00a60b1ce1d7e819d7a431d7c90ea0e5f)

/-- A point (X / Z², Y / Z³); Z = 0 is the point at infinity. -/
abbrev Jacobian := Nat × Nat × Nat

/-- Difference and product in the field. -/
def fsub (a b : Nat) : Nat := (a + p384 - b) % p384
def fmul (a b : Nat) : Nat := a * b % p384

/-- A power modulo `m`, of an exponent below 2^384. -/
def powMod (m b e : Nat) : Nat :=
  (List.range 384).reverse.foldl (fun r i => if (e >>> i) % 2 = 1 then r * r % m * b % m else r * r % m) 1

/-- A point doubled. -/
def Jacobian.double : Jacobian → Jacobian
  | (x, y, z) =>
    let d := fmul z z
    let g := fmul y y
    let b := fmul x g
    let a := fmul 3 (fmul (fsub x d) ((x + d) % p384))
    let x3 := fsub (fmul a a) (8 * b % p384)
    (x3, fsub (fmul a (fsub (4 * b % p384) x3)) (8 * fmul g g % p384), fsub (fsub (fmul (y + z) (y + z)) g) d)

/-- A point added to one given by its coordinates. -/
def Jacobian.plus (p : Jacobian) (q : Nat × Nat) : Jacobian :=
  match p with
  | (x1, y1, z1) =>
    if z1 = 0 then (q.1, q.2, 1)
    else
      let zz := fmul z1 z1
      let h := fsub (fmul q.1 zz) x1
      let r := fsub (fmul q.2 (fmul z1 zz)) y1
      if h = 0 then (if r = 0 then p.double else (1, 1, 0))
      else
        let hh := fmul h h
        let hhh := fmul h hh
        let v := fmul x1 hh
        let x3 := fsub (fsub (fmul r r) hhh) (2 * v % p384)
        (x3, fsub (fmul r (fsub v x3)) (fmul y1 hhh), fmul z1 h)

/-- `u` times the base point plus `v` times a point. -/
def twoScale (u v : Nat) (q : Nat × Nat) : Jacobian :=
  (List.range 384).reverse.foldl (fun p i =>
    let p := p.double
    let p := if (u >>> i) % 2 = 1 then p.plus p384Base else p
    if (v >>> i) % 2 = 1 then p.plus q else p) ((1, 1, 0) : Jacobian)

/-- A point lies on the curve. -/
def onCurve (q : Nat × Nat) : Bool :=
  decide (q.1 < p384) && decide (q.2 < p384) &&
    fmul q.2 q.2 == (fmul q.1 (fsub (fmul q.1 q.1) 3) + p384B) % p384

/-- A signature (r, s) of a digest under a public key is valid. -/
def ecdsaValid (q : Nat × Nat) (digest r s : Nat) : Bool :=
  decide (0 < r) && decide (r < p384Order) && decide (0 < s) && decide (s < p384Order) && onCurve q &&
    let w := powMod p384Order s (p384Order - 2)
    match twoScale (digest * w % p384Order) (r * w % p384Order) q with
    | (x, _, z) => z != 0 && fmul x (powMod p384 (fmul z z) (p384 - 2)) % p384Order == r

/-! ### The image in a bank (R379) -/

/-- Bytes of a firmware bank; an erased byte reads 0xFF (R372). -/
def FwBank.bytes (b : FwBank) (off n : Nat) : List Byte :=
  let cs := b.cells.filter fun c => decide (off ≤ c.1) && decide (c.1 < off + n)
  (List.range n).map fun i => (mget (off + i) cs).getD 0xFF

/-- A little-endian number of `n` bytes at an offset. -/
def FwBank.num (b : FwBank) (off n : Nat) : Nat := ofLeBytes (b.bytes off n)

/-- A big-endian number of `n` bytes at an offset: keys, digests and signatures (PRESUMED, assumption 93). -/
def FwBank.big (b : FwBank) (off n : Nat) : Nat := ofBeBytes (b.bytes off n)

def FwBank.version (b : FwBank) : Nat := b.num 8 4
def FwBank.rollback (b : FwBank) : Nat := b.num 12 4
def FwBank.keySlot (b : FwBank) : Nat := b.num 6 1 % 2
def FwBank.length (b : FwBank) : Nat := b.num 16 4
def FwBank.resLen (b : FwBank) : Nat := b.num 20 4

/-- The resident section, which is copied into SRAM. -/
def FwBank.resident (b : FwBank) : List Byte := b.bytes 512 b.resLen

/-- The zero fields of the header. -/
def FwBank.zeros (b : FwBank) : Bool :=
  decide (b.num 6 1 < 2) && decide (b.num 7 1 < 2) && b.num 25 7 == 0 && b.num 272 240 == 0

/-- LENGTH and RES_LEN lie in range. -/
def FwBank.lengths (b : FwBank) : Bool :=
  b.length % 32 == 0 && decide (b.length ≤ 11534336 - 512) && b.resLen % 32 == 0 && decide (b.resLen ≤ 458752) &&
    decide (b.resLen ≤ b.length)

/-- SHA-384 of PUBKEY equals the ROM's hash of KEY_SLOT, and that slot is not revoked. -/
def FwBank.keyGood (b : FwBank) (keys : Vector (BitVec 384) 2) (revoked : BitVec 2) : Bool :=
  sha384 (b.bytes 32 96) == (keys[Fin.ofNat 2 b.keySlot]).toNat && !bitOf revoked b.keySlot

/-- SIGNATURE is valid over bytes 0 to 175. -/
def FwBank.signed (b : FwBank) : Bool :=
  ecdsaValid (b.big 32 48, b.big 80 48) (sha384 (b.bytes 0 176)) (b.big 176 48) (b.big 224 48)

/-- The payload digest equals DIGEST. -/
def FwBank.digestGood (b : FwBank) : Bool := sha384 (b.bytes 512 b.length) == b.big 128 48

/-- R380: the first check that fails, 0 where all pass. -/
def FwBank.check (b : FwBank) (keys : Vector (BitVec 384) 2) (revoked : BitVec 2) (fuses : Nat) : Nat :=
  if b.cells.all fun c => decide (4096 ≤ c.1) then 1
  else if b.num 0 4 ≠ 0x52424E52 ∨ b.num 4 2 ≠ 1 ∨ ¬ b.zeros then 2
  else if ¬ b.lengths then 3
  else if ¬ b.keyGood keys revoked then 4
  else if ¬ b.signed then 5
  else if ¬ b.digestGood then 6
  else if b.rollback < fuses then 7
  else if Config.revision.toNat < b.num 24 1 then 8
  else 0

end Sys2Proof.Machine
end

