-- ==== Sys2Proof/Machine/Tender.lean ====
section
/-! DEFINITION. The Tender (R371 to R389): sleep and restart, alarm records and the log, firmware banks, the calibration
store, non-volatile writes and their inhibit, and the commands of its opcode class. -/

namespace Sys2Proof.Machine

/-! ### Banks (R379, R380) -/

def pickBank (b : Bool) : Fin 2 := if b then 1 else 0

def State.fw (s : State) (b : Fin 2) : FwBank := s.tnd.banks[b]

def State.onFw (b : Fin 2) (g : FwBank → FwBank) (s : State) : State :=
  s.modTnd fun t => { t with banks := vupd t.banks b g }

/-- A bank is verified; its verdict is kept for FW_STATUS (R380). -/
def State.verify (b : Fin 2) (s : State) : Nat × State :=
  let d := (s.fw b).check s.tnd.romKeys s.tnd.revoked s.tnd.fuses
  (d, s.onFw b fun k => { k with verdict := d, checked := true })

/-! ### The calibration store (R383) -/

def State.onTables (b : Fin 2) (g : TableBank → TableBank) (s : State) : State :=
  s.modCal fun c => { c with banks := vupd c.banks b g }

def State.onSlot (b : Fin 2) (g : CalSlot → CalSlot) (s : State) : State :=
  s.modTnd fun t => { t with slots := vupd t.slots b g }

/-- A bank takes its slot's tables if the slot passes its CRC; else it holds identity values and an alarm is posted. -/
def State.loadSlot (b : Fin 2) (s : State) : State :=
  let sl := s.tnd.slots[b]
  if sl.crcOk then
    (s.onTables b fun _ => { sl.bank with fromSlot := true, bad := [] }).logOwn 0x0040
      ([BitVec.ofNat 8 b.val, BitVec.ofNat 8 b.val, 1] ++ leBytes 4 sl.version.toNat)
  else
    (s.onTables b fun _ => {}).postAlarm 0x0040 ([BitVec.ofNat 8 b.val, BitVec.ofNat 8 b.val, 1] ++ leBytes 4 sl.version.toNat)

/-- R138: a furnish in force or retained selects a bank for its tables; R79: for its dark offsets. -/
def State.tablesUsed (s : State) (b : Fin 2) : Bool := (s.fu.inForce :: s.fu.retained).any (·.tblBank == b)
def State.darkUsed (s : State) (b : Fin 2) : Bool := (s.fu.inForce :: s.fu.retained).any (·.darkBank == b)

/-! ### Non-volatile writes (R372, R385, R386) -/

/-- The steps of a slot's body: 751 sectors of 4 KiB, each an erase and 16 page programs. -/
def bodySteps : Nat := 751 * 17

/-- A sector erase is abandoned by an inhibit in any case. -/
def NvWork.erases : NvWork → Bool
  | .fwErase .. | .bootErase | .calErase _ | .assetErase => true
  | .calBody _ _ left => left % 17 == 16
  | _ => false

/-- The steps after one that is done. -/
def NvWork.after : NvWork → List NvWork → List NvWork
  | .calBody b k (n + 1), ws => .calBody b k n :: ws
  | _, ws => ws

/-- The effect of a step that completes. -/
def State.nvEffect (w : NvWork) (s : State) : State :=
  match w with
  | .fwErase b k => s.onFw b fun f => { f with cells := f.cells.filter fun c => c.1 / 4096 ≠ k }
  | .fwProgram b off bytes => s.onFw b fun f =>
    { f with cells := (bytes.zipIdx).foldl (fun m (v, i) => mset 0xFF (off + i) ((mget (off + i) m).getD 0xFF &&& v) m) f.cells }
  | .assetErase => s
  | .bootErase => s.modTnd fun t => { t with boots := vupd t.boots t.spare fun _ => none }
  | .bootProgram pref trial tried n => s.modTnd
    (·.putBoot fun b => { b with pref := pref, trial := trial, tried := tried, count := b.count + BitVec.ofNat 32 n })
  | .bootConfirm bank => s.modTnd
    (·.putBoot fun b => if b.pref == bank then { b with trial := false, tried := false } else b)
  | .calErase b => s.onSlot b fun c => { c with crcOk := false }
  | .calBody b k left => if left = 0 then s.onSlot b fun c => { c with bank := k } else s
  | .calHeader b => s.onSlot b fun c => { c with crcOk := true, version := c.version + 1 }
  | .assetProgram v => (s.modTnd fun t => { t with asset := some v }).setReg 0x000024 v
  | .fuse upTo => s.modTnd fun t => { t with fuses := if t.fuses < upTo then t.fuses + 1 else t.fuses }
  | .revoke k => s.modTnd fun t => { t with revoked := t.revoked ||| ((1 : BitVec 2) <<< k) }

/-- A write has made its last step: its record and its completion (R376, R382, R383). -/
def State.nvFinish (k : NvKind) (s : State) : State :=
  let now := s.now
  let s := s.modTnd fun t => { t with idleFrom := now }
  match k with
  | .fwWrite p b off len => (s.onFw b fun f => { f with next := off + len, must := none }).done p 0 0 0
  | .fwActivate p b => (s.logOwn 0x0030 (BitVec.ofNat 8 b.val :: leBytes 4 (s.fw b).version)).done p 0 0 0
  | .calStore p b =>
    let v := (s.tnd.slots[b]).version
    (s.logOwn 0x0040 ([BitVec.ofNat 8 b.val, BitVec.ofNat 8 b.val, 0] ++ leBytes 4 v.toNat)).done p 0 0 0
  | .advance => s.logOwn 0x0031 [BitVec.ofNat 8 s.tnd.fuses]
  | .asset | .boot false => s
  | .boot true => (s.modTnd fun t => { t with trial := false }).logOwn 0x0012 (leBytes 4 (s.fw (pickBank s.tnd.bank)).version)

/-- The opcode a 0x0020 record names: 0xFFFF for a register write (R376); the Tender's own rewrite of a boot record has
none. -/
def NvKind.opcode : NvKind → Option Nat
  | .fwWrite .. => some 0x0602
  | .fwActivate .. => some 0x0603
  | .calStore .. => some 0x0205
  | .advance | .asset => some 0xFFFF
  | .boot _ => none

/-- The Tender's own rewrite of the boot record. -/
def NvKind.isBoot : NvKind → Bool
  | .boot _ => true
  | _ => false

/-- What an unfinished write leaves behind once a step of it has taken place (R386). -/
def State.nvBroken (k : NvKind) (s : State) : State :=
  match k with
  | .fwWrite _ b off _ => s.onFw b fun f => { f with must := some (off / 4096 * 4096) }
  | .calStore _ b => s.onSlot b fun c => { c with crcOk := false }
  | _ => s

/-- The packet of a write. -/
def NvKind.packet : NvKind → Option PktRef
  | .fwWrite p .. | .fwActivate p _ | .calStore p _ => some p
  | _ => none

/-- An inhibited command or register write is counted and noted for its record (R386). -/
def State.nvNote (op det : Nat) (s : State) : State :=
  s.modTnd fun t => { t with inhCnt := t.inhCnt + 1, inhList := t.inhList ++ [(BitVec.ofNat 16 op, det)] }

/-- An inhibited write ends with status 0x07 (R386); GLB_ASSET is unspent again (R305). -/
def State.nvRefuse (k : NvKind) (det : Nat) (s : State) : State :=
  let s := match k.opcode with
    | some op => s.nvNote op det
    | none => s
  let s := s.iff (det == 2) (·.nvBroken k)
  let s := s.iff (k == .asset) fun s => (s.fset R.glbLockAssetSpent 0).raise R.glbEvtWo1Inhibit
  match k.packet with
  | some p => s.done p 7 det 0
  | none => s

/-- Non-volatile writes are inhibited, or an inhibit begins in this same core cycle, which wins (R385, R389). -/
def State.nvShut (s : State) : Bool := s.tnd.inhibit || s.pending.any fun | .nvInhibit _ same => same | _ => false

/-- A write that waits for its steps. -/
def State.nvQueue (k : NvKind) (work : List NvWork) (s : State) : State :=
  s.modTnd fun t => { t with jobs := t.jobs ++ [{ kind := k, work := work }] }

/-- A write is begun, or inhibited before its first step (R385, R389); a rewrite of the boot record then waits. -/
def State.nvBegin (k : NvKind) (work : List NvWork) (s : State) : State :=
  if s.nvShut then
    if k.isBoot then (s.nvQueue k work).modTnd fun t => { t with inhCnt := t.inhCnt + 1 } else s.nvRefuse k 1
  else if work.isEmpty then s.nvFinish k
  else
    let s := s.nvQueue k work
    match k.packet with
    | some p => s.runOn p
    | none => s

/-- The ROM's rewrite of the boot record, within the start-up command that makes it; under an inhibit it waits, and the
previous record stays in force (R372, R385). -/
def State.bootRewrite (pref trial tried : Bool) (s : State) : State :=
  if s.nvShut then s.nvBegin (.boot false) [.bootErase, .bootProgram pref trial tried 1]
  else s.nvEffect (.bootProgram pref trial tried 1)

/-- NV_WRITE_STEP_DONE: the step under way is done; the next begins, or the write is finished. A fuse that does not read
blown with margin (`reads`) does not count (R382). -/
def State.nvStep (reads : Bool) (s : State) : State :=
  match s.tnd.jobs with
  | [] => s
  | j :: rest =>
    if s.tnd.inhibit || !s.tnd.up then s
    else match j.work with
    | [] => s.modTnd fun t => { t with jobs := rest }
    | w :: ws =>
      let s := match w with
        | .fuse _ => s.iff reads (·.nvEffect w)
        | _ => s.nvEffect w
      let ws := w.after ws
      if ws.isEmpty then (s.modTnd fun t => { t with jobs := rest }).nvFinish j.kind
      else s.modTnd fun t => { t with jobs := { j with work := ws } :: rest }

/-- A rewrite of the boot record or of the asset record that was cut short starts over with the erase. -/
def NvJob.again (j : NvJob) : NvJob :=
  let rest := j.work.filter fun w => !w.erases
  match j.kind with
  | .boot _ => { j with work := .bootErase :: rest }
  | .asset => { j with work := .assetErase :: rest }
  | _ => j

/-- LOG_NOTEs in progress end with status 0x07: detail 0x02 where a record of theirs is written already, else 0x01; their
records stay queued (R386). -/
def State.nvNotes (s : State) : State :=
  let notes := s.tnd.notes
  let waits (e : PktRef × BitVec 32) : Nat :=
    (s.tnd.queue.filter fun r => decide ((BitVec.ofNat 32 (bits r 0 32) - e.2).toNat < 4)).length
  let s := s.modTnd fun t => { t with notes := [] }
  s.each notes fun e s =>
    let det := if waits e < 4 then 2 else 1
    (s.modTnd fun t => { t with inhList := t.inhList ++ [(0x0601, det)] }).done e.1 7 det 0

/-- The step under way is completed or abandoned; what is left of the writes, and whether the first had begun. -/
def State.nvCut (completes : Bool) (s : State) : State :=
  match s.tnd.jobs with
  | { kind := _, work := w :: _ } :: _ => if completes && !w.erases then s.nvStep true else s
  | _ => s

/-- NV_INHIBIT (R385, R386). -/
def State.inhibitNv (aon : Bool) (s : State) : State :=
  if s.tnd.inhibit then s.modTnd fun t => { t with inhAon := t.inhAon || aon }
  else
    let now := s.now
    let first := s.tnd.jobs.head?
    let s := s.nvCut (!aon && decide (200 ≤ s.fget R.mgtHoldup))
    let s := (s.modTnd fun t => { t with inhibit := true, inhAt := now, inhAon := aon }).raiseOnce R.mgtEvtInhibit
    let js := s.tnd.jobs
    let s := s.modTnd fun t =>
      { t with jobs := (t.jobs.filter (·.kind.isBoot)).map (·.again),
               inhCnt := t.inhCnt + BitVec.ofNat 32 (t.queue.length + (t.jobs.filter (·.kind.isBoot)).length) }
    let s := s.each js fun j s =>
      s.iff (!j.kind.isBoot) (·.nvRefuse j.kind (if first.any (·.kind == j.kind) then 2 else 1))
    s.nvNotes

/-- A record is marked DEFERRED, with its CRC formed anew (R375, R385). -/
def deferRecord (r : BitVec 256) : BitVec 256 :=
  let b := (leBytes 30 r.toNat).mapIdx fun i v => if i = 14 then v ||| 4 else v
  BitVec.ofNat 256 (ofLeBytes (b ++ leBytes 2 (crc16 b)))

/-- NV_RECOVERY (R385, R386): queued records are deferred ones; one record for each inhibited write, then the recovery. -/
def State.recoverNv (s : State) : State :=
  if !s.tnd.inhibit then s
  else
    let list := s.tnd.inhList
    let ms := (s.now - s.tnd.inhAt) / 1000000
    let s := s.modTnd fun t => { t with inhibit := false, inhList := [], queue := t.queue.map deferRecord }
    let s := s.each list fun e s => s.logOwn 0x0020 (leBytes 2 e.1.toNat ++ leBytes 1 e.2)
    (s.logOwn 0x0021 (leBytes 4 ms)).raiseOnce R.mgtEvtRecovered

/-- At a restart of the Tender or a warm reset, a write that belongs to a packet ends where it stands (R374, R427); a
write of a register or of the Tender's own goes on afterwards. -/
def State.nvAbandon (completes : Bool) (s : State) : State :=
  let s := s.nvCut completes
  let js := s.tnd.jobs
  let s := s.modTnd fun t => { t with jobs := (t.jobs.filter (·.kind.packet.isNone)).map (·.again) }
  s.each (js.take 1) fun j s => s.iff j.kind.packet.isSome (·.nvBroken j.kind)

/-! ### Alarm records and the log (R375 to R378) -/

/-- ALARM_RECORD (R377, R332): the first alarm posted becomes a record. -/
def State.alarmRecord (s : State) : State :=
  match s.tnd.posted with
  | [] => s
  | a :: rest =>
    if !s.tnd.up || s.tnd.asleep then s
    else
      let data := match a.off with
        | some off => leBytes 4 (s.readReg off).toNat ++ a.data
        | none => a.data
      let wants := s.flag R.mgtCtrlAlarmEn && a.hand
      let ch := Fin.ofNat 16 (s.fget R.mgtCtrlAlarmDc)
      let fits := s.chClass ch.val == 0
      let head := s.fget R.wlkHeadId
      let t := s.tnd
      let rec' := logRecord t.lseq.toNat a.tick a.code.toNat a.sev t.bootCount.toNat head false false (wants && fits) data
      let bytes := leBytes 32 rec'.toNat
      let s := s.modTnd fun t => { t with posted := rest }
      let s := s.queueLog a.code.toNat a.sev a.tick head false (wants && fits) data
      let s := s.iff (wants && fits) (·.handUnit ch { kind := .alarm, bytes := bytes })
      let s := s.iff (wants && !fits) fun s =>
        (s.raiseOnce R.mgtEvtAlarmBind).modTnd fun t =>
          { t with posted := t.posted.map fun p => if p.code = 0x1006 then { p with hand := false } else p }
      s.iff (s.flag R.wlkCtrlAlarmUp && s.onLink && s.wl.sourceOk) (·.sendMessage s.wl.source.toNat bytes)

/-- LOG_SUPPRESS (R378): once there is room, the records that a full queue refused are reported by CODE. -/
def State.reportRefused (s : State) : State :=
  s.each s.tnd.refused fun e s =>
    if s.tnd.queue.length < 1024 then
      (s.modTnd fun t => { t with refused := t.refused.filter (·.1 ≠ e.1) }).logOwn 0x0001
        (leBytes 2 e.1.toNat ++ leBytes 4 e.2)
    else s

/-- LOG_NOTEs whose records stand in the log, none being queued any more, complete (R279). -/
def State.notesDone (s : State) : State :=
  let waits (e : PktRef × BitVec 32) : Bool :=
    s.tnd.queue.any fun r => decide ((BitVec.ofNat 32 (bits r 0 32) - e.2).toNat < 4)
  let ended := s.tnd.notes.filter fun e => !waits e
  (s.modTnd fun t => { t with notes := t.notes.filter waits }).each ended fun e s => s.done e.1 0 0 0

/-- LOG_WRITE (R378). -/
def State.logWrite (s : State) : State :=
  match s.tnd.queue with
  | [] => s
  | r :: rest =>
    let t := s.tnd
    if !t.up || t.inhibit || (t.head % 128 == 0 && t.erased == 0) then s
    else
      let now := s.now
      let s := s.modTnd fun t =>
        { t with queue := rest, log := mput t.head r t.log, head := (t.head + 1) % 131072, idleFrom := now,
                 erased := if t.head % 128 = 0 then t.erased - 1 else t.erased }
      (s.bump 0xDD 1).reportRefused.notesDone

/-- LOG_SECTOR_ERASE (R378): the next sector ahead, while fewer than nine are erased ahead of a sector not begun, or
fewer than eight ahead of one begun. -/
def State.logErase (s : State) : State :=
  let t := s.tnd
  let need := if t.head % 128 = 0 then 9 else 8
  if !t.up || t.inhibit || decide (need ≤ t.erased) then s
  else
    let k := (ceilDiv t.head 128 + t.erased) % 1024
    s.modTnd fun t => { t with erased := t.erased + 1, log := t.log.filter fun e => e.1 / 128 ≠ k }

/-- A byte of the log region (R378). -/
def Tender.logByte (t : Tender) (o : Nat) : Byte :=
  let o := o % 4194304
  match mget (o / 32) t.log with
  | some r => BitVec.ofNat 8 (r.toNat >>> (8 * (o % 32)))
  | none => 0xFF

/-! ### Restart and sleep (R373, R374) -/

/-- A queued record has a good CRC (R375, R378). -/
def recordGood (r : BitVec 256) : Bool := crc16 ((leBytes 32 r.toNat).take 30) == bits r 240 16

/-- R378: a kept record whose CRC fails is discarded as the Tender starts again. -/
def State.keepRecords (s : State) : State := s.modTnd fun t => { t with queue := t.queue.filter recordGood }

/-- An uncorrectable SRAM word: the bits it damages in a record of the queue, where it lies there (R371, R378). -/
def State.sramHit (hit : Option (Nat × BitVec 256)) (s : State) : State :=
  match hit with
  | some (i, m) => s.modTnd fun t => { t with queue := t.queue.mapIdx fun j r => if j = i then r ^^^ m else r }
  | none => s

/-- The Tender goes into a restart. -/
def State.tenderRestart (cause : Nat) (s : State) : State :=
  if !s.tnd.up then s
  else
    let now := s.now
    let mine := s.cmd.packets.filter fun p => p.holdsClass && !p.fast
    let shown := s.mgtMirror
    let s := (s.nvAbandon false).modCmd fun c => { c with capture := none, enum := none, message := none, closing := false }
    let s := s.modTnd fun t =>
      { t with up := false, asleep := false, restart := some cause, downAt := now, copy := shown, notes := [], resident := [] }
    let s := s.each mine fun p s => s.done p.ref 0x0E 1 0
    (s.raiseOnce R.mgtEvtRestart).trace 0x16 cause 0

/-- The Tender enters recovery mode (R379, R381): an alarm names the bank and the detail of its verification. -/
def State.enterRecovery (bank : Bool) (det : Nat) (s : State) : State :=
  (s.modTnd fun t => { t with recovery := true }).postAlarm 0x0011 (leBytes 1 (b2n bank) ++ leBytes 1 det)

/-- The resident section of the running bank is copied into SRAM (R379). -/
def State.loadResident (s : State) : State :=
  let k := s.fw (pickBank s.tnd.bank)
  s.modTnd fun t => { t with resident := k.resident }

/-- ADVANCE (R382). -/
def State.doAdvance (s : State) : State :=
  let t := s.tnd
  if !s.flag R.mgtFwCtrlAdvEn || t.trial || t.recovery then s.raiseOnce R.mgtEvtAdvDenied
  else
    let b := s.fw (pickBank t.bank)
    let top := min 64 b.rollback
    let revoke := b.num 7 1 % 2 == 1 && !bitOf t.revoked (1 - b.keySlot)
    s.nvBegin .advance (List.replicate (top - t.fuses) (.fuse top) ++ (if revoke then [.revoke (1 - b.keySlot)] else []))

/-- The go-bit ADVANCE: the Tender accepts it while it runs; otherwise it stays pending (R295). -/
def State.advance (s : State) : State :=
  if s.tnd.up then s.wakeTender.doAdvance else s.modTnd fun t => { t with advDue := true }

/-- What waited for the Tender to run again: records of DL_Downs (R387), a pending ADVANCE. -/
def State.tenderBack (s : State) : State :=
  let t := s.tnd
  let s := s.modTnd fun t => { t with downs := [], advDue := false }
  let s := s.each t.downs fun d s => s.logOwn 0x0050 d
  s.iff t.advDue (·.advance)

/-- TENDER_RESTART_DONE (R374). -/
def State.restartDone (s : State) : State :=
  match s.tnd.restart with
  | none => s
  | some cause =>
    let now := s.now
    let s := s.modTnd fun t =>
      { t with up := true, restart := none, idleFrom := now }
    let b := s.tnd.boot
    let s := (s.bootRewrite b.pref b.trial b.tried).keepRecords.logOwn 0x0013 [BitVec.ofNat 8 cause]
    if s.tnd.recovery then s.tenderBack
    else
      let (det, s) := s.verify (pickBank s.tnd.bank)
      (if det = 0 then s.loadResident else s.enterRecovery s.tnd.bank det).tenderBack

/-- Nothing keeps the Tender awake (R373). -/
def State.tenderIdle (s : State) : Bool :=
  let t := s.tnd
  s.cmd.packets.all (fun p => p.fast || p.stage == .accepted) && t.queue.isEmpty && t.jobs.isEmpty && t.posted.isEmpty &&
    t.reload.isEmpty && t.restart.isNone

/-- TENDER_SLEEP (R373). -/
def State.tenderSleeps (s : State) : State :=
  let n := s.fget R.mgtCtrlSleepIdle
  if s.tnd.up && !s.tnd.asleep && n != 0 && s.tenderIdle && decide (s.tnd.idleFrom + 1000000 * n ≤ s.now) then
    s.modTnd fun t => { t with asleep := true }
  else s

/-! ### Host loss, table reload -/

/-- HOST_LOSS_FREEZE (R387): a periodic task of the Tender, whose timer wakes it (R373). -/
def State.hostLoss (s : State) : State :=
  match s.tnd.lostAt with
  | none => s
  | some t =>
    let n := s.fget R.mgtHostTimeout
    if s.tnd.up && s.flag R.mgtCtrlHostlossFreeze && n != 0 && !s.link.up && decide (t + 1000000000 * n ≤ s.now) then
      ((s.wakeTender.modTnd fun t => { t with lostAt := none }).fset R.relCtrlFreeze 1).logOwn 0x0051 (leBytes 6 s.reel.headWc.toNat)
    else s

/-- TABLE_RELOAD (R384). -/
def State.tableReload (s : State) : State :=
  if !s.tnd.up then s
  else match s.tnd.reload with
  | [] => s
  | .inl b :: rest =>
    let s := s.modTnd fun t => { t with reload := rest }
    let sl := s.tnd.slots[b]
    if (s.cal.banks[b]).fromSlot && sl.crcOk then
      ((s.onTables b fun _ => { sl.bank with fromSlot := true, bad := [] }).raiseOnce R.mgtEvtReload).logOwn 0x0041
        [BitVec.ofNat 8 b.val, 0]
    else s.alarmOf R.calEvtEccUe 0
  | .inr id :: rest =>
    let s := s.modTnd fun t => { t with reload := rest }
    let s := s.modCal fun c => { c with badCoef := c.badCoef.filter (·.1 ≠ id) }
    (s.raiseOnce R.mgtEvtReload).logOwn 0x0041 [BitVec.ofNat 8 (s.furnish id).tblBank.val, 1]

/-! ### FW_WRITE (R382) -/

/-- The programs of a block of bytes, page by page. -/
def pagesFrom (b : Fin 2) (off : Nat) (bs : List Byte) : List NvWork :=
  let n := 256 - off % 256
  .fwProgram b off (bs.take n) ::
    ((chunks 256 (bs.drop n)).zipIdx.map fun (c, i) => .fwProgram b (off + n + 256 * i) c)

/-- FW_WRITE: an aligned write erases its own sectors; any other continues where the last one ended (assumption 43). -/
def State.fwWrite (p : Packet) (s : State) : State :=
  let b : Fin 2 := pickBank (p.par 0 1 % 2 == 1)
  let off := p.par 4 4
  let len := p.dlen
  let t := s.tnd
  let f := s.fw b
  if !t.recovery && b == pickBank t.bank then s.done p.ref 9 3 0
  else if off % 32 ≠ 0 then s.done p.ref 2 0xF3 0
  else if 11534336 < off + len then s.done p.ref 2 0x62 0
  else if (match f.must with | some x => decide (off ≠ x) | none => off % 4096 != 0 && off != f.next) then
    s.done p.ref 2 0x61 0
  else
    let boot : List NvWork := if !t.recovery && b == pickBank t.boot.pref then [.bootErase, .bootProgram t.bank false false 0] else []
    let first := ceilDiv off 4096
    let erases := (List.range (ceilDiv (off + len) 4096 - first)).map fun i => NvWork.fwErase b (first + i)
    s.nvBegin (.fwWrite p.ref b off len) (boot ++ erases ++ pagesFrom b off p.block)

/-- FW_ACTIVATE (R382). -/
def State.fwActivate (p : Packet) (s : State) : State :=
  let b : Fin 2 := pickBank (p.par 0 1 % 2 == 1)
  if !s.flag R.mgtFwCtrlActEn then s.done p.ref 9 5 0
  else if s.nvShut then s.nvRefuse (.fwActivate p.ref b) 1
  else
    let (det, s) := s.verify b
    if det ≠ 0 then s.done p.ref 0x0C det 0
    else s.nvBegin (.fwActivate p.ref b) [.bootErase, .bootProgram (b == 1) true false 0]

/-- FW_STATUS (R382). -/
def State.fwStatus (s : State) : List Byte :=
  let t := s.tnd
  let a := s.fw 0
  let b := s.fw 1
  let good (f : FwBank) : Bool := f.checked && f.verdict == 0
  fit 64 (leBytes 1 (b2n t.bank) ++ leBytes 1 (b2n t.boot.pref)
    ++ leBytes 2 (bitsOf [t.trial, t.fallback, good a, good b, t.recovery])
    ++ leBytes 4 a.version ++ leBytes 4 b.version ++ leBytes 4 a.rollback ++ leBytes 4 b.rollback
    ++ leBytes 4 t.fuses ++ leBytes 4 t.bootCount.toNat ++ leBytes 1 a.verdict ++ leBytes 1 b.verdict
    ++ leBytes 1 t.revoked.toNat)

/-! ### Calibration commands -/

/-- CAL_STORE (R383): header sector, body, header. -/
def State.calStore (p : Packet) (s : State) : State :=
  let b : Fin 2 := pickBank (p.par 0 1 % 2 == 1)
  let k := { s.cal.banks[b] with fromSlot := false, bad := [] }
  s.nvBegin (.calStore p.ref b) [.calErase b, .calBody b k (bodySteps - 1), .calHeader b]

/-- CAL_LOAD (R383, R276). -/
def State.calLoad (p : Packet) (s : State) : State :=
  let b : Fin 2 := pickBank (p.par 0 1 % 2 == 1)
  if s.tablesUsed b || s.darkUsed b then s.done p.ref 3 0x20 0
  else
    let good := (s.tnd.slots[b]).crcOk
    let s := s.loadSlot b
    if good then s.done p.ref 0 0 0 else s.done p.ref 0x0B 1 0

/-! ### Returned data and log commands -/

/-- LOG_READ (R378). -/
def State.logRead (p : Packet) (s : State) : State :=
  let n := p.par 4 4
  if n = 0 then s.done p.ref 2 0 0
  else if tooLong p.ref n then s.done p.ref 2 0xF5 0
  else s.complete p.ref 0 0 0 ((List.range n).map fun i => s.tnd.logByte (p.par 0 4 + i))

/-- LOG_NOTE (R376, R378): four records of eight text bytes each. -/
def State.logNote (p : Packet) (s : State) : State :=
  if s.nvShut then (s.nvNote 0x0601 1).done p.ref 7 1 0
  else
    let first := s.tnd.lseq
    let s := s.each [0, 1, 2, 3] fun k s => s.logOwn (2 + k) (leBytes 8 (p.par (8 * k) 8))
    ((s.modTnd fun t => { t with notes := t.notes ++ [(p.ref, first)] }).runOn p.ref).notesDone

/-! ### The commands -/

/-- TENDER_SLEEP (R373). -/
def execTenderSleep (s : State) : Answer := .next s.tenderSleeps

/-- WATCHDOG_EXPIRY (R374). -/
def execWatchdogExpiry (s : State) : Answer := .next (s.tenderRestart 1)

/-- TENDER_SRAM_ERROR (R374). -/
def execTenderSramError (hit : Option (Nat × BitVec 256)) (s : State) : Answer :=
  .next (if s.tnd.up then (s.sramHit hit).tenderRestart 2 else s)

/-- TENDER_RESTART_DONE (R374). -/
def execTenderRestartDone (s : State) : Answer := .next s.restartDone

/-- ALARM_RECORD (R377). -/
def execAlarmRecord (s : State) : Answer := .next s.alarmRecord

/-- LOG_WRITE (R378). -/
def execLogWrite (s : State) : Answer := .next s.logWrite

/-- LOG_SECTOR_ERASE (R378). -/
def execLogSectorErase (s : State) : Answer := .next s.logErase

/-- NV_INHIBIT (R385): VDD_AON below 1.71 V, or SUPPLY_WARN_N low. -/
def execNvInhibit (aon _same : Bool) (s : State) : Answer := .next (s.inhibitNv aon)

/-- NV_RECOVERY (R386). -/
def execNvRecovery (s : State) : Answer := .next s.recoverNv

/-- NV_WRITE_STEP_DONE (R385). -/
def execNvWriteStepDone (reads : Bool) (s : State) : Answer := .next (s.nvStep reads)

/-- HOST_LOSS_FREEZE (R387). -/
def execHostLossFreeze (s : State) : Answer := .next s.hostLoss

/-- TABLE_RELOAD (R384). -/
def execTableReload (s : State) : Answer := .next s.tableReload

/-- CAL_STORE (R383). -/
def execCalStore (p : PktRef) (s : State) : Answer := .next (s.pelquel p 0x0205 false fun k s => s.calStore k)

/-- CAL_LOAD (R383). -/
def execCalLoad (p : PktRef) (s : State) : Answer := .next (s.pelquel p 0x0206 false fun k s => s.calLoad k)

/-- LOG_READ (R378). -/
def execLogRead (p : PktRef) (s : State) : Answer := .next (s.pelquel p 0x0600 false fun k s => s.logRead k)

/-- LOG_NOTE (R378). -/
def execLogNote (p : PktRef) (s : State) : Answer := .next (s.pelquel p 0x0601 false fun k s => s.logNote k)

/-- FW_WRITE (R382). -/
def execFwWrite (p : PktRef) (s : State) : Answer := .next (s.pelquel p 0x0602 false fun k s => s.fwWrite k)

/-- FW_ACTIVATE (R382). -/
def execFwActivate (p : PktRef) (s : State) : Answer :=
  .next (s.pelquel p 0x0603 false fun k s => s.fwActivate k)

/-- FW_STATUS (R382). -/
def execFwStatus (p : PktRef) (s : State) : Answer :=
  .next (s.pelquel p 0x0604 false fun k s => s.complete k.ref 0 0 0 s.fwStatus)

end Sys2Proof.Machine
end

