-- ==== Sys2Proof/Machine/Registers.lean ====
section
/-! DEFINITION. Register accesses (R291 to R306): what a 32-bit write does field by field, reserved bits, locks, the
write-once field, the attention the two-wire port requests (R400, R401), and the wide reads. The commands that make
accesses are in Accesses.lean. -/

namespace Sys2Proof.Machine

/-! ### Attention (R400, R401, R403) -/

/-- GLB_ATTN AND GLB_ATTN_EN. -/
def State.masked (s : State) : BitVec 5 := (s.reg 0x000008 &&& s.reg 0x00000C).extractLsb' 0 5

/-- The always-on domain looks at the masked attention: a request ends when it is zero, begins when a bit is gained;
ATTN_N goes low with requests disabled and stays low until it is zero. Attention wakes the Tender (R373, R396). -/
def State.attnSettle (s : State) : State :=
  let m := s.masked
  let new := m &&& ~~~s.tw.seen != 0
  let on := s.flag R.cmdTwCfgIbrEn
  let s := s.iff new (·.wakeTender)
  s.modTw fun t =>
    if m = 0 then { t with seen := 0, tries := 0, wanted := false, release := none, attn := false }
    else if t.attn then { t with seen := m }
    else if !on then { t with seen := m, wanted := false, release := none, attn := true }
    else if new then { t with seen := m, tries := 0, wanted := true, release := none }
    else { t with seen := m }

/-! ### Locks (R303, R304) -/

/-- The locked bits of a register: RWL fields of a group whose lock bit is set. -/
def State.lockMask (s : State) (off : Nat) : Word :=
  let l := s.reg 0x000014
  maskOf (fun a => match a with | .rwl g => bitOf l g | _ => false) off

/-- A violation of a write (R304): a locked field would differ, a set lock bit would be cleared, a spent GLB_ASSET is
written. -/
def State.violates (s : State) (off : Nat) (v : Word) : Bool :=
  if off = 0x000024 then s.flag R.glbLockAssetSpent
  else
    let lk := s.lockMask off ||| (if off = 0x000014 then s.reg off &&& 0x3F else 0)
    (v ^^^ s.reg off) &&& lk != 0

/-- LOCK_VIOLATION (R304). -/
def State.violation (path : Path) (off : Nat) (s : State) : State :=
  let s := s.raise R.glbLockViol
  let s := (s.countSat R.glbLockViolCount 1).fset R.glbLockViolPath (pathCode path)
  let s := (s.setReg 0x00001C (BitVec.ofNat 32 (off % 2 ^ 24))).trace 0x01 (pathCode path) (BitVec.ofNat 32 (off % 2 ^ 24))
  (s.alarmOf R.glbLockViol 0).bump 0xE7 1

/-! ### The effect of a write -/

/-- ASSET_WRITE (R305): the first write spends the field; the value is stored in the NOR. -/
def State.assetWrite (path : Path) (v : Word) (s : State) : State :=
  if s.flag R.glbLockAssetSpent then s.violation path 0x000024
  else (s.fset R.glbLockAssetSpent 1).nvBegin .asset [.assetErase, .assetProgram v]

/-- A write of GLB_FURN_CMD: KIND and VIEW, then the go-bits COMMIT and CANCEL (R127, R128). -/
def State.writeFurnCmd (same : Bool) (w v : Word) (s : State) : State :=
  let s := s.setReg 0x000204 (w &&& 0x16)
  let s := s.iff (bitOf v 0) (·.registerCommit same)
  s.iff (bitOf v 3) (·.registerCancel)

/-- A write of HBX_SL_CTRL (R78). -/
def State.writeSlice (i : Fin 38) (v : Word) (s : State) : State :=
  let s := if bitOf v 1 then s.forceFail i else s.fset (R.hbxSlCtrlForceFail i.val) 0
  s.iff (bitOf v 0) (·.rearmSlice i)

/-- A write of a pin engine's registers (R348, R354). -/
def State.writeEngine (e : Fin 8) (off : Nat) (w v : Word) (s : State) : State :=
  match off % 64 with
  | 0x10 => s.txWrite e v
  | 0x18 => s.iff (bitOf v 0) (·.rxPop e)
  | _ => s.setReg off w

/-- What a write brings about: `w` is the register's new word (unlocked, writable bits), `v` the word written; `same`: it
is served in the core cycle of what came since the last tick. -/
def State.effect (same : Bool) (off : Nat) (w v : Word) (s : State) : State :=
  match off with
  | 0x000204 => s.writeFurnCmd same w v
  | 0x000404 => s.writeLinkCtrl w
  | 0x080000 => (s.setReg off (w &&& ~~~1)).iff (bitOf v 0) (·.relayout)
  | 0x0A1040 => s.iff (bitOf v 0) (·.mailboxGo)
  | 0x0B0000 => s.writeWlkCtrl w
  | 0x0B1044 => s.iff (bitOf v 0) (·.popMessage)
  | 0x0C0000 => s.writePenStart w
  | 0x0C0008 => (s.setFlags (v.extractLsb' 0 8)).clrFlags same (v.extractLsb' 8 8 &&& ~~~(v.extractLsb' 0 8))
  | 0x0D0000 => (s.setReg off w).clkWritten (s.reg 0x0D0000) (s.reg 0x0D0004)
  | 0x0D0004 => (s.setReg off w).clkWritten (s.reg 0x0D0000) (s.reg 0x0D0004)
  | 0x0E000C => s.iff (bitOf v 0) (·.rearmSensors)
  | 0x0F0100 => (s.setReg off (w &&& ~~~4)).iff (bitOf v 2) (·.advance)
  | _ =>
    if 0x020000 ≤ off ∧ off < 0x029800 ∧ off % 0x400 = 4 then s.writeSlice (Fin.ofNat 38 ((off - 0x020000) / 0x400)) v
    else if 0x090000 ≤ off ∧ off < 0x092000 ∧ off % 512 = 0 then s.writeChCtrl (Fin.ofNat 16 ((off - 0x090000) / 512)) v
    else if 0x0A0000 ≤ off ∧ off < 0x0A0200 ∧ off % 64 = 0 then s.writeQCtrl (Fin.ofNat 8 ((off - 0x0A0000) / 64)) v
    else if 0x0B0100 ≤ off ∧ off < 0x0B0200 ∧ off % 64 = 0 then s.writePortCtrl (Fin.ofNat 4 ((off - 0x0B0100) / 64)) v
    else if 0x0C0100 ≤ off ∧ off < 0x0C0300 then s.writeEngine (Fin.ofNat 8 ((off - 0x0C0100) / 64)) off w v
    else if 0x0C1000 ≤ off ∧ off < 0x0C1400 then
      s.storeWrite same (Fin.ofNat 8 ((off - 0x0C1000) / 128)) ((off % 128) / 4) v
    else s.setReg off w

/-- The RWF fields of a write go to the staging copy (R108, R301). -/
def State.stage (off : Nat) (v : Word) (s : State) : State :=
  let m := maskOf (· == .rwf) off
  if m = 0 then s
  else s.modFu fun f => { f with staging := regSet f.staging off ((regGet f.staging off &&& ~~~m) ||| (v &&& m)) }

/-- The RW1C bits of a register that hardware has set in this core cycle (R302). -/
def State.firedBits (s : State) (off : Nat) : Word :=
  (s.obs.fired.filter (·.1 = off)).foldl (fun w e => w ||| ((1 : Word) <<< e.2)) 0

/-- The new word of the register store: RW and unlocked RWL fields take the value, RW1C bits written 1 clear, but those
that hardware has set in the same core cycle (R302), lock bits written 1 are set, all others stay. -/
def State.written (s : State) (same : Bool) (off : Nat) (v : Word) : Word :=
  let old := s.reg off
  let rw := maskOf (fun a => match a with | .rw | .rwl _ => true | _ => false) off &&& ~~~(s.lockMask off)
  let w1c := maskOf (· == .rw1c) off &&& ~~~(if same then s.firedBits off else 0)
  let lock := maskOf (· == .lock) off
  ((old &&& ~~~rw &&& ~~~(w1c &&& v)) ||| (v &&& rw)) ||| (v &&& lock)

/-- R238: WAKE_N stays low when the write clears the alarm. -/
def State.holdWake (s : State) : State := s.iff s.wakeLow (·.modLink fun l => { l with wake := true })

/-- A 32-bit write to a BAR0 offset (R291 to R306). The events of the write itself (a violation, a change of a reserved
bit) that stand in the register written are not cleared by it (R302, R310). -/
def State.writeReg (via : Via) (off : Nat) (v : Word) (s : State) : State :=
  if 0x800000 ≤ off then s
  else match regAt off with
    | none => s
    | some _ =>
      let path := via.path
      if off = 0x000024 then s.assetWrite path v
      else
        let past := s.obs.fired
        let s := s.setFired (if via.same then past else [])
        let bad := s.violates off v
        let s := (s.rsvCheck path off v).iff bad (·.violation path off)
        let w := s.written true off v
        let s := s.setFired (if via.same then s.obs.fired else s.obs.fired ++ past)
        ((s.stage off v).holdWake.effect via.same off w v).attnSettle

/-- A register write by a path (R292, R306). -/
def State.busWrite (via : Via) (off : Nat) (v : Word) (s : State) : State :=
  s.access via.path off (·.writeReg via off v)

/-- What an access reads of a register (R302). -/
def State.look (s : State) (via : Via) (off : Nat) : Word := if via.same then s.readSame off else s.readReg off

/-- A read by a path: the low word of a wide value latches the high word, a high word comes from the shadow and empties
it (R296). `bad`: the codeword read is uncorrectable; in result memory it reads as all ones and sets STS_EVT.ECC_UE
(R195). -/
def State.pathRead (via : Via) (off : Nat) (bad : Bool) (s : State) : Word × State :=
  let path := via.path
  let ue := bad && decide (0x800000 ≤ off)
  let look (o : Nat) : Word := if ue then BitVec.allOnes 32 else s.look via o
  match wideHigh off with
  | some h =>
    let t := (s.iff ue (·.raise R.stsEvtEccUe)).dropShadow path h
    (look off, { t with shadow := t.shadow ++ [(path, h, look h)] })
  | none =>
    match s.shadowOf path off with
    | some v => (v, s.dropShadow path off)
    | none =>
      (look off, s.iff ue (·.raise R.stsEvtEccUe))

/-- A register read by a path: the value goes out on it; PEN_PIN_IN looks at the balls (R340). -/
def State.busRead (via : Via) (off : Nat) (bad : Bool) (pins : BitVec 24) (s : State) : State :=
  if !s.reaches via.path then s
  else
    let s := s.iff (off == 0x0C0018) (·.samplePins pins)
    let (v, s) := s.pathRead via off bad
    s.emit (.read via.path off v)

/-- R227: an access that is not an aligned one of 32 or 64 bits is completed without effect, and AER records it. Only the
host makes such accesses. -/
def State.unsupported (path : Path) (s : State) : State :=
  s.iff (path == .cxl && s.reaches .cxl) (·.modCfg fun c => { c with unsupported := true })

/-- A write of any size (R227): 64 bits as two words, the lower address first. BAR2 lies on the host's path. -/
def State.sizedWrite (via : Via) (off : Nat) (d : BusData) (s : State) : State :=
  let host (f : State → State) : State := s.iff (via.path == .cxl && s.reaches .cxl) f
  match d with
  | .word v => if off % 4 = 0 then s.busWrite via off v else s.unsupported via.path
  | .pair low high =>
    if off % 8 = 0 then (s.busWrite via off low).busWrite via (off + 4) high else s.unsupported via.path
  | .other | .other2 => s.unsupported via.path
  | .word2 v => if off % 4 = 0 then host (·.write2 off v) else s.unsupported via.path
  | .pair2 low high =>
    if off % 8 = 0 then host fun s => (s.write2 off low).write2 (off + 4) high else s.unsupported via.path

/-- A read of any size (R227); an unsupported one returns all ones. -/
def State.sizedRead (via : Via) (off : Nat) (size : BusSize) (bad : Bool) (pins : BitVec 24) (s : State) : State :=
  let host (f : State → State) : State := s.iff (via.path == .cxl && s.reaches .cxl) f
  let ones : Word := BitVec.allOnes 32
  match size with
  | .word =>
    if off % 4 = 0 then s.busRead via off bad pins else (host (·.emit (.read via.path off ones))).unsupported via.path
  | .pair =>
    if off % 8 = 0 then (s.busRead via off bad pins).busRead via (off + 4) bad pins
    else (host (·.emit (.read via.path off ones))).unsupported via.path
  | .other => (host (·.emit (.read via.path off ones))).unsupported via.path
  | .word2 =>
    if off % 4 = 0 then host fun s => s.emit (.read2 off (s.read2 off))
    else (host (·.emit (.read2 off ones))).unsupported via.path
  | .pair2 =>
    if off % 8 = 0 then host fun s => (s.emit (.read2 off (s.read2 off))).emit (.read2 (off + 4) (s.read2 (off + 4)))
    else (host (·.emit (.read2 off ones))).unsupported via.path
  | .other2 => (host (·.emit (.read2 off ones))).unsupported via.path

end Sys2Proof.Machine
end

