-- ==== Sys2Proof/Machine/Pelquel.lean ====
section
/-! DEFINITION. The Pelquel opcodes (R276 to R284) that no other block's file holds: identity and registers, furnish
access, dark and calender tables, the web link, pin-engine loads, cuts and the reel, status blocks, observation. The
opcodes whose effect is an access of the Tender's path are in Accesses.lean. -/

namespace Sys2Proof.Machine

/-- The bytes of a list of register words. -/
def wordBytes (ws : List Word) : List Byte := ws.flatMap fun w => leBytes 4 w.toNat

/-- A command completes with returned data, or is refused because the data exceeds its path's limit (R275). -/
def State.giveData (r : PktRef) (n : Nat) (data : State → List Byte) (s : State) : State :=
  if tooLong r n then s.done r 2 0xF5 0 else s.complete r 0 0 0 (data s)

/-! ### Identity and state (R276, R278) -/

/-- The identity block of R278; CAL_VERSION is that of slot 0 (R383). -/
def State.identity (s : State) : List Byte :=
  let b := s.fw (pickBank s.tnd.bank)
  fit 64 (leBytes 2 0x1A7C ++ leBytes 2 0x1632 ++ [Config.revision] ++ leBytes 1 (b2n s.tnd.bank)
    ++ leBytes 2 (s.fget R.wlkHeadId) ++ leBytes 8 Config.serial.toNat ++ leBytes 4 b.version ++ leBytes 4 s.tnd.fuses
    ++ leBytes 4 (s.tnd.slots[(0 : Fin 2)]).version.toNat)

/-- RESULT of GET_STATE. -/
def State.stateBits (s : State) : Nat :=
  bitsOf [s.rst.ready, s.tnd.bank, s.link.up && s.link.cxl, s.tb.mode == .lost, decide (0 < s.thm.level), s.thm.safe]

/-! ### ABORT and WARM_RESET (R280, R281) -/

/-- Opcodes whose command may be ended after it has started. -/
def endable (op : Nat) : Bool := op == 0x0200 || op == 0x0600 || op == 0x0801 || op == 0x0305

/-- A mailbox packet that waits is held like one fetched. -/
def State.admitMail (s : State) : State :=
  match s.cmd.mail with
  | some p => s.modCmd fun c => { c with packets := c.packets ++ [p], mail := none }
  | none => s

/-- ABORT (R280): a target that completes in the cycle in which it is taken (`ends`) keeps its own completion. -/
def State.abort (ends : Bool) (p : Packet) (s : State) : State :=
  let r : PktRef := { tw := p.par 2 1 / 8 % 2 == 1, queue := Fin.ofNat 8 (p.par 2 1), tag := BitVec.ofNat 16 (p.par 0 2) }
  let r := if r.tw then { r with queue := 0 } else r
  let s := s.iff (s.cmd.mail.any (·.ref == r)) (·.admitMail)
  match s.packet r with
  | some t =>
    if t.stage = .fetched ∨ (!ends ∧ endable t.op ∧ (t.stage = .dispatched ∨ t.stage = .running)) then
      let s := s.iff (s.cmd.capture.any (·.1 == r)) (·.modCmd fun c => { c with capture := none })
      let s := s.iff (s.cmd.message.any (·.1 == r)) (·.modCmd fun c => { c with message := none })
      (s.done r 6 1 0).done p.ref 0 0 1
    else s.done p.ref 0 0 0
  | none => s.done p.ref 0 0 0

/-- WARM_RESET (R281): nothing more is started; packets not started end, those that come while it waits too; it completes
once every command started has. -/
def State.warmReset (p : Packet) (s : State) : State :=
  if p.par 0 2 ≠ 0x5752 then s.done p.ref 2 1 0
  else
    let s := s.admitMail.modCmd fun c => { c with closing := true }
    let late := s.cmd.packets.filter fun o => o.stage == .fetched
    let s := s.each late fun o s => s.done o.ref 6 2 0
    if s.cmd.packets.any fun o => o.ref != p.ref then s else s.done p.ref 0 0 0

/-! ### Register opcodes (R276, R282) -/

/-- `n` words from an offset, read one after the other on the Tender's path (R296); `bad` are the 32-byte codewords of
result memory found uncorrectable (R195). -/
def State.readRun (same : Bool) (off n : Nat) (bad : List Nat) (s : State) : List Byte × State :=
  (List.range n).foldl (fun (b, s) i =>
    let (w, s) := s.pathRead { path := .tender, same := same } (off + 4 * i) (bad.contains ((off + 4 * i) / 32))
    (b ++ leBytes 4 w.toNat, s)) ([], s)

/-- The OFFSET and COUNT of a read are in range: aligned, 1 to 1,024 words, all inside BAR0. -/
def readable (off n : Nat) : Bool :=
  off % 4 == 0 && decide (1 ≤ n) && decide (n ≤ 1024) && decide (off + 4 * n ≤ 0x1000000)

/-- REG_READ; PEN_PIN_IN looks at the balls (R340). -/
def State.regRead (same : Bool) (bad : List Nat) (pins : BitVec 24) (p : Packet) (s : State) : State :=
  let off := p.par 0 4
  let n := p.par 4 2
  if readable off n then
    let s := s.iff (decide (off ≤ 0x0C0018) && decide (0x0C0018 < off + 4 * n)) (·.samplePins pins)
    let (b, s) := s.readRun same off n bad
    s.complete p.ref 0 0 0 b
  else s.done p.ref 2 0 0

/-- The entries of REG_WRITE and STAGE_WRITE: OFFSET and VALUE, up to the end mark. -/
def Packet.entries (p : Packet) : List (Nat × Word) :=
  ((List.range 5).map fun e => (p.par (8 * e) 4, BitVec.ofNat 32 (p.par (8 * e + 4) 4))).takeWhile
    fun x => x.1 != 0xFFFFFFFF

/-- The pairs of a STAGE_LOAD. -/
def Packet.pairs (p : Packet) : List (Nat × Word) :=
  (chunks 8 p.block).map fun b => (ofLeBytes (b.take 4), BitVec.ofNat 32 (ofLeBytes (b.drop 4)))

/-- Entries written in order on the Tender's path up to one outside the register map: the state, the marks of violations
(R282), the number written, and whether the list was ended early. -/
def State.writeRun (same : Bool) : List (Nat × Word) → Nat → Nat → State → State × Nat × Nat × Bool
  | [], e, marks, s => (s, marks, e, false)
  | (off, v) :: t, e, marks, s =>
    if 0x10FFFF < off then (s, marks, e, true)
    else State.writeRun same t (e + 1) (if s.violates off v then marks + 2 ^ e else marks)
      (s.busWrite { path := .tender, same := same } off v)

/-- The outcome of a write run: RESULT is what the opcode asks for, or the marks of violations. -/
def State.writeAll (same : Bool) (r : PktRef) (l : List (Nat × Word)) (res : Nat → Nat) (s : State) : State :=
  let (s, marks, n, cut) := State.writeRun same l 0 0 s
  if cut then s.done r 2 0x11 (marks % 2 ^ 32)
  else if marks ≠ 0 then s.done r 9 1 (marks % 2 ^ 32)
  else s.done r 0 0 (res n)

/-- An offset holds an RWF field. -/
def stages (off : Nat) : Bool := maskOf (· == .rwf) off != 0

/-- STAGE_WRITE and STAGE_LOAD: every entry holds an RWF field, or none is written. -/
def State.stageAll (same : Bool) (r : PktRef) (l : List (Nat × Word)) (s : State) : State :=
  if l.all fun e => stages e.1 then s.writeAll same r l id else s.done r 2 0x10 0

/-- FURNISH_READ: the view is the command's own. -/
def State.furnishRead (p : Packet) (s : State) : State :=
  let off := p.par 4 4
  let n := p.par 8 2
  if readable off n then
    s.complete p.ref 0 0 0 (wordBytes ((List.range n).map fun i => s.readAs (p.par 0 1 % 2 == 1) (off + 4 * i)))
  else s.done p.ref 2 0 0

/-- FURNISH_HIST. -/
def State.furnishHist (s : State) : List Byte :=
  wordBytes ((List.range 32).map fun i => s.readReg (0x000240 + 4 * i))

/-! ### Dark-offset tables (R79, R276) -/

/-- Entries of a table of one key range replaced: keys from `lo` on take the values of a list. -/
def replaceRun (lo : Nat) (vs : List Int) (t : Table) : Table :=
  (t.filter fun e => decide (e.1 < lo)) ++ (vs.mapIdx fun i v => (lo + i, v)) ++
    t.filter fun e => decide (lo + vs.length ≤ e.1)

/-- A bank written by a command no longer stands as loaded from its slot (R384). -/
def TableBank.putDark (area : Bool) (lo : Nat) (vs : List Int) (b : TableBank) : TableBank :=
  if area then { b with fromSlot := false, darkArea := replaceRun lo vs b.darkArea }
  else { b with fromSlot := false, darkTdi := replaceRun lo vs b.darkTdi }

/-- A whole dark-offset table written by a capture: entries by (block, column), all others the same value. -/
def TableBank.captured (area : Bool) (t : Table) (rest : Int) (b : TableBank) : TableBank :=
  if area then { b with fromSlot := false, darkArea := t, areaRest := some rest }
  else { b with fromSlot := false, darkTdi := t, tdiRest := some rest }

/-- The sums of a capture by key, for blocks and columns that exist. -/
def sumTable (sums : List (Nat × Nat × Nat)) : Table :=
  (sums.filter fun e => decide (e.1 < 32) && decide (e.2.1 < 16416)).foldl
    (fun t e => mput (darkKey e.1 e.2.1) (e.2.2 : Int) t) []

/-- An entry from a sum of 2^n codes (R429), and whether it is clipped. -/
def darkEntry (n : Nat) (sum : Int) : Int × Bool :=
  let v := roundHalfUp (16 * sum) ((2 ^ n : Nat) : Int)
  (clampInt 0 0xFFFF v, decide (v < 0) || decide (0xFFFF < v))

/-- Entries of a dark-offset table. -/
def darkEntries : Nat := 32 * 16416

/-- DARK_CAPTURE: the bank not selected is written, in TABLE. -/
def State.darkCapture (p : Packet) (s : State) : State :=
  let table := p.par 0 1 % 2
  let n := p.par 1 1
  let bank : Fin 2 := if s.fu.inForce.darkBank = 0 then 1 else 0
  if n < 4 ∨ 12 < n then s.done p.ref 2 0 0
  else if s.darkUsed bank then s.done p.ref 3 0x20 0
  else
    let now := s.now
    (s.modCmd fun c => { c with capture := some (p.ref, bank.val, table, n, now, false) }).runOn p.ref

/-- The capture in progress of a packet: bank, table, log2 of the samples, start. -/
def State.capturing (s : State) (r : PktRef) : Option (Nat × Nat × Nat × Nat) :=
  match s.cmd.capture with
  | some (q, b, t, n, at', _) => if q = r then some (b, t, n, at') else none
  | none => none

/-- A trigger has come since a tick. -/
def State.triggered (s : State) (since : Nat) : Bool := s.tb.lastTrig.any fun t => decide (since < t)

/-- DARK_CAPTURE_DONE: the measured sums become the table. -/
def State.captureDone (r : PktRef) (sums : List (Nat × Nat × Nat)) (rest : Nat) (s : State) : State :=
  match s.capturing r with
  | none => s
  | some (b, t, n, at') =>
    if !s.triggered at' then s
    else
      let bank : Fin 2 := Fin.ofNat 2 b
      let s := s.modCmd fun c => { c with capture := none }
      if s.darkUsed bank then s.done r 3 0x20 0
      else
        let es := (sumTable sums).map fun e => (e.1, darkEntry n e.2)
        let other := darkEntry n rest
        let clipped := (es.filter (·.2.2)).length + (if other.2 then darkEntries - es.length else 0)
        (s.onTables bank (·.captured (t == 1) (es.map fun e => (e.1, e.2.1)) other.1)).done r 0 0 clipped

/-- DARK_CAPTURE_TIMEOUT: no trigger within 1 s. -/
def State.captureLate (r : PktRef) (s : State) : State :=
  match s.capturing r with
  | none => s
  | some (_, _, _, at') =>
    if s.triggered at' ∨ s.now < at' + 1000000000 then s
    else (s.modCmd fun c => { c with capture := none }).done r 0x0D 0 0

/-- The 16-bit entries of a data-in block. -/
def Packet.halves (p : Packet) : List Nat := (chunks 2 p.block).map ofLeBytes

/-- DARK_WRITE: one block of a table. -/
def State.darkWrite (p : Packet) (s : State) : State :=
  let bank : Fin 2 := pickBank (p.par 0 1 % 2 == 1)
  let b := p.par 1 1
  if 31 < b then s.done p.ref 2 0 0
  else if s.darkUsed bank then s.done p.ref 3 0x20 0
  else
    (s.onTables bank (·.putDark (p.par 0 1 / 2 % 2 == 1) (darkKey b 0) (p.halves.map fun (v : Nat) => (v : Int)))).done
      p.ref 0 0 0

/-- DARK_READ. -/
def State.darkRead (p : Packet) (s : State) : State :=
  let bank : Fin 2 := pickBank (p.par 0 1 % 2 == 1)
  let b := p.par 1 1
  let first := p.par 2 2
  let n := if p.par 4 2 = 0 then 16416 - first else p.par 4 2
  if 31 < b ∨ 16415 < first then s.done p.ref 2 0 0
  else if 16416 < first + n then s.done p.ref 2 0x21 0
  else s.giveData p.ref (2 * n) fun s =>
    (List.range n).flatMap fun i =>
      leBytes 2 (unsigned 16 ((s.cal.banks[bank]).dark (p.par 0 1 / 2 % 2 == 1) b (first + i)))

/-! ### Calender tables (R136 to R138) -/

/-- What a TABLE_WRITE or TABLE_READ names: bank, kind, product, field, first entry. -/
structure TableSel where
  bank  : Fin 2
  kind  : Nat
  prod  : Nat
  field : Nat
  first : Nat
deriving DecidableEq, Repr

def Packet.table (p : Packet) : TableSel :=
  { bank := pickBank (p.par 0 1 % 2 == 1), kind := p.par 0 1 / 2 % 4, prod := p.par 1 1 % 4, field := p.par 1 1 / 4 % 4,
    first := p.par 2 2 }

/-- Entries of a table: the map's 4,096; a column table has one for each column that COL of R137 may name. -/
def TableSel.size (t : TableSel) : Nat := if t.kind = 2 then 4096 else if t.prod = 3 then 16416 else 16320

/-- Bytes of an entry. -/
def TableSel.width (t : TableSel) : Nat := if t.kind = 2 then 4 else 2

/-- The key of the table's entry 0. -/
def TableSel.base (t : TableSel) : Nat :=
  match t.kind with
  | 0 => residualKey t.prod 0
  | 1 => flatKey t.prod t.field 0
  | _ => 0

/-- A word of the table that a command has written in full is sound again (R150). -/
def TableSel.mends (t : TableSel) (n : Nat) (w : BadWord) : Bool :=
  w.tab == t.kind && (t.kind == 2 || w.prod == t.prod) && (t.kind != 1 || w.field == t.field) &&
    decide (t.first ≤ 16 * w.word) && decide (16 * w.word + 16 ≤ t.first + n)

/-- The entries written: residuals are signed, gains and map entries are not. -/
def TableBank.putTable (t : TableSel) (vs : List Nat) (b : TableBank) : TableBank :=
  let lo := t.base + t.first
  let b := { b with fromSlot := false, bad := b.bad.filter fun w => !t.mends vs.length w }
  match t.kind with
  | 0 => { b with residual := replaceRun lo (vs.map (signed 16)) b.residual }
  | 1 => { b with flat := replaceRun lo (vs.map fun (v : Nat) => (v : Int)) b.flat }
  | _ => { b with defects := replaceRun lo (vs.map fun (v : Nat) => (v : Int)) b.defects }

/-- An entry as it is returned. -/
def TableBank.entry (t : TableSel) (i : Nat) (b : TableBank) : List Byte :=
  match t.kind with
  | 0 => leBytes 2 (unsigned 16 (b.res t.prod i))
  | 1 => leBytes 2 (unsigned 16 (b.gain t.prod t.field i))
  | _ => leBytes 4 (b.defect i).toNat

/-- TABLE_WRITE. -/
def State.tableWrite (p : Packet) (s : State) : State :=
  let t := p.table
  let vs := (chunks t.width p.block).map ofLeBytes
  if t.kind = 3 ∨ t.size < t.first + vs.length then s.done p.ref 2 0 0
  else if s.tablesUsed t.bank then s.done p.ref 3 0x20 0
  else (s.onTables t.bank (·.putTable t vs)).done p.ref 0 0 0

/-- TABLE_READ. -/
def State.tableRead (p : Packet) (s : State) : State :=
  let t := p.table
  let n := p.par 4 2
  if t.kind = 3 ∨ t.size < t.first + n then s.done p.ref 2 0 0
  else s.giveData p.ref (t.width * n) fun s =>
    (List.range n).flatMap fun i => (s.cal.banks[t.bank]).entry t (t.first + i)

/-! ### Web link (R314, R315, R329, R331, R332, R335) -/

/-- The 64 bytes of WL_STATUS. -/
def State.wlStatus (s : State) : List Byte :=
  fit 64 (wordBytes ([0x0B0008, 0x0B000C, 0x0B0010].map s.readReg) ++ [0, 0, 0, 0]
    ++ (List.range 4).flatMap fun p => wordBytes ([0x04, 0x08, 0x0C].map fun o => s.readReg (0x0B0100 + 64 * p + o)))

/-- WL_PORT: EN, RETRAIN or PRBS of WLK_P_CTRL. -/
def State.wlPort (p : Packet) (s : State) : State :=
  let q := Fin.ofNat 4 (p.par 0 1)
  let off := 0x0B0100 + 64 * q.val
  let w := s.reg off
  let act := p.par 1 1
  if 6 < act then s.done p.ref 2 0 0
  else if 3 ≤ act ∧ act ≤ 5 ∧ s.onLink ∧ q = s.upPort then s.done p.ref 8 4 0
  else
    let v := match act with
      | 0 => setBits w 0 1 1
      | 1 => setBits w 0 1 0
      | 2 => setBits w 1 1 1
      | 3 => setBits w 2 2 1
      | 4 => setBits w 2 2 2
      | 5 => setBits w 2 2 3
      | _ => setBits w 2 2 0
    (s.busWrite { path := .tender } off v).done p.ref 0 0 0

/-- A write of WLK_CTRL that completes at a ream boundary; a locked field refuses it (R303). -/
def State.atBoundary (r : PktRef) (v : Word) (s : State) : State :=
  if s.violates 0x0B0000 v then s.done r 9 1 0
  else
    let s := (s.modCmd fun c => { c with atReam := c.atReam ++ [r] }).runOn r
    s.busWrite { path := .tender } 0x0B0000 v

/-- WL_ROLE. -/
def State.wlRole (p : Packet) (s : State) : State :=
  if 2 < p.par 0 1 then s.done p.ref 2 0 0
  else s.atBoundary p.ref (setBits (s.reg 0x0B0000) 0 2 (p.par 0 1))

/-- WL_MEMBER. -/
def State.wlMember (p : Packet) (s : State) : State :=
  s.atBoundary p.ref (setBits (s.reg 0x0B0000) 7 1 (1 - p.par 0 1 % 2))

/-- WL_ENUMERATE: the source enters itself first. -/
def State.wlEnumerate (p : Packet) (s : State) : State :=
  if s.onLink then s.done p.ref 8 2 0
  else
    let now := s.now
    let own := s.ownEntry
    let s := (s.modCmd fun c => { c with enum := some (p.ref, now), entries := [own] }).runOn p.ref
    s.each s.downPorts fun q s => s.sendChunk q 3 (chunkOf (leBytes 1 4))

/-- WL_MESSAGE: sent at once, or as soon as a port carries position. -/
def State.wlMessage (p : Packet) (s : State) : State :=
  let now := s.now
  ((s.modCmd fun c => { c with message := some (p.ref, now) }).runOn p.ref).tryMessage

/-! ### Pin engines (R350, R351, R354) -/

/-- PE_LOAD: each word of the block; the epoch counts the load once. -/
def State.peLoad (same : Bool) (p : Packet) (s : State) : State :=
  let e := Fin.ofNat 8 (p.par 0 1)
  let a := p.par 1 1 % 32
  let n := p.par 2 1
  if n = 0 ∨ 32 < a + n then s.done p.ref 2 0 0
  else if !s.storeOpen same e then (s.raise (R.penEvtProgBusy e.val)).done p.ref 3 0x30 0
  else
    let ws := (chunks 4 p.block).map fun b => (BitVec.ofNat 32 (ofLeBytes b) : Word)
    let s := s.onEng e fun g =>
      { (ws.zipIdx.foldl (fun g (w, i) => g.putWord (a + i) w) g) with epoch := g.epoch + 1 }
    s.done p.ref 0 0 0

/-- PE_START and PE_STOP write PEN_START (R355: on the Tender's path). -/
def State.peAct (p : Packet) (op : Nat) (s : State) : State :=
  (s.penOp (BitVec.ofNat 8 (p.par 0 1)) op).done p.ref 0 0 0

/-- The 80 bytes of PE_STATUS; PEN_PIN_IN looks at the balls (R340). -/
def State.peStatus (pins : BitVec 24) (p : Packet) (s : State) : State :=
  let s := s.samplePins pins
  let b := fit 16 (wordBytes [s.readReg 0x0C0004, s.readReg 0x0C0018]) ++ (List.range 8).flatMap fun e =>
    let o := 0x0C0100 + 64 * e
    wordBytes [s.readReg (o + 0x08)] ++ leBytes 2 (s.readReg (o + 0x0C)).toNat ++ leBytes 2 (s.readReg (o + 0x1C)).toNat
  s.complete p.ref 0 0 0 b

/-! ### Cuts and the reel (R200, R207, R211, R284) -/

/-- CUT: accepted into the queue of cuts, or refused. -/
def State.cut (p : Packet) (s : State) : State :=
  match s.cutOf p with
  | .error (st, det) => s.done p.ref st det 0
  | .ok c => (s.modReel fun r => { r with cuts := r.cuts ++ [c] }).accept p.ref

/-- CUT, cancel form. -/
def State.cutCancel (p : Packet) (s : State) : State :=
  let (found, s) := s.cancelCut (BitVec.ofNat 16 (p.par 0 2))
  if found then s.done p.ref 0 0 0 else s.done p.ref 2 0x54 0

/-- REEL_LAYOUT. -/
def State.reelLayout (p : Packet) (s : State) : State :=
  let s := ((s.fset R.relSaveSize (p.par 0 1 % 128)).fset R.relMemSize (p.par 1 1 % 64)).relayout
  match s.reel.result with
  | 2 => s.done p.ref 3 0 2
  | 3 => s.done p.ref 2 0x50 3
  | x => s.done p.ref 0 0 x

/-! ### Thermal, power, observation (R422, R423, R445) -/

/-- The 64 bytes of THM_STATUS. -/
def State.thmStatus (s : State) : List Byte :=
  fit 64 (wordBytes ([0x0E0020, 0x0E0024, 0x0E0028, 0x0E002C, 0x0E0000, 0x0E0004].map s.readReg) ++ leBytes 1 s.felt.ceil)

/-- THM_LIMITS. -/
def State.thmLimits (p : Packet) (s : State) : State :=
  let start := p.par 0 1
  let rate := p.par 1 1
  let v := setBits (setBits (s.reg 0x0E0000) 0 8 start) 8 7 rate
  if start < 80 ∨ 105 < start ∨ rate < 1 ∨ 64 < rate then s.done p.ref 2 0x70 0
  else if s.violates 0x0E0000 v then s.done p.ref 9 1 0
  else (s.busWrite { path := .tender } 0x0E0000 v).done p.ref 0 0 0

/-- The 64 bytes of POWER_STATUS. -/
def State.powerStatus (s : State) : List Byte :=
  let t := s.thm
  fit 64 ((t.rails ++ [t.rails.foldl (· + ·) 0] ++ t.parts ++ [t.peakPow]).flatMap fun v => leBytes 2 (min 0xFFFF v))

/-- OBS_COUNTERS. -/
def State.obsCounters (p : Packet) (s : State) : State :=
  let a := p.par 0 2
  let n := p.par 2 2
  if 255 < a ∨ n = 0 ∨ 256 < a + n then s.done p.ref 2 0 0
  else s.complete p.ref 0 0 0 ((List.range n).flatMap fun i => leBytes 8 ((mget (a + i) s.obs.cnt).getD 0).toNat)

/-- The 16 bytes of a slot of the trace ring (R442). -/
def Observation.slot (o : Observation) (k : Nat) : List Byte :=
  match o.trace.find? fun r => r.tseq.toNat % 4096 == k % 4096 with
  | some r =>
    leBytes 4 r.tseq.toNat ++ leBytes 6 r.tick.toNat ++ leBytes 1 r.event.toNat ++ leBytes 1 r.arg.toNat
      ++ leBytes 4 r.data.toNat
  | none => List.replicate 16 0

/-- OBS_TRACE. -/
def State.obsTrace (p : Packet) (s : State) : State :=
  let n := p.par 4 4
  if n = 0 ∨ 4096 < n then s.done p.ref 2 0 0
  else s.giveData p.ref (16 * n) fun s => (List.range n).flatMap fun i => s.obs.slot (p.par 0 4 + i)

/-! ### The commands -/

/-- NOP (R276). -/
def execNop (p : PktRef) (s : State) : Answer := .next (s.pelquel p 0x0000 false fun k s => s.done k.ref 0 0 0)

/-- IDENTIFY (R278). -/
def execIdentify (p : PktRef) (s : State) : Answer :=
  .next (s.pelquel p 0x0001 false fun k s => s.complete k.ref 0 0 0 s.identity)

/-- GET_STATE (R276). -/
def execGetState (p : PktRef) (s : State) : Answer :=
  .next (s.pelquel p 0x0002 false fun k s => s.done k.ref 0 0 s.stateBits)

/-- ABORT (R280). -/
def execAbort (p : PktRef) (ends : Bool) (s : State) : Answer := .next (s.pelquel p 0x0003 false fun k s => s.abort ends k)

/-- WARM_RESET (R281). -/
def execWarmReset (p : PktRef) (s : State) : Answer := .next (s.pelquel p 0x0004 false fun k s => s.warmReset k)

/-- FURNISH_READ (R276). -/
def execFurnishRead (p : PktRef) (s : State) : Answer := .next (s.pelquel p 0x0102 false fun k s => s.furnishRead k)

/-- FURNISH_HIST (R276). -/
def execFurnishHist (p : PktRef) (s : State) : Answer :=
  .next (s.pelquel p 0x0104 false fun k s => s.complete k.ref 0 0 0 s.furnishHist)

/-- DARK_CAPTURE (R276). -/
def execDarkCapture (p : PktRef) (s : State) : Answer := .next (s.pelquel p 0x0200 false fun k s => s.darkCapture k)

/-- DARK_CAPTURE_DONE (R276): every other column of every block gave `rest`. -/
def execDarkCaptureDone (p : PktRef) (sums : List (Nat × Nat × Nat)) (rest : Nat) (s : State) : Answer :=
  .next (s.captureDone p sums rest)

/-- DARK_CAPTURE_TIMEOUT (R276). -/
def execDarkCaptureTimeout (p : PktRef) (s : State) : Answer := .next (s.captureLate p)

/-- DARK_WRITE (R276). -/
def execDarkWrite (p : PktRef) (s : State) : Answer := .next (s.pelquel p 0x0201 false fun k s => s.darkWrite k)

/-- DARK_READ (R276). -/
def execDarkRead (p : PktRef) (s : State) : Answer := .next (s.pelquel p 0x0202 false fun k s => s.darkRead k)

/-- TABLE_WRITE (R276, R138). -/
def execTableWrite (p : PktRef) (s : State) : Answer := .next (s.pelquel p 0x0203 false fun k s => s.tableWrite k)

/-- TABLE_READ (R276, R138). -/
def execTableRead (p : PktRef) (s : State) : Answer := .next (s.pelquel p 0x0204 false fun k s => s.tableRead k)

/-- WL_STATUS (R335). -/
def execWlStatus (p : PktRef) (s : State) : Answer :=
  .next (s.pelquel p 0x0300 false fun k s => s.complete k.ref 0 0 0 s.wlStatus)

/-- WL_PORT (R312, R314). -/
def execWlPort (p : PktRef) (s : State) : Answer := .next (s.pelquel p 0x0301 false fun k s => s.wlPort k)

/-- WL_ROLE (R315). -/
def execWlRole (p : PktRef) (s : State) : Answer := .next (s.pelquel p 0x0302 false fun k s => s.wlRole k)

/-- WL_ENUMERATE (R331). -/
def execWlEnumerate (p : PktRef) (s : State) : Answer := .next (s.pelquel p 0x0303 false fun k s => s.wlEnumerate k)

/-- WL_MEMBER (R329). -/
def execWlMember (p : PktRef) (s : State) : Answer := .next (s.pelquel p 0x0304 false fun k s => s.wlMember k)

/-- WL_MESSAGE (R332). -/
def execWlMessage (p : PktRef) (s : State) : Answer := .next (s.pelquel p 0x0305 false fun k s => s.wlMessage k)

/-- PE_STATUS (R354). -/
def execPeStatus (p : PktRef) (pins : BitVec 24) (s : State) : Answer :=
  .next (s.pelquel p 0x0403 false fun k s => s.peStatus pins k)

/-- CUT (R207, R284). -/
def execCut (p : PktRef) (_same : Bool) (s : State) : Answer := .next (s.pelquel p 0x0500 false fun k s => s.cut k)

/-- CUT_CANCEL (R284). -/
def execCutCancel (p : PktRef) (s : State) : Answer := .next (s.pelquel p 0x0500 true fun k s => s.cutCancel k)

/-- REEL_FREEZE (R276). -/
def execReelFreeze (p : PktRef) (s : State) : Answer :=
  .next (s.pelquel p 0x0501 false fun k s => (s.fset R.relCtrlFreeze (k.par 0 1 % 2)).done k.ref 0 0 0)

/-- REEL_LAYOUT (R200). -/
def execReelLayout (p : PktRef) (s : State) : Answer := .next (s.pelquel p 0x0502 false fun k s => s.reelLayout k)

/-- THM_STATUS (R423). -/
def execThmStatus (p : PktRef) (s : State) : Answer :=
  .next (s.pelquel p 0x0700 false fun k s => s.complete k.ref 0 0 0 s.thmStatus)

/-- THM_LIMITS (R422). -/
def execThmLimits (p : PktRef) (s : State) : Answer := .next (s.pelquel p 0x0701 false fun k s => s.thmLimits k)

/-- POWER_STATUS (R423). -/
def execPowerStatus (p : PktRef) (s : State) : Answer :=
  .next (s.pelquel p 0x0702 false fun k s => s.complete k.ref 0 0 0 s.powerStatus)

/-- OBS_COUNTERS (R445). -/
def execObsCounters (p : PktRef) (s : State) : Answer := .next (s.pelquel p 0x0800 false fun k s => s.obsCounters k)

/-- OBS_TRACE (R445). -/
def execObsTrace (p : PktRef) (s : State) : Answer := .next (s.pelquel p 0x0801 false fun k s => s.obsTrace k)

end Sys2Proof.Machine
end

