-- ==== Sys2Proof/Machine/TwoWire.lean ====
section
/-! DEFINITION. The two-wire management port (R390 to R403): addressing, register accesses, faults on the bus, and the
requests for attention. The commands of its accesses are in Accesses.lean. -/

namespace Sys2Proof.Machine

/-- The port's own address (R390). -/
def State.twAddress (s : State) : Nat := 0x58 + s.tw.strap.toNat

/-- Something moves on the bus. -/
def State.twActive (s : State) : State :=
  let now := s.now
  s.modTw fun t => { t with busAt := now }

/-- The port goes back to its address phase. -/
def State.twIdle (s : State) : State := s.modTw fun t => { t with phase := .idle }

/-- An address is not acknowledged. -/
def State.twNack (s : State) : State := (s.emit .twNack).twIdle

/-- WAKE_NACK (R396): the address wakes the sleeping Tender and with it the port. -/
def State.wakeNack (s : State) : State :=
  let now := s.now
  ((s.wakeTender.modTw fun t => { t with wakeAt := some now }).raise R.cmdTwPevtWakeNack).twNack

/-- The 24-bit pointer that three offset bytes load, with bits [1:0] taken as 0 (R392). -/
def pointerOf (offset : List Byte) : Option (BitVec 24) :=
  match offset with
  | [h, m, l] => some (BitVec.ofNat 24 (65536 * h.toNat + 256 * m.toNat + l.toNat) &&& 0xFFFFFC)
  | _ => none

/-- The address is acknowledged: a read begins, or a write whose offset bytes load the pointer. -/
def State.twAccept (read : Bool) (offset : List Byte) (s : State) : State :=
  ((s.emit .twAck).bump 0xDE 1).modTw fun t =>
    if read then { t with phase := .read }
    else match pointerOf offset with
      | some p => { t with phase := .write, pointer := p }
      | none => { t with phase := .offset }

/-- TW_ADDRESS (R390, R396): within 50 µs of the address that woke the port one may be refused again, which is left free
(assumption 7). -/
def State.twStart (addr : BitVec 7) (read : Bool) (offset : List Byte) (s : State) : State :=
  if !s.reaches .tw || addr.toNat != s.twAddress then s.twActive.twNack
  else
    let s := s.twActive
    if s.tnd.asleep then s.wakeNack
    else match s.tw.wakeAt with
      | some t =>
        if s.now < t + 50000 then
          let again := bitOf (Config.freeWord s.free) 0
          let s := { s with free := s.free + 1 }
          if again then s.twNack else s.twAccept read offset
        else (s.modTw fun t => { t with wakeAt := none }).twAccept read offset
      | none => s.twAccept read offset

/-- The pointer advances by 4, modulo 2^24 (R392, R393). -/
def State.twAdvance (s : State) : State := (s.bump 0xDF 1).modTw fun t => { t with pointer := t.pointer + 4 }

/-- TW_WRITE_ACCESS (R392, R394). -/
def State.twWrite (same : Bool) (data : Word) (s : State) : State :=
  if s.tw.phase = .write ∧ s.reaches .tw then
    (s.twActive.busWrite { path := .tw, same := same } s.tw.pointer.toNat data).twAdvance
  else s

/-- A read of GLB_ATTN within IBR_WAIT of the release answers the request (R400). -/
def State.ibrAnswer (off : Nat) (s : State) : State :=
  match s.tw.release with
  | some t =>
    s.iff (off == 0x000008 && decide (s.now ≤ t + 100000 * max 1 (s.fget R.cmdTwCfgIbrWait)))
      (·.modTw fun t => { t with release := none })
  | none => s

/-- TW_READ_ACCESS (R393, R394): the read is performed as the first byte of its group is due. `slots` bytes of the group
had their acknowledge slot: after the fourth the pointer advances, and a group that ends before leaves it (R397, R398). A
not-acknowledge ends the sending. -/
def State.twRead (via : Via) (slots : Nat) (acknowledged bad : Bool) (pins : BitVec 24) (s : State) : State :=
  if s.tw.phase = .read ∧ s.reaches .tw then
    let off := s.tw.pointer.toNat
    let s := (s.twActive.busRead via off bad pins).ibrAnswer off
    (s.iff (slots == 4) (·.twAdvance)).iff (!acknowledged && slots != 0) (·.twIdle)
  else s

/-- An incomplete group of a write is discarded (R392, R397). -/
def State.twPartial (n : Nat) (s : State) : State :=
  if s.tw.phase = .write ∧ n ≠ 0 then
    (s.modTw fun t => { t with partialN := t.partialN + 1 }).raise R.cmdTwPevtPartial
  else s

/-- TW_STOP (R392): `leftover` bytes of an incomplete group. A stop on the bus is activity, whether or not the port is
addressed (R400, R402). -/
def State.twStop (leftover : Nat) (s : State) : State :=
  if !s.reaches .tw then s else (s.twActive.twPartial leftover).twIdle

/-- A transaction that ended under R397 or R398. -/
def State.twFault (f : Fld) (s : State) : State := (s.modTw fun t => { t with frame := t.frame + 1 }).raise f

/-- TW_FRAME_ERROR (R397): a start or stop between the bits of a byte, which discards that byte, or a repeated start in
place of an acknowledge slot, which discards the byte just transferred; `bytes` of the group had been transferred, that
one included. A repeated start in place of an acknowledge slot is no transaction ended between bits: nothing is counted
but the group discarded. In phase idle the byte is an address byte. -/
def State.twFrameError (ackSlot : Bool) (bytes : Nat) (s : State) : State :=
  if !s.reaches .tw then s
  else
    let s := (s.twActive.twPartial bytes).twIdle
    if ackSlot then s else s.twFault R.cmdTwPevtFrameErr

/-- BUS_STUCK (R398): the port holds SDA low while SCL stays low, which it can in any transaction it has acknowledged. -/
def State.twStuck (s : State) : State :=
  if s.tw.phase = .idle then s else s.twActive.twIdle.twFault R.cmdTwPevtBusStuck

/-! ### Requests (R400, R401) -/

/-- IN_BAND_REQUEST: the bus has been idle for 50 µs; an attempt that collides with another controller's start is not
counted. -/
def State.inBand (collision : Bool) (s : State) : State :=
  let t := s.tw
  if !s.reaches .tw || !t.wanted || t.attn || t.phase != .idle || s.masked == 0 || decide (s.now < t.busAt + 50000) then s
  else if collision then s.twActive
  else
    let now := s.now
    (s.emit .ibrPulse).modTw fun t => { t with tries := t.tries + 1, wanted := false, release := some now }

/-- IBR_ANSWER_TIMEOUT: the request is repeated, or ATTN_N goes low. -/
def State.ibrTimeout (s : State) : State :=
  match s.tw.release with
  | some t =>
    if s.now ≤ t + 100000 * max 1 (s.fget R.cmdTwCfgIbrWait) then s
    else if s.tw.tries < max 1 (s.fget R.cmdTwCfgIbrRetry) then
      s.modTw fun t => { t with release := none, wanted := true }
    else (s.modTw fun t => { t with release := none, attn := true }).raise R.cmdTwPevtIbrFallback
  | none => s

/-! ### The commands -/

/-- TW_ADDRESS (R390, R392, R396). -/
def execTwAddress (addr : BitVec 7) (read : Bool) (offset : List Byte) (s : State) : Answer :=
  if wfOffset offset then .next (s.twStart addr read offset).attnSettle else .fault .illFormed

/-- TW_STOP (R392). -/
def execTwStop (leftover : Fin 4) (s : State) : Answer := .next (s.twStop leftover.val)

/-- TW_FRAME_ERROR (R397). -/
def execTwFrameError (ackSlot : Bool) (bytes : Fin 5) (s : State) : Answer := .next (s.twFrameError ackSlot bytes.val)

/-- BUS_STUCK (R398). -/
def execBusStuck (s : State) : Answer := .next s.twStuck

/-- IN_BAND_REQUEST (R400). -/
def execInBandRequest (collision : Bool) (s : State) : Answer := .next (s.attnSettle.inBand collision)

/-- IBR_ANSWER_TIMEOUT (R400, R401). -/
def execIbrAnswerTimeout (s : State) : Answer := .next s.attnSettle.ibrTimeout

end Sys2Proof.Machine
end

