-- ==== Sys2Proof/Machine/Accesses.lean ====
section
/-! DEFINITION. The commands that access registers (R291, R292): the software accesses of the three paths, whichever row
makes them, and the steps of a pin engine that fetch an instruction. Accesses of several paths to one register in one core
cycle are served CXL first, then the Tender, then the two-wire port; a pin engine's fetch comes after them (R292, R350,
R355). A command that is marked as standing in the core cycle of what came since the last tick, and waits behind one that
it goes before, is served with that one, and nothing is left of it when its turn in the queue comes (assumption 83). -/

namespace Sys2Proof.Machine

/-- An access: its path, the registers it looks at or changes, and what it does. -/
structure Access where
  via  : Via
  regs : List Nat
  run  : State → State

/-- The registers on which an access to one depends: a field with a lock looks at GLB_LOCK (R302, R303). -/
def touched (off : Nat) : List Nat :=
  if maskOf (fun a => match a with | .rwl _ => true | _ => false) off = 0 then [off] else [off, 0x000014]

/-- A write of a row of its own to one register. -/
def Access.one (via : Via) (off : Nat) (f : State → State) : Option Access :=
  some { via := via, regs := touched off, run := (·.access via.path off f) }

/-- The BAR0 registers of a bus access of up to two words; none of BAR2's. -/
def busRegs (off : Nat) (pair two : Bool) : List Nat :=
  if two then [] else touched off ++ (if pair then touched (off + 4) else [])

/-- What a bus write touches. -/
def dataRegs (off : Nat) : BusData → List Nat
  | .word _ => busRegs off false false
  | .pair _ _ => busRegs off true false
  | _ => []

/-- What a bus read touches. -/
def sizeRegs (off : Nat) : BusSize → List Nat
  | .word => busRegs off false false
  | .pair => busRegs off true false
  | _ => []

/-- A started packet whose effect is an access of the Tender's path (R282, R355). -/
def State.packetAccess (s : State) (r : PktRef) (op : Nat) (same : Bool) (regs : Packet → List Nat)
    (f : Packet → State → State) : Option Access :=
  (s.started r op false).map fun k =>
    { via := { path := .tender, same := same }, regs := regs k, run := (·.pelquel r op false f) }

/-- The registers of the entries of a write run. -/
def entryRegs (l : List (Nat × Word)) : List Nat := l.flatMap fun e => touched e.1

/-- The words of PEN_STORE from one address on. -/
def storeRegs (e a n : Nat) : List Nat := (List.range n).map fun i => 0x0C1000 + 128 * (e % 8) + 4 * (a + i)

/-- The accesses of the paths to registers with a row of their own. -/
def rowAccess : Instr → Option Access
  | .sliceRearm v i => Access.one v (0x020004 + 0x400 * i.val) (·.rearmSlice i)
  | .forceFail v i => Access.one v (0x020004 + 0x400 * i.val) (·.forceFail i)
  | .commit v kind => Access.one v 0x000204 fun s => (s.fset R.glbFurnCmdKind kind.toNat).registerCommit v.same
  | .cancel v => Access.one v 0x000204 (·.registerCancel)
  | .relayout v => Access.one v 0x080000 (·.relayout)
  | .linkHold v hold => Access.one v 0x000404 fun s => s.writeLinkCtrl (setBits (s.reg 0x000404) 0 1 (b2n hold))
  | .linkPrbsTest v mode rate lock errs => Access.one v 0x000404 (·.linkPrbs mode.toNat rate.toNat lock errs)
  | .channelEnable v ch ctrl => Access.one v (0x090000 + 512 * ch.val) fun s =>
    (s.rsvCheck v.path (0x090000 + 512 * ch.val) ctrl).writeChCtrl ch (setBits ctrl 0 1 1)
  | .channelDisable v ch => Access.one v (0x090000 + 512 * ch.val) fun s =>
    s.writeChCtrl ch (setBits (s.reg (0x090000 + 512 * ch.val)) 0 1 0)
  | .channelStop v ch => Access.one v (0x090000 + 512 * ch.val) fun s =>
    s.writeChCtrl ch (setBits (s.reg (0x090000 + 512 * ch.val)) 2 1 1)
  | .queueEnable v q ctrl => Access.one v (0x0A0000 + 64 * q.val) fun s =>
    (s.rsvCheck v.path (0x0A0000 + 64 * q.val) ctrl).writeQCtrl q (setBits ctrl 0 1 1)
  | .queueDisable v q => Access.one v (0x0A0000 + 64 * q.val) fun s =>
    s.writeQCtrl q (setBits (s.reg (0x0A0000 + 64 * q.val)) 0 1 0)
  | .mailboxGo v => Access.one v 0x0A1040 (·.mailboxGo)
  | .retrain v p => Access.one v (0x0B0100 + 64 * p.val) fun s =>
    s.writePortCtrl p (setBits (s.reg (0x0B0100 + 64 * p.val)) 1 1 1)
  | .wlPrbsTest v p mode lock errs => Access.one v (0x0B0100 + 64 * p.val) (·.portPrbs p mode.toNat lock errs)
  | .rxPop v => Access.one v 0x0B1044 (·.popMessage)
  | .penOpStart v mask => Access.one v 0x0C0000 (·.penOp mask 0)
  | .penOpResume v mask => Access.one v 0x0C0000 (·.penOp mask 1)
  | .penOpClockRestart v mask => Access.one v 0x0C0000 (·.penOp mask 2)
  | .penOpStop v mask => Access.one v 0x0C0000 (·.penOp mask 3)
  | .penTxWrite v e value => Access.one v (0x0C0110 + 64 * e.val) (·.txWrite e value)
  | .penRxPop v e => Access.one v (0x0C0118 + 64 * e.val) (·.rxPop e)
  | .penFlagSet v mask => Access.one v 0x0C0008 (·.setFlags mask)
  | .penFlagClr v mask => Access.one v 0x0C0008 (·.clrFlags v.same mask)
  | .penStoreWrite v e a value => Access.one v (0x0C1000 + 128 * e.val + 4 * a.val) (·.storeWrite v.same e a.val value)
  | .advance v => Access.one v 0x0F0100 (·.advance)
  | .sensRearm v => Access.one v 0x0E000C (·.rearmSensors)
  | _ => none

/-- The accesses that the rows of registers, the Tender's packets and the two-wire port make. -/
def State.busAccess (s : State) : Instr → Option Access
  | .registerWrite v off data =>
    some { via := v, regs := dataRegs off.toNat data, run := (·.sizedWrite v off.toNat data) }
  | .wideLowRead v off size bad pins | .wideHighRead v off size bad pins =>
    some { via := v, regs := sizeRegs off.toNat size, run := (·.sizedRead v off.toNat size bad pins) }
  | .assetWrite v value => some { via := v, regs := [0x000024], run := (·.busWrite v 0x000024 value) }
  | .clockSettingWrite v target value =>
    let off := if target then 0x0D0004 else 0x0D0000
    some { via := v, regs := touched off, run := (·.busWrite v off value) }
  | .regRead p bad pins same =>
    s.packetAccess p 0x0005 same (fun k => (List.range (k.par 4 2)).map fun i => k.par 0 4 + 4 * i)
      fun k s => s.regRead same bad pins k
  | .regWrite p same =>
    s.packetAccess p 0x0006 same (fun k => entryRegs k.entries)
      fun k s => s.writeAll same k.ref k.entries fun _ => 0
  | .stageWrite p same =>
    s.packetAccess p 0x0100 same (fun k => entryRegs k.entries) fun k s => s.stageAll same k.ref k.entries
  | .stageLoad p same =>
    s.packetAccess p 0x0103 same (fun k => entryRegs k.pairs) fun k s => s.stageAll same k.ref k.pairs
  | .peLoad p same =>
    s.packetAccess p 0x0400 same (fun k => storeRegs (k.par 0 1) (k.par 1 1 % 32) (k.par 2 1))
      fun k s => s.peLoad same k
  | .peStart p same => s.packetAccess p 0x0401 same (fun _ => [0x0C0000]) fun k s => s.peAct k (k.par 1 1 % 2)
  | .peStop p same => s.packetAccess p 0x0402 same (fun _ => [0x0C0000]) fun k s => s.peAct k 3
  | .twWriteAccess data same =>
    some { via := { path := .tw, same := same }, regs := touched s.tw.pointer.toNat,
           run := fun s => (s.twWrite same data).attnSettle }
  | .twReadAccess slots ack bad pins same =>
    let v : Via := { path := .tw, same := same }
    some { via := v, regs := [s.tw.pointer.toNat], run := fun s => (s.twRead v slots.val ack bad pins).attnSettle }
  | _ => none

/-- The access that a command makes, as things stand. -/
def State.accessOf (s : State) (i : Instr) : Option Access := (rowAccess i).orElse fun _ => s.busAccess i

/-! ### The order of one core cycle (R292) -/

/-- The commands of a queue less those that were served already. -/
def unserved : List Instr → List Instr → List Instr
  | _, [] => []
  | sv, i :: t => if sv.contains i then unserved (sv.erase i) t else i :: unserved sv t

/-- The accesses of one path that wait and go before an access to some registers: those of this core cycle, in the order
in which the path makes them, up to the last that touches one of the registers. -/
def State.dueFirst (s : State) (rank : Nat) (regs : List Nat) : List Instr :=
  let mine := (unserved s.cmd.served s.pending).filter fun j => (s.accessOf j).any fun a => pathCode a.via.path == rank
  let now := mine.takeWhile fun j => (s.accessOf j).any fun a => a.via.same
  (now.reverse.dropWhile fun j => !((s.accessOf j).any fun a => a.regs.any regs.contains)).reverse

/-- The accesses of the paths below a rank that go before an access to some registers are served. -/
def State.serveFirst : Nat → List Nat → State → State
  | 0, _, s => s
  | r + 1, regs, s =>
    let s := State.serveFirst r regs s
    s.each (s.dueFirst r regs) fun j s =>
      match s.accessOf j with
      | some a =>
        (a.run (State.serveFirst r a.regs s)).modCmd fun c => { c with served := c.served ++ [j] }
      | none => s

/-- A command that makes an access: after those that go before it in its core cycle; nothing where it was served already. -/
def State.byPath (i : Instr) (s : State) : State :=
  if s.cmd.served.contains i then s.modCmd fun c => { c with served := c.served.erase i }
  else match s.accessOf i with
    | some a => a.run (s.serveFirst (pathCode a.via.path) a.regs)
    | none => s

/-- The registers that a step of an engine looks at: the word it fetches (R350), and the FIFO that keeps a PULL or a PUSH
from completing (R355). -/
def State.fetchRegs (s : State) (e : Fin 8) (op : Nat) : List Nat :=
  let g := s.eng e
  if !s.stepDue e then []
  else (0x0C1000 + 128 * e.val + 4 * (g.pc % 32)) ::
    ((if op = 3 ∧ g.tx.isEmpty then [0x0C0110 + 64 * e.val] else [])
      ++ (if op = 4 ∧ 4 ≤ g.rx.length then [0x0C0118 + 64 * e.val] else []))

/-- A step of an engine that fetches: after the accesses of its core cycle to what it looks at. -/
def State.byStep (e : Fin 8) (op : Nat) (f : State → State) (s : State) : State := f (s.serveFirst 3 (s.fetchRegs e op))

/-! ### The commands of the access paths -/

/-- SLICE_REARM (R71). -/
def execSliceRearm (via : Via) (slice : Fin 38) (s : State) : Answer := .next (s.byPath (.sliceRearm via slice))

/-- FORCE_FAIL (R69): software sets HBX_SL_CTRL.FORCE_FAIL. -/
def execForceFail (via : Via) (slice : Fin 38) (s : State) : Answer := .next (s.byPath (.forceFail via slice))

/-- COMMIT (R110, R127). -/
def execCommit (via : Via) (kind : BitVec 2) (s : State) : Answer := .next (s.byPath (.commit via kind))

/-- CANCEL (R117). -/
def execCancel (via : Via) (s : State) : Answer := .next (s.byPath (.cancel via))

/-- RELAYOUT (R200). -/
def execRelayout (via : Via) (s : State) : Answer := .next (s.byPath (.relayout via))

/-- LINK_HOLD (R223, R243): a write of GLB_LINK_CTRL.HOLD. -/
def execLinkHold (via : Via) (hold : Bool) (s : State) : Answer := .next (s.byPath (.linkHold via hold))

/-- LINK_PRBS_TEST (R224): a write of GLB_LINK_CTRL.TEST_MODE and TEST_RATE. -/
def execLinkPrbsTest (via : Via) (mode : BitVec 2) (rate : BitVec 3) (lock : BitVec 8) (errs : List Nat)
    (s : State) : Answer :=
  .next (s.byPath (.linkPrbsTest via mode rate lock errs))

/-- CHANNEL_ENABLE (R248): a write of DMA_CH_CTRL with EN = 1. -/
def execChannelEnable (via : Via) (ch : Fin 16) (ctrl : Word) (s : State) : Answer :=
  .next (s.byPath (.channelEnable via ch ctrl))

/-- CHANNEL_DISABLE (R263): a write of DMA_CH_CTRL with EN = 0. -/
def execChannelDisable (via : Via) (ch : Fin 16) (s : State) : Answer := .next (s.byPath (.channelDisable via ch))

/-- CHANNEL_STOP (R263): software sets DMA_CH_CTRL.STOP. -/
def execChannelStop (via : Via) (ch : Fin 16) (s : State) : Answer := .next (s.byPath (.channelStop via ch))

/-- QUEUE_ENABLE (R288): a write of CMD_Q_CTRL with EN = 1. -/
def execQueueEnable (via : Via) (q : Fin 8) (ctrl : Word) (s : State) : Answer :=
  .next (s.byPath (.queueEnable via q ctrl))

/-- QUEUE_DISABLE (R288): a write of CMD_Q_CTRL with EN = 0. -/
def execQueueDisable (via : Via) (q : Fin 8) (s : State) : Answer := .next (s.byPath (.queueDisable via q))

/-- MAILBOX_GO (R286). -/
def execMailboxGo (via : Via) (s : State) : Answer := .next (s.byPath (.mailboxGo via))

/-- REGISTER_WRITE (R291, R227). -/
def execRegisterWrite (via : Via) (off : BitVec 24) (data : BusData) (s : State) : Answer :=
  .next (s.byPath (.registerWrite via off data))

/-- WIDE_LOW_READ (R296). -/
def execWideLowRead (via : Via) (off : BitVec 24) (size : BusSize) (bad : Bool) (pins : BitVec 24)
    (s : State) : Answer :=
  .next (s.byPath (.wideLowRead via off size bad pins))

/-- WIDE_HIGH_READ (R296). -/
def execWideHighRead (via : Via) (off : BitVec 24) (size : BusSize) (bad : Bool) (pins : BitVec 24)
    (s : State) : Answer :=
  .next (s.byPath (.wideHighRead via off size bad pins))

/-- ASSET_WRITE (R305). -/
def execAssetWrite (via : Via) (value : Word) (s : State) : Answer := .next (s.byPath (.assetWrite via value))

/-- RETRAIN (R312): the go-bit of WLK_P_CTRL. -/
def execRetrain (via : Via) (p : Fin 4) (s : State) : Answer := .next (s.byPath (.retrain via p))

/-- WL_PRBS_TEST (R314): a write of WLK_P_CTRL.PRBS. -/
def execWlPrbsTest (via : Via) (p : Fin 4) (mode : BitVec 2) (lock : BitVec 2) (errs : List Nat) (s : State) : Answer :=
  .next (s.byPath (.wlPrbsTest via p mode lock errs))

/-- RX_POP (R335): the go-bit of WLK_RX_POP. -/
def execRxPop (via : Via) (s : State) : Answer := .next (s.byPath (.rxPop via))

/-- PEN_OP_START (R351). -/
def execPenOpStart (via : Via) (mask : BitVec 8) (s : State) : Answer := .next (s.byPath (.penOpStart via mask))

/-- PEN_OP_RESUME (R351). -/
def execPenOpResume (via : Via) (mask : BitVec 8) (s : State) : Answer := .next (s.byPath (.penOpResume via mask))

/-- PEN_OP_CLOCK_RESTART (R351). -/
def execPenOpClockRestart (via : Via) (mask : BitVec 8) (s : State) : Answer :=
  .next (s.byPath (.penOpClockRestart via mask))

/-- PEN_OP_STOP (R351). -/
def execPenOpStop (via : Via) (mask : BitVec 8) (s : State) : Answer := .next (s.byPath (.penOpStop via mask))

/-- PEN_TX_WRITE (R348). -/
def execPenTxWrite (via : Via) (e : Fin 8) (value : Word) (s : State) : Answer :=
  .next (s.byPath (.penTxWrite via e value))

/-- PEN_RX_POP (R348). -/
def execPenRxPop (via : Via) (e : Fin 8) (s : State) : Answer := .next (s.byPath (.penRxPop via e))

/-- PEN_FLAG_SET (R353). -/
def execPenFlagSet (via : Via) (mask : BitVec 8) (s : State) : Answer := .next (s.byPath (.penFlagSet via mask))

/-- PEN_FLAG_CLR (R353). -/
def execPenFlagClr (via : Via) (mask : BitVec 8) (s : State) : Answer := .next (s.byPath (.penFlagClr via mask))

/-- PEN_STORE_WRITE (R350). -/
def execPenStoreWrite (via : Via) (e : Fin 8) (addr : Fin 32) (value : Word) (s : State) : Answer :=
  .next (s.byPath (.penStoreWrite via e addr value))

/-- CLOCK_SETTING_WRITE (R360): CLK_TARGET, or CLK_REF_MODE. -/
def execClockSettingWrite (via : Via) (target : Bool) (value : Word) (s : State) : Answer :=
  .next (s.byPath (.clockSettingWrite via target value))

/-- ADVANCE (R382). -/
def execAdvance (via : Via) (s : State) : Answer := .next (s.byPath (.advance via))

/-- SENS_REARM (R410). -/
def execSensRearm (via : Via) (s : State) : Answer := .next (s.byPath (.sensRearm via))

/-- REG_READ (R276, R282). -/
def execRegRead (p : PktRef) (bad : List Nat) (pins : BitVec 24) (same : Bool) (s : State) : Answer :=
  .next (s.byPath (.regRead p bad pins same))

/-- REG_WRITE (R282). -/
def execRegWrite (p : PktRef) (same : Bool) (s : State) : Answer := .next (s.byPath (.regWrite p same))

/-- STAGE_WRITE (R276, R282). -/
def execStageWrite (p : PktRef) (same : Bool) (s : State) : Answer := .next (s.byPath (.stageWrite p same))

/-- STAGE_LOAD (R276, R282). -/
def execStageLoad (p : PktRef) (same : Bool) (s : State) : Answer := .next (s.byPath (.stageLoad p same))

/-- PE_LOAD (R350). -/
def execPeLoad (p : PktRef) (same : Bool) (s : State) : Answer := .next (s.byPath (.peLoad p same))

/-- PE_START (R351). -/
def execPeStart (p : PktRef) (same : Bool) (s : State) : Answer := .next (s.byPath (.peStart p same))

/-- PE_STOP (R351). -/
def execPeStop (p : PktRef) (same : Bool) (s : State) : Answer := .next (s.byPath (.peStop p same))

/-- TW_WRITE_ACCESS (R392). -/
def execTwWriteAccess (data : Word) (same : Bool) (s : State) : Answer := .next (s.byPath (.twWriteAccess data same))

/-- TW_READ_ACCESS (R393). -/
def execTwReadAccess (slots : Fin 5) (acknowledged bad : Bool) (pins : BitVec 24) (same : Bool) (s : State) : Answer :=
  .next (s.byPath (.twReadAccess slots acknowledged bad pins same))

/-! ### The steps of a pin engine that fetch an instruction -/

/-- An opcode that does not exist stops the engine (R342). -/
def State.badOpcode (e : Fin 8) (s : State) : State :=
  if s.stepDue e && decide (0xC ≤ opOf (s.eng e).word) then (s.quitEng e .error).raise (R.penEvtBadOp e.val) else s

/-- PE_NOP (R342). -/
def execPeNop (e : Fin 8) (s : State) : Answer := .next (s.byStep e 0 (·.penExec e 0 fun _ s => s.nextStep e))

/-- OUT (R342, R344). -/
def execOut (e : Fin 8) (s : State) : Answer := .next (s.byStep e 1 (·.penExec e 1 fun w s => s.pinAction e w))

/-- IN (R342). -/
def execInn (e : Fin 8) (pins : BitVec 24) (s : State) : Answer :=
  .next (s.byStep e 2 (·.penExec e 2 fun w s => (s.samplePins pins).shiftIn e w))

/-- PULL (R349). -/
def execPull (e : Fin 8) (s : State) : Answer := .next (s.byStep e 3 (·.fifoOp e 3))

/-- PUSH (R349). -/
def execPush (e : Fin 8) (s : State) : Answer := .next (s.byStep e 4 (·.fifoOp e 4))

/-- SET (R342, R344). -/
def execSet (e : Fin 8) (s : State) : Answer := .next (s.byStep e 5 (·.penExec e 5 fun w s => s.pinAction e w))

/-- MOV (R342). -/
def execMov (e : Fin 8) (s : State) : Answer := .next (s.byStep e 6 (·.penExec e 6 fun w s => s.move e w))

/-- WAIT (R343). -/
def execWait (e : Fin 8) (s : State) : Answer := .next (s.byStep e 7 (·.penExec e 7 fun w s => s.beginWait e w))

/-- AT (R344). -/
def execAtStamp (e : Fin 8) (s : State) : Answer := .next (s.byStep e 8 (·.penExec e 8 fun w s => s.armStamp e w))

/-- JMP (R345). -/
def execJmp (e : Fin 8) (pins : BitVec 24) (s : State) : Answer :=
  .next (s.byStep e 9 (·.penExec e 9 fun w s => (s.samplePins pins).jump e w))

/-- FLAG (R342). -/
def execFlag (e : Fin 8) (s : State) : Answer := .next (s.byStep e 0xA (·.penExec e 0xA fun w s => s.flagOp e w))

/-- DLY (R341). -/
def execDly (e : Fin 8) (s : State) : Answer := .next (s.byStep e 0xB (·.penExec e 0xB fun w s => s.delay e w))

/-- PE_BAD_OPCODE (R342). -/
def execPeBadOpcode (e : Fin 8) (s : State) : Answer := .next (s.byStep e 0xC (·.badOpcode e))

end Sys2Proof.Machine
end

