-- ==== Sys2Proof/Machine/Reset.lean ====
section
/-! DEFINITION. Resets and start-up (R425 to R435, R438): what each reset keeps, the start-up sequence, READY. -/

namespace Sys2Proof.Machine

/-! ### What a warm reset keeps (R426) -/

/-- The bits of a register that a warm reset keeps: RWL fields and GLB_LOCK, GLB_ASSET, GLB_SCRATCH, GLB_LINK_CTRL and
GLB_LINK_EVT, the violation count, the sticky timebase status, and the counters cleared by cold reset only. -/
def warmKept (off : Nat) : Word :=
  if [0x000014, 0x000024, 0x000028, 0x000404, 0x000408].contains off then 0xFFFFFFFF
  else if off = 0x000018 then 0xFF00
  else if off = 0x010040 then 0xFF00
  else if 0x090000 ≤ off ∧ off < 0x092000 ∧ 0x28 ≤ off % 512 ∧ off % 512 ≤ 0x3C then 0xFFFFFFFF
  else if 0x0A0000 ≤ off ∧ off < 0x0A0200 ∧ off % 64 = 0x28 then 0xFFFFFFFF
  else maskOf (fun a => match a with | .rwl _ => true | _ => false) off

/-- The register words after a warm reset. -/
def warmRegs (m : RegMap) : RegMap :=
  m.filterMap fun (off, w) =>
    let k := warmKept off
    let v := (w &&& k) ||| (resetWord off &&& ~~~k)
    if v = resetWord off then none else some (off, v)

/-- The engines keep their stores and FIFOs; they are disabled (R426, R352). -/
def Engine.kept (g : Engine) : Engine := { store := g.store, tx := g.tx, rx := g.rx }

/-- The timebase runs on; no trigger, window or period stands from before (R426, R430). -/
def Timebase.kept (t : Timebase) (source : Bool) : Timebase :=
  { t with raisedRdy := false, held := none, heldPos := none, extDue := [], window := none, droopNext := false,
           periods := [], fresh := false, runOn := source || t.runOn, epoch := t.epoch + 1,
           reamK := ({} : Furnish).reamK }

/-- The Tender before its ROM starts: what the NOR, the fuses, the ROM and the supply hold. -/
def Tender.stored (t : Tender) : Tender :=
  { boots := t.boots, romKeys := t.romKeys, banks := vmap (fun b => { b with verdict := 0, checked := false }) t.banks,
    slots := t.slots, fuses := t.fuses, revoked := t.revoked, asset := t.asset, log := t.log, head := t.head, erased := t.erased,
    lseq := t.lseq, inhibit := t.inhibit, inhAt := t.inhAt, inhAon := t.inhAon }

/-- At a warm reset the log queue is kept too, and with it what it refused and the writes of registers (R378, R427); a
rewrite of the boot record is lost, and the previous record stays in force (R372, R389). The mirror keeps what it showed,
and its age counts (R298, R299). -/
def Tender.retained (t : Tender) (now : Nat) (shown : List (Nat × Word)) : Tender :=
  { t.stored with queue := t.queue, refused := t.refused, inhList := t.inhList,
                  jobs := t.jobs.filter fun j => j.kind.packet.isNone && !j.kind.isBoot,
                  downAt := if t.up then now else t.downAt, copy := if t.up then shown else t.copy }

/-- The reel keeps its contents, directory, layout and lap; cuts and the write buffer are gone, and it has to train again
(R434). -/
def Reel.kept (r : Reel) : Reel :=
  { r with trained := false, debt := 0, waits := [], cuts := [], turn := 0, chunks := 0, occ := 0, result := 0, drains := [], tailSeen := 0,
           headSeen := 0 }

/-- Temperatures, supplies and the peak go on; the throttle and the stop do not. A failed sensor stays failed (R410). -/
def Thermal.kept (t : Thermal) : Thermal :=
  { nodes := t.nodes, tb := t.tb, tHot := t.tHot, hotNode := t.hotNode, uv := t.uv, rails := t.rails, parts := t.parts,
    peakPow := t.peakPow, tripLatch := t.tripLatch, energy := t.energy }

/-- The state a warm reset leaves (R426). -/
def State.warmState (s : State) : State :=
  { pending := s.pending, regs := warmRegs s.regs, tb := s.tb.kept (s.wl.role == .source),
    felt := { peak := s.felt.peak }, fu := { staging := s.fu.staging }, cal := { peak := s.cal.peak },
    scr := { peak := s.scr.peak, tokenAt := s.now }, reel := s.reel.kept, window := s.window, poison := s.poison,
    link := { perstLow := s.link.perstLow, noRef := s.link.noRef, darkAt := s.link.darkAt, copy := s.link.copy },
    wl := { darkAt := some (s.wl.darkAt.getD s.now), copy := s.portMirror },
    cmd := { served := s.cmd.served },
    pen := { engs := vmap (·.kept) s.pen.engs, level := s.pen.level, hiz := s.pen.hiz, pins := s.pen.pins },
    clk := { refOk := s.clk.refOk, xtalOk := s.clk.xtalOk, noEdges := s.clk.noEdges },
    tnd := s.tnd.retained s.now s.mgtMirror, tw := { strap := s.tw.strap },
    thm := s.thm.kept, rst := { s.rst with phase := .inReset, ready := false, wasReady := false, readyAt := 0, lit := false,
                                           millis := 0, cold := false },
    obs := s.obs, before := s.before, out := s.out, free := s.free }

/-- A warm reset is asserted with its RESET_CAUSE (R425, R427): the NOR comes to rest, the link goes down, the state is
that of R426. During a reset that is asserted already the higher source stands (R438). -/
def State.assertWarm (cause : Nat) (s : State) : State :=
  if s.thm.trip || s.rst.stuck then s
  else
    let seq := s.tb.nextSeq - 1
    let old := s.rst
    let s := if old.phase = .inReset then s
      else
        let s := (s.nvAbandon true).quitAll.phyDark
        let s := s.iff s.link.up fun s =>
          (s.modLink fun l => { l with up := false, cxl := false, width := 0, rate := 0, reversed := false, polInv := 0 }).traceLink 0
        let s := s.each (List.finRange 4) fun p s => s.setPort p .off
        s.linkReset false
    if old.phase = .inReset then
      if old.cause = 0 ∨ old.cause = 2 then s else s.modRst fun r => { r with cause := cause }
    else s.warmState.modRst fun r => { r with cause := cause, seqAt := seq }

/-! ### Cold power-on (R425, R426) -/

/-- COLD_POWER_ON: everything at its reset value but what is non-volatile; the straps are sampled (R390, R455). -/
def State.coldStart (twAddr : BitVec 3) (strap : Bool) (s : State) : State :=
  let t : State :=
    { pending := s.pending, out := s.out, free := s.free, tnd := s.tnd.stored, tw := { strap := twAddr },
      thm := { tripLatch := s.thm.tripLatch }, reel := { layouts := s.reel.layouts + 1 },
      link := { perstLow := s.link.perstLow }, cmd := { served := s.cmd.served },
      rst := { stuck := strap, trims := s.rst.trims }, before := s.before }
  match s.tnd.asset with
  | some v => (t.setReg 0x000024 v).fset R.glbLockAssetSpent 1
  | none => t

/-! ### PERST_N (R425, R426) -/

/-- PERST_N_ASSERT: the link only. -/
def State.perstLow (s : State) : State :=
  let s := if s.link.up then s.linkDown else s.linkReset false
  let s := s.modLink fun l => { l with perstLow := true }
  s.iff (s.rst.phase != .inReset) (·.modRst fun r => { r with cause := 1 })

/-! ### Bank selection (R381) -/

/-- A bank starts to run: its resident section is copied into SRAM (R379). -/
def State.bootBank (b trial : Bool) (s : State) : State :=
  let s := s.modTnd fun t => { t with bank := b, trial := trial }
  s.loadResident.logOwn 0x0010 (leBytes 1 (b2n b) ++ leBytes 4 (s.fw (pickBank b)).version ++ leBytes 1 s.rst.cause)

/-- BANK_FALLBACK: the boot record comes to prefer the other bank. -/
def State.fallBack (det : Nat) (s : State) : State :=
  let p := s.tnd.boot.pref
  let s := (s.bootRewrite (!p) false false).modTnd fun t => { t with fallback := true }
  ((s.bootBank (!p) false).raiseOnce R.mgtEvtFallback).logOwn 0x0011
    [BitVec.ofNat 8 (b2n p), BitVec.ofNat 8 (if det = 0 then 0x10 else det)]

/-- The preferred bank starts to run; where its trial flag is set, it is on trial (R381). -/
def State.bootPreferred (s : State) : State :=
  let b := s.tnd.boot
  (s.bootRewrite b.pref b.trial b.trial).bootBank b.pref b.trial

/-- The ROM selects a bank: the preferred one; the other where it fails or its trial was not confirmed; else recovery. A
preferred bank that passes is booted again when the other fails (R381). -/
def State.selectBank (s : State) : State :=
  let p := s.tnd.boot.pref
  let (d1, s) := s.verify (pickBank p)
  let unconfirmed := s.tnd.boot.trial && s.tnd.boot.tried
  if d1 = 0 ∧ ¬ unconfirmed then s.bootPreferred
  else
    let (d2, s) := s.verify (pickBank (!p))
    if d2 = 0 then s.fallBack d1
    else if d1 = 0 then s.bootPreferred
    else
      let b := s.tnd.boot
      ((s.bootRewrite p b.trial b.tried).modTnd fun t => { t with bank := p }).enterRecovery p d1

/-! ### The start-up steps (R428, R429, R434) -/

/-- TRIP (R420): the trip latched in the always-on domain is reported once. -/
def State.reportTrip (s : State) : State :=
  s.iff s.thm.tripLatch fun s => (s.raiseAlarm R.thmEvtTrip).modThm fun t => { t with tripLatch := false }

/-- Step 3: the MDLLs lock, or run on bypass without their reference; ports that do not lead downstream train, the others
wait in electrical idle for the head to feed them (R432). -/
def State.startClocks (s : State) : State :=
  let s := (s.modWl fun w => { w with darkAt := none }).modClk fun c => { c with core := .locked, mem := .locked, slices := vrep 19 .locked }
  let s := s.iff (!s.refPresent) (·.loseRef)
  s.each (List.finRange 4) fun p s =>
    if !s.flag (R.wlkPCtrlEn p.val) then s
    else if s.downPorts.contains p then s.setPort p .idle
    else s.train p

/-- Step 5: the reel trains, or REEL_TRAINING_FAIL. -/
def State.startReel (ok : Bool) (chan : Nat) (s : State) : State :=
  let s := s.modReel fun r => { r with trained := ok }
  s.iff (!ok) (·.postAlarm 0x0062 (leBytes 1 chan))

/-- A capture's sum of an entry. -/
def sumOf (t : Table) (rest b c : Nat) : Int := (mget (darkKey b c) t).getD (rest : Int)

/-- The sum over the 96 dark columns of a block. -/
def darkColumns (t : Table) (rest b : Nat) : Int :=
  ((List.range 48).map fun i => sumOf t rest b i + sumOf t rest b (16368 + i)).foldl (· + ·) 0

/-- The active columns of a block whose mean of 4,096 codes lies more than 64 DN above that of its dark columns. -/
def litColumns (t : Table) (rest b : Nat) : Nat :=
  let dark := darkColumns t rest b
  let hot (v : Int) : Bool := decide (64 * 4096 * 96 < 96 * v - dark)
  let own := t.filter fun e => decide (darkKey b 48 ≤ e.1) && decide (e.1 < darkKey b 16368)
  (own.filter fun e => hot e.2).length + (if hot (rest : Int) then 16320 - own.length else 0)

/-- The first block that is lit, and its columns above the limit (R429). -/
def litBlock (t : Table) (rest : Nat) : Option (Nat × Nat) :=
  (List.range 32).findSome? fun b => if 163 < litColumns t rest b then some (b, litColumns t rest b) else none

/-- Step 7, STARTUP_DARK_CAPTURE: the TDI table of bank 0 is written, unless the capture is lit. The bank stands as loaded
from its slot even so (R384). -/
def State.startDark (sums : List (Nat × Nat × Nat)) (rest : Nat) (s : State) : State :=
  let t := sumTable sums
  match litBlock t rest with
  | some (b, n) => (s.modRst fun r => { r with lit := true }).postAlarm 0x0061 (leBytes 1 b ++ leBytes 2 n)
  | none =>
    s.onTables 0 fun k =>
      { k with darkTdi := t.map fun e => (e.1, (darkEntry 12 e.2).1), tdiRest := some (darkEntry 12 rest).1 }

/-- Steps 3 to 7, after a bank has been selected. -/
def State.startRest (u : StartUp) (s : State) : State :=
  let s := s.startClocks.modLink fun l => { l with phyOn := true }
  let s := s.startReel u.reelOk u.badChan.val
  let s := s.iff (!u.slot0Crc) (·.onSlot 0 fun c => { c with crcOk := false })
  (s.loadSlot 0).startDark u.darkSums u.darkSum

/-- RESET_RELEASE (R428): the start-up sequence up to the end of step 7; without a crystal it stays in step 1 (R435), in
recovery mode it ends with step 2. A device with a trip or a test strap high does not leave reset (R420, R455). -/
def State.release (u : StartUp) (s : State) : State :=
  if s.rst.phase ≠ .inReset ∨ s.thm.trip ∨ s.rst.stuck then s
  else
    let s := s.trace 0x17 s.rst.cause 0
    let now := s.now
    let s := s.modRst fun r => { r with phase := .released, millis := u.millis }
    let s := s.modClk fun c => { c with xtalOk := u.crystal }
    let s := s.keepRecords.modTnd fun t => { t with up := true, idleFrom := now }
    if !u.crystal then s
    else
      let s := s.selectBank.reportTrip.modRst fun r => { r with phase := .started }
      s.iff (!s.tnd.recovery) (·.startRest u)

/-! ### READY (R431) -/

/-- TRIAL_CONFIRM (R381): the flag is cleared by a rewrite of the boot record, which is logged when it is done. -/
def State.confirmTrial (s : State) : State :=
  s.iff s.tnd.trial (·.nvBegin (.boot true) [.bootErase, .bootConfirm s.tnd.bank])

/-- READY may be asserted: once after each start-up that got to its end, and only below the release temperature. -/
def State.mayReady (s : State) : Bool :=
  s.rst.phase == .started && !s.rst.wasReady && !s.tnd.recovery && s.clk.xtalOk && !s.thm.safe && s.thm.stop == .none &&
    decide (s.thm.tHot < s.thmStart - s.thmHyst)

/-- R71, R431: at READY every slice is active; those whose clock, or converter references (`bad`), fail the start-up
check, and those that FORCE_FAIL holds, fail in the first line period after it (assumption 33). -/
def State.slicesReady (bad : BitVec 38) (s : State) : State :=
  let due := (List.finRange 38).filterMap fun i =>
    if s.sliceSlow i then some (i, 2) else if bitOf bad i.val then some (i, 4)
    else if s.flag (R.hbxSlCtrlForceFail i.val) then some (i, 0xF) else none
  let s := s.modHb fun h => { h with slices := vmap (fun sl => { sl with state := .active, run := 0, missed := none }) h.slices }
  s.modRst fun r => { r with failDue := due }

/-- READY (R430 to R433): `bad` names the slices whose converter references fail their check. -/
def State.assertReady (bad : BitVec 38) (s : State) : State :=
  if !s.mayReady then s
  else
    let now := s.now
    let s := s.modRst fun r => { r with ready := true, wasReady := true, readyAt := now }
    let s := s.modTb fun t => { t with timeBase := now, raisedRdy := false }
    let s := s.iff s.fu.inForce.webMode (·.catchUp false)
    let s := s.slicesReady bad
    let r := s.rst
    let s := s.confirmTrial.logOwn 0x0060 (leBytes 6 r.seqAt ++ leBytes 2 r.millis ++ leBytes 1 (b2n r.lit) ++ leBytes 1 r.cause)
    s.roleNow

/-! ### The commands -/

/-- COLD_POWER_ON (R425). -/
def execColdPowerOn (twAddr : BitVec 3) (testStrap : Bool) (s : State) : Answer := .next (s.coldStart twAddr testStrap)

/-- RESET_N_ASSERT (R425). -/
def execResetNAssert (s : State) : Answer := .next (s.assertWarm 2)

/-- WARM_RESET_BEGIN (R281, R425). -/
def execWarmResetBegin (s : State) : Answer := .next (s.iff s.cmd.warmDue.isSome (·.assertWarm 3))

/-- PERST_N_ASSERT (R425). -/
def execPerstNAssert (s : State) : Answer := .next s.perstLow

/-- PERST_N_DEASSERT (R428). -/
def execPerstNDeassert (s : State) : Answer := .next (s.modLink fun l => { l with perstLow := false })

/-- RESET_RELEASE (R428). -/
def execResetRelease (u : StartUp) (s : State) : Answer := .next (s.release u)

/-- READY (R431). -/
def execReady (badSlices : BitVec 38) (s : State) : Answer := .next (s.assertReady badSlices)

end Sys2Proof.Machine
end

