-- ==== Sys2Proof/Machine/Dispatch.lean ====
section
/-! DEFINITION. The meaning of every command: one arm per constructor of `Instr`, each a direct call. -/

namespace Sys2Proof.Machine

def exec (i : Instr) (s : State) : Host.Outcome State Fault Refusal :=
  match i with
  | .encoderTransition enc a b held => Sys2Proof.Machine.execEncoderTransition enc a b held s
  | .zEdge enc held => Sys2Proof.Machine.execZEdge enc held s
  | .standstill => Sys2Proof.Machine.execStandstill s
  | .coast => Sys2Proof.Machine.execCoast s
  | .timebaseLost => Sys2Proof.Machine.execTimebaseLost s
  | .slewEnd => Sys2Proof.Machine.execSlewEnd s
  | .resyncHoldEnd => Sys2Proof.Machine.execResyncHoldEnd s
  | .lineTrigger => Sys2Proof.Machine.execLineTrigger s
  | .timeModeTrigger => Sys2Proof.Machine.execTimeModeTrigger s
  | .externalTrigger => Sys2Proof.Machine.execExternalTrigger s
  | .heldTrigger => Sys2Proof.Machine.execHeldTrigger s
  | .preTrigger => Sys2Proof.Machine.execPreTrigger s
  | .exposureStart => Sys2Proof.Machine.execExposureStart s
  | .exposureEnd => Sys2Proof.Machine.execExposureEnd s
  | .blockSampleLatch slice codes => Sys2Proof.Machine.execBlockSampleLatch slice codes s
  | .blockSampleDelivery slice block fault => Sys2Proof.Machine.execBlockSampleDelivery slice block fault s
  | .missedWindow slice => Sys2Proof.Machine.execMissedWindow slice s
  | .sliceReferenceFault slice => Sys2Proof.Machine.execSliceReferenceFault slice s
  | .sliceRearm via slice => Sys2Proof.Machine.execSliceRearm via slice s
  | .forceFail via slice => Sys2Proof.Machine.execForceFail via slice s
  | .adcDroop => Sys2Proof.Machine.execAdcDroop s
  | .areaRowReadout codes ce ue => Sys2Proof.Machine.execAreaRowReadout codes ce ue s
  | .areaSlotEnd => Sys2Proof.Machine.execAreaSlotEnd s
  | .lineClosure prod seq ce ue => Sys2Proof.Machine.execLineClosure prod seq ce ue s
  | .darkStatsTimeout => Sys2Proof.Machine.execDarkStatsTimeout s
  | .commit via kind => Sys2Proof.Machine.execCommit via kind s
  | .cancel via => Sys2Proof.Machine.execCancel via s
  | .commitCheckDone => Sys2Proof.Machine.execCommitCheckDone s
  | .furnishRelease => Sys2Proof.Machine.execFurnishRelease s
  | .calenderLineArrival => Sys2Proof.Machine.execCalenderLineArrival s
  | .partnerAbsent prod seq row => Sys2Proof.Machine.execPartnerAbsent prod seq row s
  | .guideCopyExpiry => Sys2Proof.Machine.execGuideCopyExpiry s
  | .laneTake => Sys2Proof.Machine.execLaneTake s
  | .calenderLineExit lane faults => Sys2Proof.Machine.execCalenderLineExit lane faults s
  | .calenderDeadline prod field => Sys2Proof.Machine.execCalenderDeadline prod field s
  | .outputLine faults => Sys2Proof.Machine.execOutputLine faults s
  | .statsPeriodClose => Sys2Proof.Machine.execStatsPeriodClose s
  | .shiveToken => Sys2Proof.Machine.execShiveToken s
  | .relayout via => Sys2Proof.Machine.execRelayout via s
  | .cutActivate same => Sys2Proof.Machine.execCutActivate same s
  | .cutLine stale ue ce => Sys2Proof.Machine.execCutLine stale ue ce s
  | .cutRecordWritten cutId => Sys2Proof.Machine.execCutRecordWritten cutId s
  | .windowRead addr ce ue => Sys2Proof.Machine.execWindowRead addr ce ue s
  | .windowWrite addr data poison => Sys2Proof.Machine.execWindowWrite addr data poison s
  | .linkUp cxl working rate reversed inverted => Sys2Proof.Machine.execLinkUp cxl working rate reversed inverted s
  | .linkRetrain lanes rate => Sys2Proof.Machine.execLinkRetrain lanes rate s
  | .dlDown => Sys2Proof.Machine.execDlDown s
  | .linkReset => Sys2Proof.Machine.execLinkReset s
  | .flr => Sys2Proof.Machine.execFlr s
  | .d3hotEntry => Sys2Proof.Machine.execD3hotEntry s
  | .d0Return => Sys2Proof.Machine.execD0Return s
  | .l1Entry => Sys2Proof.Machine.execL1Entry s
  | .viralIn => Sys2Proof.Machine.execViralIn s
  | .viralOut => Sys2Proof.Machine.execViralOut s
  | .hdmCommit ways base size lock same => Sys2Proof.Machine.execHdmCommit ways base size lock same s
  | .cacheSnoop addr => Sys2Proof.Machine.execCacheSnoop addr s
  | .linkHold via hold => Sys2Proof.Machine.execLinkHold via hold s
  | .linkPrbsTest via mode rate lock errs => Sys2Proof.Machine.execLinkPrbsTest via mode rate lock errs s
  | .segmentIssue stagingUe => Sys2Proof.Machine.execSegmentIssue stagingUe s
  | .bufferTimeout ch => Sys2Proof.Machine.execBufferTimeout ch s
  | .descriptorFetch ch res desc => Sys2Proof.Machine.execDescriptorFetch ch res desc s
  | .translationCompletion ch nth valid write big pa => Sys2Proof.Machine.execTranslationCompletion ch nth valid write big pa s
  | .pageResponse ch nth code => Sys2Proof.Machine.execPageResponse ch nth code s
  | .priTimeout ch => Sys2Proof.Machine.execPriTimeout ch s
  | .invalidation pasid va size => Sys2Proof.Machine.execInvalidation pasid va size s
  | .replayRead ch ce ue tags same => Sys2Proof.Machine.execReplayRead ch ce ue tags same s
  | .dtail ch idx same => Sys2Proof.Machine.execDtail ch idx same s
  | .chead ch idx same => Sys2Proof.Machine.execChead ch idx same s
  | .channelEnable via ch ctrl => Sys2Proof.Machine.execChannelEnable via ch ctrl s
  | .channelDisable via ch => Sys2Proof.Machine.execChannelDisable via ch s
  | .channelStop via ch => Sys2Proof.Machine.execChannelStop via ch s
  | .sqTail q idx same => Sys2Proof.Machine.execSqTail q idx same s
  | .cqHead q idx same => Sys2Proof.Machine.execCqHead q idx same s
  | .packetFetch q res pkt => Sys2Proof.Machine.execPacketFetch q res pkt s
  | .commandDispatch same => Sys2Proof.Machine.execCommandDispatch same s
  | .queueEnable via q ctrl => Sys2Proof.Machine.execQueueEnable via q ctrl s
  | .queueDisable via q => Sys2Proof.Machine.execQueueDisable via q s
  | .mailboxGo via => Sys2Proof.Machine.execMailboxGo via s
  | .nop p => Sys2Proof.Machine.execNop p s
  | .identify p => Sys2Proof.Machine.execIdentify p s
  | .getState p => Sys2Proof.Machine.execGetState p s
  | .abort p ends => Sys2Proof.Machine.execAbort p ends s
  | .warmReset p => Sys2Proof.Machine.execWarmReset p s
  | .regRead p bad pins same => Sys2Proof.Machine.execRegRead p bad pins same s
  | .regWrite p same => Sys2Proof.Machine.execRegWrite p same s
  | .stageWrite p same => Sys2Proof.Machine.execStageWrite p same s
  | .furnishCommit p same => Sys2Proof.Machine.execFurnishCommit p same s
  | .furnishCommitCancel p => Sys2Proof.Machine.execFurnishCommitCancel p s
  | .furnishRead p => Sys2Proof.Machine.execFurnishRead p s
  | .stageLoad p same => Sys2Proof.Machine.execStageLoad p same s
  | .furnishHist p => Sys2Proof.Machine.execFurnishHist p s
  | .darkCapture p => Sys2Proof.Machine.execDarkCapture p s
  | .darkCaptureDone p sums rest => Sys2Proof.Machine.execDarkCaptureDone p sums rest s
  | .darkCaptureTimeout p => Sys2Proof.Machine.execDarkCaptureTimeout p s
  | .darkWrite p => Sys2Proof.Machine.execDarkWrite p s
  | .darkRead p => Sys2Proof.Machine.execDarkRead p s
  | .tableWrite p => Sys2Proof.Machine.execTableWrite p s
  | .tableRead p => Sys2Proof.Machine.execTableRead p s
  | .calStore p => Sys2Proof.Machine.execCalStore p s
  | .calLoad p => Sys2Proof.Machine.execCalLoad p s
  | .wlStatus p => Sys2Proof.Machine.execWlStatus p s
  | .wlPort p => Sys2Proof.Machine.execWlPort p s
  | .wlRole p => Sys2Proof.Machine.execWlRole p s
  | .wlEnumerate p => Sys2Proof.Machine.execWlEnumerate p s
  | .enumerationDone => Sys2Proof.Machine.execEnumerationDone s
  | .wlMember p => Sys2Proof.Machine.execWlMember p s
  | .wlMessage p => Sys2Proof.Machine.execWlMessage p s
  | .peLoad p same => Sys2Proof.Machine.execPeLoad p same s
  | .peStart p same => Sys2Proof.Machine.execPeStart p same s
  | .peStop p same => Sys2Proof.Machine.execPeStop p same s
  | .peStatus p pins => Sys2Proof.Machine.execPeStatus p pins s
  | .cut p same => Sys2Proof.Machine.execCut p same s
  | .cutCancel p => Sys2Proof.Machine.execCutCancel p s
  | .reelFreeze p => Sys2Proof.Machine.execReelFreeze p s
  | .reelLayout p => Sys2Proof.Machine.execReelLayout p s
  | .logRead p => Sys2Proof.Machine.execLogRead p s
  | .logNote p => Sys2Proof.Machine.execLogNote p s
  | .fwWrite p => Sys2Proof.Machine.execFwWrite p s
  | .fwActivate p => Sys2Proof.Machine.execFwActivate p s
  | .fwStatus p => Sys2Proof.Machine.execFwStatus p s
  | .thmStatus p => Sys2Proof.Machine.execThmStatus p s
  | .thmLimits p => Sys2Proof.Machine.execThmLimits p s
  | .powerStatus p => Sys2Proof.Machine.execPowerStatus p s
  | .obsCounters p => Sys2Proof.Machine.execObsCounters p s
  | .obsTrace p => Sys2Proof.Machine.execObsTrace p s
  | .registerWrite via off data => Sys2Proof.Machine.execRegisterWrite via off data s
  | .wideLowRead via off size bad pins => Sys2Proof.Machine.execWideLowRead via off size bad pins s
  | .wideHighRead via off size bad pins => Sys2Proof.Machine.execWideHighRead via off size bad pins s
  | .assetWrite via value => Sys2Proof.Machine.execAssetWrite via value s
  | .portUp p partner partnerPort pol swapped wantsSec => Sys2Proof.Machine.execPortUp p partner partnerPort pol swapped wantsSec s
  | .portAbsent p => Sys2Proof.Machine.execPortAbsent p s
  | .symbolLockLoss p lane => Sys2Proof.Machine.execSymbolLockLoss p lane s
  | .portDown p => Sys2Proof.Machine.execPortDown p s
  | .frameTransmit p => Sys2Proof.Machine.execFrameTransmit p s
  | .positionPacket p bytes codeError => Sys2Proof.Machine.execPositionPacket p bytes codeError s
  | .holdoverExpiry => Sys2Proof.Machine.execHoldoverExpiry s
  | .secondaryLambdaCheck => Sys2Proof.Machine.execSecondaryLambdaCheck s
  | .reamMark p chunk => Sys2Proof.Machine.execReamMark p chunk s
  | .echoSend p => Sys2Proof.Machine.execEchoSend p s
  | .echoRequest p chunk hold => Sys2Proof.Machine.execEchoRequest p chunk hold s
  | .echoReply p chunk at16 => Sys2Proof.Machine.execEchoReply p chunk at16 s
  | .enumerationRequest p chunk => Sys2Proof.Machine.execEnumerationRequest p chunk s
  | .enumerationReply p chunk => Sys2Proof.Machine.execEnumerationReply p chunk s
  | .messageSegment p chunk => Sys2Proof.Machine.execMessageSegment p chunk s
  | .seamSegment p chunk => Sys2Proof.Machine.execSeamSegment p chunk s
  | .seamLost right => Sys2Proof.Machine.execSeamLost right s
  | .retrain via p => Sys2Proof.Machine.execRetrain via p s
  | .wlPrbsTest via p mode lock errs => Sys2Proof.Machine.execWlPrbsTest via p mode lock errs s
  | .rxPop via => Sys2Proof.Machine.execRxPop via s
  | .peNop e => Sys2Proof.Machine.execPeNop e s
  | .out e => Sys2Proof.Machine.execOut e s
  | .inn e pins => Sys2Proof.Machine.execInn e pins s
  | .pull e => Sys2Proof.Machine.execPull e s
  | .push e => Sys2Proof.Machine.execPush e s
  | .set e => Sys2Proof.Machine.execSet e s
  | .mov e => Sys2Proof.Machine.execMov e s
  | .wait e => Sys2Proof.Machine.execWait e s
  | .waitMet e pins => Sys2Proof.Machine.execWaitMet e pins s
  | .atStamp e => Sys2Proof.Machine.execAtStamp e s
  | .stampMet e => Sys2Proof.Machine.execStampMet e s
  | .jmp e pins => Sys2Proof.Machine.execJmp e pins s
  | .flag e => Sys2Proof.Machine.execFlag e s
  | .dly e => Sys2Proof.Machine.execDly e s
  | .dlyDone e => Sys2Proof.Machine.execDlyDone e s
  | .peBadOpcode e => Sys2Proof.Machine.execPeBadOpcode e s
  | .exposureRecord => Sys2Proof.Machine.execExposureRecord s
  | .penOpStart via mask => Sys2Proof.Machine.execPenOpStart via mask s
  | .penOpResume via mask => Sys2Proof.Machine.execPenOpResume via mask s
  | .penOpClockRestart via mask => Sys2Proof.Machine.execPenOpClockRestart via mask s
  | .penOpStop via mask => Sys2Proof.Machine.execPenOpStop via mask s
  | .penActionTick => Sys2Proof.Machine.execPenActionTick s
  | .penTxWrite via e value => Sys2Proof.Machine.execPenTxWrite via e value s
  | .penRxPop via e => Sys2Proof.Machine.execPenRxPop via e s
  | .penFlagSet via mask => Sys2Proof.Machine.execPenFlagSet via mask s
  | .penFlagClr via mask => Sys2Proof.Machine.execPenFlagClr via mask s
  | .penStoreWrite via e addr value => Sys2Proof.Machine.execPenStoreWrite via e addr value s
  | .referenceLoss refclk => Sys2Proof.Machine.execReferenceLoss refclk s
  | .mdllLockLoss m => Sys2Proof.Machine.execMdllLockLoss m s
  | .stableCountDone m => Sys2Proof.Machine.execStableCountDone m s
  | .mdllRelock m offset16 => Sys2Proof.Machine.execMdllRelock m offset16 s
  | .tickSlewDone => Sys2Proof.Machine.execTickSlewDone s
  | .clockSettingWrite via target value => Sys2Proof.Machine.execClockSettingWrite via target value s
  | .refclkMeasurement edges ppm16 => Sys2Proof.Machine.execRefclkMeasurement edges ppm16 s
  | .crystalFailure => Sys2Proof.Machine.execCrystalFailure s
  | .tenderSliceRearm m => Sys2Proof.Machine.execTenderSliceRearm m s
  | .tenderSleep => Sys2Proof.Machine.execTenderSleep s
  | .watchdogExpiry => Sys2Proof.Machine.execWatchdogExpiry s
  | .tenderSramError hit => Sys2Proof.Machine.execTenderSramError hit s
  | .tenderRestartDone => Sys2Proof.Machine.execTenderRestartDone s
  | .alarmRecord => Sys2Proof.Machine.execAlarmRecord s
  | .logWrite => Sys2Proof.Machine.execLogWrite s
  | .logSectorErase => Sys2Proof.Machine.execLogSectorErase s
  | .nvInhibit aon same => Sys2Proof.Machine.execNvInhibit aon same s
  | .nvRecovery => Sys2Proof.Machine.execNvRecovery s
  | .advance via => Sys2Proof.Machine.execAdvance via s
  | .hostLossFreeze => Sys2Proof.Machine.execHostLossFreeze s
  | .tableReload => Sys2Proof.Machine.execTableReload s
  | .twAddress addr read offset => Sys2Proof.Machine.execTwAddress addr read offset s
  | .twWriteAccess data same => Sys2Proof.Machine.execTwWriteAccess data same s
  | .twReadAccess slots acknowledged bad pins same => Sys2Proof.Machine.execTwReadAccess slots acknowledged bad pins same s
  | .twStop leftover => Sys2Proof.Machine.execTwStop leftover s
  | .twFrameError ackSlot bytes => Sys2Proof.Machine.execTwFrameError ackSlot bytes s
  | .busStuck => Sys2Proof.Machine.execBusStuck s
  | .inBandRequest collision => Sys2Proof.Machine.execInBandRequest collision s
  | .ibrAnswerTimeout => Sys2Proof.Machine.execIbrAnswerTimeout s
  | .thermalUpdate sensors nodePower rails parts => Sys2Proof.Machine.execThermalUpdate sensors nodePower rails parts s
  | .criticalClosure => Sys2Proof.Machine.execCriticalClosure s
  | .criticalDrainEnd => Sys2Proof.Machine.execCriticalDrainEnd s
  | .thermalTrip sensors => Sys2Proof.Machine.execThermalTrip sensors s
  | .coreDroop => Sys2Proof.Machine.execCoreDroop s
  | .railUndervoltage rail => Sys2Proof.Machine.execRailUndervoltage rail s
  | .sliceCurrentFault slice readings => Sys2Proof.Machine.execSliceCurrentFault slice readings s
  | .sensRearm via => Sys2Proof.Machine.execSensRearm via s
  | .coldPowerOn twAddr testStrap => Sys2Proof.Machine.execColdPowerOn twAddr testStrap s
  | .resetNAssert => Sys2Proof.Machine.execResetNAssert s
  | .warmResetBegin => Sys2Proof.Machine.execWarmResetBegin s
  | .perstNAssert => Sys2Proof.Machine.execPerstNAssert s
  | .perstNDeassert => Sys2Proof.Machine.execPerstNDeassert s
  | .resetRelease u => Sys2Proof.Machine.execResetRelease u s
  | .ready badSlices => Sys2Proof.Machine.execReady badSlices s
  | .symbolLockGain p lane => Sys2Proof.Machine.execSymbolLockGain p lane s
  | .referenceReturn refclk => Sys2Proof.Machine.execReferenceReturn refclk s
  | .configSpaceWrite write => Sys2Proof.Machine.execConfigSpaceWrite write s
  | .msixVectorUnmask v => Sys2Proof.Machine.execMsixVectorUnmask v s
  | .dataInBlockRead p res data => Sys2Proof.Machine.execDataInBlockRead p res data s
  | .nvWriteStepDone reads => Sys2Proof.Machine.execNvWriteStepDone reads s
  | .wlMessageTimeout p => Sys2Proof.Machine.execWlMessageTimeout p s
  | .absentPortRetry p => Sys2Proof.Machine.execAbsentPortRetry p s
  | .electricalIdleExit p => Sys2Proof.Machine.execElectricalIdleExit p s
  | .railUndervoltageEnd rail => Sys2Proof.Machine.execRailUndervoltageEnd rail s
  | .cxlCacheGrant same => Sys2Proof.Machine.execCxlCacheGrant same s

end Sys2Proof.Machine
end

