-- ==== Sys2Proof/Machine/Tick.lean ====
section
/-! DEFINITION. What one cycle of the core clock brings about by itself, whatever is commanded: the tick counter and the
absorption of an offset of it, the advance of W, the drain of the reel's write buffer, the counters of R441 that count
ticks, and what the always-on domain sees. It is what `step` does on an empty queue (assumption 1). -/

namespace Sys2Proof.Machine

/-- R441: the counters that count clocks, and whether this one counts. -/
def State.clockCounts (s : State) : List (Nat × Bool) :=
  [(0x78, !s.cal.lanes[(0 : Fin 2)].isEmpty), (0x79, !s.cal.lanes[(1 : Fin 2)].isEmpty)]

/-- R441: the counters that count ticks, and whether the ticks of this cycle count. -/
def State.tickCounts (s : State) : List (Nat × Bool) :=
  [(0xB5, s.link.up && s.link.l1), (0xB6, !s.link.up), (0xE6, s.clk.slewing)]
    ++ (List.finRange 16).map (fun n => (0xA0 + n.val,
        s.dma.chans[n].state == .parked || s.dma.chans[n].state == .held))
    ++ (List.finRange 4).map (fun p => (0xBB + 4 * p.val, s.wl.ports[p].state == .up))

/-- The tick counter and W (R9, R33, R363). -/
def State.tickTime (s : State) : State :=
  let s := s.modTb fun t => { t with tick := t.tick + 1 }
  let r := s.motion
  let s := s.modTb (·.moveBy r)
  s.judgeStill

/-- R364, R369: the memory target as a share of 3.2 GHz, in 32nds; nothing moves while the memory clock is off lock. -/
def State.memShare (s : State) : Nat :=
  if s.clk.mem ≠ .locked then 0
  else match bits (s.reg 0x0D0004) 1 2 with
    | 1 => 24
    | 2 => 16
    | _ => 32

/-- The reel's bandwidth (R215, R364: by the memory target's share) is 88.0 GB/s, which the DRAM sustains. The write buffer
takes it first, while recording has used less than 192,000 B in the last 4,000 ticks; then what the save-all and the cuts
have written or read; then recording beyond its rate, unless a replay read or a cut read waits. -/
def State.recordDrain (s : State) : State :=
  let now := s.now
  let waits := s.replayWaits || s.reel.cuts.any fun c => c.active && !c.todo.isEmpty
  s.modReel fun r =>
    let past := r.drains.filter fun e => decide (now < e.1 + 4000)
    let guaranteed := 6000 * s.memShare - (past.map (·.2)).sum
    let full := 88 * s.memShare / 32
    let first := min r.occ (min full guaranteed)
    let paid := min r.debt (full - first)
    let n := first + (if waits then 0 else min (r.occ - first) (full - first - paid))
    { r with occ := r.occ - n, debt := r.debt - paid, drains := if n = 0 then past else past ++ [(now, n)] }

/-- The ticks that the cycle adds, and the offset that it absorbs (R363). -/
def State.passTicks (n : Nat) (s : State) : State :=
  let s := (s.modClk fun c => { c with slip := c.taken, cycle := n }).times (fun s => s.tickTime.recordDrain) n
  let now := s.now
  s.modClk (·.absorb now)

/-- R302, assumption 83: what register reads are formed from stands as this cycle leaves it; the sticky events set since
then are those of the next one. -/
def State.snap (s : State) : State := { s with before := s.seen, obs := { s.obs with fired := [] } }

/-- R444: one record leaves the queue of the trace ring. -/
def State.traceOut (s : State) : State := s.modObs fun o => { o with queued := o.queued - 1 }

/-- One core cycle: 1 tick, or as many as R363 gives. None passes while the trip holds the device without power (R420). -/
def State.tickOnce (s : State) : State :=
  if s.thm.trip then s
  else
    let n := s.cycleTicks
    let s := s.noteMet.traceOut
    let s := s.each s.clockCounts fun c s => s.iff c.2 (·.bump c.1 1)
    let s := s.each s.tickCounts fun c s => s.iff c.2 (·.bump c.1 n)
    (s.passTicks n).attnSettle.snap

end Sys2Proof.Machine
end

