-- ==== Sys2Proof/Safety.lean ====
section
/-! DEFINITION. What counts as a safe step, and the words in which frames are said: the parts of the state, and what it
means that a change stays within some of them. -/

namespace Sys2Proof

/-- A step that answers a next state. -/
def Machine.Runs (s : Machine.State) : Prop := ∃ t, Machine.step s = .next t

namespace Machine

/-- The registers of BAR0 with fields that software alone writes: no copy of a register is among them. -/
def softwareRegs : List Nat :=
  [0x00000C, 0x000020, 0x000028, 0x000200, 0x000208, 0x00020C, 0x010000, 0x02F04C, 0x0A3000, 0x0B0000, 0x0B0004,
   0x0B0014, 0x0B0018, 0x0C000C, 0x0C0010, 0x0C0014, 0x0D0000, 0x0D0004, 0x0D0008, 0x0E0000, 0x0E0004, 0x0E0008,
   0x0F0100, 0x0F0104, 0x0F0108, 0x0F010C]

/-- The parts of the state: one for each field of `State`, and within the registers those that software alone writes. -/
inductive Part where
  | pending | regs | settings | tb | hb | felt | fu | cal | fmt | sts | scr | reel | window | poison | link | dma | cmd | wl | pen
  | clk | tnd | tw | thm | rst | obs | before | shadow | out | free
deriving DecidableEq, Repr

/-- A part holds the same in two states. -/
def Part.same (s t : State) : Part → Prop
  | .pending => t.pending = s.pending
  | .regs => t.regs = s.regs
  | .settings => ∀ off, softwareRegs.contains off = true → t.reg off = s.reg off
  | .tb => t.tb = s.tb
  | .hb => t.hb = s.hb
  | .felt => t.felt = s.felt
  | .fu => t.fu = s.fu
  | .cal => t.cal = s.cal
  | .fmt => t.fmt = s.fmt
  | .sts => t.sts = s.sts
  | .scr => t.scr = s.scr
  | .reel => t.reel = s.reel
  | .window => t.window = s.window
  | .poison => t.poison = s.poison
  | .link => t.link = s.link
  | .dma => t.dma = s.dma
  | .cmd => t.cmd = s.cmd
  | .wl => t.wl = s.wl
  | .pen => t.pen = s.pen
  | .clk => t.clk = s.clk
  | .tnd => t.tnd = s.tnd
  | .tw => t.tw = s.tw
  | .thm => t.thm = s.thm
  | .rst => t.rst = s.rst
  | .obs => t.obs = s.obs
  | .before => t.before = s.before
  | .shadow => t.shadow = s.shadow
  | .out => t.out = s.out
  | .free => t.free = s.free

/-- From `s` to `t` nothing changes outside the parts listed. -/
def Only (ps : List Part) (s t : State) : Prop := ∀ p, ps.contains p = false → p.same s t

/-- The parts of the state that the meaning of a command may change, of itself: not what the accesses change that go before it
in its core cycle (R292). -/
def touches : Instr → List Part
  | .encoderTransition _ _ _ _ => [.regs, .tb, .link, .tnd, .obs, .out]
  | .zEdge _ _ | .slewEnd => [.tb, .obs]
  | .standstill | .resyncHoldEnd => [.tb]
  | .coast => [.regs, .tb, .hb, .link, .tnd, .obs, .out]
  | .timebaseLost => [.regs, .tb, .link, .wl, .tnd, .obs, .out]
  | .lineTrigger | .timeModeTrigger | .externalTrigger | .heldTrigger =>
    [.regs, .tb, .hb, .felt, .fu, .cal, .scr, .reel, .link, .dma, .cmd, .wl, .pen, .tnd, .thm, .rst, .obs, .out,
     .free]
  | .preTrigger | .exposureStart | .exposureEnd => [.tb, .hb, .obs]
  | .blockSampleLatch _ _ => [.hb, .obs]
  | .blockSampleDelivery _ _ _ | .missedWindow _ | .sliceReferenceFault _ | .sliceRearm _ _ | .forceFail _ _
  | .sliceCurrentFault _ _ => [.regs, .hb, .felt, .link, .tnd, .obs, .out]
  | .adcDroop => [.regs, .tb, .hb, .link, .obs, .out]
  | .areaRowReadout _ _ _ => [.regs, .hb, .felt, .link, .obs, .out]
  | .areaSlotEnd => [.hb, .felt]
  | .lineClosure _ _ _ _ => [.regs, .felt, .link, .obs, .out]
  | .darkStatsTimeout => [.felt]
  | .commit _ _ => [.regs, .fu, .link, .obs, .out]
  | .cancel _ | .furnishCommitCancel _ => [.regs, .fu, .reel, .link, .dma, .cmd, .tnd, .obs, .out, .free]
  | .commitCheckDone => [.regs, .tb, .fu, .cal, .reel, .link, .dma, .cmd, .tnd, .obs, .out, .free]
  | .furnishRelease => [.regs, .fu, .cal, .reel, .link, .dma, .cmd, .obs, .out]
  | .calenderLineArrival => [.regs, .felt, .cal, .fmt, .sts, .scr, .reel, .link, .dma, .cmd, .obs, .out]
  | .partnerAbsent _ _ _ | .guideCopyExpiry | .calenderDeadline _ _ =>
    [.regs, .cal, .fmt, .sts, .scr, .reel, .link, .dma, .cmd, .obs, .out]
  | .laneTake => [.cal]
  | .calenderLineExit _ _ => [.regs, .cal, .fmt, .sts, .scr, .reel, .link, .dma, .cmd, .tnd, .obs, .out]
  | .outputLine _ => [.regs, .fmt, .reel, .link, .dma, .cmd, .wl, .obs, .out]
  | .statsPeriodClose => [.regs, .sts, .scr, .reel, .link, .dma, .cmd, .obs, .out]
  | .shiveToken => [.regs, .scr, .reel, .link, .dma, .cmd, .obs, .out]
  | .relayout _ => [.regs, .reel, .window, .poison, .link, .obs, .out]
  | .cutActivate _ | .cutLine _ _ _ | .linkReset | .flr | .d3hotEntry | .viralIn | .viralOut | .segmentIssue _
  | .bufferTimeout _ | .descriptorFetch _ _ _ | .translationCompletion _ _ _ _ _ _ | .pageResponse _ _ _
  | .priTimeout _ | .invalidation _ _ _ | .dtail _ _ _ | .chead _ _ _ | .channelDisable _ _ | .channelStop _ _
  | .packetFetch _ _ _ | .configSpaceWrite _ => [.regs, .reel, .link, .dma, .cmd, .obs, .out]
  | .cutRecordWritten _ | .commandDispatch _ | .nop _ | .identify _ | .getState _ | .abort _ _ | .warmReset _
  | .furnishRead _ | .furnishHist _ | .darkCapture _ | .darkCaptureTimeout _ | .darkRead _ | .tableRead _
  | .calStore _ | .wlStatus _ | .enumerationDone | .cut _ _ | .cutCancel _ | .reelFreeze _ | .logRead _
  | .logNote _ | .fwWrite _ | .fwActivate _ | .fwStatus _ | .thmStatus _ | .powerStatus _ | .obsCounters _
  | .obsTrace _ | .watchdogExpiry | .tenderSramError _ | .tenderRestartDone | .logWrite | .nvInhibit _ _
  | .advance _ | .dataInBlockRead _ _ _ | .nvWriteStepDone _ =>
    [.regs, .reel, .link, .dma, .cmd, .tnd, .obs, .out, .free]
  | .windowRead _ _ _ => [.regs, .reel, .link, .obs, .out]
  | .windowWrite _ _ _ => [.reel, .window, .poison]
  | .linkUp _ _ _ _ _ | .nvRecovery | .hostLossFreeze => [.regs, .link, .tnd, .obs, .out]
  | .linkRetrain _ _ => [.regs, .link, .dma, .tnd, .obs, .out]
  | .dlDown | .linkHold _ _ | .linkPrbsTest _ _ _ _ _ | .channelEnable _ _ _ | .cqHead _ _ _ =>
    [.regs, .reel, .link, .dma, .cmd, .tnd, .obs, .out]
  | .d0Return | .cacheSnoop _ | .msixVectorUnmask _ => [.link, .out]
  | .l1Entry | .hdmCommit _ _ _ _ _ | .perstNDeassert => [.link]
  | .replayRead _ _ _ _ _ => [.regs, .reel, .link, .dma, .cmd, .obs, .out, .free]
  | .sqTail _ _ _ | .queueEnable _ _ _ => [.regs, .link, .dma, .cmd, .tnd, .obs, .out]
  | .queueDisable _ _ => [.regs, .link, .dma, .cmd, .obs, .out]
  | .mailboxGo _ => [.regs, .link, .cmd, .tnd, .obs, .out]
  | .regRead _ _ _ _ => [.regs, .reel, .link, .dma, .cmd, .pen, .tnd, .obs, .shadow, .out, .free]
  | .regWrite _ _ | .stageWrite _ _ | .stageLoad _ _ | .wlPort _ | .wlRole _ | .wlMember _ | .thmLimits _
  | .registerWrite _ _ _ | .assetWrite _ _ | .clockSettingWrite _ _ _ | .twWriteAccess _ _ =>
    [.regs, .settings, .tb, .hb, .felt, .fu, .reel, .window, .poison, .link, .dma, .cmd, .wl, .pen, .clk, .tnd,
     .tw, .thm, .obs, .out, .free]
  | .furnishCommit _ _ => [.regs, .fu, .cmd, .obs]
  | .darkCaptureDone _ _ _ | .darkWrite _ | .tableWrite _ | .calLoad _ =>
    [.regs, .cal, .reel, .link, .dma, .cmd, .tnd, .obs, .out, .free]
  | .wlEnumerate _ | .wlMessage _ | .portUp _ _ _ _ _ _ | .wlMessageTimeout _ | .electricalIdleExit _ =>
    [.regs, .reel, .link, .dma, .cmd, .wl, .tnd, .obs, .out, .free]
  | .peLoad _ _ | .peStart _ _ | .peStop _ _ | .peStatus _ _ =>
    [.regs, .reel, .link, .dma, .cmd, .pen, .tnd, .obs, .out, .free]
  | .reelLayout _ => [.regs, .reel, .window, .poison, .link, .dma, .cmd, .tnd, .obs, .out, .free]
  | .wideLowRead _ _ _ _ _ | .wideHighRead _ _ _ _ _ => [.regs, .link, .pen, .obs, .shadow, .out, .free]
  | .portAbsent _ | .secondaryLambdaCheck => [.wl, .obs]
  | .symbolLockLoss _ _ | .absentPortRetry _ => [.wl, .obs, .out]
  | .portDown _ | .retrain _ _ | .wlPrbsTest _ _ _ _ _ | .rxPop _ => [.regs, .link, .wl, .obs, .out]
  | .frameTransmit _ => [.wl, .obs, .out, .free]
  | .positionPacket _ _ _ => [.regs, .tb, .hb, .reel, .link, .dma, .cmd, .wl, .tnd, .obs, .out, .free]
  | .holdoverExpiry => [.regs, .tb, .hb, .link, .wl, .tnd, .obs, .out]
  | .reamMark _ _ | .messageSegment _ _ => [.regs, .link, .wl, .tnd, .obs, .out]
  | .echoSend _ | .symbolLockGain _ _ => [.wl]
  | .echoRequest _ _ _ | .echoReply _ _ _ | .enumerationRequest _ _ => [.regs, .wl, .obs]
  | .enumerationReply _ _ => [.regs, .link, .cmd, .wl, .tnd, .obs, .out]
  | .seamSegment _ _ | .seamLost _ => [.regs, .reel, .link, .dma, .cmd, .wl, .obs, .out]
  | .peNop _ | .mov _ | .wait _ | .atStamp _ | .dly _ | .dlyDone _ | .exposureRecord | .penActionTick => [.pen]
  | .out _ | .pull _ | .push _ | .set _ | .stampMet _ | .peBadOpcode _ | .penOpStart _ _ | .penOpResume _ _
  | .penOpClockRestart _ _ | .penOpStop _ _ | .penTxWrite _ _ _ | .penRxPop _ _ | .penFlagSet _ _
  | .penFlagClr _ _ | .penStoreWrite _ _ _ _ => [.regs, .link, .pen, .obs, .out]
  | .inn _ _ | .waitMet _ _ | .jmp _ _ => [.pen, .free]
  | .flag _ => [.regs, .tb, .hb, .link, .pen, .obs, .out]
  | .referenceLoss _ => [.regs, .hb, .felt, .reel, .link, .dma, .cmd, .wl, .clk, .tnd, .thm, .rst, .obs, .out]
  | .mdllLockLoss _ | .tenderSliceRearm _ => [.regs, .hb, .felt, .link, .clk, .tnd, .obs, .out]
  | .stableCountDone _ | .tickSlewDone => [.clk]
  | .mdllRelock _ _ => [.regs, .reel, .window, .poison, .link, .clk, .tnd, .obs, .out]
  | .refclkMeasurement _ _ => [.regs, .hb, .felt, .reel, .link, .dma, .cmd, .clk, .tnd, .obs, .out]
  | .crystalFailure => [.regs, .hb, .felt, .link, .wl, .clk, .tnd, .thm, .rst, .obs, .out]
  | .tenderSleep | .logSectorErase => [.tnd]
  | .alarmRecord => [.regs, .reel, .link, .dma, .cmd, .wl, .tnd, .obs, .out]
  | .tableReload => [.regs, .cal, .link, .tnd, .obs, .out]
  | .twAddress _ _ _ => [.regs, .link, .tnd, .tw, .obs, .out, .free]
  | .twReadAccess _ _ _ _ _ => [.regs, .link, .pen, .tnd, .tw, .obs, .shadow, .out, .free]
  | .twStop _ | .twFrameError _ _ | .busStuck => [.regs, .link, .tw, .obs, .out]
  | .inBandRequest _ => [.tnd, .tw, .out]
  | .ibrAnswerTimeout => [.regs, .link, .tnd, .tw, .obs, .out]
  | .thermalUpdate _ _ _ _ => [.regs, .fu, .reel, .link, .dma, .cmd, .tnd, .thm, .obs, .out, .free]
  | .criticalClosure => [.regs, .hb, .felt, .thm, .obs]
  | .criticalDrainEnd => [.regs, .hb, .felt, .cal, .reel, .link, .dma, .cmd, .pen, .thm, .rst, .obs, .out]
  | .thermalTrip _ => [.reel, .window, .poison, .link, .wl, .pen, .clk, .tnd, .thm, .rst]
  | .coreDroop => [.regs, .cal, .fmt, .link, .thm, .obs, .out]
  | .railUndervoltage _ | .sensRearm _ => [.regs, .link, .tnd, .thm, .obs, .out]
  | .coldPowerOn _ _ =>
    [.regs, .settings, .tb, .hb, .felt, .fu, .cal, .fmt, .sts, .scr, .reel, .window, .poison, .link, .dma, .cmd,
     .wl, .pen, .clk, .tnd, .tw, .thm, .rst, .obs, .shadow]
  | .resetNAssert | .warmResetBegin =>
    [.regs, .settings, .tb, .hb, .felt, .fu, .cal, .fmt, .sts, .scr, .reel, .link, .dma, .cmd, .wl, .pen, .clk,
     .tnd, .tw, .thm, .rst, .obs, .shadow, .out, .free]
  | .perstNAssert => [.regs, .reel, .link, .dma, .cmd, .tnd, .rst, .obs, .out]
  | .resetRelease _ =>
    [.regs, .hb, .felt, .cal, .reel, .link, .dma, .cmd, .wl, .clk, .tnd, .thm, .rst, .obs, .out, .free]
  | .ready _ => [.regs, .tb, .hb, .reel, .link, .dma, .cmd, .wl, .tnd, .rst, .obs, .out, .free]
  | .referenceReturn _ => [.regs, .link, .clk, .tnd, .obs, .out]
  | .railUndervoltageEnd _ => [.thm]
  | .cxlCacheGrant _ => [.regs, .link, .dma, .obs, .out]

/-- The commands whose core cycle counts (R292): register accesses and the steps of a pin engine that fetch. -/
def cycled : Instr → Bool
  | .sliceRearm _ _ | .forceFail _ _ | .commit _ _ | .cancel _ | .relayout _ | .linkHold _ _
  | .linkPrbsTest _ _ _ _ _ | .channelEnable _ _ _ | .channelDisable _ _ | .channelStop _ _ | .queueEnable _ _ _
  | .queueDisable _ _ | .mailboxGo _ | .regRead _ _ _ _ | .regWrite _ _ | .stageWrite _ _ | .stageLoad _ _
  | .peLoad _ _ | .peStart _ _ | .peStop _ _ | .registerWrite _ _ _ | .wideLowRead _ _ _ _ _
  | .wideHighRead _ _ _ _ _ | .assetWrite _ _ | .retrain _ _ | .wlPrbsTest _ _ _ _ _ | .rxPop _ | .peNop _
  | .out _ | .inn _ _ | .pull _ | .push _ | .set _ | .mov _ | .wait _ | .atStamp _ | .jmp _ _ | .flag _ | .dly _
  | .peBadOpcode _ | .penOpStart _ _ | .penOpResume _ _ | .penOpClockRestart _ _ | .penOpStop _ _
  | .penTxWrite _ _ _ | .penRxPop _ _ | .penFlagSet _ _ | .penFlagClr _ _ | .penStoreWrite _ _ _ _
  | .clockSettingWrite _ _ _ | .advance _ | .twWriteAccess _ _ | .twReadAccess _ _ _ _ _ | .sensRearm _ => true
  | _ => false

/-- What the register accesses of the paths may change, all together. -/
def accessTouches : List Part :=
  [.regs, .settings, .tb, .hb, .felt, .fu, .reel, .window, .poison, .link, .dma, .cmd, .wl, .pen, .clk, .tnd,
   .tw, .thm, .obs, .shadow, .out, .free]

/-- No waiting access is marked as standing in this core cycle, and none has been served ahead of its turn: R292 has
nothing to decide. -/
def State.alone (s : State) : Bool :=
  s.cmd.served.isEmpty && s.pending.all fun j => !(s.accessOf j).any fun a => a.via.same

/-! ### The canonical form -/

/-- A store in canonical form: keys strictly rising, and no value listed that an unlisted key has. -/
def canonicalStore {α : Type} [DecidableEq α] (d : Nat → α) (m : List (Nat × α)) : Bool :=
  msorted m && m.all fun e => decide (e.2 ≠ d e.1)

/-- The canonical form of the memory of the CXL.mem window: addresses strictly rising. What an unlisted byte reads as is
free (assumption 5), so no listed byte can be told to equal it. -/
def Memory.wf (m : List Host.Cell) : Bool := msorted m

/-- The stores of the state are in canonical form: the register words, the counters of R439, the window. -/
def State.canonical (s : State) : Bool :=
  canonicalStore resetWord s.regs && canonicalStore (fun _ => 0) s.obs.cnt && Memory.wf s.window

/-- A path reaches a register and may write it (R306). -/
def State.mayWrite (s : State) (path : Path) (off : Nat) : Bool :=
  s.reaches path && (path != .tw || s.flag R.glbAccTwWr || twFree off)

/-- A packet has left: none of its reference is held but one that the mailbox brought in (R270, R286). -/
def Gone (r : PktRef) (s t : State) : Prop := ∀ k, t.packet r = some k → s.cmd.mail = some k

/-- No trigger is held, 1,000 ticks have passed since the latest one, and the head is not leaving (R39, R329). -/
def State.freeToTrigger (s : State) : Bool :=
  s.tb.held.isNone && s.tb.lastTrig.all (fun l => decide (l + 1000 ≤ s.now)) && s.wl.member != .leaving

/-- A command that runs from a state to a next state of which something holds. -/
def Does (c : Instr) (s : State) (p : State → Prop) : Prop := ∃ t, exec c s = .next t ∧ p t

end Machine

end Sys2Proof
end

