-- ==== Sys2Proof/Certificates/Slice0/Obligations.lean ====
section
/-! DEFINITION. The obligations: statements of the spec's rules about the model, one definition each, for the provers.
`Does c s p` says that the command runs from `s` to a next state of which `p` holds. -/

open Sys2Proof Sys2Proof.Machine

/-- A step runs the command at the front of the queue. With a command at the front of the queue, a step answers what
exec answers for that command on the state with the rest of the queue. The queue is the model's, not the spec's
(assumption 70, DESIGN CHOICE). -/
def Obligations.StepRunsTheFrontCommand : Prop :=
  ∀ (c : Instr) (rest : List Instr) (s : State), s.pending = c :: rest →
    step s = exec c { s with pending := rest }

/-- On an empty queue a core cycle passes (the model's choice, assumption 1). With no command waiting a step counts the
ticks of one core cycle and keeps what register reads are formed from. A cycle of one tick drains the reel's write
buffer at the full memory target: first what keeps recording within 192,000 bytes in 4,000 ticks, at most 88 bytes; then,
with what save-all and cuts leave of the 88 bytes, the rest of the buffer, unless a replay read or a cut read waits; and
nothing while the memory clock is off lock. The step changes nothing but the timebase, the clocks, the reel, the
counters, the Tender, the two-wire port and a met web-count stamp. Held by the hardware trip (R420) no tick passes. That
the cycle is what a step does on an empty queue is a DESIGN CHOICE of assumption 1; how the rates of R215 fall on the
ticks is one of assumption 52, how an offset of the tick falls on the cycles one of assumption 85. -/
def Obligations.AnEmptyQueueLetsATickPass : Prop :=
  (∀ s : State, s.pending = [] → s.thm.trip = false →
    ∃ t, step s = .next t ∧ t.tb.tick = s.tb.tick + BitVec.ofNat 64 s.cycleTicks ∧
      Only [.tb, .clk, .reel, .pen, .obs, .before, .tnd, .tw] s t ∧
      t.before.regs = t.regs ∧ t.before.tb = t.tb ∧ t.obs.fired = [] ∧
      (s.clk.mem ≠ .locked → t.reel.occ = s.reel.occ) ∧
      (s.cycleTicks = 1 → s.memShare = 32 →
        let reads := s.replayWaits = true ∨ ∃ c, c ∈ s.reel.cuts ∧ c.active = true ∧ c.todo ≠ []
        let kept := 192000 - ((s.reel.drains.filter fun e => decide ((s.tb.tick + 1).toNat < e.1 + 4000)).map (·.2)).sum
        let first := min s.reel.occ (min 88 kept)
        (¬ reads → t.reel.occ = s.reel.occ - first - (88 - first - min s.reel.debt (88 - first))) ∧
        (reads → t.reel.occ = s.reel.occ - first))) ∧
  (∀ s : State, s.pending = [] → s.thm.trip = true → step s = .next s)

/-- A well-formed command runs to a next state. Every well-formed command but AREA_ROW_READOUT, whose width must also
be that of the deckle, runs to a next state in every state; an ill-formed one ends in the fault illFormed (the model's
fault for operands the hardware cannot produce, assumption 71, DESIGN CHOICE); no command is refused. -/
def Obligations.WhatStopsACommand : Prop :=
  (∀ (c : Instr) (s : State), c.wf = true → (∀ codes ce ue, c ≠ .areaRowReadout codes ce ue) →
    ∃ t, exec c s = .next t) ∧
  (∀ (c : Instr) (s : State), c.wf = false → exec c s = .fault .illFormed) ∧
  (∀ (c : Instr) (r : Refusal) (s : State), exec c s ≠ .refused r)

/-- Every step keeps the stores canonical. From a state whose register words, counters and window memory are in
canonical form, a step leads to a state whose stores are. -/
def Obligations.StoresStayCanonical : Prop :=
  ∀ s t : State, s.canonical = true → step s = .next t → t.canonical = true

/-- The state after reset. The stores of the reset state are canonical, its queue is empty, and its counters, reams,
reel, link, ports, channels, queues, slices and registers hold what the spec gives at a cold reset. That every slice
is active before READY is the model's choice (assumption 10, DESIGN CHOICE). -/
def Obligations.ResetState : Prop :=
  State.reset.canonical = true ∧ State.reset.pending = [] ∧
  -- the tick counter and W count from zero (R9, R426); a ream is 4,096 lines (R13)
  State.reset.now = 0 ∧ State.reset.wc = 0 ∧ State.reset.fu.inForce.reamK = 12 ∧
  -- reset layout, empty directory; no link; pointer 0 (R426, R393)
  State.reset.reel.dir = [] ∧ State.reset.link.up = false ∧ State.reset.tw.pointer = 0 ∧
  State.reset.rst.ready = false ∧ State.reset.rst.cause = 0 ∧
  -- the throttle level starts at 0 (R412), every channel and queue is disabled, no commit is pending
  State.reset.thm.level = 0 ∧ State.reset.fu.commits = [] ∧
  (∀ ch : Fin 16, (State.reset.ch ch).state = .disabled) ∧ (∀ q : Fin 8, (State.reset.queue q).enabled = false) ∧
  (∀ i : Fin 38, (State.reset.slice i).state = .active) ∧
  -- registers at the values their maps give
  State.reset.reg 0x00000C = 0x1F ∧ State.reset.flag R.glbAccTwWr = true ∧ State.reset.fget R.thmCtrlStart = 95 ∧
  State.reset.fget R.thmCtrlCrit = 110 ∧ State.reset.fget R.cmdTwCfgIbrRetry = 3 ∧
  ∀ off, State.reset.reg off = resetWord off

/-- A command changes only the parts it names. From a state to the next one that a command gives, nothing changes
outside the parts listed for that command: the queue for none, the window memory only for a window write, a new
layout, a trip and cold power-on, and, among the registers, those that software alone writes only for the commands
that write registers and for the resets. Register accesses and the steps of a pin engine that fetch do no more than
that where nothing else stands in their core cycle; otherwise the accesses that go before them (R292) change no more
than accesses may. -/
def Obligations.EachCommandKeepsTheRest : Prop :=
  ∀ (c : Instr) (s t : State), exec c s = .next t →
    (cycled c = false ∨ s.alone = true → Only (touches c) s t) ∧
    (cycled c = true → Only (touches c ++ accessTouches) s t)

/-- Encoder edges, Z and standstill. A transition held shorter than ENC_FILT is swallowed; a transition of both levels
sets ENC_ERR and counts nothing; any other counts one edge in the direction of the quadrature code. Z latches the web
count and never moves it. At standstill STILL is set. -/
def Obligations.EncoderEdgesAndStandstill : Prop :=
  (∀ (enc : Fin 2) (a b : Bool) (held : Nat) (s : State),
     let e := s.tb.encs[enc]
     (held < s.fget R.tbsCtrlEncFilt → exec (.encoderTransition enc a b held) s = .next s) ∧
     (s.fget R.tbsCtrlEncFilt ≤ held → a ≠ e.a → b ≠ e.b → 
       Does (.encoderTransition enc a b held) s fun t =>
         t.fget R.tbsStatEncErr = 1 ∧ t.tb.encs[enc].edges = e.edges ∧ t.tb.wf = s.tb.wf ∧ t.tb.q = s.tb.q) ∧
     (s.fget R.tbsCtrlEncFilt ≤ held → (a ≠ e.a ↔ b = e.b) → s.coreSlow = false →
       Does (.encoderTransition enc a b held) s fun t =>
         t.tb.encs[enc].a = a ∧ t.tb.encs[enc].b = b ∧ t.tb.wf = s.tb.wf ∧
         t.tb.encs[enc].edges = e.edges + (if quadForward e.a e.b a b != s.curOn R.tbsCtrlEncInv then 1 else -1))) ∧
  (∀ (enc : Fin 2) (held : Nat) (s : State), s.fget R.tbsCtrlEncFilt ≤ held → enc.val = b2n s.tb.onEnc1 →
    Does (.zEdge enc held) s fun t => t.tb.zcap = s.wc ∧ t.tb.wf = s.tb.wf ∧ t.tb.encs = s.tb.encs) ∧
  (∀ (enc : Fin 2) (held : Nat) (s : State), held < s.fget R.tbsCtrlEncFilt → exec (.zEdge enc held) s = .next s) ∧
  (∀ s : State, s.slow = true → exec .standstill s = .next { s with tb := { s.tb with still := true } }) ∧
  (∀ s : State, s.slow = false → exec .standstill s = .next s)

/-- Coasting, failover to ENC1, loss, and the end of a slew or a hold. Without edges the timebase coasts at the rate
it had, and the exposure that runs is a coasting one, or it fails over to a standby encoder that runs; where the
reference event was awaited the change of encoder is taken for it (the model's choice, assumption 75). After COAST_MAX
line periods of coasting, its own or that of the upstream stream, the timebase is lost and W holds; a slew and a hold
end as they are used up. -/
def Obligations.CoastFailoverAndSlew : Prop :=
  (∀ s : State, s.silent = true → ¬ (s.curOn R.tbsCtrlStbyEn = true ∧ ¬ s.tb.onEnc1 = true ∧ s.encRuns true = true) →
    Does .coast s fun t => t.tb.mode = .coasting ∧ t.tb.rate = s.pRate ∧ t.tb.wf = s.tb.wf ∧
      t.fget R.tbsStatCoastSeen = 1 ∧ t.tnd.posted.length = s.tnd.posted.length + 1 ∧
      -- the exposure that runs becomes one of a coasting line period (R43)
      (∀ p rest, s.fu.inForce.webMode = true → s.hb.area = none → s.tb.periods = p :: rest → p.start.isSome = true →
        p.stop = none → t.lastPeriod.any (fun q => q.seq == p.seq && q.coast) = true) ∧
      (∀ fr, s.fu.inForce.webMode = true → s.hb.area = some fr → fr.tStart.isSome = true → fr.tStop = none →
        t.hb.area = some { fr with coast := true })) ∧
  (∀ s : State, s.silent = true → s.curOn R.tbsCtrlStbyEn = true → s.tb.onEnc1 = false → s.encRuns true = true →
    Does .coast s fun t => t.tb.onEnc1 = true ∧ t.tb.wf = s.tb.wf ∧ t.tb.intervals = [] ∧
      t.tb.mode = (if s.tb.mode = .returning then .tracking else s.tb.mode) ∧ t.fget R.tbsStatFailover = 1) ∧
  (∀ s : State, s.tb.mode = .coasting ∨ s.fedCoast = true ∧ s.tb.mode ≠ .lost → 0 < s.cur R.tbsCoastMax →
    s.cur R.tbsCoastMax ≤ s.tb.coastRun →
    Does .timebaseLost s fun t => t.tb.mode = .lost ∧ t.tb.rate = 0 ∧ t.tb.wf = s.tb.wf ∧ t.fget R.tbsStatLostSeen = 1) ∧
  (∀ s : State, s.cur R.tbsCoastMax = 0 → exec .timebaseLost s = .next s) ∧
  (∀ s : State, s.tb.mode = .slewing → s.tb.slewWeb ≤ 0 →
    Does .slewEnd s fun t => t.tb = { s.tb with mode := .tracking, slewLeft := 0, slewWeb := 0 }) ∧
  (∀ s : State, s.tb.mode = .slewing → 0 < s.tb.slewWeb → exec .slewEnd s = .next s) ∧
  (∀ s : State, s.tb.mode = .holding → 0 ≤ s.tb.slewLeft →
    exec .resyncHoldEnd s = .next { s with tb := { s.tb with wf := s.tb.wf.move s.tb.slewLeft, mode := .tracking,
                                                             slewLeft := 0, slewWeb := 0, fresh := false } })

/-- Triggers. A position reached, a period of time mode elapsed, an external request due and a held trigger due each
raise a trigger, which takes the next line sequence; a crossing within 1,000 ticks is held, and a second one is
skipped and counted. While no trigger may be raised (R44, R47, R48) a position stays where it is, time mode waits, a
held trigger stays held and a request is skipped and counted: what becomes of each is the model's choice (assumption
26, DESIGN CHOICE). -/
def Obligations.TriggersRaised : Prop :=
  (∀ s : State, s.wl.member ≠ .aligned → s.producing = true → Pos.ahead s.tb.t s.tb.wf = false → s.rst.ready = true →
    s.fu.inForce.webMode = true → s.thm.stop ≠ .draining → s.triggersStopped = false → s.withinHyst s.tb.t = false →
    s.coreSlow = false → s.freeToTrigger = true →
    -- the slices that failed their start-up check fail with the first trigger (R431, assumption 33)
    Does .lineTrigger s fun t => t.tb.nextSeq = s.tb.nextSeq + 1 ∧ t.rst.failDue = [] ∧
      ∀ e, e ∈ s.rst.failDue → (t.slice e.1).state = .failed) ∧
  (∀ s : State, s.fu.inForce.trigSrc = 1 → s.triggersOn = true → s.producing = true → s.timeDue ≤ s.now →
    s.triggersBarred = false → s.freeToTrigger = true →
    Does .timeModeTrigger s fun t => t.tb.nextSeq = s.tb.nextSeq + 1) ∧
  (∀ (s : State) (d : Nat) (rest : List Nat), s.tb.extDue = d :: rest → d ≤ s.now → s.fu.inForce.trigSrc = 2 →
    s.triggersOn = true → s.producing = true → s.triggersBarred = false → s.freeToTrigger = true →
    Does .externalTrigger s fun t => t.tb.nextSeq = s.tb.nextSeq + 1) ∧
  (∀ (s : State) (d : Nat), s.tb.held = some d → d ≤ s.now → s.triggersOn = true → s.producing = true →
    s.triggersBarred = false → s.wl.member ≠ .leaving →
    Does .heldTrigger s fun t => t.tb.nextSeq = s.tb.nextSeq + 1) ∧
  -- a crossing within 1,000 ticks of the trigger before is held (R39)
  (∀ (s : State) (l : Nat), s.wl.member ≠ .aligned → s.producing = true → Pos.ahead s.tb.t s.tb.wf = false →
    s.rst.ready = true → s.fu.inForce.webMode = true → s.thm.stop ≠ .draining → s.triggersStopped = false →
    s.withinHyst s.tb.t = false → s.coreSlow = false →
    s.tb.held = none → s.tb.lastTrig = some l → s.now < l + 1000 →
    exec .lineTrigger s = .next { s with tb := { s.tb with t := s.tb.t.move s.fu.inForce.pitch,
                                                           held := some (l + 1000), heldPos := some s.tb.t } }) ∧
  -- a second one is skipped and counted (R39)
  (∀ (s : State) (d : Nat), s.fu.inForce.trigSrc = 1 → s.triggersOn = true → s.producing = true →
    s.timeDue ≤ s.now → s.triggersBarred = false → s.tb.held = some d →
    Does .timeModeTrigger s fun t => t.tb = { s.tb with skip := s.tb.skip + 1 } ∧ t.fget R.tbsStatOverspeed = 1) ∧
  -- lost, reversed, or holding for a resynchronisation: no trigger from any source (R44, R47, R48)
  (∀ s : State, s.wl.member ≠ .aligned → s.triggersStopped = true → s.rst.ready = true →
    s.fu.inForce.webMode = true → s.thm.stop ≠ .draining → exec .lineTrigger s = .next s) ∧
  (∀ s : State, s.triggersBarred = true → exec .timeModeTrigger s = .next s) ∧
  (∀ (s : State) (d : Nat), s.tb.held = some d → s.triggersBarred = true → s.triggersOn = true → s.producing = true →
    exec .heldTrigger s = .next s) ∧
  (∀ (s : State) (d : Nat) (rest : List Nat), s.tb.extDue = d :: rest → d ≤ s.now → s.fu.inForce.trigSrc = 2 →
    s.triggersOn = true → s.producing = true → s.triggersBarred = true →
    Does .externalTrigger s fun t => t.tb = { s.tb with extDue := rest, skip := s.tb.skip + 1 })

/-- The transfer window and exposure. The pre-trigger opens the transfer window and shifts the packets; exposure
starts at the planned tick and ends after t_exp; in area mode each sub-frame is exposed so that it ends 30 ticks
before its slot does. -/
def Obligations.TransferWindowAndExposure : Prop :=
  (∀ s : State, s.preTriggerDue = true →
    Does .preTrigger s fun t => t.tb.window = some s.now ∧
      t.hb.shifts = s.hb.shifts + (if s.fu.inForce.area then 0 else 1) ∧
      (s.fu.inForce.area = false → s.hb.exposing = true → t.hb.exposing = false)) ∧
  (∀ (s : State) (p : Period), s.fu.inForce.area = false → s.lastPeriod = some p → p.start = none → s.tb.window = none →
    p.planned ≤ s.now →
    Does .exposureStart s fun t => t.hb.exposing = true ∧
      t.lastPeriod.any (fun q => q.start == some s.now && q.wStart == s.tb.wf && q.seq == p.seq &&
        q.coast == (p.coast || s.coastingNow)) = true) ∧
  (∀ (s : State) (p : Period), s.fu.inForce.area = false → s.lastPeriod = some p → s.hb.exposing = true →
    p.start.getD 0 + p.tExp ≤ s.now →
    Does .exposureEnd s fun t => t.hb.exposing = false ∧
      t.lastPeriod.any (fun q => q.stop == some s.now && q.wStop == s.tb.wf && q.seq == p.seq &&
        q.coast == (p.coast || s.coastingNow)) = true) ∧
  (∀ (s : State) (fr : AreaFrame), s.fu.inForce.area = true → s.hb.area = some fr → fr.tail = false → fr.tStart = none →
    fr.tStop = none → fr.slot + fr.length ≤ s.now + 30 + (s.furnish fr.furnish).areaExpo fr.sub →
    Does .exposureStart s fun t => t.hb = { s.hb with
        area := some { fr with tStart := some s.now, wStart := s.tb.wf, coast := fr.coast || s.coastingNow },
        exposing := true } ∧
      (s.coastingNow = true → ∀ p, p ∈ t.tb.periods → p.seq = fr.seq → p.coast = true) ∧
      (s.coastingNow = false → t.tb = s.tb)) ∧
  (∀ (s : State) (fr : AreaFrame) (a : Nat), s.fu.inForce.area = true → s.hb.area = some fr → fr.tail = false →
    fr.tStart = some a → fr.tStop = none → fr.slot + fr.length ≤ s.now + 30 →
    Does .exposureEnd s fun t => t.hb = { s.hb with
        area := some { fr with tStop := some s.now, wStop := s.tb.wf, coast := fr.coast || s.coastingNow },
        exposing := false } ∧
      (s.coastingNow = true → ∀ p, p ∈ t.tb.periods → p.seq = fr.seq → p.coast = true) ∧
      (s.coastingNow = false → t.tb = s.tb))

/-- Area slots, block samples latched and delivered. An area row readout of the deckle's width advances the readout,
and every row it brings is released or held for its turn; slots follow one another, then a tail slot, then a frame that
waits; an active slice latches the samples of a line period that its lines need, and a delivery takes a sample out of
its buffer and hands it to the couch stage. -/
def Obligations.AreaSlotsAndSamples : Prop :=
  (∀ (codes : List (List (BitVec 12))) (ce : Nat) (ue : List (Nat × Fin 38 × Fin 44)) (s : State) (fr : AreaFrame)
    (got : SubFrame), wfArea codes = true →
    s.hb.area = some fr → fr.loaded = some got → fr.readout < 8 → fr.slot + 1000 * (fr.readout + 2) ≤ s.now →
    codes.head?.map List.length = some (96 + (s.furnish got.furnish).cols 3) →
    Does (.areaRowReadout codes ce ue) s fun t => t.hb.area = some { fr with readout := fr.readout + 1 } ∧
      -- the row of a block: its readout's row group, in the window (R76, R105); a droop voids it (R73, R406)
      ∀ sb row, sb < 32 → row = 8 * sb + (s.furnish got.furnish).rowGroup sb * fr.readout →
        (s.furnish got.furnish).rowGroup sb * fr.readout < 8 → row ∈ (s.furnish got.furnish).areaGroups →
        let l := (s.areaRow got sb row (codes[sb]?.getD [])
          (if s.droopVoids then some .void else if fr.droops.contains fr.readout then some .adcDroop else none)).row
        ue = [] → l ∈ t.felt.areaHeld ∨ StockItem.line { l.line with pix := pixels l.line.hbin false l.accs } ∈ t.felt.stock) ∧
  -- a row that a droop voids counts with weight 0 (R98, R105)
  (∀ (got : SubFrame) (sb row : Nat) (codes : List (BitVec 12)) (c : Cause) (s : State),
    ∀ a, a ∈ (s.areaRow got sb row codes (some c)).row.accs → a = 0) ∧
  -- an uncorrectable word of a row held marks it and makes its columns 0; no other row changes (R89, R105)
  (∀ (row slice word : Nat) (s : State) (l : AreaHeld), l ∈ s.felt.areaHeld → l.line.row = row →
    (∃ i, i < l.accs.length ∧ accWord (24 * l.line.word0 + i) = (slice, word)) →
    (s.areaUncorrectable row slice word).fget R.fltEvtEccUe = 1 ∧
    ∃ m, m ∈ (s.areaUncorrectable row slice word).felt.areaHeld ∧ m.line = l.line.mark .accUe ∧
      ∀ i, i < l.accs.length → m.accs[i]? =
        if accWord (24 * l.line.word0 + i) = (slice, word) then some 0 else l.accs[i]?) ∧
  (∀ (codes : List (List (BitVec 12))) (ce : Nat) (ue : List (Nat × Fin 38 × Fin 44)) (s : State),
    wfArea codes = false → exec (.areaRowReadout codes ce ue) s = .fault .illFormed) ∧
  -- the slot ends: the exposure is transferred, and the next sub-frame's slot or a tail slot follows (R74)
  (∀ (s : State) (fr : AreaFrame) (a b : Nat), s.hb.area = some fr → fr.slot + fr.length ≤ s.now → fr.tail = false →
    fr.tStart = some a → fr.tStop = some b → fr.sub + 1 < fr.count ∨ fr.next = [] →
    Does .areaSlotEnd s fun t => t.felt.areaTodo = (s.furnish fr.furnish).areaGroups ∧
      ∃ g got, t.hb.area = some g ∧ g.slot = fr.slot + fr.length ∧ g.seq = fr.seq ∧ g.readout = 0 ∧
        g.tail = decide (fr.count ≤ fr.sub + 1) ∧
        g.length = (if fr.sub + 1 < fr.count then (s.furnish fr.furnish).slotLength (fr.sub + 1) else 10000) ∧
        (fr.sub + 1 < fr.count → g.sub = fr.sub + 1) ∧ g.tStart = none ∧ g.loaded = some got ∧
        got.seq = fr.seq ∧ got.furnish = fr.furnish ∧ got.sub = fr.sub ∧ got.tick = (a + b) / 2 ∧
        got.w = (fr.wStart.move (floorDiv (Pos.diff fr.wStop fr.wStart) 2)).wc) ∧
  -- a frame whose trigger came in a tail slot follows it (R75)
  (∀ (s : State) (fr : AreaFrame) (seq : Nat) (id : BitVec 16) (rest : List (Nat × BitVec 16)), s.hb.area = some fr →
    fr.slot + fr.length ≤ s.now → fr.tail = true ∨ fr.count ≤ fr.sub + 1 → fr.next = (seq, id) :: rest →
    Does .areaSlotEnd s fun t => ∃ g, t.hb.area = some g ∧ g.seq = seq ∧ g.furnish = id ∧ g.sub = 0 ∧
      g.count = (s.furnish id).subFrames ∧ g.slot = fr.slot + fr.length ∧
      g.length = (s.furnish id).slotLength 0 ∧ g.tail = false ∧ g.next = rest ∧ g.readout = 0 ∧
      g.loaded.isSome = !fr.tail) ∧
  (∀ (s : State) (fr : AreaFrame), s.hb.area = some fr → fr.slot + fr.length ≤ s.now → fr.tail = true → fr.next = [] →
    exec .areaSlotEnd s = .next { s with hb := { s.hb with area := none } }) ∧
  (∀ (s : State) (fr : AreaFrame), s.hb.area = some fr → s.now < fr.slot + fr.length →
    exec .areaSlotEnd s = .next s) ∧
  -- what a slice latches: the samples of the blocks whose lines need them, in the order of the blocks (R57, R66)
  (∀ (i : Fin 38) (codes : List (List (BitVec 12))) (s : State) (q : Period), wfLatch codes = true →
    s.lastPeriod = some q → q.base + 959 ≤ s.now → (s.slice i).latched ≠ some q.seq → (s.slice i).up = true →
    s.fu.inForce.area = false →
    Does (.blockSampleLatch i codes) s fun t => (t.slice i).latched = some q.seq ∧
      (∀ j, j ≠ i → t.slice j = s.slice j) ∧
      ∃ new, (t.slice i).buf = (s.slice i).buf ++ new ∧
        ∀ e, e ∈ new ↔ e.period = q.seq ∧ s.needsSample i.val q.seq e.block.val = true ∧
          codes[e.block.val]? = some e.codes) ∧
  (∀ (i : Fin 38) (codes : List (List (BitVec 12))) (s : State), wfLatch codes = false →
    exec (.blockSampleLatch i codes) s = .fault .illFormed) ∧
  -- a delivery without a fault brings the sample of the block to the couch stage (R58)
  (∀ (i : Fin 38) (b : Fin 32) (s : State) (e : BlockSample), (s.slice i).buf.find? (·.block = b) = some e →
    Does (.blockSampleDelivery i b .none) s fun t => (t.slice i).buf = (s.slice i).buf.erase e ∧
      t = ((s.takeSample i e).couch i.val b.val e.period e.codes none).bump (0x08 + i.val) 1) ∧
  (∀ (i : Fin 38) (b : Fin 32) (f : DeliveryFault) (s : State), (s.slice i).buf.find? (·.block = b) = none →
    f ≠ .cfgParity ∨ s.tb.periods = [] → exec (.blockSampleDelivery i b f) s = .next s) ∧
  -- a parity error of the furnish copy strikes a slice that holds nothing too (R68)
  (∀ (i : Fin 38) (b : Fin 32) (s : State) (q : Period), (s.slice i).buf.find? (·.block = b) = none →
    s.lastPeriod = some q → (s.slice i).missed ≠ some q.seq → (s.slice i).state ≠ .failed →
    Does (.blockSampleDelivery i b .cfgParity) s fun t => t.fget R.hbxEvtCfgPar = 1 ∧ t.fget R.hbxEvtMissedWin = 1 ∧
      (t.slice i).badCopy = true ∧ (t.slice i).missed = some q.seq ∧
      if max 1 (s.fget R.hbxFailLim) ≤ min 255 ((s.slice i).run + 1) then
        (t.slice i).state = .failed ∧ (t.slice i).cause = 3
      else (t.slice i).state = (s.slice i).state)

/-- A slice fails and is rearmed. A reference fault and FORCE_FAIL fail a slice with their causes, once; REARM lets it
rejoin unless FORCE_FAIL stands. -/
def Obligations.SliceFailureAndRearm : Prop :=
  (∀ (i : Fin 38) (s : State), (s.slice i).state ≠ .failed →
    Does (.sliceReferenceFault i) s fun t => (t.slice i).state = .failed ∧ (t.slice i).cause = 4 ∧
      (t.slice i).buf = [] ∧ t.fget R.hbxEvtSliceFail = 1 ∧ t.tnd.posted.length = s.tnd.posted.length + 1) ∧
  (∀ (i : Fin 38) (s : State), (s.slice i).state = .failed → exec (.sliceReferenceFault i) s = .next s) ∧
  (∀ (via : Via) (i : Fin 38) (s : State), s.mayWrite via.path (0x020004 + 1024 * i.val) = true → s.alone = true → (s.slice i).state ≠ .failed →
    Does (.forceFail via i) s fun t => (t.slice i).state = .failed ∧ (t.slice i).cause = 0xF ∧ (t.slice i).buf = []) ∧
  (∀ (via : Via) (i : Fin 38) (s : State), s.mayWrite via.path (0x020004 + 1024 * i.val) = true → s.alone = true → (s.slice i).state = .failed →
    s.flag (R.hbxSlCtrlForceFail i.val) = false → s.sliceSlow i = false →
    Does (.sliceRearm via i) s fun t => (t.slice i).state = .rejoining ∧ (t.slice i).run = 0 ∧ t.regs = s.regs) ∧
  (∀ (via : Via) (i : Fin 38) (s : State), s.flag (R.hbxSlCtrlForceFail i.val) = true → s.mayWrite via.path (0x020004 + 1024 * i.val) = true → s.alone = true →
    exec (.sliceRearm via i) s = .next s)

/-- Missed windows and a converter droop. Samples not delivered within their window are discarded and the window is
missed, once for a slice and a period, counted in a row, and enough of them fail the slice; a droop of VDD_ADC flags the
conversion under way, in area mode the row readout (which one the tick falls in is the model's choice, assumption 35,
DESIGN CHOICE). -/
def Obligations.MissedWindowsAndDroop : Prop :=
  (∀ (i : Fin 38) (s : State) (q : Period) (l : BlockSample), s.lastPeriod = some q →
    ((s.slice i).buf.filter fun e =>
      decide (e.period + 1 < q.seq) || (decide (e.period < q.seq) && decide (q.base + 959 ≤ s.now))).getLast? =
        some l →
    (s.slice i).missed ≠ some l.period → (s.slice i).state ≠ .failed →
    Does (.missedWindow i) s fun t => (t.slice i).missed = some l.period ∧
      (t.slice i).run = min 255 ((s.slice i).run + 1) ∧ t.fget R.hbxEvtMissedWin = 1 ∧
      if max 1 (s.fget R.hbxFailLim) ≤ min 255 ((s.slice i).run + 1) then
        (t.slice i).state = .failed ∧ (t.slice i).cause = 1 ∧ (t.slice i).buf = []
      else (t.slice i).state = (s.slice i).state ∧ (t.slice i).buf = (s.slice i).buf.filter fun e =>
        !(decide (e.period + 1 < q.seq) || (decide (e.period < q.seq) && decide (q.base + 959 ≤ s.now)))) ∧
  -- a window missed already is not counted again
  (∀ (i : Fin 38) (s : State) (q : Period) (l : BlockSample), s.lastPeriod = some q →
    ((s.slice i).buf.filter fun e =>
      decide (e.period + 1 < q.seq) || (decide (e.period < q.seq) && decide (q.base + 959 ≤ s.now))).getLast? =
        some l →
    (s.slice i).missed = some l.period →
    Does (.missedWindow i) s fun t => (t.slice i).missed = some l.period ∧ (t.slice i).run = (s.slice i).run ∧
      (t.slice i).state = (s.slice i).state ∧ t.fget R.hbxEvtMissedWin = 1) ∧
  (∀ (i : Fin 38) (s : State), (s.slice i).buf = [] → exec (.missedWindow i) s = .next s) ∧
  (∀ s : State,
     Does .adcDroop s fun t => t.fget R.hbxEvtAdcDroop = 1 ∧
       -- within T - 26 to T + 959 of the latest period, and not outside
       (∀ p, s.lastPeriod = some p → t.lastPeriod = some { p with
         adcDroop := p.adcDroop || decide (p.base ≤ s.now + 26) && decide (s.now ≤ p.base + 959) }) ∧
       (∀ w, s.tb.window = some w → t.tb.droopNext = (s.tb.droopNext || decide (w + 4 ≤ s.now))) ∧
       ∀ fr, s.hb.area = some fr → fr.loaded.isSome = true → fr.slot + 1000 ≤ s.now → s.now < fr.slot + 9000 →
         t.hb.area.any (·.droops.contains ((s.now - fr.slot) / 1000 - 1)) = true)

/-- Lines close onto the stock stream. A line whose turn it is closes onto the stock stream, in order; an uncorrectable
accumulator word met as it is read makes it broke, a corrected one counts; dark statistics that stay incomplete for a
ream are sent as they are. -/
def Obligations.LinesCloseOntoTheStockStream : Prop :=
  (∀ (p : Fin 3) (seq : Nat) (s : State) (l : FeltLine), s.openLine p seq = some l → s.closable l = true →
    s.itsTurn l = true →
    Does (.lineClosure p seq 0 []) s fun t => t.openLine p seq = none ∧
      ∃ rest, t.felt.stock = s.felt.stock ++ (StockItem.line (s.closed l) :: rest)) ∧
  -- words met as the accumulators are read (R89)
  (∀ (p : Fin 3) (seq ce : Nat) (ue : List (Fin 38 × Fin 44)) (s : State) (l : FeltLine),
    s.openLine p seq = some l → s.closable l = true → s.itsTurn l = true →
    Does (.lineClosure p seq ce ue) s fun t => t.openLine p seq = none ∧
      t.fget R.fltCeCnt = (s.fget R.fltCeCnt + ce) % 2 ^ 32 ∧
      t.fget R.fltUeCnt = (s.fget R.fltUeCnt + ue.length) % 2 ^ 32 ∧
      (0 < ce → t.fget R.fltEvtEccCe = 1) ∧ (ue ≠ [] → t.fget R.fltEvtEccUe = 1) ∧
      ∃ (k : Line) (rest : List StockItem), t.felt.stock = s.felt.stock ++ (StockItem.line k :: rest) ∧
        k.seq = (s.closed l).seq ∧ k.prod = (s.closed l).prod ∧
        (ue.any (fun w => l.hasWord w.1.val w.2.val) = true → k.flags.broke = true)) ∧
  (∀ (p : Fin 3) (seq ce : Nat) (ue : List (Fin 38 × Fin 44)) (s : State) (l : FeltLine),
    s.openLine p seq = some l → s.itsTurn l = false → exec (.lineClosure p seq ce ue) s = .next s) ∧
  (∀ (p : Fin 3) (seq ce : Nat) (ue : List (Fin 38 × Fin 44)) (s : State), s.openLine p seq = none →
    exec (.lineClosure p seq ce ue) s = .next s) ∧
  (∀ (s : State) (ream n : Nat) (means : List Int), s.felt.due = some (ream, n, means) →
    n + 2 ^ s.tb.reamK ≤ s.tb.nextSeq →
    exec .darkStatsTimeout s = .next { s with felt := { s.felt with
      due := none, stock := s.felt.stock ++ [StockItem.dark 0 ream means] } })

/-- Commits are captured, checked, cancelled and released. A commit captures the staging copy; one whose check fails
is gone and changes nothing in force; one that passes is armed, or before the first trigger comes into force; the newest
is cancelled unless it is being distributed; a retained furnish that nothing uses is released. -/
def Obligations.CommitsCapturedCheckedAndCancelled : Prop :=
  (∀ (via : Via) (kind : BitVec 2) (s : State), s.mayWrite via.path 0x000204 = true → s.alone = true →
    Does (.commit via kind) s fun t => t.fu.result = 1 ∧ ∃ c,
      -- in the core cycle of other accesses: ahead of the packets' commits of it (R283), and of what the staging copy
      -- was before that cycle's writes (R302)
      t.fu.commits = (if via.same then c.place s.fu.commits else s.fu.commits ++ [c]) ∧
      c.furnish.regs = (if via.same then s.before.fu.staging else s.fu.staging) ∧ c.furnish.id.toNat = s.fget R.glbFurnIdStageId ∧ c.kind = kindOf kind.toNat ∧
      c.x.toNat = s.fget R.glbFurnWcLo + 2 ^ 32 * s.fget R.glbFurnWcHi ∧
      c.stage = .checking ∧ c.taken = s.now ∧ c.by' = .register t.fu.reqNo ∧
      -- behind every commit captured before this tick
      (s.fu.commits.all (fun o => o.taken != s.now) = true → t.fu.commits = s.fu.commits ++ [c])) ∧
  (∀ (via : Via) (s : State) (l : List Commit) (c : Commit), s.mayWrite via.path 0x000204 = true → s.alone = true → s.fu.commits = l ++ [c] →
    c.stage ≠ .distributing → Does (.cancel via) s fun t => t.fu.commits = l ∧ t.fu.result = 5) ∧
  (∀ (via : Via) (s : State) (l : List Commit) (c : Commit), s.mayWrite via.path 0x000204 = true → s.alone = true → s.fu.commits = l ++ [c] →
    c.stage = .distributing →
    Does (.cancel via) s fun t => t.fu.commits = s.fu.commits ∧ t.fu.result = 0xA ∧ t.fu.detail = 1) ∧
  (∀ (via : Via) (s : State), s.mayWrite via.path 0x000204 = true → s.alone = true → s.fu.commits = [] →
    Does (.cancel via) s fun t => t.fu.commits = [] ∧ t.fu.result = 0xA ∧ t.fu.detail = 2) ∧
  -- the oldest commit under check is refused
  (∀ (s : State) (i : Nat) (c : Commit) (st det : Nat), s.fu.commits.findIdx? (·.stage = .checking) = some i →
    s.fu.commits[i]? = some c → s.checkFurnish c.furnish (s.fu.commits.take i) = some (st, det) →
    s.tb.raisedRdy = true →
    Does .commitCheckDone s fun t => t.fu.inForce = s.fu.inForce ∧
      t.fu.commits.map (fun o => (o.furnish, o.by')) =
        (s.fu.commits.eraseIdx i).map (fun o => (o.furnish, o.by')) ∧
      ∀ n, c.by' = .register n → s.fu.reqNo = n →
        t.fu.result = (if st = 4 then 8 else if st = 3 then 0xA else 9) ∧ t.fu.detail = det) ∧
  -- or accepted: the first in the order is armed
  (∀ (s : State) (i : Nat) (c : Commit), s.fu.commits.findIdx? (·.stage = .checking) = some i →
    s.fu.commits[i]? = some c → s.checkFurnish c.furnish (s.fu.commits.take i) = none → s.tb.raisedRdy = true →
    Does .commitCheckDone s fun t => t.fu.inForce = s.fu.inForce ∧ t.fu.accepted = true ∧
      t.fu.commits.map (fun o => (o.furnish, o.by')) = s.fu.commits.map (fun o => (o.furnish, o.by')) ∧
      ∃ o, t.fu.commits[i]? = some o ∧ o.stage = (if i = 0 then .armed s.now else .pending)) ∧
  -- before the first trigger it comes into force at once (R430)
  (∀ (s : State) (c : Commit), s.fu.commits = [c] → c.stage = .checking → s.checkFurnish c.furnish [] = none →
    s.tb.raisedRdy = false →
    Does .commitCheckDone s fun t => t.fu.commits = [] ∧ t.fu.inForce.id = c.furnish.id ∧
      t.fu.inForce.regs = c.furnish.regs) ∧
  (∀ (s : State) (u : Furnish), (s.fu.retained.reverse.find? fun u => !s.furnishUsed u.id) = some u →
    Does .furnishRelease s fun t => t.fu.retained = s.fu.retained.erase u) ∧
  (∀ (r : PktRef) (same : Bool) (s : State) (k : Packet), s.started r 0x0101 false = some k →
    Does (.furnishCommit r same) s fun t => t.packet r = some { k with stage := .accepted } ∧
      ∃ c, t.fu.commits = s.fu.commits ++ [c] ∧
      c.furnish = { id := BitVec.ofNat 16 (k.par 0 2),
                    regs := if same then s.before.fu.staging else s.fu.staging } ∧ c.kind = kindOf (k.par 2 1 % 4) ∧
      c.x = BitVec.ofNat 48 (k.par 4 6) ∧ c.by' = .packet r ∧ c.stage = .checking ∧ c.taken = s.now) ∧
  -- the cancel form
  (∀ (r : PktRef) (s : State) (k : Packet) (l : List Commit) (c : Commit), s.started r 0x0101 true = some k →
    s.fu.commits = l ++ [c] → c.stage ≠ .distributing →
    ∃ u : State, exec (.furnishCommitCancel r) s = .next ((u.commitDone c 5 0 0 5).done r 0 0 0) ∧
      u = { s with fu := { s.fu with commits := l } } ∧
      Does (.furnishCommitCancel r) s fun t => t.fu.commits = l) ∧
  (∀ (r : PktRef) (s : State) (k : Packet) (l : List Commit) (c : Commit), s.started r 0x0101 true = some k →
    s.fu.commits = l ++ [c] → c.stage = .distributing →
    exec (.furnishCommitCancel r) s = .next (s.done r 3 1 0)) ∧
  (∀ (r : PktRef) (s : State) (k : Packet), s.started r 0x0101 true = some k → s.fu.commits = [] →
    exec (.furnishCommitCancel r) s = .next (s.done r 3 2 0))

/-- Lines reach the calender and wait for partners. A line taken from the stock stream is decoded to lin20 and ready when
it waits for no partner; a line of the striped row that lacks one waits in the pairing store, rounded to ply10; waiting
lines leave the store when the partner is absent, and guide copies expire after 264 line periods. -/
def Obligations.CalenderArrivalAndPairing : Prop :=
  (∀ (l : Line) (rest : List StockItem) (s : State), s.felt.stock = .line l :: rest →
    Does .calenderLineArrival s fun t => t.felt = { s.felt with stock := rest }) ∧
  -- a line that waits for no partner becomes ready
  (∀ (l : Line) (rest : List StockItem) (s : State), s.felt.stock = .line l :: rest → l.prod ≠ 1 →
    s.cal.pair = [] → s.cal.ready = [] → s.cal.done = [] →
    Does .calenderLineArrival s fun t => t.cal.pair = [] ∧ t.fmt = s.fmt ∧ t.cal.ready =
      [{ line := { (if l.ply10 then { l with ply10 := false, pix := l.pix.map plyDecode } else l) with
                   came := s.tb.nextSeq },
         since := s.now }]) ∧
  -- an S line whose furnish wants C or N, with no line of theirs here and none of a higher sequence arrived (R139, R143)
  (∀ (l : Line) (rest : List StockItem) (s : State), s.felt.stock = .line l :: rest → l.ply10 = false → l.prod = 1 →
    (s.furnish l.furnish).wants l ≠ [] → s.highOf 0 ≤ l.seq → s.highOf 2 ≤ l.seq →
    s.cal.pair = [] → s.cal.ready = [] → s.cal.done = [] →
    Does .calenderLineArrival s fun t => t.cal.ready = [] ∧ t.fmt = s.fmt ∧ t.cal.pair =
      [{ kind := .waitS, line := { l with came := s.tb.nextSeq, pix := l.pix.map plyRound }, since := s.tb.nextSeq }]) ∧
  (∀ (vc ream : Nat) (means : List Int) (rest : List StockItem) (s : State), s.felt.stock = .dark vc ream means :: rest →
    Does .calenderLineArrival s fun t => t.felt = { s.felt with stock := rest } ∧ t.cal = s.cal) ∧
  (∀ s : State, s.felt.stock = [] → exec .calenderLineArrival s = .next s) ∧
  (∀ (p : Fin 4) (seq row : Nat) (s : State),
    Does (.partnerAbsent p seq row) s fun t => t.cal.pair.all (fun q => !(q.kind != .guide && q.line.prod == p.val &&
      q.line.seq == seq && q.line.row == row && decide (q.since + 256 ≤ s.tb.nextSeq))) = true) ∧
  (∀ s : State, Does .guideCopyExpiry s fun t =>
      t.cal.pair.all (fun q => q.kind != .guide || decide (s.tb.nextSeq < q.since + 264)) = true)

/-- Lanes and deadlines of the calender. A free lane takes the chosen line for ceil(n / 24) clocks; 192 clocks after
its last component a C line leaves with the values of stages 1 to 4; each corrected word met counts; a line that misses its deadline goes by the
bypass path, marked late, and of one in a lane the components not entered are bypassed. -/
def Obligations.CalenderLanesAndDeadlines : Prop :=
  (∀ (k : Fin 2) (r : ReadyLine) (s : State), [(0 : Fin 2), 1].find? s.laneFree = some k → s.choose = some r →
    Does .laneTake s fun t => t.cal.ready = s.cal.ready.filter (· != r) ∧
      t.cal.lanes[k] = s.cal.lanes[k] ++
        [{ line := r.line, entered := s.now, stop := s.now + ceilDiv r.line.comps 24, upto := r.line.comps,
           deadline := r.deadline }] ∧
      (∀ j : Fin 2, j ≠ k → t.cal.lanes[j] = s.cal.lanes[j])) ∧
  (∀ s : State, s.choose = none ∨ (∀ k : Fin 2, s.laneFree k = false) → exec .laneTake s = .next s) ∧
  (∀ (k : Fin 2) (fs : List CalFault) (j : LaneJob) (rest : List LaneJob) (s : State), s.cal.lanes[k] = j :: rest →
    j.stop + 192 ≤ s.now → (∀ p g n r w, .heldUe p g n r w ∉ fs) →
    Does (.calenderLineExit k fs) s fun t => (t.cal.lanes[k]).map (·.line) = rest.map (·.line) ∧
      -- each corrected word counts (R150)
      t.fget R.calCeCnt = (s.fget R.calCeCnt + fs.count .lineCe + fs.count .guideCe + fs.count .tableCe) % 2 ^ 32) ∧
  -- a C line that leaves an empty calender reaches the formatter with the values of stages 1 to 4
  (∀ (k : Fin 2) (j : LaneJob) (s : State), s.cal.lanes = vupd (vrep 2 []) k (fun _ => [j]) → s.cal.pair = [] →
    s.cal.ready = [] → s.cal.done = [] → j.stop + 192 ≤ s.now → j.line.prod = 0 → j.line.comps ≤ j.upto →
    j.droop = false → s.readsBad j.line = false → (s.furnish j.line.furnish).primary j.line = false →
    s.guidesKept = false →
    Does (.calenderLineExit k []) s fun t =>
      let u := s.furnish j.line.furnish
      let x := (stages14 u s.cal.banks[u.tblBank] j.line j.line.pix).1
      t.fmt.queue = s.fmt.queue ++ [{ j.line with pix := splice j.upto x j.line.pix }]) ∧
  (∀ (k : Fin 2) (fs : List CalFault) (s : State), s.cal.lanes[k] = [] → (∀ p g n r w, .heldUe p g n r w ∉ fs) →
    exec (.calenderLineExit k fs) s = .next s) ∧
  (∀ (k : Fin 2) (fs : List CalFault) (j : LaneJob) (rest : List LaneJob) (s : State), s.cal.lanes[k] = j :: rest →
    s.now < j.stop + 192 → (∀ p g n r w, .heldUe p g n r w ∉ fs) → exec (.calenderLineExit k fs) s = .next s) ∧
  -- an uncorrectable word of a line held in the calender: its components are 0, the line broke (R150)
  (∀ (k : Fin 2) (p g : Fin 4) (n r w : Nat) (j : LaneJob) (rest : List LaneJob) (s : State),
    s.cal.lanes[k] = j :: rest → s.now < j.stop + 192 → j.line.prod = p.val → j.line.field = g.val → j.line.seq = n →
    j.line.row = r →
    Does (.calenderLineExit k [.heldUe p g n r w]) s fun t => t.fget R.calEvtEccUe = 1 ∧
      ∃ js, t.cal.lanes[k] = { j with line := j.line.lose 12 w } :: js) ∧
  -- a ready line that misses its deadline goes by the bypass path, marked late
  (∀ (p f : Fin 4) (r : ReadyLine) (d : Nat) (s : State), s.cal.ready = [r] → s.cal.pair = [] → s.cal.done = [] →
    s.cal.lanes = vrep 2 [] → r.line.prod = p.val → r.line.field = f.val → r.deadline = some d → d ≤ s.now →
    Does (.calenderDeadline p f) s fun t => t.cal.ready = [] ∧ t.fmt.queue = s.fmt.queue ++ [r.line.raw.mark .late]) ∧
  -- of a line in a lane the components not entered by now are bypassed
  (∀ (p f : Fin 4) (k : Fin 2) (j : LaneJob) (d : Nat) (s : State), s.cal.ready = [] →
    s.cal.lanes = vupd (vrep 2 []) k (fun _ => [j]) → j.line.prod = p.val → j.line.field = f.val → j.deadline = some d →
    d ≤ s.now → s.now < j.stop →
    Does (.calenderDeadline p f) s fun t => t.fget R.calEvtLate = 1 ∧
      t.cal.lanes[k] = [{ j with upto := min j.upto (24 * (s.now - j.entered)), stop := s.now }])

/-- Stage 1b of the calender. Where stage 1b is enabled, in a line at full resolution of section 1, a Gb column is
multiplied by the gain of the line's field, rounded half up and kept below FS, a saturated one stays at FS, and every
other column passes unchanged. -/
def Obligations.GreenGain : Prop :=
  ∀ (u : Furnish) (l : Line) (x : List Nat) (i v : Nat), u.on R.calCtrlGrgbEn = true → l.hbin = 1 → l.section = 1 →
    x[i]? = some v →
    (i % 4 = 2 → v ≠ fullScale → (stage1b u l x)[i]? =
      some (min (fullScale - 1) ((2 * (v * u.get (R.calGbGain l.field)) + 16384) / 32768))) ∧
    (i % 4 = 2 → v = fullScale → (stage1b u l x)[i]? = some fullScale) ∧
    (i % 4 ≠ 2 → (stage1b u l x)[i]? = some v)

/-- Stage 7 of the calender. Where stage 7 is enabled, each output row is the rounded product with the matrix of the
line's field plus the offset, kept in range, and all three outputs are FS if any input is. -/
def Obligations.ColourMatrix : Prop :=
  ∀ (u : Furnish) (f j r g b k : Nat) (y : List Nat), u.on R.calCtrlCmEn = true → y[3 * j]? = some r →
    y[3 * j + 1]? = some g → y[3 * j + 2]? = some b → k < 3 →
    (r = fullScale ∨ g = fullScale ∨ b = fullScale → (stage7 u f y)[3 * j + k]? = some fullScale) ∧
    (r ≠ fullScale → g ≠ fullScale → b ≠ fullScale → (stage7 u f y)[3 * j + k]? =
      some (max 0 (min ((fullScale : Int) - 1)
        (Int.fdiv (2 * (signed 16 (u.get (R.calCmCoef f k 0)) * r + signed 16 (u.get (R.calCmCoef f k 1)) * g +
          signed 16 (u.get (R.calCmCoef f k 2)) * b) + 4096) 8192 + signed 21 (u.get (R.calCmOfs f k))))).toNat)

/-- The ply code. Full scale alone encodes to 0x3FF; any smaller component encodes to the code whose value is nearest
to u / 64, of two equally near the larger, in the ply of the table; the codes of each ply have the values of the
table; and a code decodes to 64 times its value, 0x3FF alone to full scale. -/
def Obligations.PlyCode : Prop :=
  -- full scale alone gives 0x3FF
  (∀ u : Nat, plyEncode u = 0x3FF ↔ 1044480 ≤ u) ∧
  -- below it the code is the one whose value is nearest, of two equally near the larger
  (∀ u c : Nat, u < 1044480 → c < 0x3FF →
    let off (k : Nat) : Nat := (64 * (plyValue k : Int) - u).natAbs
    off (plyEncode u) ≤ off c ∧ (off (plyEncode u) = off c → plyValue c ≤ plyValue (plyEncode u))) ∧
  -- the components of each ply
  (∀ u : Nat, u < 1044480 → plyEncode u / 128 =
    if u < 8160 then 0 else if u < 16352 then 1 else if u < 32704 then 2 else if u < 65408 then 3
    else if u < 130816 then 4 else if u < 261632 then 5 else if u < 523264 then 6 else 7) ∧
  -- the values of each ply
  (∀ p m : Nat, p < 8 → m < 128 →
    plyValue (128 * p + m) = (if p = 0 then m else if p = 1 then 128 + m else (128 + m) * 2 ^ (p - 1))) ∧
  -- decoding is exact, and 0x3FF alone decodes to full scale
  (∀ c : Nat, c < 1024 → plyDecode c = 64 * plyValue c ∧ (plyDecode c = 1044480 ↔ c = 0x3FF))

/-- Output, statistics periods and shive tokens. The formatter takes its oldest line; one whose header is lost is
counted and goes nowhere; statistics records close with their period; each token lets one shive record go, or is kept
up to 64. -/
def Obligations.OutputStatisticsAndShives : Prop :=
  (∀ (fs : List OutFault) (l : Line) (rest : List Line) (s : State), s.fmt.queue = l :: rest →
    Does (.outputLine fs) s fun t => t.fmt.queue = rest) ∧
  (∀ (fs : List OutFault) (l : Line) (rest : List Line) (s : State), s.fmt.queue = l :: rest →
    fs.contains .headerLost = true →
    Does (.outputLine fs) s fun t => t.fget R.outLostCnt = (s.fget R.outLostCnt + 1) % 2 ^ 32 ∧
      t.fget R.outEvtHdrLost = 1 ∧ t.dma = s.dma ∧ t.reel = s.reel) ∧
  -- corrected and uncorrectable words count, whatever else the line suffers (R169)
  (∀ (fs : List OutFault) (l : Line) (rest : List Line) (s : State), s.fmt.queue = l :: rest →
    Does (.outputLine fs) s fun t => (OutFault.wordCe ∈ fs → t.fget R.outEvtEccCe = 1) ∧
      (∀ w, OutFault.wordUe w ∈ fs → t.fget R.outEvtEccUe = 1) ∧
      t.fget R.outCeCnt = (s.fget R.outCeCnt + fs.count .wordCe) % 2 ^ 32) ∧
  (∀ (fs : List OutFault) (s : State), s.fmt.queue = [] → exec (.outputLine fs) s = .next s) ∧
  (∀ (b : Fin 2) (s : State),
    Does .statsPeriodClose s fun t => t.sts.banks[b].recs =
      (s.sts.banks[b]).recs.map fun r => if r.isOpen && s.periodOver r then { r with isOpen := false } else r) ∧
  -- a token for each 250 ticks gone by, of which 64 are held (R193); that they come on a grid from reset is the model's
  -- choice (assumption 77)
  (∀ s : State, s.scr.tokenAt + 250 ≤ s.now → s.scr.fifo.length ≤ 256 →
    let n := (s.now - s.scr.tokenAt) / 250
    Does .shiveToken s fun t => t.scr = { s.scr with
      fifo := s.scr.fifo.drop n, tokenAt := s.scr.tokenAt + 250 * n,
      tokens := if n ≤ s.scr.fifo.length then s.scr.tokens
        else min 64 (s.scr.tokens + (n - s.scr.fifo.length)) }) ∧
  (∀ s : State, s.now < s.scr.tokenAt + 250 → exec .shiveToken s = .next s)

/-- The layout of the reel, the memory window and the web counts of the reel. A layout that fits is taken when nothing
is busy and clears reel and window; a refusal says why and changes nothing else. A line of 64 bytes written to the
window reads back, every other byte keeps its value, a poisoned or uncorrectable line reads poisoned, a closed window
takes nothing, and an access waits for the memory clock. A trigger latches into REL_TAIL_WC the web count of the oldest
line held and into REL_HEAD_WC that of the newest one, whatever its stream, and 0 while none is held; that a line counts
as held once it is recorded is the model's choice (assumption 52, DESIGN CHOICE). -/
def Obligations.ReelLayoutAndWindow : Prop :=
  (∀ (via : Via) (s : State), s.mayWrite via.path 0x080000 = true → s.alone = true → s.layoutBusy = false → s.hdmComes = false →
    s.cutComes = false → 64 * min 64 (s.fget R.relSaveSize) + 256 * s.fget R.relMemSize + 1024 ≤ 16384 →
    Does (.relayout via) s fun t => t.reel.saveUnits = min 64 (s.fget R.relSaveSize) ∧
      t.reel.memUnits = s.fget R.relMemSize ∧ t.reel.result = 1 ∧ t.reel.dir = [] ∧ t.reel.ring = [] ∧
      t.reel.wptr = 0 ∧ t.window = [] ∧ t.poison = [] ∧ t.fget R.relEvtLayoutDone = 1) ∧
  (∀ (via : Via) (s : State), s.mayWrite via.path 0x080000 = true → s.alone = true → s.layoutBusy = true ∨ s.hdmComes = true ∨ s.cutComes = true →
    exec (.relayout via) s = .next { s with reel := { s.reel with result := 2 } }) ∧
  (∀ (via : Via) (s : State), s.mayWrite via.path 0x080000 = true → s.alone = true → s.layoutBusy = false → s.hdmComes = false →
    s.cutComes = false → 16384 < 64 * min 64 (s.fget R.relSaveSize) + 256 * s.fget R.relMemSize + 1024 →
    exec (.relayout via) s = .next { s with reel := { s.reel with result := 3 } }) ∧
  -- a line that a host address maps onto is written (R230, R232)
  (∀ (addr line : Nat) (w : BitVec 512) (bad : Bool) (s : State), s.windowLine addr = some line →
    s.link.viralIn = false → s.link.viralOut = false →
    Does (.windowWrite addr w bad) s fun t => t.poison.contains line = bad ∧
      (s.poison.contains line = false → bad = false → t.poison = s.poison) ∧
      ∀ a, t.windowByte a = if 64 * line ≤ a ∧ a < 64 * line + 64 then w.extractLsb' (8 * (a - 64 * line)) 8
        else s.windowByte a) ∧
  -- and read
  (∀ (addr line : Nat) (s : State), s.windowLine addr = some line → s.poison.contains line = false →
    ∃ d : BitVec 512, exec (.windowRead addr 0 false) s = .next { s with out := s.out ++ [.windowData line d
        (s.link.viralIn || s.link.viralOut)] } ∧
      ∀ i, i < 64 → d.extractLsb' (8 * i) 8 = s.windowByte (64 * line + i)) ∧
  (∀ (addr line ce : Nat) (ue : Bool) (s : State), s.windowLine addr = some line →
    ue = true ∨ s.poison.contains line = true →
    Does (.windowRead addr ce ue) s fun t => t.fget R.glbLinkEvtPoisonRd = 1 ∧
      t.out.getLast?.any (fun o => match o with | .windowData l _ bad => l == line && bad | _ => false) = true) ∧
  -- each codeword corrected counts (R212)
  (∀ (addr line ce : Nat) (ue : Bool) (s : State), s.windowLine addr = some line →
    Does (.windowRead addr ce ue) s fun t => t.fget R.relCeCnt = (s.fget R.relCeCnt + min 2 ce) % 2 ^ 32 ∧
      t.window = s.window) ∧
  (∀ (addr ce : Nat) (w : BitVec 512) (bad : Bool) (s : State), s.windowLine addr = none → s.clk.mem = .locked →
    exec (.windowWrite addr w bad) s = .next s ∧ exec (.windowRead addr ce bad) s = .next s) ∧
  -- with the memory clock off lock an access waits (R364)
  (∀ (addr ce : Nat) (w : BitVec 512) (bad : Bool) (s : State), s.link.hdmBase ≤ addr →
    (addr - s.link.hdmBase) % 64 = 0 → s.windowThere ((addr - s.link.hdmBase) / 64) = true → s.clk.mem ≠ .locked →
    exec (.windowWrite addr w bad) s =
      .next { s with reel := { s.reel with waits := s.reel.waits ++ [.write addr w bad] } } ∧
    exec (.windowRead addr ce bad) s =
      .next { s with reel := { s.reel with waits := s.reel.waits ++ [.read addr ce bad] } }) ∧
  -- the web counts as the latest trigger found them (R205)
  (∀ s : State,
    (s.readReg 0x080010).toNat + 2 ^ 32 * (s.readReg 0x080014).toNat = s.reel.tailSeen.toNat ∧
    (s.readReg 0x080018).toNat + 2 ^ 32 * (s.readReg 0x08001C).toNat = s.reel.headSeen.toNat) ∧
  (∀ s : State, s.fu.inForce.trigSrc = 1 → s.triggersOn = true → s.producing = true → s.timeDue ≤ s.now →
    s.triggersBarred = false → s.freeToTrigger = true →
    Does .timeModeTrigger s fun t =>
      (∀ (d1 d2 : List DirEntry) (e : DirEntry), s.reel.dir = d1 ++ e :: d2 → e.held = true →
        ((∀ x, x ∈ d1 → x.held = false) → t.reel.tailSeen = e.wc) ∧
        ((∀ x, x ∈ d2 → x.held = false) → t.reel.headSeen = e.wc)) ∧
      ((∀ x, x ∈ s.reel.dir → x.held = false) → t.reel.tailSeen = 0 ∧ t.reel.headSeen = 0))

/-- Cuts of the reel. At most four cuts are active; the cut whose turn it is delivers its next entry, or passes over one
that the reel holds no more; a cut leaves when its record is written, or was dropped, and its command completes. -/
def Obligations.Cuts : Prop :=
  (∀ (same : Bool) (c : Cut) (s : State), (s.reel.live.filter (·.active)).length < 4 →
    s.reel.live.find? (!·.active) = some c → (∀ o, o ∈ s.reel.cuts → o.id = c.id → o = c) →
    Does (.cutActivate same) s fun t =>
      -- its record has its place at the head of its stream (R210)
      t.reel.cuts.any (fun o => o.id == c.id && o.placed && (o.active || o.recorded)) = true ∧
      -- with WAIT = 0 a line accepted in the same core cycle is not selected (R217)
      ∀ o e, o ∈ t.reel.cuts → o.id = c.id → e ∈ o.todo → e ∈ s.reel.dir ∧ c.spans e.wc = true ∧
        (c.wait = false → same = true → e ∈ s.before.reel.dir)) ∧
  (∀ (same : Bool) (s : State), 4 ≤ (s.reel.live.filter (·.active)).length → exec (.cutActivate same) s = .next s) ∧
  (∀ (stale ue : List Nat) (ce : Nat) (c : Cut) (e : DirEntry) (rest : List DirEntry) (s : State),
    s.reelOff = false → s.cutTurn = some c → c.todo = e :: rest → s.reel.dir.contains e = true →
    Does (.cutLine stale ue ce) s fun t =>
      t.reel.cuts.map (fun o => (o.id, o.entries, o.todo)) =
        s.reel.cuts.map fun o => if o = c then (o.id, o.entries + 1, rest) else (o.id, o.entries, o.todo)) ∧
  (∀ (stale ue : List Nat) (ce : Nat) (c : Cut) (e : DirEntry) (rest : List DirEntry) (s : State),
    s.reelOff = false → s.cutTurn = some c → c.todo = e :: rest → s.reel.dir.contains e = false →
    Does (.cutLine stale ue ce) s fun t =>
      t.reel.cuts.map (fun o => (o.id, o.entries, o.todo)) =
        s.reel.cuts.map fun o => if o = c then (o.id, o.entries, rest) else (o.id, o.entries, o.todo)) ∧
  (∀ (stale ue : List Nat) (ce : Nat) (s : State), s.cutTurn = none → exec (.cutLine stale ue ce) s = .next s) ∧
  (∀ (id : BitVec 16) (c : Cut) (p : PktRef) (s : State),
    s.reel.cuts.find? (fun c => c.id = id && c.recorded && (c.written || (s.dma.chans[c.dc]).lostCuts.contains id)) =
      some c → c.written = true → c.by' = some p →
    ∃ u : State, exec (.cutRecordWritten id) s = .next (u.done p (if c.cancel then 5 else 0) 0 c.entries) ∧
      u = { s with reel := { s.reel with cuts := s.reel.cuts.erase c } } ∧
      Does (.cutRecordWritten id) s fun t => t.reel.cuts = s.reel.cuts.erase c ∧ Gone p s t) ∧
  -- a record that was dropped (R273)
  (∀ (id : BitVec 16) (c : Cut) (p : PktRef) (s : State),
    s.reel.cuts.find? (fun c => c.id = id && c.recorded && (c.written || (s.dma.chans[c.dc]).lostCuts.contains id)) =
      some c → c.written = false → c.by' = some p →
    ∃ u : State, exec (.cutRecordWritten id) s = .next (u.done p 0x0B 1 c.entries) ∧
      u.reel.cuts = s.reel.cuts.erase c) ∧
  (∀ (id : BitVec 16) (s : State), s.reel.cuts.all (fun c => decide (c.id ≠ id) || !c.recorded) = true →
    exec (.cutRecordWritten id) s = .next s)

/-- The link comes up, retrains and changes its power state. A trained link has the widest width whose lanes all work and
shows its rate and lanes; a retrain changes them and loses nothing; D0, L1, the writes of the configuration space and
the unmasking of a vector have their effects. Which lanes count as inverted is the model's choice (assumption 81). -/
def Obligations.LinkUpRetrainAndPower : Prop :=
  (∀ (c : Bool) (working : BitVec 8) (rate : Fin 5) (rev : Bool) (inv : BitVec 8) (s : State), s.link.up = false →
    s.link.phyOn = true → s.link.noRef = false → s.link.perstLow = false → s.flag R.glbLinkCtrlHold = false →
    bitOf working (if rev then 7 else 0) = true →
    Does (.linkUp c working rate rev inv) s fun t => t.link.up = true ∧ t.link.rate = rate.val + 1 ∧
      [1, 2, 4, 8].contains t.link.width = true ∧
      (∀ w, [1, 2, 4, 8].contains w = true →
        ((∀ i, i < w → bitOf working (if rev then 7 - i else i) = true) ↔ w ≤ t.link.width)) ∧
      t.link.cxl = (c && decide (2 ≤ rate.val)) ∧ t.link.reversed = rev ∧ t.link.polInv = inv &&& working ∧
      t.tnd.lostAt = none ∧ t.dma = s.dma) ∧
  (∀ (c : Bool) (working : BitVec 8) (rate : Fin 5) (rev : Bool) (inv : BitVec 8) (s : State),
    s.link.up = true ∨ s.link.phyOn = false ∨ s.link.noRef = true ∨ s.link.perstLow = true ∨
      s.flag R.glbLinkCtrlHold = true ∨ bitOf working (if rev then 7 else 0) = false →
    exec (.linkUp c working rate rev inv) s = .next s) ∧
  (∀ (lanes : Fin 4) (rate : Fin 5) (s : State), s.link.up = true →
    Does (.linkRetrain lanes rate) s fun t => t.link.up = true ∧ t.link.width = 2 ^ lanes.val ∧
      t.link.rate = rate.val + 1 ∧ t.link.cxl = (s.link.cxl && decide (2 ≤ rate.val)) ∧
      t.fget R.glbLinkEvtRetrain = 1 ∧ t.dma.chans = s.dma.chans ∧
      -- the notices that wait for CXL.cache wait on, or are written where it is lost (R233)
      (t.link.cxl = true → t.link.waiting = s.link.waiting ∧ t.dma = s.dma) ∧
      (t.link.cxl = false → t.link.waiting = [] ∧ ∀ e, e ∈ s.link.waiting →
        (if s.link.ats then Out.hostWrite e.2.1 e.2.2.1
         else .untranslatedWrite (s.ch e.1).pasid? e.2.1 e.2.2.1) ∈ t.out)) ∧
  (∀ s : State, s.link.d3 = true → Does .d0Return s fun t => t.link.d3 = false ∧ t.dma = s.dma ∧
      ∀ v, v < 64 → bitOf t.link.pend v = true → bitOf s.link.mask v = true ∨ s.link.up = false) ∧
  (∀ s : State, s.link.up = true → s.link.d3 = false → s.dma.chans.toList.all (·.quiet) = true →
    s.dma.pageReq = [] → s.dma.invs = [] → s.link.waiting = [] → s.cmd.packets.all (·.ref.tw) = true →
    s.cmd.queues.toList.all (fun q => !q.enabled || q.sqEmpty) = true →
    exec .l1Entry s = .next { s with link := { s.link with l1 := true } }) ∧
  (∀ (ats pri pasid : Bool) (s : State), s.link.up = true →
    Does (.configSpaceWrite (.enables ats pri pasid)) s fun t =>
      t.link.ats = ats ∧ t.link.pri = pri ∧ t.link.pasid = pasid ∧ t.link.cfg = s.link.cfg ∧
      (ats = true ∨ s.dma.priQ = [] → t.link = { s.link with ats := ats, pri := pri, pasid := pasid, priOff := !pri }) ∧
      -- without ATS no channel waits for a page request slot (R235)
      (ats = false → t.dma.priQ = []) ∧
      t.dma.priFail = (s.dma.priFail && !(pri && s.link.priOff))) ∧
  (∀ (i : Fin 3) (base : Nat) (s : State), s.link.up = true →
    Does (.configSpaceWrite (.bar i base)) s fun t => t.dma = s.dma ∧
      (t.link.cfg.bars[i]).base = base % 2 ^ 64 / (s.link.cfg.bars[i]).size * (s.link.cfg.bars[i]).size ∧
      (t.link.cfg.bars[i]).size = (s.link.cfg.bars[i]).size ∧
      ∀ j : Fin 3, j ≠ i → t.link.cfg.bars[j] = s.link.cfg.bars[j]) ∧
  (∀ (log : Fin 6) (s : State), s.link.up = true →
    exec (.configSpaceWrite (.readRequest log)) s = .next { s with link := { s.link with
      cfg := { s.link.cfg with readRequest := 128 * 2 ^ log.val } } } ∧
    exec (.configSpaceWrite .clearUnsupported) s = .next { s with link := { s.link with
      cfg := { s.link.cfg with unsupported := false } } }) ∧
  (∀ (w : ConfigWrite) (s : State), s.link.up = false → exec (.configSpaceWrite w) s = .next s) ∧
  (∀ (v : Fin 64) (s : State), s.link.up = true → s.link.d3 = false →
    Does (.msixVectorUnmask v) s fun t => bitOf t.link.mask v.val = false ∧ bitOf t.link.pend v.val = false ∧
      (bitOf s.link.pend v.val = true → Out.msix v.val (s.link.entry v.val) ∈ t.out))

/-- What a link reset, D3hot and viral do to the channels. A link reset and a Function Level Reset hold every enabled
channel, disable every queue and clear what the configuration space held, but for what each keeps; link loss, D3hot
and viral hold every enabled channel. -/
def Obligations.LinkLossHoldsTheChannels : Prop :=
  (∀ s : State, Does .linkReset s fun t =>
      (∀ n, (t.ch n).state = if (s.ch n).enabled then .held else .disabled) ∧
      (∀ n, (t.ch n).dHead = 0 ∧ (t.ch n).dTail = 0 ∧ (t.ch n).cHead = 0 ∧ (t.ch n).cTail = 0 ∧ (t.ch n).nseq = 0) ∧
      (∀ q, (t.queue q).enabled = false) ∧ t.dma.atc = [] ∧ t.dma.pageReq = [] ∧ t.dma.priQ = [] ∧ t.reel.waits = [] ∧
      t.link.ats = false ∧ t.link.pri = false ∧ t.link.pasid = false ∧ t.link.hdmCommitted = false ∧
      t.link.mask = BitVec.allOnes 64 ∧ t.link.pend = 0) ∧
  (∀ s : State, s.link.up = true → Does .flr s fun t =>
      (∀ n, (t.ch n).state = if (s.ch n).enabled then .held else .disabled) ∧
      (∀ q, (t.queue q).enabled = false) ∧ t.dma.atc = [] ∧ t.link.ats = false ∧ t.link.mask = BitVec.allOnes 64 ∧
      t.link.hdmCommitted = s.link.hdmCommitted ∧ t.link.viralIn = s.link.viralIn ∧ t.link.up = true ∧
      -- accesses to the window that wait are kept with it (R239)
      t.reel.waits = s.reel.waits) ∧
  (∀ s : State, s.link.up = true → Does .dlDown s fun t =>
      t.link.up = false ∧ t.link.width = 0 ∧ t.link.rate = 0 ∧ t.tnd.lostAt = some s.now ∧
      (∀ n, (t.ch n).state = if (s.ch n).enabled then .held else .disabled) ∧
      -- units queued behind one in progress spill for want of the link (R28)
      ((∀ q, (s.queue q).enabled = false) → ∀ n, (s.ch n).enabled = true → 1 < (s.ch n).staging.length →
        t.fget R.glbBudgetLnkOver = 1)) ∧
  (∀ s : State, s.link.up = false → exec .dlDown s = .next s) ∧
  (∀ s : State, s.link.up = true → s.link.d3 = false → Does .d3hotEntry s fun t =>
      t.link.d3 = true ∧ ∀ n, (t.ch n).state = if (s.ch n).enabled then .held else (s.ch n).state) ∧
  (∀ s : State, s.link.up = true → Does .viralIn s fun t =>
      t.link.viralIn = true ∧ ∀ n, (t.ch n).state = if (s.ch n).enabled then .held else (s.ch n).state) ∧
  (∀ s : State, Does .viralOut s fun t =>
      t.link.viralOut = true ∧ ∀ n, (t.ch n).state = if (s.ch n).enabled then .held else (s.ch n).state)

/-- The HDM decoder, CXL.cache, HOLD and the PHY test. A decoder commits if it covers the window exactly; a snoop of a
line held between its grant and its write waits for the write (that the line is held while its CXL_CACHE_GRANT is among
the commands that wait is the model's choice, assumption 81, DESIGN CHOICE); HOLD brings the link down; the PHY test
runs with HOLD set. -/
def Obligations.DecoderCacheAndLinkTest : Prop :=
  (∀ (ways base size : Nat) (lock same : Bool) (s : State), s.link.up = true → s.link.d3 = false →
    s.link.cxl = true → s.link.hdmLock = false →
    Does (.hdmCommit ways base size lock same) s fun t =>
      t.link.hdmCommitted = (ways == 1 && size != 0 && size == s.reel.windowSize) ∧
      t.link.hdmError = !t.link.hdmCommitted ∧ t.link.hdmLock = (t.link.hdmCommitted && lock) ∧
      t.link.hdmBase = base ∧ t.link.hdmSize = size) ∧
  (∀ (ways base size : Nat) (lock same : Bool) (s : State), s.link.hdmLock = true →
    exec (.hdmCommit ways base size lock same) s = .next s) ∧
  (∀ (a : Nat) (s : State), s.holdsLine a = true →
    exec (.cacheSnoop a) s = .next { s with link := { s.link with snoops := s.link.snoops ++ [a] } }) ∧
  (∀ (a : Nat) (s : State), s.holdsLine a = false → s.link.up = true → s.link.cxl = true →
    exec (.cacheSnoop a) s = .next { s with out := s.out ++ [.snoopAnswer a] }) ∧
  -- the grant: the notice is written, then the snoops it delayed are answered, and invalidations that waited for no
  -- other notice are completed (R255)
  (∀ (same : Bool) (ch : Fin 16) (pa : Nat) (bytes : List Byte) (irq : Bool) (rest : List (Fin 16 × Nat × List Byte × Bool))
    (s : State), s.link.waiting = (ch, pa, bytes, irq) :: rest → s.hostUp = true → s.link.cxl = true →
    Does (.cxlCacheGrant same) s fun t => t.link.waiting = rest ∧ t.link.snoops = s.link.snoops.filter (· != pa) ∧
      t.dma.invs = (s.dma.invs.filter fun i => decide (1 < i.2)).map (fun i => (i.1, i.2 - 1)) ∧
      ∃ l, t.out = s.out ++ .cacheWrite pa bytes :: (l ++ (s.link.snoops.filter (· == pa)).map .snoopAnswer ++
          (s.dma.invs.filter fun i => decide (i.2 ≤ 1)).map (fun i => .invalidated i.1)) ∧
        (irq = false → l = [])) ∧
  (∀ (same : Bool) (s : State), s.link.waiting = [] ∨ s.hostUp = false ∨ s.link.cxl = false →
    exec (.cxlCacheGrant same) s = .next s) ∧
  (∀ (via : Via) (s : State), s.mayWrite via.path 0x000404 = true → s.alone = true →
    Does (.linkHold via false) s fun t => t.fget R.glbLinkCtrlHold = 0 ∧ t.link.prbsLock = 0 ∧
      t.link.up = s.link.up) ∧
  (∀ (via : Via) (s : State), s.mayWrite via.path 0x000404 = true → s.alone = true →
    Does (.linkHold via true) s fun t => t.link.up = false) ∧
  (∀ (via : Via) (mode : BitVec 2) (rate : BitVec 3) (lock : BitVec 8) (errs : List Nat) (s : State), 
    s.mayWrite via.path 0x000404 = true → s.alone = true → s.flag R.glbLinkCtrlHold = true → s.link.up = false → mode ≠ 0 →
    Does (.linkPrbsTest via mode rate lock errs) s fun t => t.link.prbsLock = lock ∧
      t.fget R.glbLinkCtrlTestMode = mode.toNat ∧ t.fget R.glbLinkCtrlTestRate = rate.toNat ∧
      -- the checkers in lock count, from zero after a change of TEST_MODE
      ∀ l, l < 8 → t.fget (R.glbLinkPrbsErr l) = min (2 ^ 32 - 1)
        ((if mode.toNat = s.fget R.glbLinkCtrlTestMode then s.fget (R.glbLinkPrbsErr l) else 0) +
          (if bitOf lock l then errs[l]?.getD 0 else 0)))

/-- Segments of a unit are issued. The arbiter's channel writes the notice that waits, else the next segment of its head
unit, to host memory; the last one delivers it; a completion goes into its queue's ring, a cut record to its place; units
with damaged words are dropped with cause 0x01, in one run while they follow each other; a damaged notice puts the
channel in error; without a channel to serve nothing is issued. -/
def Obligations.SegmentsAndDelivery : Prop :=
  (∀ (ch : Fin 16) (b : OpenBuf) (u : DUnit) (n pa : Nat) (s : State), s.windowed.arbiter = some ch →
    s.windowed.segment ch = some (u, n, pa) → (∀ p irq, u.kind ≠ .completion p irq) → (s.ch ch).buf = some b →
    (s.ch ch).place? = none → (s.ch ch).issued + n < u.size →
    ∃ v : State, exec (.segmentIssue false) s = .next (v.settle ch) ∧ (v.ch ch).issued = (s.ch ch).issued + n ∧
      (v.ch ch).staging = (s.ch ch).staging ∧
      v.out.getLast? =
        let bytes := ((u.bytes ++ List.replicate 31 0).drop (u.place (s.ch ch).issued)).take n
        some (if s.link.ats then .hostWrite pa bytes else .untranslatedWrite (b.pasid? (s.ch ch)) pa bytes)) ∧
  -- the last segment: the unit leaves staging and stands in its buffer (R250)
  (∀ (ch : Fin 16) (b : OpenBuf) (u : DUnit) (n pa : Nat) (s : State), s.windowed.arbiter = some ch →
    s.windowed.segment ch = some (u, n, pa) → (∀ p irq, u.kind ≠ .completion p irq) → (s.ch ch).buf = some b →
    (s.ch ch).place? = none → u.size ≤ (s.ch ch).issued + n → (s.ch ch).state = .live →
    ∃ v : State, exec (.segmentIssue false) s = .next (v.settle ch) ∧
      (v.ch ch).staging = ((s.ch ch).staging).drop 1 ∧ (v.ch ch).issued = 0 ∧
      ((∀ id, u.kind ≠ .cutRecord id) → b.maxUnits = 0 ∨ b.units + 1 < b.maxUnits →
        (v.ch ch).buf = some (b.take s.now u)) ∧
      ((∀ id, u.kind ≠ .cutRecord id) → b.maxUnits ≠ 0 → b.maxUnits ≤ b.units + 1 →
        (v.ch ch).buf = none ∧ ∃ nt, (v.ch ch).notices = [nt] ∧ nt.status = 0x01 ∧ nt.units = b.units + 1 ∧
          nt.bytes = b.used + u.size ∧ nt.last = u.seq) ∧
      (∀ id, u.kind = .cutRecord id → (v.ch ch).buf = none ∧ ∃ nt, (v.ch ch).notices = [nt] ∧ nt.status = 0x04)) ∧
  -- a cut record goes to the place kept for it at the head of its stream (R210, R211)
  (∀ (ch : Fin 16) (id : BitVec 16) (p : CutPlace) (u : DUnit) (n pa : Nat) (s : State),
    s.windowed.arbiter = some ch → s.windowed.segment ch = some (u, n, pa) → u.kind = .cutRecord id →
    (s.ch ch).place? = some p → (s.ch ch).state = .live →
    ∃ v : State, exec (.segmentIssue false) s = .next (v.settle ch) ∧ (v.ch ch).staging = ((s.ch ch).staging).drop 1 ∧
      (v.ch ch).places = (s.ch ch).places.erase p ∧
      (if s.link.ats then Out.hostWrite pa (fit 32 u.bytes) else .untranslatedWrite p.pasid pa (fit 32 u.bytes)) ∈ v.out ∧
      ∀ c, c ∈ v.reel.cuts → c.id = id → c.recorded = true → c.written = true) ∧
  -- a completion (R269, R272); that of a WARM_RESET makes the reset due (R281)
  (∀ (ch : Fin 16) (p : PktRef) (irq : Bool) (u : DUnit) (n pa : Nat) (s : State), s.windowed.arbiter = some ch →
    s.windowed.segment ch = some (u, n, pa) → u.kind = .completion p irq → (s.ch ch).state = .live →
    ∃ v : State, exec (.segmentIssue false) s = .next (v.settle ch) ∧ (v.ch ch).staging = ((s.ch ch).staging).drop 1 ∧
      (v.queue p.queue).cqTail = ((s.queue p.queue).cqTail + 1) % 2 ^ (s.queue p.queue).cqLog ∧
      (let bytes := completionBytes u.bytes ((s.ch ch).lostData.contains p) (s.queue p.queue).phase
       (if s.link.ats then Out.hostWrite pa bytes
        else .untranslatedWrite (s.queue p.queue).pasid? pa bytes) ∈ v.out) ∧
      (irq = true → v.fget (R.cmdQEvtCpl p.queue.val) = 1) ∧
      v.cmd.warmDue = (if u.isReset then some s.now else s.cmd.warmDue)) ∧
  -- a notice (R248, R251)
  (∀ (ch : Fin 16) (nt : Notice) (pa : Nat) (s : State), s.windowed.arbiter = some ch →
    s.windowed.noticeReady ch = some (nt, pa) →
    ∃ v : State, exec (.segmentIssue false) s = .next (v.settle ch) ∧
      (v.ch ch).notices = ((s.ch ch).notices).drop 1 ∧ (v.ch ch).nseq = (s.ch ch).nseq + 1 ∧
      (v.ch ch).cTail = ((s.ch ch).cTail + 1) % 2 ^ (s.ch ch).cLog ∧
      let bytes := noticeBytes nt ch.val (s.chClass ch.val) (s.ch ch).nseq.toNat (s.ch ch).phase
      if (s.ch ch).coh = true ∧ s.link.cxl = true then
        v.link.waiting = s.link.waiting ++ [(ch, pa, bytes, nt.irq)] ∧ v.out = s.out ++ [.cacheRequest pa]
      else (if s.link.ats then Out.hostWrite pa bytes
        else .untranslatedWrite (s.ch ch).pasid? pa bytes) ∈ v.out) ∧
  (∀ (ch : Fin 16) (nt : Notice) (pa : Nat) (s : State), s.windowed.arbiter = some ch →
    s.windowed.noticeReady ch = some (nt, pa) → (s.ch ch).state ≠ .disabled →
    Does (.segmentIssue true) s fun t => (t.ch ch).state = .error ∧ t.fget (R.dmaChEvtErr ch.val) = 1) ∧
  -- a damaged staging word (R261)
  (∀ (ch : Fin 16) (u : DUnit) (n pa : Nat) (s : State), s.windowed.arbiter = some ch →
    s.windowed.segment ch = some (u, n, pa) → (s.ch ch).state = .live →
    ∃ v : State, exec (.segmentIssue true) s = .next (v.settle ch) ∧ (v.ch ch).staging = ((s.ch ch).staging).drop 1 ∧
      (v.ch ch).front.any (fun r => r.cause == 1 && r.last == u.seq) = true) ∧
  -- behind damaged units the head is read first: it goes on with their run, or ends it (R260)
  (∀ (ch : Fin 16) (u : DUnit) (r : DropRun) (s : State), s.windowed.arbiter = some ch →
    s.windowed.judged ch = some u → (s.ch ch).front = some r → r.units < 65535 → (s.ch ch).state = .live →
    (∃ v : State, exec (.segmentIssue true) s = .next (v.settle ch) ∧
      (v.ch ch).staging = ((s.ch ch).staging).drop 1 ∧ (v.ch ch).front = some (r.add u)) ∧
    ∃ v : State, exec (.segmentIssue false) s = .next (v.settle ch) ∧
      (v.ch ch).staging = (s.ch ch).staging ∧ (v.ch ch).front = none ∧
      (v.ch ch).notices.getLast?.any (fun n => n.status == 0x80 && n.cause == 1 && n.last == r.last) = true) ∧
  (∀ (b : Bool) (s : State), s.windowed.arbiter = none → exec (.segmentIssue b) s = .next s.windowed)

/-- Descriptors, buffers and doorbells of a channel. A fetched descriptor opens a buffer with its fields, or is passed
over where its PASID is refused; a refused fetch puts the channel in error; a buffer times out with status 0x02;
doorbells set the indices of an enabled ring. -/
def Obligations.DescriptorsBuffersAndDoorbells : Prop :=
  (∀ (ch : Fin 16) (b : OpenBuf) (t : Nat) (s : State), (s.ch ch).buf = some b → b.opened = some t → b.timeout ≠ 0 →
    (s.ch ch).inProgress = false → t + 1000 * b.timeout ≤ s.now →
    ∃ (v : State) (n : Notice), exec (.bufferTimeout ch) s = .next (v.settle ch) ∧ (v.ch ch).buf = none ∧
      (v.ch ch).notices = (s.ch ch).notices ++ [n] ∧ n.status = 0x02 ∧ n.descId = b.id ∧ n.units = b.units ∧
      n.bytes = b.used ∧ n.irq = b.irq ∧ v.link.l1 = false) ∧
  (∀ (ch : Fin 16) (b : OpenBuf) (s : State), (s.ch ch).buf = some b →
    b.opened = none ∨ b.timeout = 0 ∨ (s.ch ch).inProgress = true ∨ (∃ t, b.opened = some t ∧ s.now < t + 1000 * b.timeout) →
    exec (.bufferTimeout ch) s = .next s) ∧
  (∀ (ch : Fin 16) (d : BitVec 256) (s : State), (s.ch ch).enabled = true → (s.ch ch).state ≠ .held →
    (s.ch ch).buf = none → (s.ch ch).dEmpty = false → s.hostUp = true →
    (s.translate (s.ch ch).pasid? (s.ch ch).descVa).isSome = true → (bitOf d 159 = true → s.link.pasid = true) →
    ∃ (v : State) (b : OpenBuf), exec (.descriptorFetch ch .ok d) s = .next (v.settle ch) ∧
      (v.ch ch).dHead = ((s.ch ch).dHead + 1) % 2 ^ (s.ch ch).dLog ∧ (v.ch ch).buf = some b ∧
      b.va = bits d 0 64 / 32 * 32 ∧ b.len = bits d 64 32 / 32 * 32 ∧ b.id = d.extractLsb' 96 16 ∧
      b.irq = bitOf d 112 ∧ b.pasid = d.extractLsb' 128 20 ∧ b.pv = bitOf d 159 ∧ b.maxUnits = bits d 160 16 ∧
      b.timeout = bits d 176 16 ∧ b.units = 0 ∧ b.used = 0) ∧
  -- a PASID that is not enabled (R235)
  (∀ (ch : Fin 16) (d : BitVec 256) (s : State), (s.ch ch).enabled = true → (s.ch ch).state ≠ .held →
    (s.ch ch).buf = none → (s.ch ch).dEmpty = false → s.hostUp = true →
    (s.translate (s.ch ch).pasid? (s.ch ch).descVa).isSome = true → bitOf d 159 = true → s.link.pasid = false →
    ∃ (v : State) (n : Notice), exec (.descriptorFetch ch .ok d) s = .next (v.settle ch) ∧ (v.ch ch).buf = none ∧
      (v.ch ch).dHead = ((s.ch ch).dHead + 1) % 2 ^ (s.ch ch).dLog ∧
      (v.ch ch).notices = (s.ch ch).notices ++ [n] ∧ n.status = 0x08 ∧ n.descId = d.extractLsb' 96 16 ∧
      v.fget (R.dmaChEvtPasidRef ch.val) = 1) ∧
  (∀ (ch : Fin 16) (r : FetchResult) (d : BitVec 256) (s : State), (s.ch ch).enabled = true →
    (s.ch ch).state ≠ .held →
    (s.ch ch).buf = none → (s.ch ch).dEmpty = false → s.hostUp = true →
    (s.translate (s.ch ch).pasid? (s.ch ch).descVa).isSome = true → r ≠ .ok →
    Does (.descriptorFetch ch r d) s fun t => (t.ch ch).state = .error ∧ t.fget (R.dmaChEvtErr ch.val) = 1) ∧
  (∀ (ch : Fin 16) (r : FetchResult) (d : BitVec 256) (s : State),
    (s.ch ch).enabled = false ∨ (s.ch ch).state = .held ∨ (s.ch ch).buf.isSome = true ∨ (s.ch ch).dEmpty = true ∨
      s.hostUp = false ∨ (s.translate (s.ch ch).pasid? (s.ch ch).descVa) = none →
    exec (.descriptorFetch ch r d) s = .next s) ∧
  (∀ (ch : Fin 16) (idx : BitVec 13) (same : Bool) (s : State), (s.ch ch).state ≠ .disabled →
    Does (.dtail ch idx same) s fun t => (t.ch ch).dTail = idx.toNat) ∧
  (∀ (ch : Fin 16) (idx : BitVec 13) (same : Bool) (s : State), (s.ch ch).state ≠ .disabled →
    Does (.chead ch idx same) s fun t => (t.ch ch).cHead = idx.toNat) ∧
  (∀ (ch : Fin 16) (idx : BitVec 13) (same : Bool) (s : State), (s.ch ch).state = .disabled →
    exec (.dtail ch idx same) s = .next s ∧ exec (.chead ch idx same) s = .next s)

/-- Translations, page requests and invalidation. A translation enters the cache; a refused one asks for the page; a
response answers the channel; a request without an answer times out; an invalidation removes what it overlaps,
is completed once the notices begun before have been written, and every channel goes on afresh. -/
def Obligations.TranslationsAndPageRequests : Prop :=
  -- the translation that a channel waits for
  (∀ (ch : Fin 16) (nth : Nat) (a : Ask) (pa : Nat) (big : Bool) (s : State), (s.ch ch).asks[nth]? = some a →
    a.kind ≠ .prefetch →
    ∃ (v : State) (e : AtcEntry), exec (.translationCompletion ch nth true true big pa) s = .next (v.settle ch) ∧
      (v.ch ch).asks = (s.ch ch).asks.eraseIdx nth ∧ (v.ch ch).fault = false ∧ v.dma.atc.head? = some e ∧
      e.va = a.va ∧ e.pasid = a.pasid ∧ e.pa = pa ∧ e.big = big ∧ e.write = true) ∧
  -- the answer to a prefetch touches no fault (R252)
  (∀ (ch : Fin 16) (nth : Nat) (a : Ask) (pa : Nat) (valid write big : Bool) (s : State),
    (s.ch ch).asks[nth]? = some a → a.kind = .prefetch →
    ∃ v : State, exec (.translationCompletion ch nth valid write big pa) s = .next (v.settle ch) ∧
      (v.ch ch).asks = (s.ch ch).asks.eraseIdx nth ∧ (v.ch ch).fault = (s.ch ch).fault ∧
      v.dma.pageReq = s.dma.pageReq ∧ (valid = false → v.dma.atc = s.dma.atc) ∧
      (valid = true → v.dma.atc.head?.any (fun e => e.va == a.va && e.pa == pa && e.write == write) = true)) ∧
  -- without the access that is needed, write access: a page request (R253)
  (∀ (ch : Fin 16) (nth : Nat) (a : Ask) (pa : Nat) (valid write big : Bool) (s : State),
    (s.ch ch).asks[nth]? = some a → valid = false ∨ write = false → a.kind ≠ .prefetch → s.link.ats = true →
    (s.ch ch).state ≠ .disabled → s.dma.priFail = false → s.link.pri = true → s.dma.pageReq.length < 64 →
    Does (.translationCompletion ch nth valid write big pa) s fun t =>
      t.dma.pageReq = s.dma.pageReq ++ [{ ch := ch, page := a.va / 4096, tick := s.now }] ∧ (t.ch ch).fault = true ∧
      (t.ch ch).faultVa = a.va ∧ (t.ch ch).asks = (s.ch ch).asks.eraseIdx nth) ∧
  (∀ (ch : Fin 16) (nth : Nat) (valid write big : Bool) (pa : Nat) (s : State), (s.ch ch).asks[nth]? = none →
    (s.ch ch).asks ≠ [] ∨ valid = true ∨ s.link.ats = true →
    exec (.translationCompletion ch nth valid write big pa) s = .next s) ∧
  -- a fault on an untranslated request (R235)
  (∀ (ch : Fin 16) (nth : Nat) (write big : Bool) (pa : Nat) (s : State), (s.ch ch).asks = [] → s.link.ats = false →
    (s.ch ch).enabled = true → (s.ch ch).state ≠ .held →
    Does (.translationCompletion ch nth false write big pa) s fun t => (t.ch ch).state = .error ∧
      t.fget (R.dmaChEvtErr ch.val) = 1) ∧
  (∀ (ch : Fin 16) (nth : Nat) (r : PageReq) (s : State), (s.dma.pageReq.filter (·.ch = ch))[nth]? = some r →
    s.dma.priQ = [] → r.live = true → (s.ch ch).fault = true → s.hostUp = true → s.link.ats = true →
    Does (.pageResponse ch nth .success) s fun t => t.dma.pageReq = s.dma.pageReq.erase r ∧
      (∃ a : Ask, (t.ch ch).asks = (s.ch ch).asks ++ [a] ∧ a.kind = (s.ch ch).faultFor ∧ a.va = (s.ch ch).faultVa) ∧
      t.out = s.out ++ [.atsRequest ch.val (s.ch ch).faultVa]) ∧
  (∀ (ch : Fin 16) (nth : Nat) (r : PageReq) (c : PageCode) (s : State),
    (s.dma.pageReq.filter (·.ch = ch))[nth]? = some r → s.dma.priQ = [] → r.live = true → (s.ch ch).fault = true →
    c ≠ .success →
    Does (.pageResponse ch nth c) s fun t => (t.ch ch).fault = false ∧
      t.dma.pageReq.map (fun x => (x.ch, x.page, x.tick)) =
        (s.dma.pageReq.erase r).map (fun x => (x.ch, x.page, x.tick)) ∧
      t.dma.priFail = (s.dma.priFail || c == .responseFailure)) ∧
  -- a response that the channel waits for no more (R254)
  (∀ (ch : Fin 16) (nth : Nat) (r : PageReq) (c : PageCode) (s : State),
    (s.dma.pageReq.filter (·.ch = ch))[nth]? = some r → s.dma.priQ = [] → r.live = false ∨ (s.ch ch).fault = false →
    Does (.pageResponse ch nth c) s fun t => t.dma.pageReq = s.dma.pageReq.erase r ∧ t.dma.chans = s.dma.chans ∧
      t.dma.priFail = (s.dma.priFail || c == .responseFailure)) ∧
  (∀ (ch : Fin 16) (nth : Nat) (c : PageCode) (s : State), (s.dma.pageReq.filter (·.ch = ch))[nth]? = none →
    exec (.pageResponse ch nth c) s = .next s) ∧
  (∀ (ch : Fin 16) (r : PageReq) (s : State),
    s.dma.pageReq.find? (fun r => r.ch = ch ∧ r.tick + s.fget R.dmaGlbCtrlPriTimeout * 1000000 ≤ s.now) = some r →
    s.dma.priQ = [] → s.fget R.dmaGlbCtrlPriTimeout ≠ 0 → r.live = true →
    Does (.priTimeout ch) s fun t => (t.ch ch).fault = false ∧ t.fget R.dmaGlbEvtPriTimeout = 1 ∧
      t.dma.pageReq.map (fun x => (x.ch, x.page, x.tick)) =
        (s.dma.pageReq.erase r).map (fun x => (x.ch, x.page, x.tick))) ∧
  (∀ (ch : Fin 16) (s : State), s.fget R.dmaGlbCtrlPriTimeout = 0 ∨
      s.dma.pageReq.all (fun r => r.ch ≠ ch ∨ s.now < r.tick + s.fget R.dmaGlbCtrlPriTimeout * 1000000) = true →
    exec (.priTimeout ch) s = .next s) ∧
  -- an invalidation waits for the notices begun under the translations it removes (R255)
  (∀ (pasid : Option (BitVec 20)) (va size : Nat) (s : State),
    ∃ v : State, exec (.invalidation pasid va size) s =
        .next (v.each (List.finRange 16) fun ch s => s.settle ch) ∧
      (s.link.waiting = [] → v.out = s.out ++ [.invalidated va] ∧
        v.fget R.dmaInvCnt = (s.fget R.dmaInvCnt + 1) % 2 ^ 32 ∧ v.dma.invs = s.dma.invs) ∧
      (s.link.waiting ≠ [] → v.out = s.out ∧ v.dma.invs = s.dma.invs ++ [(va, s.link.waiting.length)]) ∧
      v.dma.chans = s.dma.chans ∧
      v.dma.atc = s.dma.atc.filter fun e => !(e.pasid == pasid &&
        decide (e.va / (if e.big then 2 ^ 21 else 4096) * (if e.big then 2 ^ 21 else 4096) < va + size) &&
        decide (va < e.va / (if e.big then 2 ^ 21 else 4096) * (if e.big then 2 ^ 21 else 4096) +
          (if e.big then 2 ^ 21 else 4096))))

/-- Replay, enable, disable and stop of a channel. Replay stages saved units in order and reports drops in their
place, a damaged unit as dropped; an enabled channel starts with its ring registers as written, a held one that resumes
replays what it kept; a disabled one is disabled at once; a stop lets it deliver what it holds. -/
def Obligations.ReplayEnableAndStop : Prop :=
  (∀ (ch : Fin 16) (ce : Nat) (ue : List Nat) (tags : List (Nat × BitVec 6)) (same : Bool) (u : DUnit)
    (rest : List SaveItem) (s : State), (s.ch ch).state = .replaying → (s.ch ch).staging = [] → s.reelOff = false →
    (s.ch ch).saved = .unit u :: rest → u.kind ≠ .gone → (∀ w, w ∈ ue → u.size / 32 ≤ w) →
    (∀ w, w ∈ tags → w.1 < u.size / 32 → w.2 = (s.ch ch).saveTag w.1) →
    ∃ v : State, exec (.replayRead ch ce ue tags same) s = .next (v.settle ch) ∧ (v.ch ch).saved = rest ∧
      (v.ch ch).staging = [{ u with replay := true }] ∧
      v.fget R.relCeCnt = (s.fget R.relCeCnt + ce) % 2 ^ 32) ∧
  -- a word that is uncorrectable, or whose tag is another than the one written (R206, R259)
  (∀ (ch : Fin 16) (ce : Nat) (ue : List Nat) (tags : List (Nat × BitVec 6)) (same : Bool) (u : DUnit)
    (rest : List SaveItem) (s : State), (s.ch ch).state = .replaying → (s.ch ch).staging = [] → s.reelOff = false →
    (s.ch ch).saved = .unit u :: rest → u.kind ≠ .gone → u.isPlace = false →
    (∃ w, w ∈ ue ∧ w < u.size / 32) ∨ (∃ w, w ∈ tags ∧ w.1 < u.size / 32 ∧ w.2 ≠ (s.ch ch).saveTag w.1) →
    ∃ v : State, exec (.replayRead ch ce ue tags same) s = .next (v.settle ch) ∧ (v.ch ch).saved = rest ∧
      (v.ch ch).staging = [] ∧ (v.ch ch).front.any (fun r => r.cause == 1 && r.last == u.seq) = true) ∧
  (∀ (ch : Fin 16) (r : DropRun) (same : Bool) (rest : List SaveItem) (s : State), (s.ch ch).state = .replaying →
    (s.ch ch).staging = [] → s.reelOff = false → (s.ch ch).saved = .marker r :: rest →
    ∃ v : State, exec (.replayRead ch 0 [] [] same) s = .next (v.settle ch) ∧ (v.ch ch).saved = rest ∧
      (v.ch ch).notices.getLast? = some (dropNotice r)) ∧
  -- a damaged marker says no more than that units were dropped (R259)
  (∀ (ch : Fin 16) (r : DropRun) (same : Bool) (rest : List SaveItem) (s : State), (s.ch ch).state = .replaying →
    (s.ch ch).staging = [] → s.reelOff = false → (s.ch ch).saved = .marker r :: rest →
    ∃ v : State, exec (.replayRead ch 0 [0] [] same) s = .next (v.settle ch) ∧ (v.ch ch).saved = rest ∧
      (v.ch ch).notices.getLast?.any (fun n => n.status == 0x80 && n.cause == 1) = true) ∧
  (∀ (ch : Fin 16) (ce : Nat) (ue : List Nat) (tags : List (Nat × BitVec 6)) (same : Bool) (s : State),
    (s.ch ch).state ≠ .replaying ∨ (s.ch ch).staging ≠ [] ∨ s.reelOff = true →
    exec (.replayRead ch ce ue tags same) s = .next s) ∧
  (∀ (via : Via) (ch : Fin 16) (w : Word) (s : State), s.mayWrite via.path (0x090000 + 512 * ch.val) = true → s.alone = true →
    bitOf (s.reg (0x090000 + 512 * ch.val)) 0 = false → (s.ch ch).state = .disabled → (s.ch ch).staging = [] →
    (s.ch ch).saved = [] → bits w 4 3 ≤ 4 →
    s.flag (R.dmaChPasidPv ch.val) = true → s.link.pasid = true → bitOf w 2 = false → s.hostUp = true →
    ∃ v : State, exec (.channelEnable via ch w) s = .next (v.settle ch) ∧ (v.ch ch).state = .live ∧ (v.ch ch).pv = true ∧
      (v.ch ch).pasid = BitVec.ofNat 20 (s.fget (R.dmaChPasid ch.val))) ∧
  (∀ (via : Via) (ch : Fin 16) (w : Word) (s : State), s.mayWrite via.path (0x090000 + 512 * ch.val) = true → s.alone = true →
    bitOf (s.reg (0x090000 + 512 * ch.val)) 0 = false → (s.ch ch).state = .disabled → (s.ch ch).staging = [] →
    (s.ch ch).saved = [] → bits w 4 3 ≤ 4 → s.flag (R.dmaChPasidPv ch.val) = false →
    bitOf w 2 = false → s.hostUp = true →
    ∃ v : State, exec (.channelEnable via ch w) s = .next (v.settle ch) ∧ (v.ch ch).state = .live ∧ (v.ch ch).dTail = 0 ∧
      (v.ch ch).cHead = 0 ∧ (v.ch ch).phase = true ∧ (v.ch ch).pv = false ∧ v.chClass ch.val = bits w 4 3 ∧
      (v.ch ch).dRing = (s.fget (R.dmaDringLo ch.val) + 2 ^ 32 * s.fget (R.dmaDringHi ch.val)) / 4096 * 4096 ∧
      (v.ch ch).cRing = (s.fget (R.dmaCringLo ch.val) + 2 ^ 32 * s.fget (R.dmaCringHi ch.val)) / 4096 * 4096) ∧
  -- a held channel resumes (R264)
  (∀ (via : Via) (ch : Fin 16) (w : Word) (s : State), s.mayWrite via.path (0x090000 + 512 * ch.val) = true → s.alone = true →
    bitOf (s.reg (0x090000 + 512 * ch.val)) 0 = false → (s.ch ch).state = .held →
    (s.ch ch).staging ≠ [] ∨ (s.ch ch).saved ≠ [] → bits (s.reg (0x090000 + 512 * ch.val)) 4 3 ≤ 4 →
    s.flag (R.dmaChPasidPv ch.val) = false → bitOf w 1 = true → bitOf w 2 = false → s.hostUp = true →
    ∃ v : State, exec (.channelEnable via ch w) s = .next (v.settle ch) ∧ (v.ch ch).state = .replaying ∧
      (v.ch ch).staging = (s.ch ch).staging ∧ (v.ch ch).saved = (s.ch ch).saved ∧ (v.ch ch).linkLoss = false) ∧
  (∀ (via : Via) (ch : Fin 16) (s : State), s.mayWrite via.path (0x090000 + 512 * ch.val) = true → s.alone = true →
    bitOf (s.reg (0x090000 + 512 * ch.val)) 0 = true → (s.ch ch).state ≠ .disabled →
    Does (.channelDisable via ch) s fun t => (t.ch ch).state = .disabled ∧ (t.ch ch).linkLoss = false ∧
      (t.ch ch).staging = [] ∧ (t.ch ch).saved = [] ∧ (t.ch ch).buf = none) ∧
  (∀ (via : Via) (ch : Fin 16) (s : State), s.mayWrite via.path (0x090000 + 512 * ch.val) = true → s.alone = true →
    (s.ch ch).enabled = true →
    ∃ v : State, exec (.channelStop via ch) s = .next (v.settle ch) ∧ (v.ch ch).stopping = true ∧
      (v.ch ch).state = (s.ch ch).state ∧ (v.ch ch).staging = (s.ch ch).staging ∧
      (v.ch ch).saved = (s.ch ch).saved)

/-- Queues, packets and the mailbox. Doorbells move the tails, packets are fetched round robin through the translation
cache, dispatched in order or ended for their format, their data-in blocks are read; queues are enabled and disabled;
the mailbox takes one packet at a time, and its packet waits while 64 are held. -/
def Obligations.QueuesPacketsAndMailbox : Prop :=
  (∀ (q : Fin 8) (idx : BitVec 13) (same : Bool) (s : State), (s.queue q).enabled = true →
    Does (.sqTail q idx same) s fun t => (t.queue q).sqTail = idx.toNat ∧ t.tnd.asleep = false) ∧
  (∀ (q : Fin 8) (idx : BitVec 13) (same : Bool) (s : State), (s.queue q).enabled = false → exec (.sqTail q idx same) s = .next s) ∧
  (∀ (q : Fin 8) (idx : BitVec 13) (same : Bool) (s : State), (s.queue q).enabled = true →
    Does (.cqHead q idx same) s fun t => (t.queue q).cqHead = idx.toNat ∧ t.tnd.asleep = false) ∧
  (∀ (q : Fin 8) (idx : BitVec 13) (same : Bool) (s : State), (s.queue q).enabled = false → exec (.cqHead q idx same) s = .next s) ∧
  (∀ (q : Fin 8) (w : BitVec 512) (s : State), s.nextQueue = some q → s.cmd.packets.length < 64 → s.hostUp = true →
    (s.translate (s.queue q).pasid? (s.queue q).fetchVa).isSome = true →
    s.packet { tw := false, queue := q, tag := w.extractLsb' 16 16 } = none →
    Does (.packetFetch q .ok w) s fun t =>
      t.cmd.packets = s.cmd.packets ++
        [{ ref := { tw := false, queue := q, tag := w.extractLsb' 16 16 }, bytes := w,
           pasid := (s.queue q).pasid?, dc := (s.queue q).dc }] ∧
      (t.queue q).sqHead = ((s.queue q).sqHead + 1) % 2 ^ (s.queue q).sqLog ∧ t.cmd.rr = (q.val + 1) % 8) ∧
  -- a TAG in use completes at once (R271)
  (∀ (q : Fin 8) (w : BitVec 512) (k : Packet) (s : State), s.nextQueue = some q → s.cmd.packets.length < 64 →
    s.hostUp = true → (s.translate (s.queue q).pasid? (s.queue q).fetchVa).isSome = true →
    s.packet { tw := false, queue := q, tag := w.extractLsb' 16 16 } = some k →
    ∃ v : State, exec (.packetFetch q .ok w) s = .next (v.handClass 1 (Fin.ofNat 16 (s.queue q).dc)
        { kind := .completion { tw := false, queue := q, tag := w.extractLsb' 16 16 } (bitOf w 33),
          bytes := completionHead { tw := false, queue := q, tag := w.extractLsb' 16 16 } (bits w 0 16) 2 0xF2
            (((s.queue q).sqHead + 1) % 2 ^ (s.queue q).sqLog) 0 0 }) ∧
      v.cmd.packets = s.cmd.packets ∧ v.dma.chans = s.dma.chans) ∧
  -- no packet arrives without its translation (R268)
  (∀ (q : Fin 8) (w : BitVec 512) (s : State),
    s.translate (s.queue q).pasid? (s.queue q).fetchVa = none → exec (.packetFetch q .ok w) s = .next s) ∧
  (∀ (q : Fin 8) (r : FetchResult) (w : BitVec 512) (s : State), s.nextQueue = some q →
    s.cmd.packets.length < 64 → s.hostUp = true → r ≠ .ok →
    Does (.packetFetch q r w) s fun t => (t.queue q).error = true ∧ t.fget (R.cmdQEvtFetchErr q.val) = 1) ∧
  (∀ (q : Fin 8) (r : FetchResult) (w : BitVec 512) (s : State),
    s.cmd.packets.length ≥ 64 ∨ s.nextQueue ≠ some q ∨ s.hostUp = false →
    exec (.packetFetch q r w) s = .next s) ∧
  (∀ (same : Bool) (s : State) (p : Packet), s.cmd.packets.find? s.mayDispatch = some p → s.formatFault p = none →
    Does (.commandDispatch same) s fun t => t.tnd.asleep = false ∧
      t.cmd.packets = s.cmd.packets.map fun o => if o.ref = p.ref then { o with stage := .dispatched } else o) ∧
  (∀ (same : Bool) (s : State) (p : Packet) (st det : Nat), s.cmd.packets.find? s.mayDispatch = some p →
    s.formatFault p = some (st, det) →
    Does (.commandDispatch same) s fun t => Gone p.ref s t ∧
      t = (s.wakeTender.onPacket p.ref fun o => { o with stage := .dispatched }).done p.ref st det 0) ∧
  (∀ (same : Bool) (s : State), s.cmd.packets.find? s.mayDispatch = none → exec (.commandDispatch same) s = .next s) ∧
  (∀ (r : PktRef) (data : List Byte) (s : State) (p : Packet), wfData data = true → s.packet r = some p → r.tw = false →
    p.stage = .dispatched → p.data = none → 0 < p.dlen → p.noData = false → s.hostUp = true →
    s.gap p.pasid p.dva p.dlen = none →
    Does (.dataInBlockRead r .ok data) s fun t =>
      t.cmd.packets = s.cmd.packets.map fun o => if o.ref = r then { o with data := some (fit o.dlen data) } else o) ∧
  -- a block that cannot be read ends its packet (R235, R271)
  (∀ (r : PktRef) (f : FetchResult) (data : List Byte) (s : State) (p : Packet), wfData data = true →
    s.packet r = some p → r.tw = false → p.stage = .dispatched → p.data = none → 0 < p.dlen →
    (p.noData = true → exec (.dataInBlockRead r f data) s = .next (s.done r 0x0A 0 0)) ∧
    (p.noData = false → s.hostUp = true → f = .refused →
      exec (.dataInBlockRead r f data) s = .next (s.done r 0x0A 0 0)) ∧
    (p.noData = false → s.hostUp = true → f = .uncorrectable →
      exec (.dataInBlockRead r f data) s = .next (s.done r 0x0B 0 0))) ∧
  (∀ (r : PktRef) (f : FetchResult) (data : List Byte) (s : State), wfData data = false →
    exec (.dataInBlockRead r f data) s = .fault .illFormed) ∧
  (∀ (via : Via) (q : Fin 8) (w : Word) (s : State), s.mayWrite via.path (0x0A0000 + 64 * q.val) = true → s.alone = true →
    (s.queue q).enabled = false →
    Does (.queueEnable via q w) s fun t => (t.queue q).enabled = true ∧ (t.queue q).sqHead = 0 ∧ (t.queue q).cqTail = 0 ∧
      (t.queue q).phase = true ∧ (t.queue q).dc = bits w 9 4) ∧
  (∀ (via : Via) (q : Fin 8) (s : State), s.mayWrite via.path (0x0A0000 + 64 * q.val) = true → s.alone = true →
    bitOf (s.reg (0x0A0000 + 64 * q.val)) 0 = true →
    Does (.queueDisable via q) s fun t => (t.queue q).enabled = false ∧ (t.queue q).error = false ∧
      (t.queue q).sqHead = (s.queue q).sqHead ∧ (t.queue q).sqTail = (s.queue q).sqTail ∧
      ∀ o, o ∈ t.cmd.packets → o.ref.tw = false → o.ref.queue = q → o.stage = .fetched →
        s.dispatching = some o.ref ∨ s.cmd.mail = some o) ∧
  (∀ (via : Via) (s : State), s.mayWrite via.path 0x0A1040 = true → s.alone = true → s.cmd.busy = false →
    Does (.mailboxGo via) s fun t => t.cmd.busy = true ∧ t.fget R.cmdTwCtrlBusy = 1 ∧ t.tnd.asleep = false ∧
      ∃ k, k.ref.tw = true ∧ k.data.isSome = true ∧ k.stage = .fetched ∧
        k.bytes = BitVec.ofNat 512
          (ofLeBytes ((List.range 16).flatMap fun i => leBytes 4 (s.reg (0x0A1000 + 4 * i)).toNat)) ∧
        (s.cmd.packets.length < 64 → t.cmd.packets = s.cmd.packets ++ [k] ∧ t.cmd.mail = none) ∧
        (64 ≤ s.cmd.packets.length → t.cmd.packets = s.cmd.packets ∧ t.cmd.mail = some k)) ∧
  (∀ (via : Via) (s : State), s.mayWrite via.path 0x0A1040 = true → s.alone = true → s.cmd.busy = true →
    Does (.mailboxGo via) s fun t => t.cmd = s.cmd ∧ t.fget R.cmdTwEvtOverrun = 1)

/-- Completions, IDENTIFY, GET_STATE, ABORT and WARM_RESET. A completed packet leaves, and only it: to the mailbox, to
the channel of its queue, or lost and counted when its queue was reset. IDENTIFY and GET_STATE return their data;
ABORT ends a command that has not started, or a dark capture that runs; WARM_RESET needs its key, ends the commands
that have not started and waits for the others. -/
def Obligations.CompletionsIdentityAndAbort : Prop :=
  -- the packet leaves, and only it; a mailbox packet that waited is held in its place (R270)
  (∀ (r : PktRef) (k : Packet) (s : State), s.started r 0x0000 false = some k →
    Does (.nop r) s fun t =>
      let left := s.cmd.packets.filter (fun o => decide (o.ref ≠ r))
      t.cmd.packets = left ++ (if left.length < 64 then s.cmd.mail.toList else [])) ∧
  -- the mailbox takes STATUS, DETAIL and RESULT and is free again (R286)
  (∀ (r : PktRef) (k : Packet) (s : State), s.started r 0x0002 false = some k → r.tw = true →
    Does (.getState r) s fun t => t.cmd.busy = false ∧ t.fget R.cmdTwCtrlBusy = 0 ∧ t.fget R.cmdTwEvtDone = 1 ∧
      t.reg 0x0A1050 = BitVec.ofNat 32 (r.tag.toNat + 65536 * 2) ∧ bits (t.reg 0x0A1054) 0 16 = 0 ∧
      t.reg 0x0A1058 = BitVec.ofNat 32 s.stateBits ∧ t.dma = s.dma) ∧
  -- a completion of an enabled queue is handed to the queue's channel (R272)
  (∀ (r : PktRef) (k : Packet) (s : State), s.started r 0x0000 false = some k → r.tw = false → k.lost = false →
    (s.queue r.queue).enabled = true →
    ∃ v : State, exec (.nop r) s = .next (v.handClass 1 (Fin.ofNat 16 (s.queue r.queue).dc)
        { kind := .completion r k.irq, bytes := completionHead r 0x0000 0 0 (s.queue r.queue).sqHead 0 0 }) ∧
      v.dma = s.dma) ∧
  -- one of a queue that was reset is lost and counted (R287)
  (∀ (r : PktRef) (k : Packet) (s : State), s.started r 0x0000 false = some k → r.tw = false → k.lost = true →
    Does (.nop r) s fun t => t.dma = s.dma ∧
      t.fget (R.cmdQLost r.queue.val) = (s.fget (R.cmdQLost r.queue.val) + 1) % 2 ^ 32 ∧
      t.fget (R.cmdQEvtLostCpl r.queue.val) = 1) ∧
  (∀ (r : PktRef) (k : Packet) (s : State), s.started r 0x0001 false = some k →
    ∃ data, exec (.identify r) s = .next (s.complete r 0 0 0 data) ∧ data.length = 64 ∧
      data.take 4 = [0x7C, 0x1A, 0x32, 0x16]) ∧
  (∀ (r : PktRef) (k : Packet) (s : State), s.started r 0x0002 false = some k →
    exec (.getState r) s = .next (s.done r 0 0 (b2n s.rst.ready + 2 * b2n s.tnd.bank +
      4 * b2n (s.link.up && s.link.cxl) + 8 * b2n (s.tb.mode == .lost) + 16 * b2n (decide (0 < s.thm.level)) +
      32 * b2n s.thm.safe))) ∧
  -- a command that has not started, or one that may be ended after it has, ends with status 0x06 and detail 0x01 (R280)
  (∀ (r q : PktRef) (ends : Bool) (k o : Packet) (s : State), s.started r 0x0003 false = some k →
    q = { tw := k.par 2 1 / 8 % 2 == 1, queue := if k.par 2 1 / 8 % 2 = 1 then 0 else Fin.ofNat 8 (k.par 2 1),
          tag := BitVec.ofNat 16 (k.par 0 2) } →
    s.packet q = some o → s.cmd.mail.any (·.ref == q) = false → s.cmd.message.any (·.1 == q) = false →
    (o.stage = .fetched → s.cmd.capture.any (·.1 == q) = false →
      exec (.abort r ends) s = .next ((s.done q 6 1 0).done r 0 0 1)) ∧
    (ends = false → o.op = 0x0200 → o.stage = .running → s.cmd.capture.any (·.1 == q) = true →
      exec (.abort r ends) s = .next (({ s with cmd := { s.cmd with capture := none } }.done q 6 1 0).done r 0 0 1)) ∧
    -- one that completes in the same core cycle keeps its own completion
    (endable o.op = false ∨ ends = true → o.stage ≠ .fetched → exec (.abort r ends) s = .next (s.done r 0 0 0))) ∧
  (∀ (r q : PktRef) (ends : Bool) (k : Packet) (s : State), s.started r 0x0003 false = some k →
    q = { tw := k.par 2 1 / 8 % 2 == 1, queue := if k.par 2 1 / 8 % 2 = 1 then 0 else Fin.ofNat 8 (k.par 2 1),
          tag := BitVec.ofNat 16 (k.par 0 2) } →
    s.packet q = none → s.cmd.mail.any (·.ref == q) = false → exec (.abort r ends) s = .next (s.done r 0 0 0)) ∧
  (∀ (r : PktRef) (k : Packet) (s : State), s.started r 0x0004 false = some k → k.par 0 2 ≠ 0x5752 →
    exec (.warmReset r) s = .next (s.done r 2 1 0)) ∧
  -- with its key it ends what has not started, and completes alone; then the reset is due (R281)
  (∀ (r : PktRef) (k : Packet) (s : State), s.started r 0x0004 false = some k → k.par 0 2 = 0x5752 →
    s.cmd.packets = [k] → s.cmd.mail = none →
    exec (.warmReset r) s = .next ({ s with cmd := { s.cmd with closing := true } }.done r 0 0 0)) ∧
  (∀ (r : PktRef) (k : Packet) (s : State), s.started r 0x0004 false = some k → k.par 0 2 = 0x5752 →
    s.cmd.packets = [k] → s.cmd.mail = none → r.tw = true →
    Does (.warmReset r) s fun t => t.cmd.warmDue = some s.now ∧ t.cmd.packets = []) ∧
  (∀ (r : PktRef) (k o : Packet) (s : State), s.started r 0x0004 false = some k → k.par 0 2 = 0x5752 →
    s.cmd.packets = [k, o] → s.cmd.mail = none → o.ref ≠ r → o.stage = .fetched →
    exec (.warmReset r) s = .next
      (({ s with cmd := { s.cmd with closing := true } }.done o.ref 6 2 0).done r 0 0 0)) ∧
  (∀ (r : PktRef) (k o : Packet) (s : State), s.started r 0x0004 false = some k → k.par 0 2 = 0x5752 →
    (∀ p, p ∈ s.cmd.packets → p.stage ≠ .fetched) → o ∈ s.cmd.packets → o.ref ≠ r → s.cmd.mail = none →
    exec (.warmReset r) s = .next { s with cmd := { s.cmd with closing := true } })

/-- Opcodes that read and write registers and the staging copy. REG_READ, REG_WRITE, STAGE_WRITE, STAGE_LOAD,
FURNISH_READ and FURNISH_HIST act as accesses of the Tender's path; a range or a staging list that is not good has no
effect, and a REG_WRITE ends at the first entry outside the register map. -/
def Obligations.RegisterAndStagingOpcodes : Prop :=
  (∀ (r : PktRef) (bad : List Nat) (pins : BitVec 24) (same : Bool) (k : Packet) (s : State),
    s.started r 0x0005 false = some k → s.alone = true → readable (k.par 0 4) (k.par 4 2) = true →
    ∃ (b : List Byte) (u : State), exec (.regRead r bad pins same) s = .next (u.complete r 0 0 0 b) ∧
      b.length = 4 * k.par 4 2 ∧ Only [.regs, .link, .pen, .obs, .shadow, .out] s u ∧
      (bad = [] → Only [.pen, .shadow] s u) ∧
      -- one register, as it stands, or in the core cycle of other accesses as R302 has it read
      (bad = [] → k.par 4 2 = 1 → wideHigh (k.par 0 4) = none → s.shadowOf .tender (k.par 0 4) = none →
        k.par 0 4 ≠ 0x0C0018 → b = leBytes 4 (s.look { path := .tender, same := same } (k.par 0 4)).toNat)) ∧
  (∀ (r : PktRef) (bad : List Nat) (pins : BitVec 24) (same : Bool) (k : Packet) (s : State), s.alone = true →
    s.started r 0x0005 false = some k →
    readable (k.par 0 4) (k.par 4 2) = false → exec (.regRead r bad pins same) s = .next (s.done r 2 0 0)) ∧
  (∀ (r : PktRef) (same : Bool) (k : Packet) (off : Nat) (w : Word) (s : State), s.started r 0x0006 false = some k →
    s.alone = true → k.entries = [(off, w)] → off ≤ 0x10FFFF →
    exec (.regWrite r same) s = .next (if s.violates off w then (s.busWrite { path := .tender, same := same } off w).done r 9 1 1
      else (s.busWrite { path := .tender, same := same } off w).done r 0 0 0)) ∧
  (∀ (r : PktRef) (same : Bool) (k : Packet) (off : Nat) (w : Word) (rest : List (Nat × Word)) (s : State),
    s.started r 0x0006 false = some k → s.alone = true → k.entries = (off, w) :: rest → 0x10FFFF < off →
    exec (.regWrite r same) s = .next (s.done r 2 0x11 0)) ∧
  (∀ (r : PktRef) (same : Bool) (k : Packet) (o1 o2 : Nat) (w1 w2 : Word) (rest : List (Nat × Word)) (s : State),
    s.started r 0x0006 false = some k → s.alone = true → k.entries = (o1, w1) :: (o2, w2) :: rest → o1 ≤ 0x10FFFF → 0x10FFFF < o2 →
    exec (.regWrite r same) s = .next ((s.busWrite { path := .tender, same := same } o1 w1).done r 2 0x11 (if s.violates o1 w1 then 1 else 0))) ∧
  (∀ (r : PktRef) (same : Bool) (k : Packet) (off : Nat) (w : Word) (s : State), s.started r 0x0100 false = some k →
    s.alone = true → k.entries = [(off, w)] → off ≤ 0x10FFFF → stages off = true → s.violates off w = false →
    exec (.stageWrite r same) s = .next ((s.busWrite { path := .tender, same := same } off w).done r 0 0 1)) ∧
  -- a list with an entry that holds no RWF field writes nothing (R276)
  (∀ (r : PktRef) (same : Bool) (k : Packet) (s : State), s.started r 0x0100 false = some k → s.alone = true →
    k.entries.any (fun e => !stages e.1) = true → exec (.stageWrite r same) s = .next (s.done r 2 0x10 0)) ∧
  (∀ (r : PktRef) (same : Bool) (k : Packet) (off : Nat) (w : Word) (s : State), s.started r 0x0103 false = some k →
    s.alone = true → k.pairs = [(off, w)] → off ≤ 0x10FFFF → stages off = true → s.violates off w = false →
    exec (.stageLoad r same) s = .next ((s.busWrite { path := .tender, same := same } off w).done r 0 0 1)) ∧
  (∀ (r : PktRef) (same : Bool) (k : Packet) (s : State), s.started r 0x0103 false = some k → s.alone = true →
    k.pairs.any (fun e => !stages e.1) = true → exec (.stageLoad r same) s = .next (s.done r 2 0x10 0)) ∧
  (∀ (r : PktRef) (k : Packet) (s : State), s.started r 0x0102 false = some k → readable (k.par 4 4) (k.par 8 2) = true →
    exec (.furnishRead r) s = .next (s.complete r 0 0 0 (wordBytes ((List.range (k.par 8 2)).map fun i =>
      s.readAs (k.par 0 1 % 2 == 1) (k.par 4 4 + 4 * i))))) ∧
  (∀ (r : PktRef) (k : Packet) (s : State), s.started r 0x0102 false = some k →
    readable (k.par 4 4) (k.par 8 2) = false → exec (.furnishRead r) s = .next (s.done r 2 0 0)) ∧
  (∀ (r : PktRef) (k : Packet) (s : State), s.started r 0x0104 false = some k →
    exec (.furnishHist r) s = .next (s.complete r 0 0 0 (wordBytes ((List.range 32).map fun i =>
      s.readReg (0x000240 + 4 * i))))) ∧
  -- an uncorrectable codeword of result memory reads as all ones (R195)
  (∀ (r : PktRef) (pins : BitVec 24) (same : Bool) (k : Packet) (s : State), s.started r 0x0005 false = some k →
    s.alone = true → readable (k.par 0 4) (k.par 4 2) = true → k.par 4 2 = 1 → 0x800000 ≤ k.par 0 4 → wideHigh (k.par 0 4) = none →
    s.shadowOf .tender (k.par 0 4) = none →
    exec (.regRead r [k.par 0 4 / 32] pins same) s = .next ((s.raise R.stsEvtEccUe).complete r 0 0 0 [0xFF, 0xFF, 0xFF, 0xFF]))

/-- Dark-offset tables. A capture is refused for its operands or for a bank in use, else runs over the frames asked
for; its sums become entries in 1/16 DN; it times out; blocks written read back and no other block changes. -/
def Obligations.DarkTables : Prop :=
  (∀ (r : PktRef) (k : Packet) (s : State), s.started r 0x0200 false = some k → k.par 1 1 < 4 ∨ 12 < k.par 1 1 →
    exec (.darkCapture r) s = .next (s.done r 2 0 0)) ∧
  (∀ (r : PktRef) (k : Packet) (b : Fin 2) (s : State), s.started r 0x0200 false = some k → 4 ≤ k.par 1 1 → k.par 1 1 ≤ 12 →
    b ≠ s.fu.inForce.darkBank →
    (s.darkUsed b = true → exec (.darkCapture r) s = .next (s.done r 3 0x20 0)) ∧
    (s.darkUsed b = false → Does (.darkCapture r) s fun t =>
      t.capturing r = some (b.val, k.par 0 1 % 2, k.par 1 1, s.now) ∧ t.packet r = some { k with stage := .running })) ∧
  -- the sums become entries in 1/16 DN, rounded half up and clamped; RESULT counts the clipped ones (R429)
  (∀ (r : PktRef) (sums : List (Nat × Nat × Nat)) (rest : Nat) (b : Fin 2) (tab n at' : Nat) (s : State),
    s.capturing r = some (b.val, tab, n, at') → s.triggered at' = true → s.darkUsed b = false → sums = [] →
    ∃ (u : State), exec (.darkCaptureDone r sums rest) s = .next (u.done r 0 0
        (if (darkEntry n rest).2 then 32 * 16416 else 0)) ∧ u.cmd = { s.cmd with capture := none } ∧
      ∀ sb c, (u.cal.banks[b]).dark (tab == 1) sb c = clampInt 0 0xFFFF (roundHalfUp (16 * (rest : Int)) ((2 ^ n : Nat) : Int))) ∧
  (∀ (r : PktRef) (sums : List (Nat × Nat × Nat)) (rest : Nat) (b : Fin 2) (tab n at' : Nat) (s : State),
    s.capturing r = some (b.val, tab, n, at') →
    (s.triggered at' = false → exec (.darkCaptureDone r sums rest) s = .next s) ∧
    (s.triggered at' = true → s.darkUsed b = true → exec (.darkCaptureDone r sums rest) s = .next
      ({ s with cmd := { s.cmd with capture := none } }.done r 3 0x20 0))) ∧
  -- no trigger within 1 s (R276)
  (∀ (r : PktRef) (b tab n at' : Nat) (s : State), s.capturing r = some (b, tab, n, at') → s.triggered at' = false →
    at' + 1000000000 ≤ s.now →
    exec (.darkCaptureTimeout r) s = .next ({ s with cmd := { s.cmd with capture := none } }.done r 0x0D 0 0)) ∧
  (∀ (r : PktRef) (b tab n at' : Nat) (s : State), s.capturing r = some (b, tab, n, at') →
    s.triggered at' = true ∨ s.now < at' + 1000000000 → exec (.darkCaptureTimeout r) s = .next s) ∧
  -- a block written reads back (R79)
  (∀ (r : PktRef) (k : Packet) (b : Fin 2) (area : Bool) (s : State), s.started r 0x0201 false = some k →
    b = (if k.par 0 1 % 2 = 1 then 1 else 0) → area = (k.par 0 1 / 2 % 2 == 1) → k.par 1 1 < 32 →
    s.darkUsed b = false → k.halves.length = 16416 →
    ∃ (u : State), exec (.darkWrite r) s = .next (u.done r 0 0 0) ∧
      (∀ c, c < 16416 → (u.cal.banks[b]).dark area (k.par 1 1) c = ((k.halves[c]?.getD 0 : Nat) : Int)) ∧
      (∀ sb c, sb < 32 → c < 16416 → sb ≠ k.par 1 1 →
        (u.cal.banks[b]).dark area sb c = (s.cal.banks[b]).dark area sb c)) ∧
  (∀ (r : PktRef) (k : Packet) (s : State), s.started r 0x0201 false = some k →
    (31 < k.par 1 1 → exec (.darkWrite r) s = .next (s.done r 2 0 0)) ∧
    (k.par 1 1 < 32 → s.darkUsed (if k.par 0 1 % 2 = 1 then 1 else 0) = true →
      exec (.darkWrite r) s = .next (s.done r 3 0x20 0))) ∧
  (∀ (r : PktRef) (k : Packet) (b : Fin 2) (s : State), s.started r 0x0202 false = some k →
    b = (if k.par 0 1 % 2 = 1 then 1 else 0) → k.par 1 1 < 32 → k.par 4 2 ≠ 0 → k.par 2 2 + k.par 4 2 ≤ 16416 →
    tooLong r (2 * k.par 4 2) = false →
    exec (.darkRead r) s = .next (s.complete r 0 0 0 ((List.range (k.par 4 2)).flatMap fun i =>
      leBytes 2 (unsigned 16 ((s.cal.banks[b]).dark (k.par 0 1 / 2 % 2 == 1) (k.par 1 1) (k.par 2 2 + i))))))

/-- Calender tables and the slots of the calibration store. Tables are written unless the bank is in use and read
back; CAL_STORE starts a non-volatile write of the slot, or is inhibited; CAL_LOAD loads a slot that passes its CRC.
-/
def Obligations.CalenderTablesAndSlots : Prop :=
  (∀ (r : PktRef) (k : Packet) (s : State), s.started r 0x0203 false = some k →
    k.table.kind = 3 ∨ k.table.size < k.table.first + (chunks k.table.width k.block).length →
    exec (.tableWrite r) s = .next (s.done r 2 0 0)) ∧
  (∀ (r : PktRef) (k : Packet) (s : State), s.started r 0x0203 false = some k → k.table.kind ≠ 3 →
    k.table.first + (chunks k.table.width k.block).length ≤ k.table.size → s.tablesUsed k.table.bank = true →
    exec (.tableWrite r) s = .next (s.done r 3 0x20 0)) ∧
  -- flat-field gains written read back (R138)
  (∀ (r : PktRef) (k : Packet) (s : State), s.started r 0x0203 false = some k → k.table.kind = 1 →
    k.table.first + (chunks k.table.width k.block).length ≤ k.table.size → s.tablesUsed k.table.bank = false →
    ∃ (u : State), exec (.tableWrite r) s = .next (u.done r 0 0 0) ∧
      ∀ i, i < (chunks 2 k.block).length → (u.cal.banks[k.table.bank]).gain k.table.prod k.table.field (k.table.first + i) =
        ((((chunks 2 k.block).map ofLeBytes)[i]?.getD 0 : Nat) : Int)) ∧
  (∀ (r : PktRef) (k : Packet) (s : State), s.started r 0x0204 false = some k → k.table.kind ≠ 3 →
    k.table.first + k.par 4 2 ≤ k.table.size → tooLong r (k.table.width * k.par 4 2) = false →
    exec (.tableRead r) s = .next (s.complete r 0 0 0 ((List.range (k.par 4 2)).flatMap fun i =>
      (s.cal.banks[k.table.bank]).entry k.table (k.table.first + i)))) ∧
  (∀ (r : PktRef) (k : Packet) (s : State), s.started r 0x0204 false = some k →
    k.table.kind = 3 ∨ k.table.size < k.table.first + k.par 4 2 →
    exec (.tableRead r) s = .next (s.done r 2 0 0)) ∧
  -- CAL_STORE starts a non-volatile write of header, body, header (R383)
  (∀ (r : PktRef) (k : Packet) (b : Fin 2) (s : State), s.started r 0x0205 false = some k →
    b = (if k.par 0 1 % 2 = 1 then 1 else 0) → s.nvShut = false →
    Does (.calStore r) s fun t => t.tnd.jobs = s.tnd.jobs ++ [{ kind := .calStore r b, work :=
        [.calErase b, .calBody b { s.cal.banks[b] with fromSlot := false, bad := [] } (bodySteps - 1),
         .calHeader b] }] ∧
      t.packet r = some { k with stage := .running }) ∧
  (∀ (r : PktRef) (k : Packet) (s : State), s.started r 0x0205 false = some k → s.nvShut = true →
    Does (.calStore r) s fun t => Gone r s t ∧ t.tnd.jobs = s.tnd.jobs ∧ t.tnd.inhCnt = s.tnd.inhCnt + 1) ∧
  (∀ (r : PktRef) (k : Packet) (b : Fin 2) (s : State), s.started r 0x0206 false = some k →
    b = (if k.par 0 1 % 2 = 1 then 1 else 0) → s.tablesUsed b = false → s.darkUsed b = false →
    (s.tnd.slots[b]).crcOk = true →
    ∃ (u : State), exec (.calLoad r) s = .next (u.done r 0 0 0) ∧
      u.cal.banks[b] = { (s.tnd.slots[b]).bank with fromSlot := true, bad := [] }) ∧
  (∀ (r : PktRef) (k : Packet) (b : Fin 2) (s : State), s.started r 0x0206 false = some k →
    b = (if k.par 0 1 % 2 = 1 then 1 else 0) → s.tablesUsed b = true ∨ s.darkUsed b = true →
    exec (.calLoad r) s = .next (s.done r 3 0x20 0)) ∧
  -- a slot that fails its CRC leaves identity values (R383)
  (∀ (r : PktRef) (k : Packet) (b : Fin 2) (s : State), s.started r 0x0206 false = some k →
    b = (if k.par 0 1 % 2 = 1 then 1 else 0) → s.tablesUsed b = false → s.darkUsed b = false →
    (s.tnd.slots[b]).crcOk = false →
    ∃ (u : State), exec (.calLoad r) s = .next (u.done r 0x0B 1 0) ∧ u.cal.banks[b] = {})

/-- Opcodes of the web link. WL_STATUS, WL_PORT, WL_ROLE, WL_MEMBER, WL_ENUMERATE and WL_MESSAGE have the effects and
refusals the spec gives; a role or a leave completes at a ream boundary, an enumeration after 10 ms, a message when it
has been sent or timed out. -/
def Obligations.WebLinkOpcodes : Prop :=
  (∀ (r : PktRef) (k : Packet) (s : State), s.started r 0x0300 false = some k →
    ∃ data, exec (.wlStatus r) s = .next (s.complete r 0 0 0 data) ∧ data.length = 64 ∧
      data.take 4 = leBytes 4 (s.readReg 0x0B0008).toNat) ∧
  (∀ (r : PktRef) (k : Packet) (q : Fin 4) (s : State), s.started r 0x0301 false = some k → q = Fin.ofNat 4 (k.par 0 1) →
    (6 < k.par 1 1 → exec (.wlPort r) s = .next (s.done r 2 0 0)) ∧
    (3 ≤ k.par 1 1 → k.par 1 1 ≤ 5 → s.onLink = true → q = s.upPort →
      exec (.wlPort r) s = .next (s.done r 8 4 0)) ∧
    (k.par 1 1 ≤ 6 → k.par 1 1 < 3 ∨ k.par 1 1 = 6 ∨ s.onLink = false ∨ q ≠ s.upPort →
      let w := s.reg (0x0B0100 + 64 * q.val)
      exec (.wlPort r) s = .next ((s.busWrite { path := .tender } (0x0B0100 + 64 * q.val)
        (if k.par 1 1 = 0 then setBits w 0 1 1 else if k.par 1 1 = 1 then setBits w 0 1 0
         else if k.par 1 1 = 2 then setBits w 1 1 1 else if k.par 1 1 = 6 then setBits w 2 2 0
         else setBits w 2 2 (k.par 1 1 - 2))).done r 0 0 0))) ∧
  -- a role or a leave completes at the next ream boundary (R315, R329)
  (∀ (r : PktRef) (k : Packet) (s : State), s.started r 0x0302 false = some k → 2 < k.par 0 1 →
    exec (.wlRole r) s = .next (s.done r 2 0 0)) ∧
  (∀ (r : PktRef) (k : Packet) (w : Word) (s : State), s.started r 0x0302 false = some k → k.par 0 1 ≤ 2 →
    w = setBits (s.reg 0x0B0000) 0 2 (k.par 0 1) → s.violates 0x0B0000 w = false →
    ∃ u : State, exec (.wlRole r) s = .next (u.busWrite { path := .tender } 0x0B0000 w) ∧ u.regs = s.regs ∧
      u.cmd.atReam = s.cmd.atReam ++ [r] ∧ u.packet r = some { k with stage := .running }) ∧
  (∀ (r : PktRef) (k : Packet) (s : State), s.started r 0x0302 false = some k → k.par 0 1 ≤ 2 →
    s.violates 0x0B0000 (setBits (s.reg 0x0B0000) 0 2 (k.par 0 1)) = true →
    exec (.wlRole r) s = .next (s.done r 9 1 0)) ∧
  (∀ (r : PktRef) (k : Packet) (w : Word) (s : State), s.started r 0x0304 false = some k →
    w = setBits (s.reg 0x0B0000) 7 1 (1 - k.par 0 1 % 2) →
    s.violates 0x0B0000 w = false → ∃ u : State, exec (.wlMember r) s = .next (u.busWrite { path := .tender } 0x0B0000 w) ∧
      u.regs = s.regs ∧ u.cmd.atReam = s.cmd.atReam ++ [r] ∧ u.packet r = some { k with stage := .running }) ∧
  (∀ (r : PktRef) (k : Packet) (s : State), s.started r 0x0303 false = some k →
    (s.onLink = true → exec (.wlEnumerate r) s = .next (s.done r 8 2 0)) ∧
    (s.onLink = false → Does (.wlEnumerate r) s fun t => t.cmd.enum = some (r, s.now) ∧ t.cmd.entries = [s.ownEntry] ∧
      t.packet r = some { k with stage := .running })) ∧
  (∀ (r : PktRef) (at' : Nat) (s : State), s.cmd.enum = some (r, at') →
    (s.now < at' + 10000000 → exec .enumerationDone s = .next s) ∧
    (at' + 10000000 ≤ s.now →
      let u := { s with cmd := { s.cmd with enum := none, entries := [] } }
      exec .enumerationDone s = .next
        (if r.tw = true ∧ 512 < s.cmd.entries.length then u.done r 2 0xF5 0
         else u.complete r 0 0 s.cmd.entries.length
           ((s.cmd.entries.take 8192).flatMap fun e => leBytes 8 e.toNat)))) ∧
  (∀ s : State, s.cmd.enum = none → exec .enumerationDone s = .next s) ∧
  (∀ (r : PktRef) (k : Packet) (s : State), s.started r 0x0305 false = some k → s.positionPorts = [] →
    Does (.wlMessage r) s fun t => t.cmd.message = some (r, s.now) ∧ t.packet r = some { k with stage := .running }) ∧
  (∀ (r : PktRef) (k : Packet) (s : State), s.started r 0x0305 false = some k → s.positionPorts ≠ [] →
    Does (.wlMessage r) s fun t => t.cmd.message = none ∧ Gone r s t ∧ t.wl.msgNo = s.wl.msgNo + 1) ∧
  (∀ (r : PktRef) (at' : Nat) (s : State), s.cmd.message = some (r, at') → s.positionPorts = [] →
    (at' + 10000000 ≤ s.now → exec (.wlMessageTimeout r) s =
      .next ({ s with cmd := { s.cmd with message := none } }.done r 0x0D 0 0)) ∧
    (s.now < at' + 10000000 → exec (.wlMessageTimeout r) s = .next s)) ∧
  -- with a port it is sent after all (R332)
  (∀ (r : PktRef) (k : Packet) (at' : Nat) (s : State), s.cmd.message = some (r, at') → s.positionPorts ≠ [] →
    s.packet r = some k →
    ∃ u : State, exec (.wlMessageTimeout r) s = .next (u.done r 0 0 0) ∧ u.cmd = { s.cmd with message := none } ∧
      u.wl.msgNo = s.wl.msgNo + 1)

/-- Opcodes of the pin engines and the reel. PE_LOAD, PE_START, PE_STOP and PE_STATUS act on the engines; CUT,
CUT_CANCEL, REEL_FREEZE and REEL_LAYOUT act on the reel, with their refusals. -/
def Obligations.EngineCutAndReelOpcodes : Prop :=
  (∀ (r : PktRef) (same : Bool) (k : Packet) (e : Fin 8) (s : State), s.started r 0x0400 false = some k → s.alone = true →
    e = Fin.ofNat 8 (k.par 0 1) →
    k.par 2 1 ≠ 0 → k.par 1 1 % 32 + k.par 2 1 ≤ 32 → k.block.length = 4 * k.par 2 1 → s.storeOpen same e = true →
    ∃ u : State, exec (.peLoad r same) s = .next (u.done r 0 0 0) ∧ (u.eng e).epoch = (s.eng e).epoch + 1 ∧
      ∀ i : Fin 32, (u.eng e).store[i] =
        if k.par 1 1 % 32 ≤ i.val ∧ i.val < k.par 1 1 % 32 + k.par 2 1 then
          BitVec.ofNat 32 (ofLeBytes ((k.block.drop (4 * (i.val - k.par 1 1 % 32))).take 4))
        else (s.eng e).store[i]) ∧
  (∀ (r : PktRef) (same : Bool) (k : Packet) (e : Fin 8) (s : State), s.started r 0x0400 false = some k → s.alone = true →
    e = Fin.ofNat 8 (k.par 0 1) → k.par 2 1 ≠ 0 → k.par 1 1 % 32 + k.par 2 1 ≤ 32 → s.storeOpen same e = false →
    ∃ u : State, exec (.peLoad r same) s = .next (u.done r 3 0x30 0) ∧ u.fget (R.penEvtProgBusy e.val) = 1 ∧ u.pen = s.pen) ∧
  (∀ (r : PktRef) (same : Bool) (k : Packet) (s : State), s.started r 0x0400 false = some k → s.alone = true →
    k.par 2 1 = 0 ∨ 32 < k.par 1 1 % 32 + k.par 2 1 → exec (.peLoad r same) s = .next (s.done r 2 0 0)) ∧
  (∀ (r : PktRef) (same : Bool) (k : Packet) (s : State), s.started r 0x0401 false = some k → s.alone = true →
    exec (.peStart r same) s = .next ((s.penOp (BitVec.ofNat 8 (k.par 0 1)) (k.par 1 1 % 2)).done r 0 0 0)) ∧
  (∀ (r : PktRef) (same : Bool) (k : Packet) (s : State), s.started r 0x0402 false = some k → s.alone = true →
    exec (.peStop r same) s = .next ((s.penOp (BitVec.ofNat 8 (k.par 0 1)) 3).done r 0 0 0)) ∧
  -- the levels of the balls are those of its own read (R340)
  (∀ (r : PktRef) (pins : BitVec 24) (k : Packet) (s : State), s.started r 0x0403 false = some k →
    ∃ (data : List Byte) (u : State), exec (.peStatus r pins) s = .next (u.complete r 0 0 0 data) ∧
      u = s.samplePins pins ∧ data.length = 80 ∧ data.take 4 = leBytes 4 (u.readReg 0x0C0004).toNat ∧
      (data.drop 4).take 4 = leBytes 4 (u.readReg 0x0C0018).toNat) ∧
  (∀ (r : PktRef) (same : Bool) (k : Packet) (s : State), s.started r 0x0500 false = some k →
    (WC.ahead (BitVec.ofNat 48 (k.par 10 6)) (BitVec.ofNat 48 (k.par 4 6)) = false →
      exec (.cut r same) s = .next (s.done r 2 0x51 0)) ∧
    (WC.ahead (BitVec.ofNat 48 (k.par 10 6)) (BitVec.ofNat 48 (k.par 4 6)) = true →
      k.par 18 2 % 16384 < k.par 16 2 % 16384 ∨ 16415 < k.par 18 2 % 16384 →
      exec (.cut r same) s = .next (s.done r 2 0x52 0)) ∧
    (WC.ahead (BitVec.ofNat 48 (k.par 10 6)) (BitVec.ofNat 48 (k.par 4 6)) = true →
      k.par 16 2 % 16384 ≤ k.par 18 2 % 16384 → s.chClass (k.par 2 1 / 16 % 16) = 4 →
      k.par 18 2 % 16384 ≤ 16415 → 8 ≤ s.reel.live.length → exec (.cut r same) s = .next (s.done r 3 0 0)) ∧
    (WC.ahead (BitVec.ofNat 48 (k.par 10 6)) (BitVec.ofNat 48 (k.par 4 6)) = true →
      k.par 16 2 % 16384 ≤ k.par 18 2 % 16384 → s.chClass (k.par 2 1 / 16 % 16) ≠ 4 →
      k.par 18 2 % 16384 ≤ 16415 → exec (.cut r same) s = .next (s.done r 2 0x53 0)) ∧
    (WC.ahead (BitVec.ofNat 48 (k.par 10 6)) (BitVec.ofNat 48 (k.par 4 6)) = true →
      k.par 16 2 % 16384 ≤ k.par 18 2 % 16384 → s.chClass (k.par 2 1 / 16 % 16) = 4 →
      k.par 18 2 % 16384 ≤ 16415 → s.reel.live.length < 8 →
      Does (.cut r same) s fun t => t.packet r = some { k with stage := .accepted } ∧ ∃ c : Cut,
        t.reel.cuts = s.reel.cuts ++ [c] ∧ c.id = BitVec.ofNat 16 (k.par 0 2) ∧ c.by' = some r ∧ c.active = false ∧
        c.wcFrom = BitVec.ofNat 48 (k.par 4 6) ∧ c.wcTo = BitVec.ofNat 48 (k.par 10 6))) ∧
  (∀ (r : PktRef) (k : Packet) (s : State), s.started r 0x0500 true = some k →
    s.reel.live.find? (·.id = BitVec.ofNat 16 (k.par 0 2)) = none → exec (.cutCancel r) s = .next (s.done r 2 0x54 0)) ∧
  (∀ (r : PktRef) (k : Packet) (c : Cut) (s : State), s.started r 0x0500 true = some k →
    s.reel.live.find? (·.id = BitVec.ofNat 16 (k.par 0 2)) = some c →
    ∃ u : State, exec (.cutCancel r) s = .next (u.done r 0 0 0) ∧
      u.reel.cuts.any (fun o => o.id == c.id && o.cancel && o.recorded && o.todo.isEmpty) = true) ∧
  (∀ (r : PktRef) (k : Packet) (s : State), s.started r 0x0501 false = some k →
    ∃ u : State, exec (.reelFreeze r) s = .next (u.done r 0 0 0) ∧ u.fget R.relCtrlFreeze = k.par 0 1 % 2 ∧
      u.reel = s.reel) ∧
  (∀ (r : PktRef) (k : Packet) (s : State), s.started r 0x0502 false = some k →
    s.layoutBusy = true ∨ s.hdmComes = true ∨ s.cutComes = true →
    ∃ u : State, exec (.reelLayout r) s = .next (u.done r 3 0 2) ∧ u.reel = { s.reel with result := 2 }) ∧
  (∀ (r : PktRef) (k : Packet) (s : State), s.started r 0x0502 false = some k →
    s.layoutBusy = false → s.hdmComes = false → s.cutComes = false →
    (64 * min 64 (k.par 0 1 % 128) + 256 * (k.par 1 1 % 64) + 1024 ≤ 16384 →
      ∃ u : State, exec (.reelLayout r) s = .next (u.done r 0 0 1) ∧ u.reel.saveUnits = min 64 (k.par 0 1 % 128) ∧
        u.reel.memUnits = k.par 1 1 % 64 ∧ u.reel.dir = [] ∧ u.window = []) ∧
    (16384 < 64 * min 64 (k.par 0 1 % 128) + 256 * (k.par 1 1 % 64) + 1024 →
      ∃ u : State, exec (.reelLayout r) s = .next (u.done r 2 0x50 3) ∧ u.reel = { s.reel with result := 3 }))

/-- Opcodes of the log and the firmware. LOG_READ, LOG_NOTE, FW_WRITE, FW_ACTIVATE and FW_STATUS have the effects and
refusals the spec gives. -/
def Obligations.LogAndFirmwareOpcodes : Prop :=
  (∀ (r : PktRef) (k : Packet) (s : State), s.started r 0x0600 false = some k →
    (k.par 4 4 = 0 → exec (.logRead r) s = .next (s.done r 2 0 0)) ∧
    (k.par 4 4 ≠ 0 → tooLong r (k.par 4 4) = true → exec (.logRead r) s = .next (s.done r 2 0xF5 0)) ∧
    (k.par 4 4 ≠ 0 → tooLong r (k.par 4 4) = false → exec (.logRead r) s = .next (s.complete r 0 0 0
      ((List.range (k.par 4 4)).map fun i => s.tnd.logByte (k.par 0 4 + i))))) ∧
  -- a note becomes four records, and completes once they are written (R279); none while non-volatile writes are
  -- inhibited (R376, R385)
  (∀ (r : PktRef) (k : Packet) (s : State), s.started r 0x0601 false = some k →
    (s.nvShut = true → Does (.logNote r) s fun t => Gone r s t ∧ t.tnd.queue = s.tnd.queue ∧
      t.tnd.inhCnt = s.tnd.inhCnt + 1 ∧ t.tnd.inhList = s.tnd.inhList ++ [(0x0601, 1)]) ∧
    (s.nvShut = false → s.tnd.queue.length ≤ 1020 → s.tnd.notes.any (·.1 == r) = false →
      Does (.logNote r) s fun t => t.tnd.queue.length = s.tnd.queue.length + 4 ∧ t.tnd.lseq = s.tnd.lseq + 4 ∧
        t.packet r = some { k with stage := .running } ∧ (r, s.tnd.lseq) ∈ t.tnd.notes)) ∧
  (∀ (r : PktRef) (k : Packet) (b : Fin 2) (s : State), s.started r 0x0602 false = some k →
    b = (if k.par 0 1 % 2 = 1 then 1 else 0) →
    (s.tnd.recovery = false → b = (if s.tnd.bank then 1 else 0) → exec (.fwWrite r) s = .next (s.done r 9 3 0)) ∧
    (s.tnd.recovery = true ∨ b ≠ (if s.tnd.bank then 1 else 0) → k.par 4 4 % 32 ≠ 0 →
      exec (.fwWrite r) s = .next (s.done r 2 0xF3 0)) ∧
    (s.tnd.recovery = true ∨ b ≠ (if s.tnd.bank then 1 else 0) → k.par 4 4 % 32 = 0 →
      11534336 < k.par 4 4 + k.dlen → exec (.fwWrite r) s = .next (s.done r 2 0x62 0)) ∧
    (s.tnd.recovery = true ∨ b ≠ (if s.tnd.bank then 1 else 0) → k.par 4 4 % 32 = 0 →
      k.par 4 4 + k.dlen ≤ 11534336 →
      (∃ x, (s.fw b).must = some x ∧ k.par 4 4 ≠ x) ∨
        ((s.fw b).must = none ∧ k.par 4 4 % 4096 ≠ 0 ∧ k.par 4 4 ≠ (s.fw b).next) →
      exec (.fwWrite r) s = .next (s.done r 2 0x61 0)) ∧
    (s.tnd.recovery = true ∨ b ≠ (if s.tnd.bank then 1 else 0) → k.par 4 4 % 4096 = 0 →
      k.par 4 4 + k.dlen ≤ 11534336 → (s.fw b).must = none → s.nvShut = false → s.tnd.jobs = [] →
      Does (.fwWrite r) s fun t => t.packet r = some { k with stage := .running } ∧
        ∃ j, t.tnd.jobs = [j] ∧ j.kind = .fwWrite r b (k.par 4 4) k.dlen)) ∧
  (∀ (r : PktRef) (k : Packet) (s : State), s.started r 0x0603 false = some k →
    s.flag R.mgtFwCtrlActEn = false → exec (.fwActivate r) s = .next (s.done r 9 5 0)) ∧
  (∀ (r : PktRef) (k : Packet) (b : Fin 2) (s : State), s.started r 0x0603 false = some k →
    b = (if k.par 0 1 % 2 = 1 then 1 else 0) → s.flag R.mgtFwCtrlActEn = true → s.nvShut = false →
    ((s.verify b).1 ≠ 0 → exec (.fwActivate r) s = .next ((s.verify b).2.done r 0x0C (s.verify b).1 0)) ∧
    ((s.verify b).1 = 0 → Does (.fwActivate r) s fun t => t.packet r = some { k with stage := .running } ∧
      t.tnd.jobs = s.tnd.jobs ++ [{ kind := .fwActivate r b, work := [.bootErase, .bootProgram (b == 1) true false 0] }])) ∧
  -- under an inhibit it has no effect, its verdict included (R285)
  (∀ (r : PktRef) (k : Packet) (s : State), s.started r 0x0603 false = some k →
    s.flag R.mgtFwCtrlActEn = true → s.nvShut = true →
    Does (.fwActivate r) s fun t => Gone r s t ∧ t.tnd.banks = s.tnd.banks ∧ t.tnd.jobs = s.tnd.jobs ∧
      t.tnd.inhCnt = s.tnd.inhCnt + 1) ∧
  (∀ (r : PktRef) (k : Packet) (s : State), s.started r 0x0604 false = some k →
    ∃ data, exec (.fwStatus r) s = .next (s.complete r 0 0 0 data) ∧ data.length = 64 ∧
      data.take 2 = [BitVec.ofNat 8 (b2n s.tnd.bank), BitVec.ofNat 8 (b2n s.tnd.boot.pref)])

/-- Opcodes of the thermal manager and of observation. THM_STATUS, THM_LIMITS, POWER_STATUS, OBS_COUNTERS and
OBS_TRACE return what the registers, the counters and the trace ring hold, and THM_LIMITS writes them unless locked.
-/
def Obligations.StatusAndObservationOpcodes : Prop :=
  (∀ (r : PktRef) (k : Packet) (s : State), s.started r 0x0700 false = some k →
    ∃ data, exec (.thmStatus r) s = .next (s.complete r 0 0 0 data) ∧ data.length = 64 ∧
      data.take 4 = leBytes 4 (s.readReg 0x0E0020).toNat ∧ data[24]? = some (BitVec.ofNat 8 s.felt.ceil)) ∧
  (∀ (r : PktRef) (k : Packet) (s : State), s.started r 0x0701 false = some k →
    k.par 0 1 < 80 ∨ 105 < k.par 0 1 ∨ k.par 1 1 < 1 ∨ 64 < k.par 1 1 →
    exec (.thmLimits r) s = .next (s.done r 2 0x70 0)) ∧
  (∀ (r : PktRef) (k : Packet) (w : Word) (s : State), s.started r 0x0701 false = some k →
    80 ≤ k.par 0 1 → k.par 0 1 ≤ 105 → 1 ≤ k.par 1 1 → k.par 1 1 ≤ 64 →
    w = setBits (setBits (s.reg 0x0E0000) 0 8 (k.par 0 1)) 8 7 (k.par 1 1) →
    exec (.thmLimits r) s = .next (if s.violates 0x0E0000 w then s.done r 9 1 0
      else (s.busWrite { path := .tender } 0x0E0000 w).done r 0 0 0)) ∧
  (∀ (r : PktRef) (k : Packet) (s : State), s.started r 0x0702 false = some k →
    ∃ data, exec (.powerStatus r) s = .next (s.complete r 0 0 0 data) ∧ data.length = 64 ∧
      (s.thm.rails.length = 14 → data.take 28 = s.thm.rails.flatMap fun v => leBytes 2 (min 0xFFFF v))) ∧
  (∀ (r : PktRef) (k : Packet) (s : State), s.started r 0x0800 false = some k →
    (255 < k.par 0 2 ∨ k.par 2 2 = 0 ∨ 256 < k.par 0 2 + k.par 2 2 →
      exec (.obsCounters r) s = .next (s.done r 2 0 0)) ∧
    (k.par 0 2 ≤ 255 → k.par 2 2 ≠ 0 → k.par 0 2 + k.par 2 2 ≤ 256 →
      exec (.obsCounters r) s = .next (s.complete r 0 0 0 ((List.range (k.par 2 2)).flatMap fun i =>
        leBytes 8 ((mget (k.par 0 2 + i) s.obs.cnt).getD 0).toNat)))) ∧
  (∀ (r : PktRef) (k : Packet) (s : State), s.started r 0x0801 false = some k →
    (k.par 4 4 = 0 ∨ 4096 < k.par 4 4 → exec (.obsTrace r) s = .next (s.done r 2 0 0)) ∧
    (k.par 4 4 ≠ 0 → k.par 4 4 ≤ 4096 → tooLong r (16 * k.par 4 4) = true →
      exec (.obsTrace r) s = .next (s.done r 2 0xF5 0)) ∧
    (k.par 4 4 ≠ 0 → k.par 4 4 ≤ 4096 → tooLong r (16 * k.par 4 4) = false →
      exec (.obsTrace r) s = .next (s.complete r 0 0 0 ((List.range (k.par 4 4)).flatMap fun i =>
        s.obs.slot (k.par 0 4 + i)))))

/-- The Tender sleeps, restarts and keeps its log. The Tender sleeps when it has been idle for SLEEP_IDLE; the
watchdog and an SRAM error restart it and end the commands under way; alarms become records in their order; records go
to the log, which erases ahead; loss of the host freezes the reel if asked to. -/
def Obligations.TenderSleepsRestartsAndLogs : Prop :=
  (∀ s : State, s.tnd.up = true → s.tnd.asleep = false → s.fget R.mgtCtrlSleepIdle ≠ 0 → s.tenderIdle = true →
    s.tnd.idleFrom + 1000000 * s.fget R.mgtCtrlSleepIdle ≤ s.now →
    exec .tenderSleep s = .next { s with tnd := { s.tnd with asleep := true } }) ∧
  (∀ s : State, s.tenderIdle = false → exec .tenderSleep s = .next s) ∧
  -- commands under way end with status 0x0E, all others stay (R374)
  (∀ s : State, s.tnd.up = true →
    Does .watchdogExpiry s fun t => t.tnd.up = false ∧ t.tnd.restart = some 1 ∧ t.tnd.downAt = s.now ∧
      -- MANAGEMENT keeps its last values, and a waiting WARM_RESET is no longer waited for (R299, R374)
      t.tnd.copy = s.mgtMirror ∧ t.tnd.notes = [] ∧ t.cmd.closing = false ∧
      (∀ m, m ∈ s.cmd.packets → m.holdsClass = true → m.fast = false → Gone m.ref s t) ∧
      ∀ o, o ∈ s.cmd.packets →
        (∀ m, m ∈ s.cmd.packets → m.ref = o.ref → m.holdsClass = false ∨ m.fast = true) → o ∈ t.cmd.packets) ∧
  (∀ (hit : Option (Nat × BitVec 256)) (s : State), s.tnd.up = true →
    Does (.tenderSramError hit) s fun t => t.tnd.up = false ∧ t.tnd.restart = some 2 ∧ t.tnd.downAt = s.now ∧
      t.tnd.queue = (match hit with
        | some (i, m) => s.tnd.queue.mapIdx fun j r => if j = i then r ^^^ m else r
        | none => s.tnd.queue) ∧
      (∀ m, m ∈ s.cmd.packets → m.holdsClass = true → m.fast = false → Gone m.ref s t) ∧
      ∀ o, o ∈ s.cmd.packets →
        (∀ m, m ∈ s.cmd.packets → m.ref = o.ref → m.holdsClass = false ∨ m.fast = true) → o ∈ t.cmd.packets) ∧
  (∀ (hit : Option (Nat × BitVec 256)) (s : State), s.tnd.up = false →
    exec .watchdogExpiry s = .next s ∧ exec (.tenderSramError hit) s = .next s) ∧
  -- records whose CRC fails are discarded as it starts again (R378)
  (∀ (cause : Nat) (s : State), s.tnd.restart = some cause →
    Does .tenderRestartDone s fun t => t.tnd.up = true ∧ t.tnd.restart = none ∧ t.tnd.downs = [] ∧ t.tnd.advDue = false ∧
      (∃ l, t.tnd.queue = s.tnd.queue.filter recordGood ++ l ∧ l.length ≤ 2 + s.tnd.downs.length) ∧
      -- the start is counted in the copy of the boot record that is not in force (R372), or waits under an inhibit (R385)
      (s.nvShut = false → t.tnd.boots[s.tnd.spare] =
        some { s.tnd.boot with seq := s.tnd.boot.seq + 1, count := s.tnd.boot.count + 1 }) ∧
      (s.nvShut = true → t.tnd.boots = s.tnd.boots ∧ ∃ j, t.tnd.jobs = s.tnd.jobs ++ [j] ∧ j.kind = .boot false) ∧
      -- the resident section is loaded anew where the bank verifies (R374, R379), else recovery mode follows
      (s.tnd.recovery = false → (s.verify (pickBank s.tnd.bank)).1 = 0 →
        t.tnd.resident = (s.fw (pickBank s.tnd.bank)).resident ∧ t.tnd.recovery = false) ∧
      (s.tnd.recovery = false → (s.verify (pickBank s.tnd.bank)).1 ≠ 0 → t.tnd.recovery = true)) ∧
  (∀ s : State, s.tnd.restart = none → exec .tenderRestartDone s = .next s) ∧
  -- the oldest alarm posted becomes a record in the queue (R377, R378)
  (∀ (a : Posted) (rest : List Posted) (s : State), s.tnd.posted = a :: rest → s.tnd.up = true → s.tnd.asleep = false →
    s.flag R.mgtCtrlAlarmEn = false → s.tnd.queue.length < 1024 →
    Does .alarmRecord s fun t => t.tnd.posted = rest ∧ ∃ rec', t.tnd.queue = s.tnd.queue ++ [rec'] ∧
      bits rec' 0 32 = s.tnd.lseq.toNat ∧ bits rec' 96 16 = a.code.toNat) ∧
  -- and, where alarms are handed over, a unit of the alarm channel (R377)
  (∀ (a : Posted) (rest : List Posted) (s : State), s.tnd.posted = a :: rest → s.tnd.up = true → s.tnd.asleep = false →
    s.flag R.mgtCtrlAlarmEn = true → a.hand = true → s.chClass (Fin.ofNat 16 (s.fget R.mgtCtrlAlarmDc)).val = 0 →
    s.flag R.wlkCtrlAlarmUp = false → s.tnd.queue.length < 1024 →
    ∃ (v : State) (rec' : BitVec 256), exec .alarmRecord s = .next (v.handUnit (Fin.ofNat 16 (s.fget R.mgtCtrlAlarmDc))
        { kind := .alarm, bytes := leBytes 32 rec'.toNat }) ∧
      v.tnd.posted = rest ∧ v.tnd.queue = s.tnd.queue ++ [rec'] ∧ v.dma = s.dma) ∧
  (∀ s : State, s.tnd.posted = [] ∨ s.tnd.up = false ∨ s.tnd.asleep = true → exec .alarmRecord s = .next s) ∧
  (∀ (r : BitVec 256) (rest : List (BitVec 256)) (s : State), s.tnd.queue = r :: rest → s.tnd.up = true →
    s.tnd.inhibit = false → s.tnd.head % 128 ≠ 0 ∨ s.tnd.erased ≠ 0 →
    Does .logWrite s fun t => mget s.tnd.head t.tnd.log = some r ∧ t.tnd.head = (s.tnd.head + 1) % 131072 ∧
      (s.tnd.refused = [] → t.tnd.queue = rest ∧
        -- a LOG_NOTE completes once none of its four records waits (R279)
        ∀ p l, (p, l) ∈ s.tnd.notes → (∀ x, x ∈ rest → 4 ≤ (BitVec.ofNat 32 (bits x 0 32) - l).toNat) → Gone p s t)) ∧
  (∀ s : State, s.tnd.inhibit = true ∨ s.tnd.queue = [] ∨ s.tnd.up = false ∨
      (s.tnd.head % 128 = 0 ∧ s.tnd.erased = 0) →
    exec .logWrite s = .next s) ∧
  (∀ s : State, s.tnd.up = true → s.tnd.inhibit = false →
    (s.tnd.erased < (if s.tnd.head % 128 = 0 then 9 else 8) → Does .logSectorErase s fun t => t.tnd.erased = s.tnd.erased + 1 ∧ t.tnd.head = s.tnd.head ∧
      t.tnd.log.all (fun e => e.1 / 128 != (ceilDiv s.tnd.head 128 + s.tnd.erased) % 1024) = true) ∧
    ((if s.tnd.head % 128 = 0 then 9 else 8) ≤ s.tnd.erased → exec .logSectorErase s = .next s)) ∧
  (∀ (at' : Nat) (s : State), s.tnd.lostAt = some at' → s.tnd.up = true →
    s.flag R.mgtCtrlHostlossFreeze = true → s.fget R.mgtHostTimeout ≠ 0 → s.link.up = false →
    at' + 1000000000 * s.fget R.mgtHostTimeout ≤ s.now →
    Does .hostLossFreeze s fun t => t.tnd.lostAt = none ∧ t.fget R.relCtrlFreeze = 1 ∧ t.tnd.asleep = false)

/-- Non-volatile writes. A supply failure inhibits writes and ends those in progress with status 0x07; recovery ends
the inhibition; steps of a write follow one another to its completion; ADVANCE burns a fuse for each step ahead;
damaged tables are reloaded. -/
def Obligations.NonVolatileWrites : Prop :=
  -- a supply failure inhibits writes; those in progress end with status 0x07 (R385, R386)
  (∀ (aon same : Bool) (s : State), s.tnd.inhibit = false → s.tnd.jobs = [] →
    Does (.nvInhibit aon same) s fun t => t.tnd.inhibit = true ∧ t.tnd.inhAt = s.now ∧ t.tnd.inhAon = aon ∧
      t.fget R.mgtEvtInhibit = 1 ∧ t.tnd.queue = s.tnd.queue ∧
      t.tnd.inhCnt = s.tnd.inhCnt + BitVec.ofNat 32 s.tnd.queue.length ∧
      -- LOG_NOTEs under way end, their records stay queued (R285, R386)
      t.tnd.notes = [] ∧ ∀ e, e ∈ s.tnd.notes → Gone e.1 s t) ∧
  (∀ (aon same : Bool) (j : NvJob) (p : PktRef) (s : State), s.tnd.inhibit = false → s.tnd.jobs = [j] →
    j.kind.packet = some p →
    aon = true ∨ s.fget R.mgtHoldup < 200 ∨ (∃ w ws, j.work = w :: ws ∧ w.erases = true) →
    Does (.nvInhibit aon same) s fun t => t.tnd.inhibit = true ∧ t.tnd.jobs = [] ∧ Gone p s t ∧
      t.tnd.inhCnt = s.tnd.inhCnt + BitVec.ofNat 32 s.tnd.queue.length + 1) ∧
  -- the Tender's own rewrite of the boot record starts over once writes are possible again (R372, R385)
  (∀ (aon same : Bool) (c : Bool) (w : NvWork) (ws : List NvWork) (s : State), s.tnd.inhibit = false →
    s.tnd.jobs = [{ kind := .boot c, work := w :: ws }] → aon = true →
    Does (.nvInhibit aon same) s fun t => t.tnd.boots = s.tnd.boots ∧
      t.tnd.jobs = [{ kind := .boot c, work := .bootErase :: (w :: ws).filter fun v => !v.erases }]) ∧
  -- records that waited are marked DEFERRED (R375, R385)
  (∀ s : State, s.tnd.inhibit = true →
    Does .nvRecovery s fun t => t.tnd.inhibit = false ∧ t.tnd.inhList = [] ∧ t.fget R.mgtEvtRecovered = 1 ∧
      ∃ l, t.tnd.queue = s.tnd.queue.map deferRecord ++ l ∧ l.length ≤ s.tnd.inhList.length + 1) ∧
  (∀ s : State, s.tnd.inhibit = false → exec .nvRecovery s = .next s) ∧
  (∀ (reads : Bool) (j : NvJob) (w : NvWork) (ws : List NvWork) (rest : List NvJob) (s : State),
    s.tnd.jobs = j :: rest → j.work = w :: ws → w.after ws ≠ [] → s.tnd.inhibit = false → s.tnd.up = true →
    Does (.nvWriteStepDone reads) s fun t => t.tnd.jobs = { j with work := w.after ws } :: rest ∧
      -- a fuse counts if it reads blown with margin, and none beyond the image's counter (R382)
      (∀ top, w = .fuse top → t.tnd.fuses = if reads = true ∧ s.tnd.fuses < top then s.tnd.fuses + 1 else s.tnd.fuses) ∧
      -- a boot record is erased and programmed in the copy that is not in force (R372)
      (w = .bootErase → t.tnd.boots[s.tnd.spare] = none) ∧
      (∀ pref trial tried n, w = .bootProgram pref trial tried n → t.tnd.boots[s.tnd.spare] =
        some { seq := s.tnd.boot.seq + 1, pref := pref, trial := trial, tried := tried
               count := s.tnd.boot.count + BitVec.ofNat 32 n })) ∧
  (∀ (reads : Bool) (p : PktRef) (b : Fin 2) (off len : Nat) (bytes : List Byte) (s : State),
    s.tnd.jobs = [{ kind := .fwWrite p b off len, work := [.fwProgram b off bytes] }] → s.tnd.inhibit = false →
    s.tnd.up = true →
    Does (.nvWriteStepDone reads) s fun t => t.tnd.jobs = [] ∧ Gone p s t ∧ (t.fw b).next = off + len ∧
      (t.fw b).must = none) ∧
  (∀ (reads : Bool) (s : State), s.tnd.inhibit = true ∨ s.tnd.up = false ∨ s.tnd.jobs = [] →
    exec (.nvWriteStepDone reads) s = .next s) ∧
  -- ADVANCE burns a fuse for each step of the rollback counter that lies ahead (R382)
  (∀ (via : Via) (s : State), s.mayWrite via.path 0x0F0100 = true → s.alone = true → s.flag R.mgtFwCtrlAdvEn = true → s.tnd.trial = false →
    s.tnd.recovery = false → s.tnd.up = true → s.nvShut = false →
    s.tnd.fuses < min 64 (s.fw (if s.tnd.bank then 1 else 0)).rollback →
    Does (.advance via) s fun t => ∃ j, t.tnd.jobs = s.tnd.jobs ++ [j] ∧ j.kind = .advance ∧
      (j.work.filter fun w => match w with | .fuse _ => true | _ => false).length =
        min 64 (s.fw (if s.tnd.bank then 1 else 0)).rollback - s.tnd.fuses) ∧
  (∀ (via : Via) (s : State), s.mayWrite via.path 0x0F0100 = true → s.alone = true →
    s.tnd.up = true → s.flag R.mgtFwCtrlAdvEn = false ∨ s.tnd.trial = true ∨ s.tnd.recovery = true →
    Does (.advance via) s fun t => t.fget R.mgtEvtAdvDenied = 1 ∧ t.tnd.jobs = s.tnd.jobs ∧ t.tnd.fuses = s.tnd.fuses) ∧
  -- in a restart of the Tender it stays pending (R295)
  (∀ (via : Via) (s : State), s.mayWrite via.path 0x0F0100 = true → s.alone = true → s.tnd.up = false →
    Does (.advance via) s fun t => t.tnd.advDue = true ∧ t.tnd.jobs = s.tnd.jobs ∧
      t.fget R.mgtEvtAdvDenied = s.fget R.mgtEvtAdvDenied) ∧
  (∀ (b : Fin 2) (rest : List (Sum (Fin 2) (BitVec 16))) (s : State), s.tnd.up = true →
    s.tnd.reload = .inl b :: rest → (s.cal.banks[b]).fromSlot = true → (s.tnd.slots[b]).crcOk = true →
    Does .tableReload s fun t => t.tnd.reload = rest ∧
      t.cal.banks[b] = { (s.tnd.slots[b]).bank with fromSlot := true, bad := [] } ∧ t.fget R.mgtEvtReload = 1) ∧
  -- a bank written since, or a slot that fails its CRC, is not reloaded (R384)
  (∀ (b : Fin 2) (rest : List (Sum (Fin 2) (BitVec 16))) (s : State), s.tnd.up = true →
    s.tnd.reload = .inl b :: rest → (s.cal.banks[b]).fromSlot = false ∨ (s.tnd.slots[b]).crcOk = false →
    Does .tableReload s fun t => t.tnd.reload = rest ∧ t.cal = s.cal) ∧
  (∀ s : State, s.tnd.reload = [] → exec .tableReload s = .next s) ∧
  (∀ (id : BitVec 16) (rest : List (Sum (Fin 2) (BitVec 16))) (s : State), s.tnd.up = true →
    s.tnd.reload = .inr id :: rest →
    Does .tableReload s fun t => t.tnd.reload = rest ∧ t.cal.badCoef = s.cal.badCoef.filter (fun e => decide (e.1 ≠ id)) ∧
      t.fget R.mgtEvtReload = 1)

/-- Ports come up, go down, and are commanded. A training port comes up or is absent; symbol lock is lost and
regained; a port without lock for 2 µs goes down; idle ports wake; RETRAIN, the PRBS test and the receive pop have
their effects. -/
def Obligations.PortsAndTheirCommands : Prop :=
  (∀ (p : Fin 4) (partner : BitVec 16) (pp pol : BitVec 2) (sw sec : Bool) (s : State), (s.port p).state = .training →
    Does (.portUp p partner pp pol sw sec) s fun t => (t.port p).state = .up ∧ (t.port p).lock = 3 ∧
      (t.port p).partner = partner ∧ (t.port p).partnerPort = pp ∧ (t.port p).partnerOk = true ∧
      (t.port p).pol = pol ∧ (t.port p).swapped = sw) ∧
  (∀ (p : Fin 4) (partner : BitVec 16) (pp pol : BitVec 2) (sw sec : Bool) (s : State), (s.port p).state ≠ .training →
    exec (.portUp p partner pp pol sw sec) s = .next s ∧ exec (.portAbsent p) s = .next s) ∧
  (∀ (p : Fin 4) (s : State), (s.port p).state = .training →
    Does (.portAbsent p) s fun t => (t.port p).state = .absent ∧ ∀ q, q ≠ p → t.port q = s.port q) ∧
  (∀ (p : Fin 4) (s : State), (s.port p).state = .absent → (s.port p).trainAt + 10000000 ≤ s.now →
    s.clk.xtalOk = true →
    Does (.absentPortRetry p) s fun t => (t.port p).state = .training ∧ (t.port p).trainAt = s.now ∧
      -- it sends its training sets (R312)
      t.out = s.out ++ [.trainSets false p.val 0 (BitVec.ofNat 16 (s.fget R.wlkHeadId)) (s.secPort == some p),
        .trainSets false p.val 1 (BitVec.ofNat 16 (s.fget R.wlkHeadId)) (s.secPort == some p)]) ∧
  -- not without the crystal (R362)
  (∀ (p : Fin 4) (s : State), (s.port p).state = .absent → s.clk.xtalOk = false →
    Does (.absentPortRetry p) s fun t => t.wl.ports = s.wl.ports) ∧
  (∀ (p : Fin 4) (s : State), (s.port p).state ≠ .absent ∨ s.now < (s.port p).trainAt + 10000000 →
    exec (.absentPortRetry p) s = .next s) ∧
  (∀ (p : Fin 4) (lane : Fin 2) (s : State), (s.port p).state = .up →
    (s.port p).partnerSec = false ∨ (s.port p).lock &&& ~~~((1 : BitVec 2) <<< lane.val) ≠ 0 →
    s.secPort = none ∨ s.wl.onSec = true ∨ p ≠ s.upPort →
    Does (.symbolLockLoss p lane) s fun t => t.port p = { s.port p with
      lock := (s.port p).lock &&& ~~~((1 : BitVec 2) <<< lane.val)
      lossAt := some ((s.port p).lossAt.getD s.now) }) ∧
  -- the primary loses lock where there is a secondary: failover is requested (R324)
  (∀ (p q : Fin 4) (lane : Fin 2) (s : State), (s.port p).state = .up → (s.port p).partnerSec = false →
    s.secPort = some q → s.wl.onSec = false → p = s.upPort → (s.port q).state = .idle →
    Does (.symbolLockLoss p lane) s fun t => t.wl.failing = some q.val ∧ (t.port q).state = .up ∧
      (t.port q).lock = 3) ∧
  (∀ (p : Fin 4) (lane : Fin 2) (s : State), (s.port p).state ≠ .up → exec (.symbolLockLoss p lane) s = .next s) ∧
  -- a port whose partner uses it as a secondary follows it into idle once both lanes are silent (R324; assumption 76,
  -- DESIGN CHOICE)
  (∀ (p : Fin 4) (lane : Fin 2) (s : State), (s.port p).state = .up → (s.port p).partnerSec = true →
    (s.port p).lock &&& ~~~((1 : BitVec 2) <<< lane.val) = 0 →
    Does (.symbolLockLoss p lane) s fun t => (t.port p).state = .idle ∧ (t.port p).lock = 0) ∧
  (∀ (p : Fin 4) (lane : Fin 2) (at' : Nat) (s : State), (s.port p).state = .up → (s.port p).lossAt = some at' →
    s.now < at' + 2000 →
    Does (.symbolLockGain p lane) s fun t => (t.port p).lock = (s.port p).lock ||| ((1 : BitVec 2) <<< lane.val) ∧
      ((t.port p).lock = 3 → (t.port p).lossAt = none)) ∧
  (∀ (p : Fin 4) (at' : Nat) (s : State), (s.port p).state = .up → (s.port p).lossAt = some at' →
    at' + 2000 ≤ s.now →
    Does (.portDown p) s fun t =>
      (s.clk.xtalOk = true → (t.port p).state = .training ∧ (t.port p).lock = 0 ∧ (t.port p).partnerOk = false) ∧
      t.fget R.wlkEvtPortDown = 1 ∧ t.fget (R.wlkPDown p.val) = (s.fget (R.wlkPDown p.val) + 1) % 2 ^ (R.wlkPDown p.val).n) ∧
  (∀ (p : Fin 4) (s : State), (s.port p).state = .idle →
    Does (.electricalIdleExit p) s fun t => (t.port p).state = .up ∧ (t.port p).lock = 3) ∧
  (∀ (q : Fin 4) (s : State), s.secPort = some q → (s.port q).state = .idle → s.wl.onSec = false →
    -- once a second (R324)
    ((s.port q).outAt.all (fun a => decide (a + 1000000000 ≤ s.now)) = true →
      Does .secondaryLambdaCheck s fun t => (t.port q).state = .up ∧ (t.port q).lock = 3 ∧ (t.port q).echoDue = true ∧
        (t.port q).outAt = some s.now) ∧
    ((s.port q).outAt.all (fun a => decide (a + 1000000000 ≤ s.now)) = false →
      exec .secondaryLambdaCheck s = .next s)) ∧
  (∀ (via : Via) (p : Fin 4) (s : State), s.mayWrite via.path (0x0B0100 + 64 * p.val) = true → s.alone = true →
    bitOf (s.reg (0x0B0100 + 64 * p.val)) 0 = true → bits (s.reg (0x0B0100 + 64 * p.val)) 2 2 = 0 →
    s.clk.xtalOk = true →
    Does (.retrain via p) s fun t => (t.port p).state = .training ∧ (t.port p).trainAt = s.now) ∧
  (∀ (via : Via) (p : Fin 4) (mode lock : BitVec 2) (errs : List Nat) (s : State), 
    s.mayWrite via.path (0x0B0100 + 64 * p.val) = true → s.alone = true → bitOf (s.reg (0x0B0100 + 64 * p.val)) 0 = true → mode ≠ 0 →
    (s.onLink && p == s.upPort) = false →
    Does (.wlPrbsTest via p mode lock errs) s fun t => (t.port p).state = .test ∧ (t.port p).prbsLock = lock ∧
      bits (t.reg (0x0B0100 + 64 * p.val)) 2 2 = mode.toNat) ∧
  (∀ (via : Via) (s : State), s.mayWrite via.path 0x0B1044 = true → s.alone = true →
    exec (.rxPop via) s = .next { s with wl := { s.wl with fifo := s.wl.fifo.drop 1 } })

/-- Frames and the latency of a link. An up port sends its position packet with the chunk of the highest rank, a head
too deep sends no valid packet; echoes are sent, answered and measured. -/
def Obligations.FramesAndLatency : Prop :=
  -- an up port sends its position packet and the chunk of the highest rank (R318, R330)
  (∀ (p : Fin 4) (s : State), (s.port p).state = .up → s.checkOver p = false → s.wl.hops ≤ 16 →
    Does (.frameTransmit p) s fun t => (t.port p).frames = (s.port p).frames + 1 ∧
      ∃ c, t.out = s.out ++ [.frame p.val s.posPacket c] ∧ ((s.port p).chunks = [] → c = chunkOf []) ∧
        ∀ k d, topChunk (s.port p).chunks = some (k, d) →
          (t.port p).chunks = (s.port p).chunks.erase (k, d) ∧
          c = if chunkType d = 2 then echoChunk (16 * s.now) else d) ∧
  -- a head that is too deep sends no valid packet (R316)
  (∀ (p : Fin 4) (s : State), (s.port p).state = .up → s.checkOver p = false → 16 < s.wl.hops →
    Does (.frameTransmit p) s fun t => t.free = s.free + 6 ∧ ∃ c, t.out = s.out ++ [.frame p.val s.noPacket c]) ∧
  -- a secondary that has measured λ for 20 µs idles again (R324)
  (∀ (p : Fin 4) (s : State), (s.port p).state = .up → s.checkOver p = true →
    Does (.frameTransmit p) s fun t => (t.port p).state = .idle ∧ (t.port p).lock = 0 ∧ t.out = s.out) ∧
  (∀ (p : Fin 4) (s : State), (s.port p).state ≠ .up → exec (.frameTransmit p) s = .next s) ∧
  (∀ (p : Fin 4) (s : State), (s.port p).state = .up → (s.port p).echoDue = true ∨ 16 ≤ (s.port p).frames →
    Does (.echoSend p) s fun t => (t.port p).chunks = (s.port p).chunks ++ [(2, echoChunk 0)] ∧
      (t.port p).frames = 0 ∧ (t.port p).echoDue = false) ∧
  (∀ (p : Fin 4) (s : State),
    (s.port p).state ≠ .up ∨ ((s.port p).echoDue = false ∧ (s.port p).frames < 16) →
    exec (.echoSend p) s = .next s) ∧
  (∀ (p : Fin 4) (c : BitVec 432) (hold : Nat) (s : State), s.carries p = true → chunkGood c = true → chunkType c = 2 →
    Does (.echoRequest p c hold) s fun t =>
      (t.port p).chunks = (s.port p).chunks ++ [(2, replyChunk (bits c 16 64) hold)]) ∧
  (∀ (p : Fin 4) (c : BitVec 432) (hold : Nat) (s : State), s.carries p = true → chunkGood c = false →
    Does (.echoRequest p c hold) s fun t => t.wl = s.wl ∧
      t.fget (R.wlkPBad p.val) = (s.fget (R.wlkPBad p.val) + 1) % 2 ^ (R.wlkPBad p.val).n) ∧
  (∀ (p : Fin 4) (c : BitVec 432) (at16 : Nat) (s : State), s.carries p = true → chunkGood c = true → chunkType c = 3 →
    let m := (s.port p).measure (roundHalfUp ((at16 : Int) - bits c 16 64 - bits c 80 64) 2).toNat
    let done := m.fresh && m.lamOk && s.spare p && ((s.port p).outAt.isNone || s.checkOver p)
    (done = false → Does (.echoReply p c at16) s fun t => t.port p = m) ∧
    -- a secondary that has been measured idles (R324)
    (done = true → Does (.echoReply p c at16) s fun t =>
      t.port p = { m with state := .idle, lock := 0, lossAt := none, chunks := [] }) ∧
    -- the ream in which the primary must be up with a valid λ starts anew (R324)
    (m.lamOk = false → p.val = s.fget R.wlkCtrlUpPri → Does (.echoReply p c at16) s fun t => t.wl.primUp = 0))

/-- Position packets, holdover and ream marks. A slave follows the packets of its own stream, coasts at their speed
when they stop, and keeps the mark of the next ream. -/
def Obligations.PositionHoldoverAndMarks : Prop :=
  (∀ (p : Fin 4) (b : BitVec 192) (s : State), s.carries p = true → crc16 ((leBytes 24 b.toNat).take 22) = bits b 176 16 →
    s.onLink = true → s.wl.failing = none → p = s.upPort → (s.wl.sourceOk = true → b.extractLsb' 128 16 = s.wl.source) →
    Does (.positionPacket p b false) s fun t => t.wl.lastPkt = some s.now ∧ t.wl.speed = bits b 64 32 ∧
      t.wl.source = b.extractLsb' 128 16 ∧ t.wl.sourceOk = true ∧ t.wl.hops = bits b 160 5 + 1 ∧
      t.wl.parent = b.extractLsb' 144 16 ∧
      t.wl.upPos = Pos.move (b.extractLsb' 0 60) ((bits b 64 32 * (s.port p).lam / 256 : Nat) : Int)) ∧
  (∀ (p : Fin 4) (b : BitVec 192) (s : State), s.carries p = true →
    Does (.positionPacket p b true) s fun t => t.wl = s.wl ∧ t.tb = s.tb ∧
      t.fget (R.wlkPBad p.val) = (s.fget (R.wlkPBad p.val) + 1) % 2 ^ (R.wlkPBad p.val).n) ∧
  (∀ (p : Fin 4) (b : BitVec 192) (s : State), s.carries p = true →
    crc16 ((leBytes 24 b.toNat).take 22) = bits b 176 16 → s.onLink = false →
    bits b 128 16 ≠ s.fget R.wlkHeadId ∨ bits b 160 5 = 0 →
    Does (.positionPacket p b false) s fun t => t.tb = s.tb ∧ t.fget R.wlkEvtDualSource = 1) ∧
  -- a packet of another source than that of the stream is refused (R325)
  (∀ (p : Fin 4) (b : BitVec 192) (s : State), s.carries p = true → s.onLink = true → s.wl.failing ≠ some p.val →
    p = s.upPort → s.wl.sourceOk = true → b.extractLsb' 128 16 ≠ s.wl.source →
    Does (.positionPacket p b false) s fun t => t.wl = s.wl ∧ t.tb = s.tb ∧
      t.fget (R.wlkPBad p.val) = (s.fget (R.wlkPBad p.val) + 1) % 2 ^ (R.wlkPBad p.val).n) ∧
  (∀ (p : Fin 4) (b : BitVec 192) (e : Bool) (s : State), s.carries p = false →
    exec (.positionPacket p b e) s = .next s) ∧
  -- without valid packets for the holdover time a member coasts (R323)
  (∀ s : State, s.onLink = true → s.wl.member = .member → s.holdoverPast = true → s.tb.mode = .tracking →
    Does .holdoverExpiry s fun t => t.tb.mode = .coasting ∧ t.tb.rate = s.wl.speed / 16 ∧ t.wl.member = .coasting ∧
      t.fget R.wlkEvtCoast = 1) ∧
  (∀ s : State, s.holdoverPast = false → exec .holdoverExpiry s = .next s) ∧
  (∀ (p : Fin 4) (c : BitVec 432) (s : State), s.carries p = true → chunkGood c = true → chunkType c = 1 →
    s.onLink = true → p = s.upPort → s.wl.mark.any (fun m => decide (m.seq = bits c 16 48)) = false → s.producing = false →
    Does (.reamMark p c) s fun t => t.wl.mark = some { k := clampNat 8 16 (bits c 8 5), seq := bits c 16 48, t := c.extractLsb' 64 60, ream := c.extractLsb' 128 32 }) ∧
  -- further copies of a mark are dropped (R321)
  (∀ (p : Fin 4) (c : BitVec 432) (s : State), s.carries p = true → chunkGood c = true → chunkType c = 1 →
    s.wl.mark.any (fun m => decide (m.seq = bits c 16 48)) = true → exec (.reamMark p c) s = .next s) ∧
  -- a head that makes lines compares the mark with its own series (R321)
  (∀ (p : Fin 4) (c : BitVec 432) (s : State), s.carries p = true → chunkGood c = true → chunkType c = 1 →
    s.onLink = true → p = s.upPort → s.wl.mark.any (fun m => decide (m.seq = bits c 16 48)) = false →
    s.producing = true → s.tb.nextSeq ≤ bits c 16 48 →
    Does (.reamMark p c) s fun t => t.wl.mark.any (fun m => m.seq == bits c 16 48) = true ∧
      (s.fu.inForce.webMode = false ∨ s.ownT (bits c 16 48) = c.extractLsb' 64 60 → t.wl.mismatch = s.wl.mismatch) ∧
      (s.fu.inForce.webMode = true → s.ownT (bits c 16 48) ≠ c.extractLsb' 64 60 → t.wl.mismatch = true ∧
        t.fget R.wlkEvtEpochMismatch = 1)) ∧
  (∀ (p : Fin 4) (c : BitVec 432) (s : State), s.carries p = true → chunkGood c = true → chunkType c = 1 →
    s.onLink = false → exec (.reamMark p c) s = .next s)

/-- Enumeration, messages and seam copies. Enumeration requests are answered and replies collected or passed upstream;
a message for this head reaches the receive FIFO or overflows it; segments of a seam copy are stored until it is
whole, and a copy that does not come is passed over. -/
def Obligations.EnumerationMessagesAndSeams : Prop :=
  (∀ (p : Fin 4) (c : BitVec 432) (s : State), s.carries p = true → chunkGood c = true → chunkType c = 4 →
    s.onLink = true → p = s.upPort → s.wl.member ≠ .unfed →
    Does (.enumerationRequest p c) s fun t => (t.port p).chunks.getLast? = some (3, enumChunk [s.ownEntry])) ∧
  (∀ (p : Fin 4) (c : BitVec 432) (s : State), s.carries p = true → chunkGood c = true → chunkType c = 5 →
    s.onLink = false → s.downPorts.contains p = true → s.cmd.enum.isSome = true →
    Does (.enumerationReply p c) s fun t => t.cmd.entries = s.cmd.entries ++
      (List.range (min 6 (bits c 8 8))).map fun i => c.extractLsb' (32 + 64 * i) 64) ∧
  (∀ (p : Fin 4) (c : BitVec 432) (s : State), s.carries p = true → chunkGood c = true → chunkType c = 5 →
    s.onLink = true → s.downPorts.contains p = true → (s.port s.upPort).state = .up →
    Does (.enumerationReply p c) s fun t => (t.port s.upPort).chunks = (s.port s.upPort).chunks ++ [(3, c)]) ∧
  -- a message for this head reaches the receive FIFO (R332)
  (∀ (p : Fin 4) (c : BitVec 432) (s : State), s.carries p = true → chunkGood c = true → chunkType c = 6 →
    s.positionPorts.contains p = true → bits c 16 16 = s.fget R.wlkHeadId ∨ bits c 16 16 = 0xFFFF →
    bits c 56 8 % 2 = 0 → bits c 64 8 ≤ 32 → s.flag R.mgtCtrlLogRemote = false →
    (s.wl.fifo.length < 16 → Does (.messageSegment p c) s fun t => t.fget R.wlkEvtMsgRx = 1 ∧
      t.wl.fifo = s.wl.fifo ++ [{ src := BitVec.ofNat 16 (bits c 32 16), bcast := bits c 16 16 == 0xFFFF, data := (((chunkBytesOf c).drop 20).take 32).take (bits c 64 8) }]) ∧
    (16 ≤ s.wl.fifo.length → Does (.messageSegment p c) s fun t => t.fget R.wlkEvtMsgOvf = 1 ∧
      t.wl.fifo = s.wl.fifo)) ∧
  -- a second segment completes the first one of its source and number
  (∀ (p : Fin 4) (c : BitVec 432) (d : List Byte) (s : State), s.carries p = true → chunkGood c = true →
    chunkType c = 6 → s.positionPorts.contains p = true →
    bits c 16 16 = s.fget R.wlkHeadId ∨ bits c 16 16 = 0xFFFF → bits c 56 8 % 2 = 1 →
    s.flag R.mgtCtrlLogRemote = false → s.wl.fifo.length < 16 →
    s.wl.parts = [{ src := c.extractLsb' 32 16, num := c.extractLsb' 48 8, data := d }] →
    Does (.messageSegment p c) s fun t => t.wl.parts = [] ∧
      t.wl.fifo = s.wl.fifo ++ [{ src := c.extractLsb' 32 16, bcast := bits c 16 16 == 0xFFFF, data := (d ++ ((chunkBytesOf c).drop 20).take 32).take (min 64 (bits c 64 8)) }]) ∧
  -- one for another head goes on, and stays out of the FIFO
  (∀ (p : Fin 4) (c : BitVec 432) (s : State), s.carries p = true → chunkGood c = true → chunkType c = 6 →
    s.positionPorts.contains p = true → bits c 16 16 ≠ s.fget R.wlkHeadId → bits c 16 16 ≠ 0xFFFF →
    Does (.messageSegment p c) s fun t => t.wl.fifo = s.wl.fifo ∧ t.wl.parts = s.wl.parts ∧
      ∀ q, q ∈ s.positionPorts → q ≠ p → (t.port q).chunks = (s.port q).chunks ++ [(4, c)]) ∧
  -- a segment of a seam copy is stored until its copy is whole (R334)
  (∀ (p : Fin 4) (c : BitVec 432) (right : Bool) (s : State), s.carries p = true → chunkGood c = true → chunkType c = 7 →
    p.val = s.cur (if right then R.wlkSeamPortR else R.wlkSeamPortL) →
    p.val ≠ s.cur (if right then R.wlkSeamPortL else R.wlkSeamPortR) → s.seamSide right = true →
    s.seamDue right ≤ bits c 16 48 → s.wl.seams = [] → bits c 64 8 < 128 →
    Does (.seamSegment p c) s fun t => t.wl.seams = [{ right := right, seq := bits c 16 48, prod := bits c 8 2, field := bits c 10 2, words := [(bits c 64 8, c.extractLsb' 160 256)] }]) ∧
  (∀ (right : Bool) (e : Nat) (s : State), s.seamSide right = true → s.seamAwaited right = some e →
    e + 512 < s.tb.nextSeq →
    ∃ v : State, exec (.seamLost right) s = .next (v.seamFlow right) ∧
      (if right then v.wl.dueR else v.wl.dueL) = e + 1 ∧ v.fget R.wlkEvtSeamLost = 1) ∧
  (∀ (right : Bool) (s : State), s.seamSide right = false ∨ s.seamAwaited right = none →
    exec (.seamLost right) s = .next s) ∧
  -- a head that makes no lines awaits none: complete copies are delivered as they come (R334)
  (∀ (right : Bool) (s : State), s.producing = false → s.seamAwaited right = none)

/-- Pin-engine instructions on data and control. NOP, MOV, IN, JMP and DLY take effect at a step that is due and at no
other, on the engine that runs them. -/
def Obligations.EngineDataInstructions : Prop :=
  (∀ (e : Fin 8) (s : State), s.alone = true → s.stepDue e = true → opOf (s.eng e).word = 0 →
    Does (.peNop e) s fun t => t.eng e = { s.eng e with pc := ((s.eng e).pc + 1) % 32, ran := (s.eng e).pc, state := .running, held := false, stepAt := some s.now } ∧
      ∀ f, f ≠ e → t.eng f = s.eng f) ∧
  (∀ (e : Fin 8) (s : State), s.stepDue e = false → exec (.peNop e) s = .next s ∧ exec (.mov e) s = .next s ∧
    exec (.out e) s = .next s ∧ exec (.set e) s = .next s ∧ exec (.wait e) s = .next s ∧ exec (.dly e) s = .next s ∧
    exec (.atStamp e) s = .next s ∧ exec (.flag e) s = .next s ∧ exec (.peBadOpcode e) s = .next s ∧
    ∀ pins, exec (.inn e pins) s = .next s ∧ exec (.jmp e pins) s = .next s) ∧
  (∀ (e : Fin 8) (w : Word) (s : State), s.alone = true → s.stepDue e = true → (s.eng e).word = w → opOf w = 6 →
    Does (.mov e) s fun t => (t.eng e).pc = ((s.eng e).pc + 1) % 32 ∧
      let v : BitVec 64 := BitVec.ofInt 64 ((s.source e (bits w 20 4) : Int) + signed 20 (bits w 0 20))
      (bits w 24 4 < 4 → (t.eng e).gen (bits w 24 4) = v) ∧
      (bits w 24 4 = 4 → (t.eng e).emr = v.setWidth 32 ∧ (t.eng e).emrLeft = 32) ∧
      (bits w 24 4 = 5 → (t.eng e).cpr = v.setWidth 32 ∧ (t.eng e).cprCnt = 0)) ∧
  -- one pin shifts into CPR from the left (R342)
  (∀ (e : Fin 8) (pins : BitVec 24) (w : Word) (s : State), s.alone = true → s.stepDue e = true → (s.eng e).word = w → opOf w = 2 →
    bits w 16 5 = 1 →
    Does (.inn e pins) s fun t => (t.eng e).pc = ((s.eng e).pc + 1) % 32 ∧ t.pen.pins = pins ∧ t.free = s.free + 1 ∧
      (t.eng e).cprCnt = min 32 ((s.eng e).cprCnt + 1) ∧ bits (t.eng e).cpr 0 31 = bits (s.eng e).cpr 1 31 ∧
      (s.fget (R.penPinsInBase e.val) < 24 → s.drives (s.fget (R.penPinsInBase e.val)) = false →
        bitOf (t.eng e).cpr 31 = bitOf pins (s.fget (R.penPinsInBase e.val)))) ∧
  (∀ (e : Fin 8) (pins : BitVec 24) (w : Word) (s : State), s.alone = true → s.stepDue e = true → (s.eng e).word = w → opOf w = 9 →
    Does (.jmp e pins) s fun t => (t.eng e).pc =
      if (s.samplePins pins).jumps e w then bits w 0 5 else ((s.eng e).pc + 1) % 32) ∧
  (∀ (e : Fin 8) (pins : BitVec 24) (w : Word) (s : State), s.alone = true → s.stepDue e = true → (s.eng e).word = w → opOf w = 9 →
    bits w 24 4 = 0 → Does (.jmp e pins) s fun t => (t.eng e).pc = bits w 0 5) ∧
  (∀ (e : Fin 8) (w : Word) (s : State), s.alone = true → s.stepDue e = true → (s.eng e).word = w → opOf w = 0xB →
    Does (.dly e) s fun t => (t.eng e).state = .waiting ∧ (t.eng e).dly = max 1 (bits w 0 24) ∧
      (t.eng e).dlyFrom = s.now ∧ (t.eng e).pc = (s.eng e).pc) ∧
  (∀ (e : Fin 8) (s : State), (s.eng e).state = .waiting → (s.eng e).held = false → opOf (s.eng e).cur = 0xB →
    ((s.eng e).dlyFrom + (s.eng e).dly * (s.eng e).len ≤ s.now →
      Does (.dlyDone e) s fun t => (t.eng e).state = .running ∧ (t.eng e).pc = ((s.eng e).pc + 1) % 32 ∧
        (t.eng e).stepAt = none) ∧
    (s.now < (s.eng e).dlyFrom + (s.eng e).dly * (s.eng e).len → exec (.dlyDone e) s = .next s))

/-- Pin-engine outputs and stamps. OUT and SET drive the window where the engine owns it and report a conflict where
it does not; AT arms a stamp for which a pin action waits. -/
def Obligations.EnginePinsAndStamps : Prop :=
  (∀ (e : Fin 8) (w : Word) (n : Nat) (s : State), s.alone = true → s.stepDue e = true → (s.eng e).word = w → opOf w = 1 →
    n = (if bits w 16 5 = 0 then 32 else bits w 16 5) → (s.eng e).stamp = none → s.outCnt e = 1 →
    s.owner (s.winPin e 0) = some e →
    Does (.out e) s fun t => bitOf t.pen.level (s.winPin e 0) = bitOf (s.eng e).emr 0 ∧
      (t.eng e).emr = (s.eng e).emr >>> n ∧ (t.eng e).emrLeft = (s.eng e).emrLeft - n ∧
      (t.eng e).pc = ((s.eng e).pc + 1) % 32) ∧
  (∀ (e : Fin 8) (w : Word) (s : State), s.alone = true → s.stepDue e = true → (s.eng e).word = w → opOf w = 5 →
    (s.eng e).stamp = none → s.outCnt e = 1 → s.owner (s.winPin e 0) = some e →
    Does (.set e) s fun t => bitOf t.pen.level (s.winPin e 0) = bitOf w 0 ∧ (t.eng e).emr = (s.eng e).emr ∧
      (t.eng e).pc = ((s.eng e).pc + 1) % 32) ∧
  -- an index owned by another engine keeps its level (R339)
  (∀ (e : Fin 8) (w : Word) (s : State), s.alone = true → s.stepDue e = true → (s.eng e).word = w → opOf w = 5 →
    (s.eng e).stamp = none → s.outCnt e = 1 → s.owner (s.winPin e 0) ≠ some e →
    Does (.set e) s fun t => t.pen.level = s.pen.level ∧ t.fget (R.penEvtPinConflict e.val) = 1 ∧
      (t.eng e).pc = ((s.eng e).pc + 1) % 32) ∧
  -- AT arms a stamp; a pin action waits for it (R344)
  (∀ (e : Fin 8) (w : Word) (s : State), s.alone = true → s.stepDue e = true → (s.eng e).word = w → opOf w = 8 →
    Does (.atStamp e) s fun t => (t.eng e).pc = ((s.eng e).pc + 1) % 32 ∧ ∃ p, (t.eng e).stamp = some p ∧
      p.at' = (s.eng e).pc ∧ p.armed = s.now ∧ p.isWc = (bits w 26 2 == 1) ∧
      (bits w 26 2 = 2 → p.target = unsigned 64 ((s.now : Int) + signed 20 (bits w 0 20))) ∧
      (bits w 26 2 = 1 → p.target = unsigned 48 ((((s.eng e).gen (bits w 24 2)).toNat : Int) + signed 20 (bits w 0 20)))) ∧
  (∀ (e : Fin 8) (w : Word) (p : Stamp) (s : State), s.alone = true → s.stepDue e = true → (s.eng e).word = w → opOf w = 5 →
    (s.eng e).stamp = some p → s.passed p = false → s.reached p = false → p.met = false →
    Does (.set e) s fun t => (t.eng e).state = .waiting ∧ (t.eng e).held = true ∧ (t.eng e).cur = w ∧
      t.pen.level = s.pen.level ∧ (t.eng e).pc = (s.eng e).pc) ∧
  (∀ (e : Fin 8) (p : Stamp) (s : State), (s.eng e).stamp = some p → (s.eng e).held = true →
    (s.reached p = true → Does (.stampMet e) s fun t => (t.eng e).stamp = none ∧ (t.eng e).held = false ∧
      (t.eng e).state = .running ∧ (t.eng e).pc = ((s.eng e).pc + 1) % 32) ∧
    (s.reached p = false → exec (.stampMet e) s = .next s)) ∧
  (∀ (e : Fin 8) (s : State), (s.eng e).stamp = none ∨ (s.eng e).held = false → exec (.stampMet e) s = .next s) ∧
  -- a stamp that lies behind is late, unless it was met in the step that armed it (R355)
  (∀ (e : Fin 8) (w : Word) (p : Stamp) (s : State), s.alone = true → s.stepDue e = true → (s.eng e).word = w → opOf w = 5 →
    (s.eng e).stamp = some p → s.passed p = true → p.inArming (s.eng e) = false →
    Does (.set e) s fun t => t.fget (R.penEvtLate e.val) = 1 ∧ (t.eng e).stamp = none ∧
      (t.eng e).pc = ((s.eng e).pc + 1) % 32) ∧
  (∀ (e : Fin 8) (w : Word) (p : Stamp) (s : State), s.alone = true → s.stepDue e = true → (s.eng e).word = w →
    opOf w = 5 → (s.eng e).stamp = some p → p.inArming (s.eng e) = true → p.met = true → s.outCnt e = 0 →
    Does (.set e) s fun t => t.regs = s.regs ∧ (t.eng e).stamp = none ∧ (t.eng e).pc = ((s.eng e).pc + 1) % 32) ∧
  -- a resynchronisation that carries W past the target meets a stamp whose action has not begun; a target behind W then
  -- makes that action late (R49, R344; assumption 86, DEDUCED)
  (∀ (e : Fin 8) (w : Word) (p : Stamp) (s : State), s.alone = true → s.stepDue e = true → (s.eng e).word = w →
    opOf w = 5 → (s.eng e).stamp = some p → p.met = true → s.passed p = false →
    Does (.set e) s fun t => (t.eng e).stamp = none ∧ (t.eng e).state = .running ∧ (t.eng e).pc = ((s.eng e).pc + 1) % 32)

/-- Pin-engine waits, FIFOs, flags, and undefined opcodes. WAIT holds until its condition; PULL and PUSH move a word
or stall; FLAG sets, clears, triggers or signals; an undefined opcode puts the engine in error; exposure records are
published. -/
def Obligations.EngineWaitsFifosAndFlags : Prop :=
  (∀ (e : Fin 8) (w : Word) (s : State), s.alone = true → s.stepDue e = true → (s.eng e).word = w → opOf w = 7 →
    Does (.wait e) s fun t => t.eng e = { s.eng e with state := .waiting, held := false, cur := w, sawExp := s.pen.published, sawTrig := s.pen.trigs, sawReam := s.pen.reams, stepAt := some s.now }) ∧
  (∀ (e : Fin 8) (pins : BitVec 24) (s : State), (s.eng e).state = .waiting → (s.eng e).held = false →
    opOf (s.eng e).cur = 7 → s.stepStarts e = true →
    ((s.samplePins pins).waitTrue e = true → Does (.waitMet e pins) s fun t => (t.eng e).state = .running ∧
      (t.eng e).pc = ((s.eng e).pc + 1) % 32 ∧
      ∀ r, waitKind (s.eng e).cur = 4 → s.expSince e (bits (s.eng e).cur 0 4) = some r →
        (t.eng e).gen 0 = BitVec.ofNat 64 r.start ∧ (t.eng e).gen 1 = BitVec.ofNat 64 r.stop) ∧
    ((s.samplePins pins).waitTrue e = false → Does (.waitMet e pins) s fun t => t.eng e = s.eng e)) ∧
  (∀ (e : Fin 8) (w v : Word) (rest : List Word) (s : State), s.alone = true → s.stepDue e = true → (s.eng e).word = w → opOf w = 3 →
    (s.eng e).tx = v :: rest → fifoCode w = none →
    Does (.pull e) s fun t => (t.eng e).emr = v ∧ (t.eng e).emrLeft = 32 ∧ (t.eng e).tx = rest ∧
      (t.eng e).pc = ((s.eng e).pc + 1) % 32) ∧
  (∀ (e : Fin 8) (w : Word) (s : State), s.alone = true → s.stepDue e = true → (s.eng e).word = w → opOf w = 3 →
    (s.eng e).tx = [] → s.flag (R.penCtrlNostall e.val) = false →
    Does (.pull e) s fun t => (t.eng e).state = .stalled ∧ (t.eng e).pc = (s.eng e).pc ∧
      t.fget (R.penEvtUnder e.val) = 1) ∧
  (∀ (e : Fin 8) (w : Word) (s : State), s.alone = true → s.stepDue e = true → (s.eng e).word = w → opOf w = 3 → (s.eng e).tx = [] →
    s.flag (R.penCtrlNostall e.val) = true → fifoCode w = none →
    Does (.pull e) s fun t => (t.eng e).emr = (s.eng e).lastTx ∧ (t.eng e).pc = ((s.eng e).pc + 1) % 32 ∧
      t.fget (R.penEvtUnder e.val) = 1) ∧
  (∀ (e : Fin 8) (w : Word) (s : State), s.alone = true → s.stepDue e = true → (s.eng e).word = w → opOf w = 4 →
    (s.eng e).rx.length < 4 → fifoCode w = none →
    Does (.push e) s fun t => (t.eng e).rx = (s.eng e).rx ++ [(s.eng e).cpr] ∧ (t.eng e).cpr = 0 ∧
      (t.eng e).cprCnt = 0 ∧ (t.eng e).pc = ((s.eng e).pc + 1) % 32) ∧
  (∀ (e : Fin 8) (w : Word) (s : State), s.alone = true → s.stepDue e = true → (s.eng e).word = w → opOf w = 4 →
    4 ≤ (s.eng e).rx.length → s.flag (R.penCtrlNostall e.val) = false →
    Does (.push e) s fun t => (t.eng e).state = .stalled ∧ (t.eng e).rx = (s.eng e).rx ∧
      t.fget (R.penEvtOver e.val) = 1) ∧
  (∀ (e : Fin 8) (w : Word) (s : State), s.alone = true → s.stepDue e = true → (s.eng e).word = w → opOf w = 0xA →
    (bits w 24 4 = 0 → Does (.flag e) s fun t => t.pen.flags = s.pen.flags ||| ((1 : BitVec 8) <<< bits w 0 3) ∧
      (t.eng e).pc = ((s.eng e).pc + 1) % 32) ∧
    (bits w 24 4 = 1 → s.pen.setAt ≠ s.now → Does (.flag e) s fun t =>
      t.pen.flags = s.pen.flags &&& ~~~((1 : BitVec 8) <<< bits w 0 3)) ∧
    (bits w 24 4 = 2 → s.fu.inForce.trigSrc = 2 → s.cur R.tbsCtrlExtPe = e.val →
      Does (.flag e) s fun t => t.tb.extDue = s.tb.extDue ++ [s.now + 30]) ∧
    (bits w 24 4 = 2 → s.fu.inForce.trigSrc ≠ 2 ∨ s.cur R.tbsCtrlExtPe ≠ e.val →
      Does (.flag e) s fun t => t.tb = s.tb ∧ t.fget (R.penEvtTrigIgn e.val) = 1) ∧
    (bits w 24 4 = 3 → Does (.flag e) s fun t => t.fget (R.penEvtSig e.val) = 1)) ∧
  (∀ (e : Fin 8) (s : State), s.alone = true → s.stepDue e = true → 0xC ≤ opOf (s.eng e).word →
    Does (.peBadOpcode e) s fun t => (t.eng e).state = .error ∧ t.fget (R.penEvtBadOp e.val) = 1) ∧
  (∀ (p : Period) (s : State), s.fu.inForce.area = false → s.lastPeriod = some p → p.trig + 2 ≤ s.now →
    s.pen.record.any (·.seq == p.seq) = false →
    Does .exposureRecord s fun t => t.pen.published = s.pen.published + 1 ∧ t.pen.record = some
      { idx := s.pen.published + 1, start := p.planned, stop := p.planned + p.tExp, seq := p.seq, field := p.field }) ∧
  -- in area mode each sub-frame gives a record at the start of its slot (R346)
  (∀ (fr : AreaFrame) (s : State), s.fu.inForce.area = true → s.hb.area = some fr → fr.tail = false →
    fr.slot ≤ s.now → s.pen.record.any (fun r => r.seq == fr.seq && r.field == fr.sub) = false →
    Does .exposureRecord s fun t => t.pen.published = s.pen.published + 1 ∧
      t.pen.record.any (fun r => r.seq == fr.seq && r.field == fr.sub && r.stop == fr.slot + fr.length - 30) = true)

/-- Control registers of the pin engines. Start, resume, clock restart and stop take effect 32 ticks later on the
engines of the mask; the FIFOs, the flags and an idle engine's store are written through registers. -/
def Obligations.EngineControlRegisters : Prop :=
  -- requests stand in the order in which the paths are served (R292, R355)
  (∀ (via : Via) (m : BitVec 8) (s : State), s.mayWrite via.path 0x0C0000 = true → s.alone = true →
    let asked (op : BitVec 2) : PinEngines :=
      { s.pen with action := s.pen.action ++ [(m, op, s.now + 32)] }
    (Does (.penOpStart via m) s fun t => t.pen = asked 0) ∧ (Does (.penOpResume via m) s fun t => t.pen = asked 1) ∧
    (Does (.penOpClockRestart via m) s fun t => t.pen = asked 2) ∧ (Does (.penOpStop via m) s fun t => t.pen = asked 3)) ∧
  -- the action tick starts every engine of the mask at its entry, or stops it (R351)
  (∀ (m : BitVec 8) (d : Nat) (s : State), s.pen.action = [(m, 0, d)] → d ≤ s.now →
    Does .penActionTick s fun t => t.pen.action = [] ∧
      ∀ e : Fin 8, if bitOf m e.val then (t.eng e).state = .running ∧ (t.eng e).pc = s.fget (R.penCtrlEntry e.val) ∧
          (t.eng e).origin = s.now ∧ (t.eng e).div = s.fget (R.penCtrlDiv e.val) ∧ (t.eng e).emr = 0 ∧
          (t.eng e).cpr = 0 ∧ (t.eng e).store = (s.eng e).store
        else t.eng e = s.eng e) ∧
  (∀ (m : BitVec 8) (d : Nat) (s : State), s.pen.action = [(m, 3, d)] → d ≤ s.now →
    Does .penActionTick s fun t => t.pen.action = [] ∧
      ∀ e : Fin 8, if bitOf m e.val then (t.eng e).active = false ∧ (t.eng e).store = (s.eng e).store
        else t.eng e = s.eng e) ∧
  -- or lets it go on from where it was, or restarts its step counter
  (∀ (m : BitVec 8) (d : Nat) (s : State), s.pen.action = [(m, 1, d)] → d ≤ s.now →
    Does .penActionTick s fun t => t.pen.action = [] ∧
      ∀ e : Fin 8, (bitOf m e.val = false → t.eng e = s.eng e) ∧
        (bitOf m e.val = true → (t.eng e).origin = s.now ∧ (t.eng e).div = s.fget (R.penCtrlDiv e.val) ∧
          (t.eng e).store = (s.eng e).store ∧
          ((s.eng e).state = .disabled → (t.eng e).state = (s.eng e).was ∧ (t.eng e).pc = (s.eng e).pc) ∧
          ((s.eng e).state = .error → (t.eng e).state = .running ∧ (t.eng e).pc = s.fget (R.penCtrlEntry e.val)))) ∧
  (∀ (m : BitVec 8) (d : Nat) (s : State), s.pen.action = [(m, 2, d)] → d ≤ s.now →
    Does .penActionTick s fun t => t.pen.action = [] ∧
      ∀ e : Fin 8, if bitOf m e.val ∧ (s.eng e).active = true then
          t.eng e = (s.eng e).restart s.now (s.fget (R.penCtrlDiv e.val))
        else t.eng e = s.eng e) ∧
  (∀ (m : BitVec 8) (op : BitVec 2) (d : Nat) (s : State), s.pen.action = [(m, op, d)] → s.now < d →
    exec .penActionTick s = .next s) ∧
  (∀ (via : Via) (e : Fin 8) (w : Word) (s : State), s.mayWrite via.path (0x0C0110 + 64 * e.val) = true → s.alone = true →
    (s.eng e).state ≠ .stalled →
    ((s.eng e).tx.length < 4 → Does (.penTxWrite via e w) s fun t => (t.eng e).tx = (s.eng e).tx ++ [w]) ∧
    (4 ≤ (s.eng e).tx.length → Does (.penTxWrite via e w) s fun t => (t.eng e).tx = (s.eng e).tx ∧
      t.fget (R.penEvtTxOvf e.val) = 1)) ∧
  -- a stalled instruction completes at a step in which its FIFO allows (R349)
  (∀ (via : Via) (e : Fin 8) (w : Word) (s : State), s.mayWrite via.path (0x0C0110 + 64 * e.val) = true → s.alone = true →
    (s.eng e).state = .stalled → opOf (s.eng e).cur = 3 → fifoCode (s.eng e).cur = none → (s.eng e).tx = [] →
    Does (.penTxWrite via e w) s fun t =>
      (s.stepStarts e = true → (t.eng e).state = .running ∧ (t.eng e).tx = [] ∧ (t.eng e).emr = w) ∧
      (s.stepStarts e = false → (t.eng e).state = .stalled ∧ (t.eng e).tx = [w])) ∧
  (∀ (via : Via) (e : Fin 8) (s : State), s.mayWrite via.path (0x0C0118 + 64 * e.val) = true → s.alone = true →
    (s.eng e).state = .stalled → opOf (s.eng e).cur = 4 → fifoCode (s.eng e).cur = none → (s.eng e).rx.length = 4 →
    Does (.penRxPop via e) s fun t =>
      (s.stepStarts e = true → (t.eng e).state = .running ∧
        (t.eng e).rx = (s.eng e).rx.drop 1 ++ [(s.eng e).cpr]) ∧
      (s.stepStarts e = false → (t.eng e).state = .stalled ∧ (t.eng e).rx = (s.eng e).rx.drop 1)) ∧
  (∀ (via : Via) (e : Fin 8) (s : State), s.mayWrite via.path (0x0C0118 + 64 * e.val) = true → s.alone = true →
    (s.eng e).state ≠ .stalled → Does (.penRxPop via e) s fun t => (t.eng e).rx = (s.eng e).rx.drop 1) ∧
  (∀ (via : Via) (m : BitVec 8) (s : State), s.mayWrite via.path 0x0C0008 = true → s.alone = true →
    Does (.penFlagSet via m) s fun t => t.pen.flags = s.pen.flags ||| m ∧ t.pen.engs = s.pen.engs) ∧
  -- a flag set in this very cycle is not cleared by it (R353)
  (∀ (via : Via) (m : BitVec 8) (s : State), s.mayWrite via.path 0x0C0008 = true → s.alone = true →
    Does (.penFlagClr via m) s fun t => t.pen.flags =
      s.pen.flags &&& ~~~(m &&& ~~~(if via.same = true ∧ s.pen.setAt = s.now then s.pen.setNow else 0))) ∧
  (∀ (via : Via) (e : Fin 8) (a : Fin 32) (w : Word) (s : State), 
    s.mayWrite via.path (0x0C1000 + 128 * e.val + 4 * a.val) = true → s.alone = true →
    (s.storeOpen via.same e = true → Does (.penStoreWrite via e a w) s fun t => (t.eng e).store = (s.eng e).store.set a.val w ∧
      (t.eng e).epoch = (s.eng e).epoch + 1) ∧
    (s.storeOpen via.same e = false → Does (.penStoreWrite via e a w) s fun t => t.pen = s.pen ∧
      t.fget (R.penEvtProgBusy e.val) = 1))

/-- A reference is lost and returns. Loss of the reference in use puts all 21 MDLLs on the crystal; loss of REFCLK
takes the link down; a reference that returns lets stable cycles be counted, after which each MDLL relocks; REFCLK is
measured against the crystal. -/
def Obligations.ReferencesLostAndReturned : Prop :=
  -- the reference in use is lost: every MDLL goes to the crystal (R359)
  (∀ s : State, s.clk.refOk = true → s.flag R.clkRefModeSel = true →
    Does (.referenceLoss true) s fun t => t.clk.refOk = false ∧ t.clk.counting = false ∧ t.clk.noEdges = true ∧
      t.link.up = false ∧ (∀ m, t.mdll m = .bypassRef) ∧ t.fget R.clkEvtRefLost = 1) ∧
  (∀ s : State, s.clk.xtalOk = true → s.flag R.clkRefModeSel = false →
    Does (.referenceLoss false) s fun t => t.clk.xtalOk = false ∧ t.clk.counting = false ∧
      (∀ m, t.mdll m = .bypassRef) ∧ t.fget R.clkEvtRefLost = 1 ∧
      -- and with the crystal go the ports and READY (R362)
      t.fget R.clkEvtXtalFail = 1 ∧ t.rst.ready = false ∧ ∀ p, (t.port p).state = .off) ∧
  -- one that is not in use leaves the MDLLs as they are; without REFCLK the link goes down (R364)
  (∀ s : State, s.clk.refOk = false ∨ s.flag R.clkRefModeSel = false →
    Does (.referenceLoss true) s fun t => t.clk = { s.clk with refOk := false, noEdges := true } ∧ t.link.up = false ∧
      t.link.noRef = true) ∧
  (∀ s : State, s.clk.xtalOk = true → s.flag R.clkRefModeSel = true →
    Does (.referenceLoss false) s fun t => t.clk = { s.clk with xtalOk := false } ∧ t.fget R.clkEvtXtalFail = 1 ∧
      t.rst.ready = false ∧ ∀ p, (t.port p).state = .off) ∧
  (∀ s : State, s.clk.xtalOk = false → exec (.referenceLoss false) s = .next s) ∧
  -- it is back: stable cycles are counted, and no MDLL relocks before they are complete (R361)
  (∀ (r : Bool) (m : Mdll) (s : State), s.flag R.clkRefModeSel = r → s.mdll m = .bypassRef →
    s.clk.counting = false → r = false ∨ s.clk.inRange = true →
    Does (.referenceReturn r) s fun t => t.clk.counting = true ∧ t.fget R.clkEvtRefBack = 1 ∧ t.refPresent = true ∧
      ∀ k, t.mdll k = s.mdll k) ∧
  (∀ (r : Bool) (s : State), s.flag R.clkRefModeSel = !r →
    exec (.referenceReturn r) s = .next { s with
      clk := if r then { s.clk with noEdges := false, refOk := s.clk.inRange } else { s.clk with xtalOk := true }
      link := if r then { s.link with noRef := false } else s.link }) ∧
  -- REFCLK stays absent while its latest measurement lies outside ±300 ppm (R358)
  (∀ s : State, s.clk.inRange = false → exec (.referenceReturn true) s = .next { s with
      clk := { s.clk with noEdges := false, refOk := false }, link := { s.link with noRef := false } }) ∧
  (∀ (m : Mdll) (s : State), s.mdll m = .bypassRef → s.clk.counting = true → s.refPresent = true →
    Does (.stableCountDone m) s fun t => t.mdll m = .relocking ∧ ∀ k, k ≠ m → t.mdll k = s.mdll k) ∧
  (∀ (m : Mdll) (s : State), s.mdll m ≠ .bypassRef ∨ s.clk.counting = false ∨ s.refPresent = false →
    exec (.stableCountDone m) s = .next s) ∧
  -- REFCLK is measured against the crystal (R358)
  (∀ (ppm : Int) (s : State), s.flag R.clkRefModeSel = false →
    exec (.refclkMeasurement true ppm) s = .next { s with clk := { s.clk with
      noEdges := false, ppm := ppm,
      refOk := decide (-4800 ≤ ppm) && decide (ppm ≤ 4800) }, link := { s.link with noRef := false } }) ∧
  (∀ (ppm : Int) (s : State), s.flag R.clkRefModeSel = true → s.clk.refOk = true →
    Does (.refclkMeasurement false ppm) s fun t => t.clk.refOk = false ∧ t.clk.noEdges = true ∧
      (∀ m, t.mdll m = .bypassRef) ∧ t.fget R.clkEvtRefLost = 1) ∧
  -- without edges the link goes down (R364)
  (∀ (ppm : Int) (s : State), Does (.refclkMeasurement false ppm) s fun t => t.link.up = false ∧
    t.link.noRef = true ∧ t.clk.refOk = false)

/-- An MDLL loses lock, relocks, and is set anew. An MDLL that loses lock runs on the device reference and fails its
slices; relocked, its output leaves bypass and the tick counter absorbs the offset without stepping; a new target or
mode puts the MDLLs it affects on bypass; the Tender rejoins their slices. -/
def Obligations.LockLossAndRelock : Prop :=
  -- an MDLL that loses lock runs on the device reference (R359), its event and alarm come with it (R364)
  (∀ (m : Mdll) (s : State), s.mdll m = .locked → s.refPresent = true →
    Does (.mdllLockLoss m) s fun t => t.mdll m = .bypassLock ∧ (∀ k, k ≠ m → t.mdll k = s.mdll k) ∧
      t.fget (bypassEvent m) = 1) ∧
  (∀ (i : Fin 19) (s : State), s.mdll (.slice i) = .locked → s.refPresent = true →
    Does (.mdllLockLoss (.slice i)) s fun t =>
      (t.slice (Fin.ofNat 38 (2 * i.val))).state = .failed ∧ (t.slice (Fin.ofNat 38 (2 * i.val + 1))).state = .failed) ∧
  (∀ (m : Mdll) (s : State), s.mdll m ≠ .locked ∨ s.refPresent = false →
    exec (.mdllLockLoss m) s = .next s) ∧
  -- its output leaves bypass (R360)
  (∀ (m : Mdll) (d : Int) (s : State), s.mdll m = .relocking ∨ s.mdll m = .bypassLock →
    s.refPresent = true →
    Does (.mdllRelock m d) s fun t => t.mdll m = .locked ∧ (∀ k, k ≠ m → t.mdll k = s.mdll k) ∧
      t.fget R.clkEvtRelock = 1) ∧
  (∀ (m : Mdll) (d : Int) (s : State), s.mdll m = .locked ∨ s.mdll m = .bypassRef ∨ s.refPresent = false →
    exec (.mdllRelock m d) s = .next s) ∧
  -- the core clock's return measures the offset that the tick counter absorbs (R363)
  (∀ (d : Int) (s : State), s.mdll .core = .relocking → s.refPresent = true → d ≠ 0 → -80 ≤ d → d < 80 →
    Does (.mdllRelock .core d) s fun t => t.clk.resid = d ∧ t.clk.slewing = true ∧ t.tb.tick = s.tb.tick ∧
      t.fget R.clkEvtTickStep = 1) ∧
  -- an offset of 0 takes the place of one that is being absorbed (R370)
  (∀ s : State, s.mdll .core = .relocking → s.refPresent = true →
    Does (.mdllRelock .core 0) s fun t => t.clk.resid = 0) ∧
  (∀ s : State, (s.clk.resid = 0 →
      exec .tickSlewDone s = .next { s with clk := { s.clk with slewing := false } }) ∧
    (s.clk.resid ≠ 0 → exec .tickSlewDone s = .next s)) ∧
  -- a new target or mode puts the MDLLs it affects on bypass, to relock (R360)
  (∀ (via : Via) (v : Word) (s : State), s.mayWrite via.path 0x0D0004 = true → s.alone = true →
    bitOf (s.reg 0x000014) 5 = false → s.refPresent = true → bitOf v 0 ≠ bitOf (s.reg 0x0D0004) 0 →
    Does (.clockSettingWrite via true v) s fun t =>
      t.mdll .core = (if s.mdll .core = .bypassRef then .bypassRef else .relocking) ∧ t.fget R.clkTargetCore = b2n (bitOf v 0)) ∧
  (∀ (via : Via) (v : Word) (s : State), s.mayWrite via.path 0x0D0000 = true → s.alone = true →
    bitOf (s.reg 0x000014) 5 = false → s.clk.refOk = true → s.clk.xtalOk = true →
    bitOf v 0 ≠ bitOf (s.reg 0x0D0000) 0 →
    Does (.clockSettingWrite via false v) s fun t => (∀ m, t.mdll m = .relocking) ∧
      t.fget R.clkRefModeSel = b2n (bitOf v 0)) ∧
  -- a mode that selects an absent reference has lost it (R359)
  (∀ (via : Via) (v : Word) (s : State), s.mayWrite via.path 0x0D0000 = true → s.alone = true →
    bitOf (s.reg 0x000014) 5 = false → s.clk.refOk = false → bitOf (s.reg 0x0D0000) 0 = false → bitOf v 0 = true →
    Does (.clockSettingWrite via false v) s fun t => (∀ m, t.mdll m = .bypassRef) ∧ t.clk.counting = false ∧
      t.fget R.clkEvtRefLost = 1) ∧
  -- the Tender rejoins the slices of an MDLL that has returned (R364)
  (∀ (i : Fin 19) (s : State), s.clk.rearm.contains i.val = true → s.tnd.up = true → s.tnd.asleep = false →
    Does (.tenderSliceRearm i) s fun t => t.clk.rearm = s.clk.rearm.filter (· ≠ i.val) ∧
      ∀ j : Fin 38, j.val / 2 = i.val → (s.slice j).state = .failed → s.flag (R.hbxSlCtrlForceFail j.val) = false →
        s.sliceSlow j = false → (t.slice j).state = .rejoining) ∧
  (∀ (i : Fin 19) (s : State), s.clk.rearm.contains i.val = false ∨ s.tnd.up = false ∨ s.tnd.asleep = true →
    exec (.tenderSliceRearm i) s = .next s)

/-- Addressing the two-wire port. The port acknowledges its own address alone; three offset bytes load the pointer;
while the Tender sleeps the address is refused and wakes it. -/
def Obligations.TwoWireAddressing : Prop :=
  -- the port acknowledges no address but its own (R390)
  (∀ (a : BitVec 7) (read : Bool) (o : List Byte) (s : State), o.length ≤ 3 → a.toNat ≠ 0x58 + s.tw.strap.toNat →
    Does (.twAddress a read o) s fun t => t.out = s.out ++ [.twNack] ∧ t.tw.phase = .idle ∧ t.tw.pointer = s.tw.pointer) ∧
  -- a read continues from the pointer (R393)
  (∀ (a : BitVec 7) (s : State), a.toNat = 0x58 + s.tw.strap.toNat → s.rst.phase ≠ .inReset → s.tnd.asleep = false →
    s.tw.wakeAt.all (fun w => decide (w + 50000 ≤ s.now)) = true →
    Does (.twAddress a true []) s fun t => t.out = s.out ++ [.twAck] ∧ t.tw.phase = .read ∧
      t.tw.pointer = s.tw.pointer) ∧
  -- three offset bytes load the pointer, fewer leave it (R392)
  (∀ (a : BitVec 7) (h m l : Byte) (s : State), a.toNat = 0x58 + s.tw.strap.toNat → s.rst.phase ≠ .inReset →
    s.tnd.asleep = false → s.tw.wakeAt.all (fun w => decide (w + 50000 ≤ s.now)) = true →
    Does (.twAddress a false [h, m, l]) s fun t => t.out = s.out ++ [.twAck] ∧ t.tw.phase = .write ∧
      t.tw.pointer.toNat = 65536 * h.toNat + 256 * m.toNat + l.toNat / 4 * 4) ∧
  (∀ (a : BitVec 7) (o : List Byte) (s : State), o.length < 3 → a.toNat = 0x58 + s.tw.strap.toNat →
    s.rst.phase ≠ .inReset → s.tnd.asleep = false → s.tw.wakeAt.all (fun w => decide (w + 50000 ≤ s.now)) = true →
    Does (.twAddress a false o) s fun t => t.out = s.out ++ [.twAck] ∧ t.tw.phase = .offset ∧
      t.tw.pointer = s.tw.pointer) ∧
  -- while the Tender sleeps the address is refused and wakes the port; 50 µs later it is acknowledged (R396)
  (∀ (a : BitVec 7) (read : Bool) (o : List Byte) (s : State), o.length ≤ 3 →
    a.toNat = 0x58 + s.tw.strap.toNat → s.rst.phase ≠ .inReset → s.tnd.asleep = true →
    Does (.twAddress a read o) s fun t => t.out = s.out ++ [.twNack] ∧ t.tnd.asleep = false ∧
      t.tw.wakeAt = some s.now ∧ t.fget R.cmdTwPevtWakeNack = 1) ∧
  -- within those 50 µs it may be refused again, which does not make them longer
  (∀ (a : BitVec 7) (read : Bool) (o : List Byte) (w : Nat) (s : State), o.length ≤ 3 →
    a.toNat = 0x58 + s.tw.strap.toNat → s.rst.phase ≠ .inReset → s.tnd.asleep = false → s.tw.wakeAt = some w →
    s.now < w + 50000 →
    Does (.twAddress a read o) s fun t => t.tw.wakeAt = some w ∧ t.free = s.free + 1 ∧
      (t.out = s.out ++ [.twNack] ∧ t.tw.phase = .idle ∧ t.tw.pointer = s.tw.pointer ∨ t.out = s.out ++ [.twAck])) ∧
  (∀ (a : BitVec 7) (read : Bool) (o : List Byte) (s : State), 3 < o.length →
    exec (.twAddress a read o) s = .fault .illFormed)

/-- Accesses of the two-wire port, their ends and faults. A complete group is one access at the pointer, which
advances by 4; TW_WR 0 denies writes; an incomplete group is discarded and counted; frame errors and a stuck bus end
the transaction and leave the pointer. -/
def Obligations.TwoWireAccessesAndFaults : Prop :=
  -- a complete group is one write to the pointer, which then advances by 4 (R392)
  (∀ (d : Word) (same : Bool) (s : State), s.alone = true → s.tw.phase = .write → s.rst.phase ≠ .inReset → s.tw.pointer = 0x000028 →
    s.flag R.glbAccTwWr = true →
    Does (.twWriteAccess d same) s fun t => t.reg 0x000028 = d ∧ t.tw.pointer = 0x00002C ∧ t.tw.phase = .write) ∧
  (∀ (d : Word) (same : Bool) (s : State), s.alone = true → s.tw.phase = .write → s.rst.phase ≠ .inReset → 0x800000 ≤ s.tw.pointer.toNat →
    s.flag R.glbAccTwWr = true →
    Does (.twWriteAccess d same) s fun t => t.tw.pointer = s.tw.pointer + 4 ∧ t.regs = s.regs) ∧
  -- TW_WR 0 restricts what the path writes (R306, R394)
  (∀ (d : Word) (same : Bool) (s : State), s.alone = true → s.tw.phase = .write → s.rst.phase ≠ .inReset →
    twFree s.tw.pointer.toNat = false → s.flag R.glbAccTwWr = false →
    Does (.twWriteAccess d same) s fun t => t.tw.pointer = s.tw.pointer + 4 ∧ t.fget R.glbEvtTwWrDenied = 1 ∧
      ∀ g : Fld, g.off ≠ 0x000008 → g.off ≠ 0x000010 → t.fget g = s.fget g) ∧
  (∀ (d : Word) (n : Fin 5) (ack bad : Bool) (pins : BitVec 24) (same : Bool) (s : State), s.alone = true → s.tw.phase = .idle →
    (Does (.twWriteAccess d same) s fun t => t.regs = s.regs ∧ t.tw.pointer = s.tw.pointer) ∧
    (Does (.twReadAccess n ack bad pins same) s fun t => t.out = s.out ∧ t.tw.pointer = s.tw.pointer)) ∧
  -- a read sends what lies at the pointer (R393); reading GLB_ATTN in time answers a request (R400)
  (∀ (n : Fin 5) (ack bad : Bool) (pins : BitVec 24) (same : Bool) (s : State), s.alone = true → s.tw.phase = .read → s.rst.phase ≠ .inReset →
    Does (.twReadAccess n ack bad pins same) s fun t =>
      -- a group that ends before its fourth acknowledge slot leaves the pointer (R397, R398)
      t.tw.pointer = s.tw.pointer + (if n.val = 4 then 4 else 0) ∧
      t.tw.phase = (if ack = true ∨ n.val = 0 then .read else .idle) ∧
      t.out.getLast? = some (.read .tw s.tw.pointer.toNat
        ((s.twActive.iff (s.tw.pointer.toNat == 0x0C0018) (·.samplePins pins)).pathRead { path := .tw, same := same }
          s.tw.pointer.toNat bad).1) ∧
      (bad = false ∨ s.tw.pointer.toNat < 0x800000 → t.out.length = s.out.length + 1 ∧ t.regs = s.regs)) ∧
  (∀ (n : Fin 5) (ack bad : Bool) (pins : BitVec 24) (same : Bool) (at' : Nat) (s : State), s.alone = true → s.tw.phase = .read → s.rst.phase ≠ .inReset → s.tw.pointer = 0x000008 →
    s.tw.release = some at' → s.now ≤ at' + 100000 * max 1 (s.fget R.cmdTwCfgIbrWait) →
    Does (.twReadAccess n ack bad pins same) s fun t => t.tw.release = none) ∧
  (∀ (n : Fin 4) (s : State), s.rst.phase ≠ .inReset → s.tw.phase = .write → n.val ≠ 0 →
    Does (.twStop n) s fun t => t.tw.phase = .idle ∧ t.tw.pointer = s.tw.pointer ∧ t.tw.partialN = s.tw.partialN + 1 ∧
      t.tw.frame = s.tw.frame ∧ t.fget R.cmdTwPevtPartial = 1) ∧
  -- every stop on the bus is activity (R400, R402)
  (∀ (n : Fin 4) (s : State), s.rst.phase ≠ .inReset → s.tw.phase ≠ .write ∨ n.val = 0 →
    exec (.twStop n) s = .next { s with tw := { s.tw with phase := .idle, busAt := s.now } }) ∧
  -- a start or stop between the bits of a byte (R397)
  (∀ (n : Fin 5) (s : State), s.rst.phase ≠ .inReset →
    Does (.twFrameError false n) s fun t => t.tw.phase = .idle ∧ t.tw.pointer = s.tw.pointer ∧
      t.tw.frame = s.tw.frame + 1 ∧ t.fget R.cmdTwPevtFrameErr = 1) ∧
  -- a repeated start in place of an acknowledge slot discards the group of a write (R397)
  (∀ (n : Fin 5) (s : State), s.rst.phase ≠ .inReset →
    Does (.twFrameError true n) s fun t => t.tw.phase = .idle ∧ t.tw.pointer = s.tw.pointer ∧
      t.tw.frame = s.tw.frame ∧
      t.tw.partialN = s.tw.partialN + (if s.tw.phase = .write ∧ n.val ≠ 0 then 1 else 0)) ∧
  -- the bus is stuck (R398)
  (∀ s : State, s.tw.phase ≠ .idle →
    Does .busStuck s fun t => t.tw.phase = .idle ∧ t.tw.pointer = s.tw.pointer ∧ t.tw.frame = s.tw.frame + 1 ∧
      t.fget R.cmdTwPevtBusStuck = 1) ∧
  (∀ s : State, s.tw.phase = .idle → exec .busStuck s = .next s) ∧
  -- in reset the port takes part in nothing (R428)
  (∀ (b : Bool) (n : Fin 5) (k : Fin 4) (s : State), s.rst.phase = .inReset →
    exec (.twFrameError b n) s = .next s ∧ exec (.twStop k) s = .next s) ∧
  -- an uncorrectable codeword of result memory reads as all ones (R195)
  (∀ (ack : Bool) (pins : BitVec 24) (same : Bool) (s : State), s.alone = true → s.tw.phase = .read → s.rst.phase ≠ .inReset → 0x800000 ≤ s.tw.pointer.toNat →
    wideHigh s.tw.pointer.toNat = none → s.shadowOf .tw s.tw.pointer.toNat = none →
    Does (.twReadAccess 4 ack true pins same) s fun t => t.tw.pointer = s.tw.pointer + 4 ∧ t.fget R.stsEvtEccUe = 1 ∧
      t.out.getLast? = some (.read .tw s.tw.pointer.toNat (BitVec.allOnes 32)))

/-- In-band requests and ATTN_N. A request waits for an idle bus, counts its attempts, is repeated unanswered up to
IBR_RETRY times, and then ATTN_N goes low; with requests disabled it goes low at once. -/
def Obligations.RequestsForAttention : Prop :=
  -- an attempt (R400)
  (∀ s : State, s.rst.phase ≠ .inReset → s.tw.wanted = true → s.tw.attn = false → s.tw.phase = .idle →
    s.masked ≠ 0 → s.tw.seen = s.masked → s.flag R.cmdTwCfgIbrEn = true → s.tw.busAt + 50000 ≤ s.now →
    (Does (.inBandRequest false) s fun t => t.out = s.out ++ [.ibrPulse] ∧ t.tw.tries = s.tw.tries + 1 ∧
      t.tw.wanted = false ∧ t.tw.release = some s.now) ∧
    -- another controller has started at the same moment: not counted
    (Does (.inBandRequest true) s fun t => t.out = s.out ∧ t.tw.tries = s.tw.tries ∧ t.tw.wanted = true)) ∧
  -- no request while ATTN_N is low (R401)
  (∀ (b : Bool) (s : State), s.tw.attn = true →
    Does (.inBandRequest b) s fun t => t.out = s.out ∧ t.tw.attn = (s.masked != 0)) ∧
  -- unanswered: repeated up to IBR_RETRY attempts in all, then ATTN_N (R400, R401)
  (∀ (at' : Nat) (s : State), s.tw.release = some at' → s.tw.attn = false → s.masked ≠ 0 → s.tw.seen = s.masked →
    s.flag R.cmdTwCfgIbrEn = true → at' + 100000 * max 1 (s.fget R.cmdTwCfgIbrWait) < s.now →
    s.tw.tries < max 1 (s.fget R.cmdTwCfgIbrRetry) →
    Does .ibrAnswerTimeout s fun t => t.tw.release = none ∧ t.tw.wanted = true ∧ t.tw.attn = false) ∧
  (∀ (at' : Nat) (s : State), s.tw.release = some at' → s.tw.attn = false → s.masked ≠ 0 →
    s.tw.seen = s.masked → s.flag R.cmdTwCfgIbrEn = true →
    at' + 100000 * max 1 (s.fget R.cmdTwCfgIbrWait) < s.now → max 1 (s.fget R.cmdTwCfgIbrRetry) ≤ s.tw.tries →
    Does .ibrAnswerTimeout s fun t => t.tw.release = none ∧ t.tw.attn = true ∧ t.fget R.cmdTwPevtIbrFallback = 1) ∧
  -- with requests disabled ATTN_N goes low (R401)
  (∀ s : State, s.flag R.cmdTwCfgIbrEn = false → s.masked ≠ 0 →
    Does .ibrAnswerTimeout s fun t => t.tw.attn = true)

/-- Register writes and wide reads. Each field takes a write as its access type says, and no other register changes; a
path that does not reach the registers or may not write them writes nothing; the low word of a wide value latches the
high word into the shadow of its path; the order of the paths in one core cycle, the sizes of accesses and BAR2 are as
the spec says. Which commands stand in one core cycle is marked on them (assumptions 81 and 83, DESIGN CHOICE). -/
def Obligations.RegisterAccesses : Prop :=
  -- an RW register takes the value written and no other register changes (R14, R291)
  (∀ (via : Via) (v : Word) (s : State), s.mayWrite via.path 0x000028 = true → s.alone = true →
    Does (.registerWrite via 0x000028 (.word v)) s fun t => t.reg 0x000028 = v ∧ t.out = s.out ∧
      ∀ g : Fld, g.off ≠ 0x000028 → t.fget g = s.fget g) ∧
  -- an access goes after those of its core cycle that its path or an earlier one makes to what it touches; one that went
  -- first leaves nothing for its turn (R292)
  (∀ (i : Instr) (a : Access) (s : State), s.accessOf i = some a → s.cmd.served.contains i = false →
    exec i s = .next (a.run (s.serveFirst (pathCode a.via.path) a.regs))) ∧
  (∀ (i : Instr) (u s : State), (u.accessOf i).isSome = true → s.cmd.served.contains i = true →
    exec i s = .next { s with cmd := { s.cmd with served := s.cmd.served.erase i } }) ∧
  -- CXL before the two-wire port: its write is seen, and the later path's value stands (R292)
  (∀ (d v : Word) (same : Bool) (s : State), s.tw.phase = .write → s.rst.phase ≠ .inReset → s.tw.pointer = 0x000028 →
    s.flag R.glbAccTwWr = true → s.reaches .cxl = true → s.cmd.served = [] →
    s.pending = [.registerWrite { path := .cxl, same := true } 0x000028 (.word v)] →
    Does (.twWriteAccess d same) s fun t => t.reg 0x000028 = d ∧ t.cmd.served = s.pending) ∧
  (∀ (v : Word) (bad same : Bool) (pins : BitVec 24) (s : State), s.rst.phase ≠ .inReset → s.reaches .cxl = true →
    s.cmd.served = [] → s.pending = [.registerWrite { path := .cxl, same := true } 0x000028 (.word v)] →
    s.shadowOf .tw 0x000028 = none →
    Does (.wideHighRead { path := .tw, same := same } 0x000028 .word bad pins) s fun t => t.reg 0x000028 = v ∧
      t.out = s.out ++ [.read .tw 0x000028 v]) ∧
  -- an RW1C bit written 1 clears, unless hardware has set it in this core cycle; written 0 it stays (R302)
  (∀ (via : Via) (v : Word) (s : State), s.mayWrite via.path 0x000018 = true → s.alone = true →
    Does (.registerWrite via 0x000018 (.word v)) s fun t =>
      t.fget R.glbLockViol =
        (if bitOf v 0 = true ∧ (via.same = false ∨ bitOf (s.firedBits 0x000018) 0 = false) then 0
          else s.fget R.glbLockViol) ∧
      t.fget R.glbLockViolCount = s.fget R.glbLockViolCount ∧ t.fget R.glbLockViolPath = s.fget R.glbLockViolPath) ∧
  -- in the core cycle of a change, a read returns what hardware held before it, and what software wrote in it (R302)
  (∀ (p : Path) (off : Nat) (s : State), s.look { path := p } off = s.readReg off) ∧
  (∀ (p : Path) (s : State), s.look { path := p, same := true } 0x000028 = s.readReg 0x000028 ∧
    bits (s.look { path := p, same := true } 0x000018) 8 8 = bits (s.atTick.readReg 0x000018) 8 8) ∧
  -- a furnish field is written to the staging copy; the furnish in force stays (R108, R301)
  (∀ (via : Via) (v : Word) (s : State), s.mayWrite via.path 0x000100 = true → s.alone = true →
    Does (.registerWrite via 0x000100 (.word v)) s fun t => bits (regGet t.fu.staging 0x000100) 0 20 = bits v 0 20 ∧
      t.fu.inForce = s.fu.inForce) ∧
  -- a register that no map names takes nothing (R294)
  (∀ (via : Via) (o : BitVec 24) (v : Word) (s : State), s.mayWrite via.path o.toNat = true → s.alone = true →
    o.toNat % 4 = 0 → regAt o.toNat = none ∨ 0x800000 ≤ o.toNat → exec (.registerWrite via o (.word v)) s = .next s) ∧
  (∀ (via : Via) (o : BitVec 24) (d : BusData) (s : State), s.alone = true → s.reaches via.path = false →
    exec (.registerWrite via o d) s = .next s) ∧
  -- a write the two-wire path may not make (R306)
  (∀ (same : Bool) (o : BitVec 24) (v : Word) (s : State), s.alone = true → s.rst.phase ≠ .inReset →
    s.flag R.glbAccTwWr = false → twFree o.toNat = false → o.toNat % 4 = 0 →
    Does (.registerWrite { path := .tw, same := same } o (.word v)) s fun t => t.fget R.glbEvtTwWrDenied = 1 ∧
      ∀ g : Fld, g.off ≠ 0x000008 → g.off ≠ 0x000010 → t.fget g = s.fget g) ∧
  -- 64 bits are two accesses, the lower address first (R227)
  (∀ (via : Via) (o : BitVec 24) (low high : Word) (s t : State), s.alone = true → t.alone = true → o.toNat % 8 = 0 →
    exec (.registerWrite via o (.word low)) s = .next t →
    exec (.registerWrite via o (.pair low high)) s = exec (.registerWrite via (o + 4) (.word high)) t) ∧
  (∀ (via : Via) (o : BitVec 24) (bad : Bool) (pins : BitVec 24) (s t : State), s.alone = true → t.alone = true →
    o.toNat % 8 = 0 → exec (.wideLowRead via o .word bad pins) s = .next t →
    exec (.wideLowRead via o .pair bad pins) s = exec (.wideHighRead via (o + 4) .word bad pins) t) ∧
  -- any other size, or a misaligned access, has no effect, reads all ones and is an unsupported request (R227)
  (∀ (same : Bool) (o : BitVec 24) (v high : Word) (d : BusData) (s : State), s.alone = true → s.reaches .cxl = true →
    d = .other ∨ d = .other2 ∨ ((d = .word v ∨ d = .word2 v) ∧ o.toNat % 4 ≠ 0) ∨
      ((d = .pair v high ∨ d = .pair2 v high) ∧ o.toNat % 8 ≠ 0) →
    exec (.registerWrite { path := .cxl, same := same } o d) s = .next { s with link := { s.link with
      cfg := { s.link.cfg with unsupported := true } } }) ∧
  (∀ (same : Bool) (o : BitVec 24) (size : BusSize) (bad : Bool) (pins : BitVec 24) (s : State), s.alone = true →
    s.reaches .cxl = true → size = .other ∨ (size = .word ∧ o.toNat % 4 ≠ 0) ∨ (size = .pair ∧ o.toNat % 8 ≠ 0) →
    let t := { s with link := { s.link with cfg := { s.link.cfg with unsupported := true } }
                      out := s.out ++ [.read .cxl o.toNat (BitVec.allOnes 32)] }
    exec (.wideLowRead { path := .cxl, same := same } o size bad pins) s = .next t ∧
    exec (.wideHighRead { path := .cxl, same := same } o size bad pins) s = .next t) ∧
  -- BAR2: doorbells; entries of 16 bytes of the MSI-X table, an address, its data and the mask bit; the pending bits
  -- (R226, R242)
  (∀ (same : Bool) (q : Fin 8) (ch : Fin 16) (v : Word) (o : BitVec 24) (s : State), s.alone = true →
    s.reaches .cxl = true →
    (o.toNat = 32 * q.val →
      exec (.registerWrite { path := .cxl, same := same } o (.word2 v)) s = .next (s.sqDoorbell q (v.truncate 13))) ∧
    (o.toNat = 0x8000 + 32 * ch.val →
      exec (.registerWrite { path := .cxl, same := same } o (.word2 v)) s = .next (s.ringTail ch (v.truncate 13)))) ∧
  (∀ (same bad : Bool) (pins : BitVec 24) (i : Fin 64) (o : BitVec 24) (v : Word) (s : State), s.alone = true →
    s.reaches .cxl = true →
    (o.toNat = 0x10000 + 16 * i.val + 8 →
      exec (.registerWrite { path := .cxl, same := same } o (.word2 v)) s = .next { s with link := { s.link with
        table := s.link.table.set i.val { s.link.table[i] with data := v } } } ∧
      exec (.wideLowRead { path := .cxl, same := same } o .word2 bad pins) s =
        .next { s with out := s.out ++ [.read2 o.toNat s.link.table[i].data] }) ∧
    (o.toNat = 0x10000 + 16 * i.val + 12 → bitOf v 0 = true →
      exec (.registerWrite { path := .cxl, same := same } o (.word2 v)) s = .next { s with link := { s.link with
        mask := s.link.mask ||| ((1 : BitVec 64) <<< i.val) } }) ∧
    (o.toNat = 0x18000 → exec (.wideLowRead { path := .cxl, same := same } o .word2 bad pins) s =
      .next { s with out := s.out ++ [.read2 0x18000 (s.link.pend.truncate 32)] })) ∧
  -- the low word goes out, and the high word is latched into the shadow of the path (R296)
  (∀ (via : Via) (o : BitVec 24) (bad : Bool) (pins : BitVec 24) (h : Nat) (s : State), s.alone = true →
    s.reaches via.path = true → o.toNat % 4 = 0 → wideHigh o.toNat = some h → bad = false ∨ o.toNat < 0x800000 →
    Does (.wideLowRead via o .word bad pins) s fun t =>
      t.out = s.out ++ [.read via.path o.toNat (s.look via o.toNat)] ∧ t.shadowOf via.path h = some (s.look via h) ∧
      ∀ (q : Path) (k : Nat), q ≠ via.path ∨ k ≠ h → t.shadowOf q k = s.shadowOf q k) ∧
  -- the next read of the high word returns the shadow and empties it (R296)
  (∀ (via : Via) (o : BitVec 24) (bad : Bool) (pins : BitVec 24) (v : Word) (s : State), s.alone = true →
    s.reaches via.path = true → o.toNat % 4 = 0 → wideHigh o.toNat = none → s.shadowOf via.path o.toNat = some v →
    Does (.wideHighRead via o .word bad pins) s fun t => t.out = s.out ++ [.read via.path o.toNat v] ∧
      t.shadowOf via.path o.toNat = none ∧
      ∀ (q : Path) (k : Nat), q ≠ via.path ∨ k ≠ o.toNat → t.shadowOf q k = s.shadowOf q k) ∧
  -- any other register is read as it stands; PEN_PIN_IN is the levels of the balls at the read (R340)
  (∀ (via : Via) (o : BitVec 24) (bad : Bool) (pins : BitVec 24) (s : State), s.alone = true →
    s.reaches via.path = true → o.toNat % 4 = 0 → wideHigh o.toNat = none → s.shadowOf via.path o.toNat = none →
    bad = false ∨ o.toNat < 0x800000 →
    Does (.wideHighRead via o .word bad pins) s fun t => t.out = s.out ++ [.read via.path o.toNat
        ((s.iff (o.toNat == 0x0C0018) (·.samplePins pins)).look via o.toNat)] ∧ t.shadow = s.shadow) ∧
  (∀ (via : Via) (o : BitVec 24) (size : BusSize) (bad : Bool) (pins : BitVec 24) (s : State), s.alone = true →
    s.reaches via.path = false →
    exec (.wideLowRead via o size bad pins) s = .next s ∧ exec (.wideHighRead via o size bad pins) s = .next s) ∧
  -- an uncorrectable codeword of result memory reads as all ones, in both halves of a wide value (R195)
  (∀ (via : Via) (o : BitVec 24) (pins : BitVec 24) (h : Nat) (s : State), s.alone = true → s.reaches via.path = true →
    o.toNat % 4 = 0 → wideHigh o.toNat = some h → 0x800000 ≤ o.toNat →
    Does (.wideLowRead via o .word true pins) s fun t => t.fget R.stsEvtEccUe = 1 ∧
      t.shadowOf via.path h = some (BitVec.allOnes 32) ∧
      t.out.getLast? = some (.read via.path o.toNat (BitVec.allOnes 32))) ∧
  (∀ (via : Via) (o : BitVec 24) (pins : BitVec 24) (s : State), s.alone = true → s.reaches via.path = true →
    o.toNat % 4 = 0 → wideHigh o.toNat = none → s.shadowOf via.path o.toNat = none → 0x800000 ≤ o.toNat →
    Does (.wideHighRead via o .word true pins) s fun t => t.fget R.stsEvtEccUe = 1 ∧ t.shadow = s.shadow ∧
      t.out.getLast? = some (.read via.path o.toNat (BitVec.allOnes 32)))

/-- Locks and the write-once field. A locked field keeps its value and a write of another one is a violation; a set
lock bit stays set; the write-once field is spent by its first write unless that is inhibited. -/
def Obligations.LocksAndTheAsset : Prop :=
  -- a locked field keeps its value; a write of another value is a violation (R304)
  (∀ (via : Via) (v : Word) (s : State), s.mayWrite via.path 0x000020 = true → s.alone = true → s.flag R.glbLockAcc = true →
    bitOf v 0 ≠ s.flag R.glbAccTwWr →
    Does (.registerWrite via 0x000020 (.word v)) s fun t => t.fget R.glbAccTwWr = s.fget R.glbAccTwWr ∧
      t.fget R.glbLockViol = 1 ∧ t.fget R.glbLockViolPath = pathCode via.path ∧
      t.fget R.glbLockViolCount = min 255 (s.fget R.glbLockViolCount + 1) ∧ t.reg 0x00001C = 0x000020) ∧
  -- unlocked, it is writable as RW (R303)
  (∀ (via : Via) (v : Word) (s : State), s.mayWrite via.path 0x000020 = true → s.alone = true → s.flag R.glbLockAcc = false →
    Does (.registerWrite via 0x000020 (.word v)) s fun t => t.fget R.glbAccTwWr = b2n (bitOf v 0) ∧
      t.fget R.glbLockViol = s.fget R.glbLockViol) ∧
  -- a lock bit that is set stays set; a 0 written to it is a violation (R303)
  (∀ (via : Via) (v : Word) (s : State), s.mayWrite via.path 0x000014 = true → s.alone = true →
    Does (.registerWrite via 0x000014 (.word v)) s fun t =>
      bits (t.reg 0x000014) 0 6 = bits (s.reg 0x000014 ||| v) 0 6 ∧
      (bits (s.reg 0x000014 &&& ~~~v) 0 6 ≠ 0 → t.fget R.glbLockViol = 1) ∧
      (bits (s.reg 0x000014 &&& ~~~v) 0 6 = 0 → t.fget R.glbLockViol = s.fget R.glbLockViol)) ∧
  -- the first write spends the write-once field at once, and its value goes to the NOR (R305)
  (∀ (via : Via) (v : Word) (s : State), s.mayWrite via.path 0x000024 = true → s.alone = true → s.flag R.glbLockAssetSpent = false →
    s.nvShut = false →
    Does (.assetWrite via v) s fun t => t.fget R.glbLockAssetSpent = 1 ∧ t.reg 0x000024 = s.reg 0x000024 ∧
      t.tnd.jobs = s.tnd.jobs ++ [{ kind := .asset, work := [.assetErase, .assetProgram v] }]) ∧
  -- inhibited, the field is not spent (R305)
  (∀ (via : Via) (v : Word) (s : State), s.mayWrite via.path 0x000024 = true → s.alone = true → s.flag R.glbLockAssetSpent = false →
    s.nvShut = true →
    Does (.assetWrite via v) s fun t => t.fget R.glbLockAssetSpent = 0 ∧ t.fget R.glbEvtWo1Inhibit = 1 ∧
      t.tnd.inhCnt = s.tnd.inhCnt + 1) ∧
  -- a spent field is never written again (R304)
  (∀ (via : Via) (v : Word) (s : State), s.mayWrite via.path 0x000024 = true → s.alone = true →
    s.flag R.glbLockAssetSpent = true →
    Does (.assetWrite via v) s fun t => t.fget R.glbLockViol = 1 ∧ t.reg 0x000024 = s.reg 0x000024 ∧
      t.reg 0x00001C = 0x000024 ∧ t.tnd.jobs = s.tnd.jobs) ∧
  -- of two paths that write it in one core cycle the earlier one spends it (R292, R302)
  (∀ (v w : Word) (same : Bool) (s : State), s.mayWrite .tender 0x000024 = true → s.reaches .cxl = true →
    s.flag R.glbLockAssetSpent = false → s.cmd.served = [] →
    s.pending = [.assetWrite { path := .cxl, same := true } w] → s.tnd.inhibit = false →
    Does (.assetWrite { path := .tender, same := same } v) s fun t => t.fget R.glbLockViol = 1 ∧
      t.fget R.glbLockAssetSpent = 1 ∧ t.cmd.served = s.pending ∧
      t.tnd.jobs = s.tnd.jobs ++ [{ kind := .asset, work := [.assetErase, .assetProgram w] }])

/-- Thermal updates, the orderly stop and safe state. An update stores what was measured, fails sensors out of range,
finds the hottest node and moves the level by at most one step; at CRIT the stop begins, lines close, the device
drains, and safe state follows. -/
def Obligations.ThermalUpdatesAndTheStop : Prop :=
  -- sensors, power and the hottest node (R409 to R411, R423); the level moves by at most one step (R412)
  (∀ (sensors : List Int) (np rails parts : List Nat) (s : State), wfThermal sensors np rails parts = true →
    Does (.thermalUpdate sensors np rails parts) s fun t => t.thm.rails = rails ∧ t.thm.parts = parts ∧
      t.thm.peakPow = max s.thm.peakPow (rails.foldl (· + ·) 0) ∧
      (∀ i : Fin 47, (t.node i).sensor = sensors[i.val]?.getD 0 ∧
        ((s.node i).failed = true ∨ outOfRange (sensors[i.val]?.getD 0) = true → (t.node i).failed = true)) ∧
      (∀ i : Fin 47, (t.node i).temp ≤ t.thm.tHot) ∧
      (∃ i : Fin 47, t.thm.hotNode = i.val ∧ (t.node i).temp = t.thm.tHot ∧
        ∀ j : Fin 47, j.val < i.val → (t.node j).temp < t.thm.tHot) ∧
      t.thm.level ≤ s.thm.level + 1 ∧ s.thm.level ≤ t.thm.level + 1 ∧
      (s.thm.level < t.levelTarget t.thm.tHot → t.thm.level = s.thm.level + 1) ∧
      (t.thm.level < s.thm.level → t.thm.hold = none ∧ t.levelTarget (t.thm.tHot + t.thmHyst) < s.thm.level)) ∧
  -- at the critical temperature the stop begins (R418)
  (∀ (sensors : List Int) (np rails parts : List Nat) (s : State), wfThermal sensors np rails parts = true →
    s.thm.stop = .none → s.thm.safe = false → s.rst.phase ≠ .inReset →
    Does (.thermalUpdate sensors np rails parts) s fun t =>
      (s.thmCrit ≤ t.thm.tHot → t.thm.stop = .closing ∧ t.thm.stopAt = s.now ∧ t.thm.stopSeq = s.tb.nextSeq ∧
        t.fu.commits = [] ∧ t.fget R.thmEvtCritical = 1) ∧
      (t.thm.tHot < s.thmCrit → t.thm.stop = .none ∧ t.fu.commits = s.fu.commits)) ∧
  (∀ (sensors : List Int) (np rails parts : List Nat) (s : State), wfThermal sensors np rails parts = false →
    exec (.thermalUpdate sensors np rails parts) s = .fault .illFormed) ∧
  (∀ (via : Via) (s : State), s.mayWrite via.path 0x0E000C = true → s.alone = true →
    Does (.sensRearm via) s fun t => ∀ i : Fin 47, (t.node i).sensor = (s.node i).sensor ∧
      (t.node i).model = (s.node i).model ∧ (t.node i).failed = outOfRange (s.node i).sensor) ∧
  -- a failure of the hottest node's sensor found there brings hold (R414)
  (∀ (via : Via) (i : Fin 47) (s : State), s.mayWrite via.path 0x0E000C = true → s.alone = true → s.thm.hold = none →
    s.thm.hotNode = i.val →
    Does (.sensRearm via) s fun t => t.thm.hold =
      if outOfRange (s.node i).sensor = true ∧ 0 < s.thm.level then some i.val else none) ∧
  (∀ s : State, s.thm.stop = .closing →
    (s.felt.lines = [] ∧ s.felt.areaHeld = []) ∨ s.thm.stopAt + 300000 ≤ s.now →
    Does .criticalClosure s fun t => t.thm.stop = .draining ∧ t.thm.stopAt = s.now ∧ t.felt.lines = [] ∧
      t.felt.areaHeld = [] ∧ t.hb.area = none) ∧
  (∀ s : State, s.thm.stop ≠ .closing ∨
      ((s.felt.lines ≠ [] ∨ s.felt.areaHeld ≠ []) ∧ s.now < s.thm.stopAt + 300000) →
    exec .criticalClosure s = .next s) ∧
  -- safe state (R419); a channel still parked at 10 ms becomes held (R418)
  (∀ s : State, s.thm.stop = .draining → s.thm.safe = false → s.drained = true ∨ s.thm.stopAt + 10000000 ≤ s.now →
    Does .criticalDrainEnd s fun t => t.thm.safe = true ∧ t.rst.ready = false ∧ t.felt.lines = [] ∧ t.cal.pair = [] ∧
      t.reel.ring = s.reel.ring ∧ t.reel.dir = s.reel.dir ∧
      (∀ e : Fin 8, (t.eng e).state = .disabled) ∧
      ∀ ch : Fin 16, (s.ch ch).state = .parked → (t.ch ch).state = .held) ∧
  (∀ s : State, s.thm.stop ≠ .draining ∨ s.thm.safe = true ∨
      (s.drained = false ∧ s.now < s.thm.stopAt + 10000000) →
    exec .criticalDrainEnd s = .next s)

/-- Hardware trip, droop, undervoltage and crystal failure. An unmasked comparator at 120 °C trips the device; a core
droop marks the lines in the lanes; an undervoltage shows its rail; a current fault fails its slice; a crystal failure
ends in the orderly drain. -/
def Obligations.TripDroopSuppliesAndCrystal : Prop :=
  -- an unmasked comparator at 120 °C (R420)
  (∀ (sensors : List Int) (i : Fin 47) (s : State), sensors.length = 47 → 1920 ≤ sensors[i.val]?.getD 0 →
    (s.node i).failed = false → s.thm.trip = false →
    Does (.thermalTrip sensors) s fun t => t.thm.trip = true ∧ t.thm.tripLatch = true ∧ t.pen.hiz = BitVec.allOnes 32 ∧
      t.reel.ring = [] ∧ t.reel.dir = [] ∧ t.reel.cuts = [] ∧ t.window = [] ∧ t.link.up = false ∧
      t.link.phyOn = false ∧ t.tnd.up = false ∧ (∀ p : Fin 4, (t.port p).state = .off) ∧
      (∀ m, t.mdll m = .bypassRef) ∧ t.rst.phase = .inReset ∧ t.rst.ready = false) ∧
  -- comparators of failed sensors are masked (R420)
  (∀ (sensors : List Int) (s : State), sensors.length = 47 →
    (∀ i : Fin 47, sensors[i.val]?.getD 0 < 1920 ∨ (s.node i).failed = true) →
    exec (.thermalTrip sensors) s = .next s) ∧
  (∀ (sensors : List Int) (s : State), sensors.length ≠ 47 → exec (.thermalTrip sensors) s = .fault .illFormed) ∧
  -- a core droop (R406)
  (∀ s : State,
    Does .coreDroop s fun t => t.thm.droopFrom = some (s.tb.nextSeq - 1) ∧ t.fget R.thmEvtCoreDroop = 1 ∧
      (∀ n : Fin 2, t.cal.lanes[n] = s.cal.lanes[n].map fun j => { j with droop := true }) ∧
      t.felt = s.felt ∧ t.reel = s.reel) ∧
  -- undervoltage of a rail (R405)
  (∀ (r : Fin 14) (s : State), bitOf s.thm.uv r.val = false →
    Does (.railUndervoltage r) s fun t => t.thm.uv = s.thm.uv ||| ((1 : BitVec 14) <<< r.val) ∧
      t.fget R.thmEvtSupplyUv = 1) ∧
  (∀ (r : Fin 14) (s : State), bitOf s.thm.uv r.val = true → exec (.railUndervoltage r) s = .next s) ∧
  (∀ (r : Fin 14) (s : State), exec (.railUndervoltageEnd r) s =
    .next { s with thm := { s.thm with uv := s.thm.uv &&& ~~~((1 : BitVec 14) <<< r.val) } }) ∧
  -- the current monitor of a slice (R408)
  (∀ (i : Fin 38) (readings : List Nat) (s : State), (s.slice i).state ≠ .failed → readings ≠ [] →
    (∀ ma, ma ∈ readings → s.fget R.thmIslHi < ma ∨
      (ma < s.fget R.thmIslLo ∧ ((s.slice i).state = .active ∨ (s.slice i).state = .rejoining))) →
    Does (.sliceCurrentFault i readings) s fun t => (t.slice i).state = .failed ∧ (t.slice i).cause = 5 ∧
      t.fget R.thmEvtIsl = 1 ∧ ∀ j, j ≠ i → t.slice j = s.slice j) ∧
  (∀ (i : Fin 38) (readings : List Nat) (ma : Nat) (s : State), (s.slice i).state = .failed ∨
      (ma ∈ readings ∧ ma ≤ s.fget R.thmIslHi ∧ (s.fget R.thmIslLo ≤ ma ∨ (s.slice i).state = .idle)) →
    exec (.sliceCurrentFault i readings) s = .next s) ∧
  (∀ s : State, s.clk.xtalOk = true →
    Does .crystalFailure s fun t => t.clk.xtalOk = false ∧ t.rst.ready = false ∧ t.thm.stop = .draining ∧
      t.felt.lines = [] ∧ (∀ p : Fin 4, (t.port p).state = .off) ∧ t.fget R.clkEvtXtalFail = 1) ∧
  (∀ s : State, s.clk.xtalOk = false → exec .crystalFailure s = .next s)

/-- What each reset keeps. Cold power-on keeps what is non-volatile; a warm reset keeps the web position, the staging
copy, locked registers and the reel's contents and returns every other register to its reset value; PERST_N resets the
link alone. -/
def Obligations.WhatAResetKeeps : Prop :=
  -- cold power-on: everything but what is non-volatile (R426)
  (∀ (a : BitVec 3) (strap : Bool) (s : State), s.tnd.asset = none →
    Does (.coldPowerOn a strap) s fun t => t.regs = [] ∧ t.tb = State.reset.tb ∧ t.fu = State.reset.fu ∧
      t.cmd = { State.reset.cmd with served := s.cmd.served } ∧ t.reel.trained = false ∧ t.reel.ring = [] ∧ t.reel.dir = [] ∧ t.window = [] ∧ t.tw.pointer = 0 ∧
      t.tw.strap = a ∧ t.rst.stuck = strap ∧ t.rst.phase = .inReset ∧ t.rst.cause = 0 ∧ t.rst.ready = false ∧
      t.tnd.log = s.tnd.log ∧ t.tnd.fuses = s.tnd.fuses ∧ t.tnd.slots = s.tnd.slots ∧ t.tnd.boots = s.tnd.boots ∧
      t.tnd.romKeys = s.tnd.romKeys ∧ t.tnd.banks.map (·.cells) = s.tnd.banks.map (·.cells) ∧
      t.tnd.revoked = s.tnd.revoked ∧ t.rst.trims = s.rst.trims ∧ t.thm.tripLatch = s.thm.tripLatch ∧
      t.tnd.queue = []) ∧
  (∀ (a : BitVec 3) (strap : Bool) (v : Word) (s : State), s.tnd.asset = some v →
    Does (.coldPowerOn a strap) s fun t => t.reg 0x000024 = v ∧ t.fget R.glbLockAssetSpent = 1) ∧
  -- a warm reset (R425 to R427)
  (∀ s : State, s.canonical = true → s.thm.trip = false → s.rst.stuck = false → s.rst.phase ≠ .inReset →
    Does .resetNAssert s fun t => t.rst.phase = .inReset ∧ t.rst.cause = 2 ∧ t.rst.ready = false ∧
      t.rst.seqAt = s.tb.nextSeq - 1 ∧ t.link.up = false ∧ t.tb.tick = s.tb.tick ∧ t.tb.nextSeq = s.tb.nextSeq ∧
      t.wc = s.wc ∧ t.tb.ream = s.tb.ream ∧ t.fu.staging = s.fu.staging ∧ t.rst.trims = s.rst.trims ∧ t.fu.commits = [] ∧ t.felt.lines = [] ∧ t.reel.ring = s.reel.ring ∧
      t.reel.dir = s.reel.dir ∧ t.tw.pointer = 0 ∧
      t.tnd.boots = s.tnd.boots ∧ t.tnd.inhibit = s.tnd.inhibit ∧
      (s.tnd.jobs = [] → t.tnd.queue = s.tnd.queue) ∧ t.reg 0x000014 = s.reg 0x000014 ∧ t.reg 0x000028 = s.reg 0x000028 ∧ 
      t.fget R.clkRefModeSel = s.fget R.clkRefModeSel ∧
      ∀ off, warmKept off = 0 → t.reg off = resetWord off) ∧
  (∀ s : State, s.thm.trip = false → s.rst.stuck = false → s.rst.phase ≠ .inReset → s.cmd.warmDue.isSome = true →
    Does .warmResetBegin s fun t => t.rst.phase = .inReset ∧ t.rst.cause = 3 ∧ t.rst.ready = false ∧
      t.wc = s.wc ∧ t.tb.ream = s.tb.ream ∧ t.fu.staging = s.fu.staging ∧ t.reel.ring = s.reel.ring) ∧
  -- while a reset is asserted the higher source stands; a trip or a test strap leaves no way out (R420, R438, R455)
  (∀ s : State, s.thm.trip = false → s.rst.stuck = false → s.rst.phase = .inReset →
    exec .resetNAssert s = .next (if s.rst.cause = 0 ∨ s.rst.cause = 2 then s else
      { s with rst := { s.rst with cause := 2 } })) ∧
  (∀ s : State, s.thm.trip = true ∨ s.rst.stuck = true → exec .resetNAssert s = .next s) ∧
  (∀ s : State, s.cmd.warmDue = none → exec .warmResetBegin s = .next s) ∧
  -- PERST_N resets the link alone (R425, R426)
  (∀ s : State, s.rst.phase ≠ .inReset →
    Does .perstNAssert s fun t => t.rst.cause = 1 ∧ t.rst.phase = s.rst.phase ∧ t.rst.ready = s.rst.ready ∧
      t.link.up = false ∧ t.link.perstLow = true ∧ t.tb = s.tb ∧ t.felt = s.felt ∧ t.fu = s.fu ∧ t.pen = s.pen ∧
      t.tw.pointer = s.tw.pointer) ∧
  (∀ s : State, exec .perstNDeassert s = .next { s with link := { s.link with perstLow := false } })

/-- Start-up, bank selection and READY. The ROM boots the preferred bank, else the other one, else enters recovery
mode; the clocks lock and the reel trains; without a crystal the start-up stays in its first step; READY comes once,
below the release temperature. -/
def Obligations.StartUpAndReady : Prop :=
  -- the preferred bank passes, and is no trial that was not confirmed: the clocks lock or run on bypass, the reel trains
  -- (R381, R428, R429)
  (∀ (u : StartUp) (s : State), s.rst.phase = .inReset → s.thm.trip = false → s.rst.stuck = false →
    u.crystal = true → s.tnd.recovery = false → (s.tnd.boot.trial && s.tnd.boot.tried) = false →
    (s.fw (pickBank s.tnd.boot.pref)).check s.tnd.romKeys s.tnd.revoked s.tnd.fuses = 0 →
    Does (.resetRelease u) s fun t => t.rst.phase = .started ∧ t.tnd.up = true ∧ t.tnd.bank = s.tnd.boot.pref ∧
      t.tnd.trial = s.tnd.boot.trial ∧ t.tnd.recovery = false ∧ t.reel.trained = u.reelOk ∧
      t.tnd.resident = (s.fw (pickBank s.tnd.boot.pref)).resident ∧
      -- the start is counted in the copy of the boot record that is not in force, or waits under an inhibit (R372, R385)
      (s.nvShut = false → t.tnd.boots[s.tnd.spare] = some { s.tnd.boot with
        seq := s.tnd.boot.seq + 1, tried := s.tnd.boot.trial, count := s.tnd.boot.count + 1 }) ∧
      (s.nvShut = true → t.tnd.boots = s.tnd.boots) ∧
      ∀ m, t.mdll m = if t.refPresent then .locked else .bypassRef) ∧
  -- it fails or its trial was not confirmed, and the other passes (R381)
  (∀ (u : StartUp) (s : State), s.rst.phase = .inReset → s.thm.trip = false → s.rst.stuck = false →
    u.crystal = true →
    (s.tnd.boot.trial && s.tnd.boot.tried) = true ∨
      (s.fw (pickBank s.tnd.boot.pref)).check s.tnd.romKeys s.tnd.revoked s.tnd.fuses ≠ 0 →
    (s.fw (pickBank (!s.tnd.boot.pref))).check s.tnd.romKeys s.tnd.revoked s.tnd.fuses = 0 →
    Does (.resetRelease u) s fun t => t.rst.phase = .started ∧ t.tnd.bank = (!s.tnd.boot.pref) ∧
      t.tnd.trial = false ∧ t.tnd.fallback = true ∧ t.fget R.mgtEvtFallback = 1 ∧
      (s.nvShut = false → t.tnd.boots[s.tnd.spare] = some {
        seq := s.tnd.boot.seq + 1, pref := !s.tnd.boot.pref, trial := false, tried := false
        count := s.tnd.boot.count + 1 })) ∧
  -- both fail: recovery mode, and the sequence ends there (R381, R428)
  (∀ (u : StartUp) (s : State), s.rst.phase = .inReset → s.thm.trip = false → s.rst.stuck = false →
    u.crystal = true →
    (s.fw 0).check s.tnd.romKeys s.tnd.revoked s.tnd.fuses ≠ 0 →
    (s.fw 1).check s.tnd.romKeys s.tnd.revoked s.tnd.fuses ≠ 0 →
    Does (.resetRelease u) s fun t => t.rst.phase = .started ∧ t.tnd.recovery = true ∧ t.clk.core = s.clk.core ∧
      t.cal = s.cal) ∧
  -- without a crystal it stays in step 1 (R435)
  (∀ (u : StartUp) (s : State), s.rst.phase = .inReset → s.thm.trip = false → s.rst.stuck = false →
    u.crystal = false →
    Does (.resetRelease u) s fun t => t.rst.phase = .released ∧ t.tnd.up = true ∧ t.clk.xtalOk = false ∧
      t.tnd.bank = s.tnd.bank) ∧
  (∀ (u : StartUp) (s : State), s.rst.phase ≠ .inReset ∨ s.thm.trip = true ∨ s.rst.stuck = true →
    exec (.resetRelease u) s = .next s) ∧
  -- READY (R431, R71): every slice is active; those that fail their start-up check are to fail in the first line period,
  -- the slow clock first (assumption 33)
  (∀ (bad : BitVec 38) (s : State), s.rst.phase = .started → s.rst.wasReady = false → s.tnd.recovery = false →
    s.clk.xtalOk = true → s.thm.safe = false → s.thm.stop = .none → s.thm.tHot < s.thmStart - s.thmHyst →
    Does (.ready bad) s fun t => t.rst.ready = true ∧ t.rst.wasReady = true ∧ t.rst.readyAt = s.now ∧
      -- a bank on trial is confirmed by a rewrite of the boot record (R381)
      t.tnd.jobs = s.tnd.jobs ++ (if s.tnd.trial = true then
        [{ kind := .boot true, work := [.bootErase, .bootConfirm s.tnd.bank] }] else []) ∧
      (∀ i : Fin 38, (t.slice i).state = .active) ∧
      (∀ i : Fin 38, s.sliceSlow i = true → (i, 2) ∈ t.rst.failDue) ∧
      ∀ i : Fin 38, s.sliceSlow i = false → bitOf bad i.val = true → (i, 4) ∈ t.rst.failDue) ∧
  -- it comes once, and is held off in recovery mode, without the crystal, in a stop and above the release temperature
  -- (R431)
  (∀ (bad : BitVec 38) (s : State), s.tnd.recovery = true ∨ s.rst.wasReady = true ∨ s.rst.phase ≠ .started ∨
      s.clk.xtalOk = false ∨ s.thm.safe = true ∨ s.thm.stop ≠ .none ∨ s.thmStart - s.thmHyst ≤ s.thm.tHot →
    exec (.ready bad) s = .next s)
end

