-- ==== Sys2Proof/Laws/Regs.lean ====
section
/-! SUPPORT. Sparse stores keep their canonical form and read back what was written; register fields read back what was
written and leave every other field alone. -/

namespace Sys2Proof.Machine

/-! ### Sparse stores -/

/-- The first key of a store, if any, lies above a key. -/
def above {α : Type} (k : Nat) : List (Nat × α) → Bool
  | [] => true
  | (j, _) :: _ => decide (k < j)

theorem msorted_cons {α : Type} (k : Nat) (v : α) (m : List (Nat × α)) :
    msorted ((k, v) :: m) = (above k m && msorted m) := by
  cases m with
  | nil => rfl
  | cons e m => cases e; rfl

theorem above_mono {α : Type} {k l : Nat} {m : List (Nat × α)} (h : above l m = true) (g : k ≤ l) : above k m = true := by
  cases m with
  | nil => rfl
  | cons e m =>
    have h : l < e.1 := of_decide_eq_true h
    exact decide_eq_true (by omega)

theorem mget_of_above {α : Type} {k : Nat} {m : List (Nat × α)} (h : above k m = true) (ok : msorted m = true) :
    mget k m = none := by
  induction m with
  | nil => rfl
  | cons e m ih =>
    cases e with
    | mk j w =>
      have h : k < j := of_decide_eq_true h
      rw [msorted_cons, Bool.and_eq_true] at ok
      simp only [mget]
      rw [if_neg (by omega), ih (above_mono ok.1 (by omega)) ok.2]

theorem mget_mput_same {α : Type} (k : Nat) (v : α) (m : List (Nat × α)) : mget k (mput k v m) = some v := by
  induction m with
  | nil => simp [mput, mget]
  | cons e m ih =>
    cases e with
    | mk j w =>
      simp only [mput]
      split
      · simp [mget]
      · split
        · simp [mget]
        · rename_i h g
          simp [mget, g, ih]

theorem mget_mput_other {α : Type} {k l : Nat} (v : α) (m : List (Nat × α)) (h : l ≠ k) :
    mget l (mput k v m) = mget l m := by
  induction m with
  | nil =>
    simp only [mput, mget]
    rw [if_neg h]
  | cons e m ih =>
    cases e with
    | mk j w =>
      simp only [mput]
      split
      · simp only [mget]
        rw [if_neg h]
      · split
        · rename_i g
          subst g
          simp only [mget]
          rw [if_neg h, if_neg h]
        · simp only [mget, ih]

theorem mget_mdel_other {α : Type} {k l : Nat} (m : List (Nat × α)) (h : l ≠ k) : mget l (mdel k m) = mget l m := by
  induction m with
  | nil => rfl
  | cons e m ih =>
    cases e with
    | mk j w =>
      simp only [mdel]
      split
      · rename_i g
        subst g
        simp only [mget]
        rw [if_neg h, ih]
      · simp only [mget, ih]

theorem mget_mdel_same {α : Type} (k : Nat) (m : List (Nat × α)) : mget k (mdel k m) = none := by
  induction m with
  | nil => rfl
  | cons e m ih =>
    cases e with
    | mk j w =>
      simp only [mdel]
      split
      · exact ih
      · rename_i h
        simp [mget, h, ih]

theorem above_mput {α : Type} {k l : Nat} (v : α) {m : List (Nat × α)} (h : above l m = true) (g : l < k) :
    above l (mput k v m) = true := by
  cases m with
  | nil => exact decide_eq_true g
  | cons e m =>
    cases e with
    | mk j w =>
      simp only [mput]
      split
      · exact decide_eq_true g
      · split
        · exact decide_eq_true g
        · exact h

theorem msorted_mput {α : Type} (k : Nat) (v : α) {m : List (Nat × α)} (ok : msorted m = true) :
    msorted (mput k v m) = true := by
  induction m with
  | nil => rfl
  | cons e m ih =>
    cases e with
    | mk j w =>
      have ok' := ok
      rw [msorted_cons, Bool.and_eq_true] at ok
      simp only [mput]
      split
      · rename_i g
        rw [msorted_cons, ok', Bool.and_true]
        exact decide_eq_true g
      · split
        · rename_i g
          subst g
          rw [msorted_cons, ok.1, ok.2]
          rfl
        · rw [msorted_cons, ih ok.2, above_mput v ok.1 (by omega)]
          rfl

theorem above_mdel {α : Type} {k l : Nat} {m : List (Nat × α)} (ok : msorted m = true) (h : above l m = true) :
    above l (mdel k m) = true := by
  induction m with
  | nil => rfl
  | cons e m ih =>
    cases e with
    | mk j w =>
      rw [msorted_cons, Bool.and_eq_true] at ok
      have g : l < j := of_decide_eq_true h
      simp only [mdel]
      split
      · exact ih ok.2 (above_mono ok.1 (by omega))
      · exact h

theorem msorted_mdel {α : Type} (k : Nat) {m : List (Nat × α)} (ok : msorted m = true) : msorted (mdel k m) = true := by
  induction m with
  | nil => rfl
  | cons e m ih =>
    cases e with
    | mk j w =>
      rw [msorted_cons, Bool.and_eq_true] at ok
      simp only [mdel]
      split
      · exact ih ok.2
      · rw [msorted_cons, ih ok.2, above_mdel ok.2 ok.1]
        rfl

/-- A write keeps the keys rising. -/
theorem msorted_mset {α : Type} [DecidableEq α] (d : α) (k : Nat) (v : α) {m : List (Nat × α)} (ok : msorted m = true) :
    msorted (mset d k v m) = true := by
  unfold mset
  split
  · exact msorted_mdel k ok
  · exact msorted_mput k v ok

/-- A store reads back what was written. -/
theorem mget_mset_same {α : Type} [DecidableEq α] (d : α) (k : Nat) (v : α) (m : List (Nat × α)) :
    (mget k (mset d k v m)).getD d = v := by
  unfold mset
  split
  · rename_i h
    rw [mget_mdel_same k m, h]
    rfl
  · rw [mget_mput_same]
    rfl

/-- A write leaves every other key alone. -/
theorem mget_mset_other {α : Type} [DecidableEq α] (d : α) {k l : Nat} (v : α) (m : List (Nat × α)) (h : l ≠ k) :
    mget l (mset d k v m) = mget l m := by
  unfold mset
  split
  · exact mget_mdel_other m h
  · exact mget_mput_other v m h

/-! ### Registers -/

theorem regGet_regSet_same (off : Nat) (v : Word) (m : RegMap) :
    regGet (regSet m off v) off = v := mget_mset_same _ _ _ _

theorem regGet_regSet_other {off o : Nat} (v : Word) (m : RegMap) (h : o ≠ off) :
    regGet (regSet m off v) o = regGet m o := by
  unfold regGet regSet
  rw [mget_mset_other _ _ _ h]

theorem State.reg_setReg_same (off : Nat) (v : Word) (s : State) :
    (s.setReg off v).reg off = v := regGet_regSet_same off v _

theorem State.reg_setReg_other {off o : Nat} (v : Word) (s : State) (h : o ≠ off) :
    (s.setReg off v).reg o = s.reg o := regGet_regSet_other v _ h

theorem State.sorted_setReg (off : Nat) (v : Word) {s : State} (ok : msorted s.regs = true) :
    msorted (s.setReg off v).regs = true := msorted_mset _ _ _ ok

theorem State.sorted_fset (f : Fld) (v : Nat) {s : State} (ok : msorted s.regs = true) :
    msorted (s.fset f v).regs = true := s.sorted_setReg _ _ ok

/-! ### Fields -/

theorem bits_testBit {w : Nat} (x : BitVec w) (lo n i : Nat) :
    (bits x lo n).testBit i = (decide (i < n) && x.getLsbD (lo + i)) := by
  simp [bits, Nat.testBit_mod_two_pow, Nat.testBit_shiftRight, BitVec.getLsbD]

theorem setBits_getLsbD (x : Word) (lo n v i : Nat) :
    (setBits x lo n v).getLsbD i =
      (decide (i < 32) && (if lo ≤ i ∧ i < lo + n then v.testBit (i - lo) else x.getLsbD i)) := by
  simp only [setBits, BitVec.getLsbD_or, BitVec.getLsbD_and, BitVec.getLsbD_not, BitVec.getLsbD_ofNat,
    Nat.testBit_shiftLeft, Nat.testBit_two_pow_sub_one, Nat.testBit_mod_two_pow]
  by_cases h : i < 32 <;> by_cases a : lo ≤ i <;> by_cases b : i - lo < n
  all_goals
    try have c : i < lo + n := by omega
    try have c : ¬ i < lo + n := by omega
    simp [h, a, b, c]
  all_goals first
    | done
    | (have := x.getLsbD_of_ge i (by omega); simp [this])
    | (intro; omega)

/-- A field reads what was written to it, modulo its range. -/
theorem bits_setBits_same (x : Word) {lo n : Nat} (v : Nat) (h : lo + n ≤ 32) :
    bits (setBits x lo n v) lo n = v % 2 ^ n := by
  apply Nat.eq_of_testBit_eq
  intro i
  rw [bits_testBit, setBits_getLsbD, Nat.testBit_mod_two_pow]
  by_cases g : i < n
  · simp [g, show lo + i < 32 by omega, show lo ≤ lo + i by omega, show lo + i < lo + n by omega]
  · simp [g]

/-- A field keeps its value when bits outside it are written. -/
theorem bits_setBits_other (x : Word) {lo n lo' n' : Nat} (v : Nat) (h : lo' + n' ≤ lo ∨ lo + n ≤ lo') :
    bits (setBits x lo n v) lo' n' = bits x lo' n' := by
  apply Nat.eq_of_testBit_eq
  intro i
  rw [bits_testBit, bits_testBit, setBits_getLsbD]
  by_cases g : i < n'
  · by_cases k : lo' + i < 32
    · rw [if_neg (by omega)]
      simp [k]
    · have := x.getLsbD_of_ge (lo' + i) (by omega)
      simp [k, this]
  · simp [g]

theorem State.fget_fset_same (f : Fld) (v : Nat) (s : State) (h : f.lo + f.n ≤ 32) :
    (s.fset f v).fget f = v % 2 ^ f.n := by
  unfold State.fget State.fset
  rw [State.reg_setReg_same, bits_setBits_same _ _ h]

theorem State.fget_fset_reg {f g : Fld} (v : Nat) (s : State) (h : g.off ≠ f.off) :
    (s.fset f v).fget g = s.fget g := by
  unfold State.fget State.fset
  rw [State.reg_setReg_other _ _ h]

theorem State.fget_fset_bits {f g : Fld} (v : Nat) (s : State) (e : g.off = f.off)
    (h : g.lo + g.n ≤ f.lo ∨ f.lo + f.n ≤ g.lo) : (s.fset f v).fget g = s.fget g := by
  unfold State.fget State.fset
  rw [e, State.reg_setReg_same, bits_setBits_other _ _ h]

end Sys2Proof.Machine
end

