-- ==== Sys2Proof/Laws/Frame.lean ====
section
/-! SUPPORT. Frames: `Frame ps s t` says that from `s` to `t` nothing changes outside the parts `ps`, and that the stores
stay in canonical form. How frames compose, and the frame of each shared way to build a change. -/

namespace Sys2Proof.Machine

/-- Every part of a list is in another. -/
def within (qs ps : List Part) : Bool := qs.all fun p => ps.contains p

theorem within_trans {ps qs rs : List Part} (v : within ps qs = true) (w : within qs rs = true) :
    within ps rs = true := by
  unfold within at *
  rw [List.all_eq_true] at *
  intro p hp
  have h := v p hp
  rw [List.contains_iff_mem] at h
  exact w p h

theorem Part.same_refl (s : State) (p : Part) : p.same s s := by
  cases p <;> first | rfl | exact fun _ _ => rfl

theorem Part.same_trans {s t u : State} {p : Part} (h : p.same s t) (k : p.same t u) : p.same s u := by
  cases p <;> first | exact Eq.trans k h | exact fun off o => (k off o).trans (h off o)

/-- From `s` to `t` only the parts `ps` change, and the stores stay in canonical form. -/
def Frame (ps : List Part) (s t : State) : Prop := Only ps s t ∧ (s.canonical = true → t.canonical = true)

theorem Only.mono {ps qs : List Part} {s t : State} (h : Only qs s t) (w : within qs ps = true) : Only ps s t := by
  intro p hp
  apply h
  cases hq : qs.contains p with
  | false => rfl
  | true =>
    have hm : p ∈ qs := by simpa using hq
    have := List.all_eq_true.mp w p hm
    rw [hp] at this
    cases this

theorem Frame.refl (ps : List Part) (s : State) : Frame ps s s := ⟨fun p _ => p.same_refl s, id⟩

theorem Frame.mono {ps qs : List Part} {s t : State} (h : Frame qs s t) (w : within qs ps = true) : Frame ps s t :=
  ⟨h.1.mono w, h.2⟩

theorem Frame.then {ps : List Part} {s t u : State} (h : Frame ps s u) (k : Frame ps u t) : Frame ps s t :=
  ⟨fun p hp => Part.same_trans (h.1 p hp) (k.1 p hp), fun c => k.2 (h.2 c)⟩

/-- Two changes, the later one first, so that its states are known when the earlier one is proved. -/
theorem Frame.by {ps qs : List Part} {s t u : State} (k : Frame qs u t) (w : within qs ps = true) (h : Frame ps s u) :
    Frame ps s t := h.then (k.mono w)

theorem Frame.ite {ps : List Part} {s t u : State} {c : Prop} {_d : Decidable c} (h : Frame ps s t)
    (k : Frame ps s u) : Frame ps s (if c then t else u) := by
  split
  · exact h
  · exact k

theorem Frame.iteSnd {α : Type} {ps : List Part} {s : State} {t u : α × State} {c : Prop} {_d : Decidable c}
    (h : Frame ps s t.2) (k : Frame ps s u.2) : Frame ps s (if c then t else u).2 := by
  split
  · exact h
  · exact k

theorem Frame.iteFst {α : Type} {ps : List Part} {s : State} {t u : State × α} {c : Prop} {_d : Decidable c}
    (h : Frame ps s t.1) (k : Frame ps s u.1) : Frame ps s (if c then t else u).1 := by
  split
  · exact h
  · exact k

theorem Frame.iff {ps : List Part} {s u : State} {c : Bool} {f : State → State} (h : Frame ps s u)
    (k : ∀ v, Frame ps v (f v)) : Frame ps s (u.iff c f) := by
  unfold State.iff
  exact .ite (h.then (k u)) h

theorem Frame.fold {α : Type} {ps : List Part} {f : State → α → State} (k : ∀ v a, Frame ps v (f v a)) (l : List α) :
    ∀ {s u : State}, Frame ps s u → Frame ps s (l.foldl f u) := by
  induction l with
  | nil => exact fun h => h
  | cons a l ih => exact fun h => ih (h.then (k _ a))

theorem Frame.each {α : Type} {ps : List Part} {f : α → State → State} {l : List α} {s u : State} (h : Frame ps s u)
    (k : ∀ a v, Frame ps v (f a v)) : Frame ps s (u.each l f) := Frame.fold (fun v a => k a v) l h

theorem Frame.eachMem {α : Type} {ps : List Part} {f : α → State → State} {l : List α} {s u : State}
    (h : Frame ps s u) (k : ∀ a, a ∈ l → ∀ v, Frame ps v (f a v)) : Frame ps s (u.each l f) := by
  unfold State.each
  induction l generalizing u with
  | nil => exact h
  | cons a l ih => exact ih (h.then (k a (.head l) u)) fun b m => k b (.tail a m)

/-! ### Registers that software alone writes -/

theorem hw_range {a b : Nat} (h : softwareRegs.all (fun off => decide (off < a) || decide (b ≤ off)) = true) {off : Nat}
    (l : a ≤ off) (r : off < b) : softwareRegs.contains off = false := by
  cases e : softwareRegs.contains off with
  | false => rfl
  | true =>
    have m : off ∈ softwareRegs := by simpa using e
    have := List.all_eq_true.mp h off m
    simp only [Bool.or_eq_true, decide_eq_true_eq] at this
    omega

theorem hw_cmdQEvtBind (i : Fin 8) : softwareRegs.contains (R.cmdQEvtBind i.val).off = false := by
  revert i; decide

theorem hw_cmdQEvtCpl (i : Fin 8) : softwareRegs.contains (R.cmdQEvtCpl i.val).off = false := by
  revert i; decide

theorem hw_cmdQEvtCqWait (i : Fin 8) : softwareRegs.contains (R.cmdQEvtCqWait i.val).off = false := by
  revert i; decide

theorem hw_cmdQEvtFetchErr (i : Fin 8) : softwareRegs.contains (R.cmdQEvtFetchErr i.val).off = false := by
  revert i; decide

theorem hw_cmdQEvtLostCpl (i : Fin 8) : softwareRegs.contains (R.cmdQEvtLostCpl i.val).off = false := by
  revert i; decide

theorem hw_cmdQLost (i : Fin 8) : softwareRegs.contains (R.cmdQLost i.val).off = false := by
  revert i; decide

theorem hw_dmaChEvtDrop (i : Fin 16) : softwareRegs.contains (R.dmaChEvtDrop i.val).off = false := by
  revert i; decide

theorem hw_dmaChEvtErr (i : Fin 16) : softwareRegs.contains (R.dmaChEvtErr i.val).off = false := by
  revert i; decide

theorem hw_dmaChEvtPark (i : Fin 16) : softwareRegs.contains (R.dmaChEvtPark i.val).off = false := by
  revert i; decide

theorem hw_dmaChEvtPasidRef (i : Fin 16) : softwareRegs.contains (R.dmaChEvtPasidRef i.val).off = false := by
  revert i; decide

theorem hw_dmaChEvtRefused (i : Fin 16) : softwareRegs.contains (R.dmaChEvtRefused i.val).off = false := by
  revert i; decide

theorem hw_dmaChEvtTooSmall (i : Fin 16) : softwareRegs.contains (R.dmaChEvtTooSmall i.val).off = false := by
  revert i; decide

theorem hw_dmaChEvtUnpark (i : Fin 16) : softwareRegs.contains (R.dmaChEvtUnpark i.val).off = false := by
  revert i; decide

theorem hw_dmaChFaults (i : Fin 16) : softwareRegs.contains (R.dmaChFaults i.val).off = false := by
  revert i; decide

theorem hw_dmaChParks (i : Fin 16) : softwareRegs.contains (R.dmaChParks i.val).off = false := by
  revert i; decide

theorem hw_dmaDropsHi (i : Fin 16) : softwareRegs.contains (R.dmaDropsHi i.val).off = false := by
  revert i; decide

theorem hw_dmaDropsLo (i : Fin 16) : softwareRegs.contains (R.dmaDropsLo i.val).off = false := by
  revert i; decide

theorem hw_dmaFaultVaHi (i : Fin 16) : softwareRegs.contains (R.dmaFaultVaHi i.val).off = false := by
  revert i; decide

theorem hw_dmaFaultVaLo (i : Fin 16) : softwareRegs.contains (R.dmaFaultVaLo i.val).off = false := by
  revert i; decide

theorem hw_dmaUnitsHi (i : Fin 16) : softwareRegs.contains (R.dmaUnitsHi i.val).off = false := by
  revert i; decide

theorem hw_dmaUnitsLo (i : Fin 16) : softwareRegs.contains (R.dmaUnitsLo i.val).off = false := by
  revert i; decide

theorem hw_glbLinkPrbsErr (i : Nat) (h : i ∈ List.range 8) :
    softwareRegs.contains (R.glbLinkPrbsErr i).off = false := by
  have := List.mem_range.mp h
  exact hw_range (a := 0x000420) (b := 0x000440) rfl (by unfold R.glbLinkPrbsErr; simp) (by unfold R.glbLinkPrbsErr; simp; omega)

theorem hw_hbxSlCtrlForceFail (i : Fin 38) : softwareRegs.contains (R.hbxSlCtrlForceFail i.val).off = false := by
  revert i; decide

theorem hw_hbxSlMiss (i : Fin 38) : softwareRegs.contains (R.hbxSlMiss i.val).off = false := by
  revert i; decide

theorem hw_penEvtBadOp (i : Fin 8) : softwareRegs.contains (R.penEvtBadOp i.val).off = false := by
  revert i; decide

theorem hw_penEvtLate (i : Fin 8) : softwareRegs.contains (R.penEvtLate i.val).off = false := by
  revert i; decide

theorem hw_penEvtOver (i : Fin 8) : softwareRegs.contains (R.penEvtOver i.val).off = false := by
  revert i; decide

theorem hw_penEvtPinConflict (i : Fin 8) : softwareRegs.contains (R.penEvtPinConflict i.val).off = false := by
  revert i; decide

theorem hw_penEvtProgBusy (i : Fin 8) : softwareRegs.contains (R.penEvtProgBusy i.val).off = false := by
  revert i; decide

theorem hw_penEvtSig (i : Fin 8) : softwareRegs.contains (R.penEvtSig i.val).off = false := by
  revert i; decide

theorem hw_penEvtStepped (i : Fin 8) : softwareRegs.contains (R.penEvtStepped i.val).off = false := by
  revert i; decide

theorem hw_penEvtTrigIgn (i : Fin 8) : softwareRegs.contains (R.penEvtTrigIgn i.val).off = false := by
  revert i; decide

theorem hw_penEvtTxOvf (i : Fin 8) : softwareRegs.contains (R.penEvtTxOvf i.val).off = false := by
  revert i; decide

theorem hw_penEvtUnder (i : Fin 8) : softwareRegs.contains (R.penEvtUnder i.val).off = false := by
  revert i; decide

theorem hw_wlkPBad (i : Fin 4) : softwareRegs.contains (R.wlkPBad i.val).off = false := by
  revert i; decide

theorem hw_wlkPDown (i : Fin 4) : softwareRegs.contains (R.wlkPDown i.val).off = false := by
  revert i; decide

theorem hw_wlkPErr (i : Fin 4) (j : Nat) (h : j ∈ List.range 2) :
    softwareRegs.contains (R.wlkPErr i.val j).off = false := by
  have := List.mem_range.mp h
  exact hw_range (a := 0x0B0100) (b := 0x0B0200) rfl (by unfold R.wlkPErr; simp; omega) (by unfold R.wlkPErr; simp; omega)

theorem hw_chCtrl (i : Fin 16) : softwareRegs.contains (0x090000 + 512 * i.val) = false := by
  revert i; decide

theorem hw_qCtrl (i : Fin 8) : softwareRegs.contains (0x0A0000 + 64 * i.val) = false := by
  revert i; decide

theorem hw_portCtrl (i : Fin 4) : softwareRegs.contains (0x0B0100 + 64 * i.val) = false := by
  revert i; decide

theorem hw_tx (i : Fin 8) : softwareRegs.contains (0x0C0110 + 64 * i.val) = false := by
  revert i; decide

/-! ### The canonical form -/

theorem all_mdel {α : Type} (p : Nat × α → Bool) (k : Nat) {m : List (Nat × α)} (h : m.all p = true) :
    (mdel k m).all p = true := by
  induction m with
  | nil => rfl
  | cons e m ih =>
    cases e with
    | mk j w =>
      rw [List.all_cons, Bool.and_eq_true] at h
      simp only [mdel]
      split
      · exact ih h.2
      · rw [List.all_cons, h.1, ih h.2]
        rfl

theorem all_mput {α : Type} (p : Nat × α → Bool) (k : Nat) (v : α) (g : p (k, v) = true) {m : List (Nat × α)}
    (h : m.all p = true) : (mput k v m).all p = true := by
  induction m with
  | nil => simp [mput, g]
  | cons e m ih =>
    cases e with
    | mk j w =>
      have h' := h
      rw [List.all_cons, Bool.and_eq_true] at h
      simp only [mput]
      split
      · rw [List.all_cons, g, h']
        rfl
      · split
        · rw [List.all_cons, g, h.2]
          rfl
        · rw [List.all_cons, h.1, ih h.2]
          rfl

theorem canonicalStore_mset {α : Type} [DecidableEq α] (d : Nat → α) (k : Nat) (v : α) {m : List (Nat × α)}
    (h : canonicalStore d m = true) : canonicalStore d (mset (d k) k v m) = true := by
  unfold canonicalStore at *
  rw [Bool.and_eq_true] at *
  refine ⟨msorted_mset _ _ _ h.1, ?_⟩
  unfold mset
  split
  · exact all_mdel _ _ h.2
  · rename_i g
    exact all_mput _ _ _ (decide_eq_true g) h.2

theorem State.canonical_iff (s : State) : s.canonical = true ↔
    canonicalStore resetWord s.regs = true ∧ canonicalStore (fun _ => 0) s.obs.cnt = true ∧ Memory.wf s.window = true := by
  unfold State.canonical
  rw [Bool.and_eq_true, Bool.and_eq_true, and_assoc]

theorem State.canonical_sorted {s : State} (h : s.canonical = true) : msorted s.regs = true := by
  have h := (s.canonical_iff.mp h).1
  unfold canonicalStore at h
  rw [Bool.and_eq_true] at h
  exact h.1

/-- A change that leaves the stores alone keeps them canonical. -/
theorem Frame.of_same {ps : List Part} {s t : State} (h : Only ps s t) (r : t.regs = s.regs)
    (o : t.obs.cnt = s.obs.cnt) (w : t.window = s.window) : Frame ps s t :=
  ⟨h, fun c => by
    unfold State.canonical at *
    rw [r, o, w]
    exact c⟩

theorem Frame.put_free (v : Nat) (u : State) : Frame [.free] u { u with free := v } :=
  ⟨fun p hp => by cases p <;> first | (cases hp; done) | rfl | exact fun _ _ => rfl, id⟩

theorem Frame.set_window (v : List Host.Cell) (p : List Nat) (u : State)
    (w : Memory.wf u.window = true → Memory.wf v = true) :
    Frame [.window, .poison] u { u with window := v, poison := p } :=
  ⟨fun p hp => by cases p <;> first | (cases hp; done) | rfl | exact fun _ _ => rfl, fun c => by
    have h := u.canonical_iff.mp c
    exact State.canonical_iff _ |>.mpr ⟨h.1, h.2.1, w h.2.2⟩⟩

theorem Frame.put_window_poison (u : State) : Frame [.window, .poison] u { u with window := [], poison := [] } :=
  ⟨fun p hp => by cases p <;> first | (cases hp; done) | rfl | exact fun _ _ => rfl, fun c => by
    have h := u.canonical_iff.mp c
    exact State.canonical_iff _ |>.mpr ⟨h.1, h.2.1, rfl⟩⟩

theorem Frame.put_shadow (v : List (Path × Nat × Word)) (u : State) : Frame [.shadow] u { u with shadow := v } :=
  ⟨fun p hp => by cases p <;> first | (cases hp; done) | rfl | exact fun _ _ => rfl, id⟩

end Sys2Proof.Machine
end

