-- ==== Sys2Proof/Laws/Ops.lean ====
section
/-! SUPPORT. The frames of the operations of Machine/Ops.lean: each changes the parts named and no others, and
keeps the stores canonical. -/

namespace Sys2Proof.Machine

theorem State.modTb_frame : ∀ a0 s, Frame [.tb] s (State.modTb a0 s) := by
  intro a0 s
  unfold State.modTb
  exact ⟨fun p hp => by cases p <;> first | (cases hp; done) | rfl | exact fun _ _ => rfl, id⟩

theorem State.modHb_frame : ∀ a0 s, Frame [.hb] s (State.modHb a0 s) := by
  intro a0 s
  unfold State.modHb
  exact ⟨fun p hp => by cases p <;> first | (cases hp; done) | rfl | exact fun _ _ => rfl, id⟩

theorem State.modFelt_frame : ∀ a0 s, Frame [.felt] s (State.modFelt a0 s) := by
  intro a0 s
  unfold State.modFelt
  exact ⟨fun p hp => by cases p <;> first | (cases hp; done) | rfl | exact fun _ _ => rfl, id⟩

theorem State.modFu_frame : ∀ a0 s, Frame [.fu] s (State.modFu a0 s) := by
  intro a0 s
  unfold State.modFu
  exact ⟨fun p hp => by cases p <;> first | (cases hp; done) | rfl | exact fun _ _ => rfl, id⟩

theorem State.modCal_frame : ∀ a0 s, Frame [.cal] s (State.modCal a0 s) := by
  intro a0 s
  unfold State.modCal
  exact ⟨fun p hp => by cases p <;> first | (cases hp; done) | rfl | exact fun _ _ => rfl, id⟩

theorem State.modFmt_frame : ∀ a0 s, Frame [.fmt] s (State.modFmt a0 s) := by
  intro a0 s
  unfold State.modFmt
  exact ⟨fun p hp => by cases p <;> first | (cases hp; done) | rfl | exact fun _ _ => rfl, id⟩

theorem State.modSts_frame : ∀ a0 s, Frame [.sts] s (State.modSts a0 s) := by
  intro a0 s
  unfold State.modSts
  exact ⟨fun p hp => by cases p <;> first | (cases hp; done) | rfl | exact fun _ _ => rfl, id⟩

theorem State.modScr_frame : ∀ a0 s, Frame [.scr] s (State.modScr a0 s) := by
  intro a0 s
  unfold State.modScr
  exact ⟨fun p hp => by cases p <;> first | (cases hp; done) | rfl | exact fun _ _ => rfl, id⟩

theorem State.modReel_frame : ∀ a0 s, Frame [.reel] s (State.modReel a0 s) := by
  intro a0 s
  unfold State.modReel
  exact ⟨fun p hp => by cases p <;> first | (cases hp; done) | rfl | exact fun _ _ => rfl, id⟩

theorem State.modLink_frame : ∀ a0 s, Frame [.link] s (State.modLink a0 s) := by
  intro a0 s
  unfold State.modLink
  exact ⟨fun p hp => by cases p <;> first | (cases hp; done) | rfl | exact fun _ _ => rfl, id⟩

theorem State.modDma_frame : ∀ a0 s, Frame [.dma] s (State.modDma a0 s) := by
  intro a0 s
  unfold State.modDma
  exact ⟨fun p hp => by cases p <;> first | (cases hp; done) | rfl | exact fun _ _ => rfl, id⟩

theorem State.modCmd_frame : ∀ a0 s, Frame [.cmd] s (State.modCmd a0 s) := by
  intro a0 s
  unfold State.modCmd
  exact ⟨fun p hp => by cases p <;> first | (cases hp; done) | rfl | exact fun _ _ => rfl, id⟩

theorem State.modWl_frame : ∀ a0 s, Frame [.wl] s (State.modWl a0 s) := by
  intro a0 s
  unfold State.modWl
  exact ⟨fun p hp => by cases p <;> first | (cases hp; done) | rfl | exact fun _ _ => rfl, id⟩

theorem State.modPen_frame : ∀ a0 s, Frame [.pen] s (State.modPen a0 s) := by
  intro a0 s
  unfold State.modPen
  exact ⟨fun p hp => by cases p <;> first | (cases hp; done) | rfl | exact fun _ _ => rfl, id⟩

theorem State.modClk_frame : ∀ a0 s, Frame [.clk] s (State.modClk a0 s) := by
  intro a0 s
  unfold State.modClk
  exact ⟨fun p hp => by cases p <;> first | (cases hp; done) | rfl | exact fun _ _ => rfl, id⟩

theorem State.modTnd_frame : ∀ a0 s, Frame [.tnd] s (State.modTnd a0 s) := by
  intro a0 s
  unfold State.modTnd
  exact ⟨fun p hp => by cases p <;> first | (cases hp; done) | rfl | exact fun _ _ => rfl, id⟩

theorem State.modTw_frame : ∀ a0 s, Frame [.tw] s (State.modTw a0 s) := by
  intro a0 s
  unfold State.modTw
  exact ⟨fun p hp => by cases p <;> first | (cases hp; done) | rfl | exact fun _ _ => rfl, id⟩

theorem State.modThm_frame : ∀ a0 s, Frame [.thm] s (State.modThm a0 s) := by
  intro a0 s
  unfold State.modThm
  exact ⟨fun p hp => by cases p <;> first | (cases hp; done) | rfl | exact fun _ _ => rfl, id⟩

theorem State.modRst_frame : ∀ a0 s, Frame [.rst] s (State.modRst a0 s) := by
  intro a0 s
  unfold State.modRst
  exact ⟨fun p hp => by cases p <;> first | (cases hp; done) | rfl | exact fun _ _ => rfl, id⟩


theorem State.setReg_any (off : Nat) (v : Word) (s : State) : Frame [.regs, .settings] s (s.setReg off v) :=
  ⟨fun p hp => by cases p <;> first | (cases hp; done) | rfl | exact fun _ _ => rfl, fun c => by
    have h := s.canonical_iff.mp c
    exact (State.canonical_iff _).mpr ⟨canonicalStore_mset resetWord off v h.1, h.2⟩⟩

/-- A register that software does not write by itself. -/
theorem State.setReg_frame (off : Nat) (v : Word) (s : State) (n : softwareRegs.contains off = false) :
    Frame [.regs] s (s.setReg off v) := by
  refine ⟨fun p hp => ?_, (State.setReg_any off v s).2⟩
  cases p
  case regs => cases hp
  case settings =>
    intro o h
    refine State.reg_setReg_other v s ?_
    intro e
    rw [e, n] at h
    cases h
  all_goals rfl

theorem State.fset_frame (f : Fld) (v : Nat) (s : State) (n : softwareRegs.contains f.off = false) :
    Frame [.regs] s (s.fset f v) := State.setReg_frame _ _ _ n

theorem State.count_frame (f : Fld) (k : Nat) (s : State) (n : softwareRegs.contains f.off = false) :
    Frame [.regs] s (s.count f k) := State.setReg_frame _ _ _ n

theorem State.countSat_frame (f : Fld) (k : Nat) (s : State) (n : softwareRegs.contains f.off = false) :
    Frame [.regs] s (s.countSat f k) := State.setReg_frame _ _ _ n

theorem State.emit_frame : ∀ a0 s, Frame [.out] s (State.emit a0 s) := by
  intro a0 s
  unfold State.emit
  exact ⟨fun p hp => by cases p <;> first | (cases hp; done) | rfl | exact fun _ _ => rfl, id⟩

theorem State.bump_frame (i n : Nat) (s : State) : Frame [.obs] s (s.bump i n) :=
  ⟨fun p hp => by cases p <;> first | (cases hp; done) | rfl | exact fun _ _ => rfl, fun c => by
    have h := s.canonical_iff.mp c
    exact (State.canonical_iff _).mpr ⟨h.1, canonicalStore_mset (fun _ => 0) i _ h.2.1, h.2.2⟩⟩

theorem State.trace_frame (event arg : Nat) (data : Word) (s : State) : Frame [.obs] s (s.trace event arg data) := by
  unfold State.trace
  exact .ite (.by (State.bump_frame _ _ _) rfl ⟨fun p hp => by cases p <;> first | (cases hp; done) | rfl | exact fun _ _ => rfl, id⟩)
    (.by (State.bump_frame _ _ _) rfl ⟨fun p hp => by cases p <;> first | (cases hp; done) | rfl | exact fun _ _ => rfl, id⟩)

theorem State.msix_frame : ∀ a0 s, Frame [.link, .out] s (State.msix a0 s) := by
  intro a0 s
  unfold State.msix
  exact .ite (.by (State.emit_frame _ _) rfl (.refl _ _)) (.by (State.modLink_frame _ _) rfl (.refl _ _))

theorem State.setFired_frame (l : List (Nat × Nat)) (s : State) : Frame [.obs] s (s.setFired l) :=
  ⟨fun p hp => by cases p <;> first | (cases hp; done) | rfl | exact fun _ _ => rfl, id⟩

theorem State.fire_frame (f : Fld) (s : State) (n : softwareRegs.contains f.off = false) : Frame [.regs, .obs] s (s.fire f) :=
  .by (State.setFired_frame _ _) rfl (.by (State.fset_frame _ _ _ n) rfl (.refl _ _))

theorem State.fire_any (f : Fld) (s : State) : Frame [.regs, .settings, .obs] s (s.fire f) :=
  .by (State.setFired_frame _ _) rfl (.by (State.setReg_any _ _ _) rfl (.refl _ _))

theorem evAttn_hw {off lo : Nat} {a : Fld} (h : evAttn off lo = some a) : softwareRegs.contains a.off = false := by
  unfold evAttn at h
  split at h
  · cases h; rfl
  · split at h
    · cases h; rfl
    · split at h
      · cases h; rfl
      · split at h
        · cases h; rfl
        · cases h

theorem State.raise_by {ps : List Part} (f : Fld) (s : State) (n : ∀ u, Frame ps u (u.fire f))
    (w : within [.regs, .link, .obs, .out] ps = true) : Frame ps s (s.raise f) := by
  unfold State.raise
  have h : Frame ps s (match evAttn f.off f.lo with | some a => s.fire a | none => s) := by
    split
    · rename_i e
      exact .by (State.fire_frame _ _ (evAttn_hw e)) (within_trans rfl w) (.refl _ _)
    · exact .refl _ _
  have g (u : State) : Frame ps u (if f.off = 0x0D0020 then u.trace 0x13 f.lo 0 else u) :=
    .ite (.by (State.trace_frame _ _ _ _) (within_trans rfl w) (.refl _ _)) (.refl _ _)
  have k0 := h.then (n _)
  have k := k0.then (g _)
  refine .ite k0 ?_
  dsimp only
  split
  · exact .ite k (.by (State.msix_frame _ _) (within_trans rfl w) k)
  · exact k

theorem State.raise_frame (f : Fld) (s : State) (n : softwareRegs.contains f.off = false) :
    Frame [.regs, .link, .obs, .out] s (s.raise f) :=
  s.raise_by f (fun _ => .by (State.fire_frame _ _ n) rfl (.refl _ _)) rfl

theorem State.raise_any (f : Fld) (s : State) : Frame [.regs, .settings, .link, .obs, .out] s (s.raise f) :=
  s.raise_by f (fun _ => .by (State.fire_any _ _) rfl (.refl _ _)) rfl

theorem State.post_frame : ∀ a0 a1 a2 s, Frame [.regs, .link, .tnd, .obs, .out] s (State.post a0 a1 a2 s) := by
  intro a0 a1 a2 s
  unfold State.post
  exact .by (State.msix_frame _ _) rfl (.by (State.modTnd_frame _ _) rfl (.by (State.bump_frame _ _ _) rfl (.by
    (State.fire_frame _ _ (by rfl)) rfl (.refl _ _))))

theorem State.postAlarm_frame : ∀ a0 a1 s, Frame [.regs, .link, .tnd, .obs, .out] s (State.postAlarm a0 a1 s) := by
  intro a0 a1 s
  unfold State.postAlarm
  exact .by (State.post_frame _ _ _ _) rfl (.refl _ _)

theorem State.alarmOf_frame : ∀ a0 a1 s, Frame [.regs, .link, .tnd, .obs, .out] s (State.alarmOf a0 a1 s) := by
  intro a0 a1 s
  unfold State.alarmOf
  exact .by (State.post_frame _ _ _ _) rfl (.refl _ _)

theorem State.raiseAlarm_frame (f : Fld) (s : State) (n : softwareRegs.contains f.off = false) :
    Frame [.regs, .link, .tnd, .obs, .out] s (s.raiseAlarm f) :=
  .by (State.alarmOf_frame _ _ _) rfl (.by (State.raise_frame _ _ n) rfl (.refl _ _))

theorem State.raiseAlarm_any (f : Fld) (s : State) :
    Frame [.regs, .settings, .link, .tnd, .obs, .out] s (s.raiseAlarm f) :=
  .by (State.alarmOf_frame _ _ _) rfl (.by (State.raise_any _ _) rfl (.refl _ _))

theorem State.raiseOnce_frame (f : Fld) (s : State) (n : softwareRegs.contains f.off = false) :
    Frame [.regs, .link, .tnd, .obs, .out] s (s.raiseOnce f) := by
  unfold State.raiseOnce
  exact .ite (.by (State.raise_frame _ _ n) rfl (.refl _ _)) (.by (State.raiseAlarm_frame _ _ n) rfl (.refl _ _))

theorem State.raiseOnce_any (f : Fld) (s : State) :
    Frame [.regs, .settings, .link, .tnd, .obs, .out] s (s.raiseOnce f) := by
  unfold State.raiseOnce
  exact .ite (.by (State.raise_any _ _) rfl (.refl _ _)) (.by (State.raiseAlarm_any _ _) rfl (.refl _ _))

theorem State.queueLog_frame : ∀ a0 a1 a2 a3 a4 a5 a6 s, Frame [.regs, .link, .tnd, .obs, .out] s (State.queueLog a0
  a1 a2 a3 a4 a5 a6 s) := by
  intro a0 a1 a2 a3 a4 a5 a6 s
  unfold State.queueLog
  exact .ite (.by (State.modTnd_frame _ _) rfl (.refl _ _)) (.by (State.raise_frame _ _ (by rfl)) rfl (.by
    (State.modTnd_frame _ _) rfl (.refl _ _)))

theorem State.logOwn_frame : ∀ a0 a1 s, Frame [.regs, .link, .tnd, .obs, .out] s (State.logOwn a0 a1 s) := by
  intro a0 a1 s
  unfold State.logOwn
  exact .by (State.queueLog_frame _ _ _ _ _ _ _ _) rfl (.refl _ _)

theorem Frame.access {ps : List Part} {path : Path} {off : Nat} {f : State → State} {s u : State} (h : Frame ps s u)
    (k : ∀ v, Frame ps v (f v)) (w : within [.regs, .link, .obs, .out] ps = true) : Frame ps s (u.access path off f) := by
  refine h.then ?_
  unfold State.access
  exact (.ite (.refl _ _) (.ite (.by (State.raise_frame _ _ (by rfl)) w (.refl _ _)) (k _)))

theorem State.rsvCheck_frame : ∀ a0 a1 a2 s, Frame [.regs, .link, .tnd, .obs, .out] s (State.rsvCheck a0 a1 a2 s) :=
  by
  intro a0 a1 a2 s
  unfold State.rsvCheck
  exact .ite (.refl _ _) (.by (State.trace_frame _ _ _ _) rfl (.by (State.raiseAlarm_frame _ _ (by rfl)) rfl (.refl _
    _)))

theorem Frame.times {ps : List Part} {f : State → State} (k : ∀ v, Frame ps v (f v)) :
    ∀ (n : Nat) {s u : State}, Frame ps s u → Frame ps s (State.times f n u)
  | 0, _, _, h => h
  | n + 1, _, _, h => Frame.times k n (h.then (k _))

end Sys2Proof.Machine
end

