-- ==== Sys2Proof/Laws/Operands.lean ====
section
/-! SUPPORT. The frames of the operations of Machine/Operands.lean: each changes the parts named and no others, and
keeps the stores canonical. -/

namespace Sys2Proof.Machine

theorem State.dropGuides_frame : ∀ s, Frame [.cal] s (State.dropGuides s) := by
  intro s
  unfold State.dropGuides
  exact .iff (.refl _ _) (fun _ => (.by (State.modCal_frame _ _) rfl (.refl _ _)))

end Sys2Proof.Machine
end

