-- ==== Sys2Proof/Laws/Flags.lean ====
section
/-! SUPPORT. The frames of the operations of Machine/Flags.lean: each changes the parts named and no others, and
keeps the stores canonical. -/

namespace Sys2Proof.Machine

theorem State.markLines_frame : ∀ a0 a1 s, Frame [.felt] s (State.markLines a0 a1 s) := by
  intro a0 a1 s
  unfold State.markLines
  exact .by (State.modFelt_frame _ _) rfl (.refl _ _)

end Sys2Proof.Machine
end

