-- ==== Sys2Proof/Laws/Timebase.lean ====
section
/-! SUPPORT. The frames of the operations of Machine/Timebase.lean: each changes the parts named and no others, and
keeps the stores canonical. -/

namespace Sys2Proof.Machine

theorem State.reference_frame : ∀ a0 a1 s, Frame [.tb, .obs] s (State.reference a0 a1 s) := by
  intro a0 a1 s
  unfold State.reference
  exact .ite (.by (State.modTb_frame _ _) rfl (.refl _ _)) (.by (State.trace_frame _ _ _ _) rfl (.by
    (State.modTb_frame _ _) rfl (.refl _ _)))

theorem State.advancing_frame : ∀ a0 s, Frame [.tb] s (State.advancing a0 s) := by
  intro a0 s
  unfold State.advancing
  exact .by (State.modTb_frame _ _) rfl (.refl _ _)

theorem State.edgesReturn_frame : ∀ s, Frame [.tb, .obs] s (State.edgesReturn s) := by
  intro s
  unfold State.edgesReturn
  exact .ite (.by (State.modTb_frame _ _) rfl (.refl _ _)) (.by (State.reference_frame _ _ _) rfl (.by
    (State.modTb_frame _ _) rfl (.refl _ _)))

theorem State.forwardEdge_frame : ∀ s, Frame [.tb, .obs] s (State.forwardEdge s) := by
  intro s
  unfold State.forwardEdge
  exact .ite (.by (State.edgesReturn_frame _) rfl (.refl _ _)) (.ite (.by (State.advancing_frame _ _) rfl (.refl _ _))
    (.ite (.by (State.modTb_frame _ _) rfl (.refl _ _)) (.by (State.modTb_frame _ _) rfl (.refl _ _))))

theorem State.backwardEdge_frame : ∀ s, Frame [.regs, .tb, .link, .tnd, .obs, .out] s (State.backwardEdge s) := by
  intro s
  unfold State.backwardEdge
  exact .ite (.by (State.edgesReturn_frame _) rfl (.refl _ _)) (.ite (.by (State.alarmOf_frame _ _ _) rfl (.by
    (State.raise_frame _ _ (by rfl)) rfl (.by (State.modTb_frame _ _) rfl (.by (State.modTb_frame _ _) rfl (.refl _
    _))))) (.by (State.modTb_frame _ _) rfl (.refl _ _)))

theorem State.endStill_frame : ∀ s, Frame [.tb] s (State.endStill s) := by
  intro s
  unfold State.endStill
  exact .ite (.by (State.modTb_frame _ _) rfl (.refl _ _)) (.refl _ _)

theorem State.judgeStill_frame : ∀ s, Frame [.tb] s (State.judgeStill s) := by
  intro s
  unfold State.judgeStill
  exact .ite (.by (State.modTb_frame _ _) rfl (.refl _ _)) (.by (State.endStill_frame _) rfl (.refl _ _))

theorem State.transition_frame : ∀ a0 a1 a2 a3 s, Frame [.regs, .tb, .link, .tnd, .obs, .out] s (State.transition a0
  a1 a2 a3 s) := by
  intro a0 a1 a2 a3 s
  unfold State.transition
  exact .ite (.refl _ _) (.ite (.by (State.raise_frame _ _ (by rfl)) rfl (.by (State.modTb_frame _ _) rfl (.refl _
    _))) (.ite (.by (State.raise_frame _ _ (by rfl)) rfl (.by (State.modTb_frame _ _) rfl (.refl _ _))) (.ite (.by
    (State.judgeStill_frame _) rfl (.by (State.modTb_frame _ _) rfl (.ite (.by (State.forwardEdge_frame _) rfl (.ite
    (.by (State.bump_frame _ _ _) rfl (.by (State.modTb_frame _ _) rfl (.refl _ _))) (.iff (.by (State.modTb_frame _
    _) rfl (.refl _ _)) (fun _ => (.by (State.bump_frame _ _ _) rfl (.refl _ _)))))) (.by (State.backwardEdge_frame _)
    rfl (.ite (.by (State.bump_frame _ _ _) rfl (.by (State.modTb_frame _ _) rfl (.refl _ _))) (.iff (.by
    (State.modTb_frame _ _) rfl (.refl _ _)) (fun _ => (.by (State.bump_frame _ _ _) rfl (.refl _ _))))))))) (.ite
    (.by (State.bump_frame _ _ _) rfl (.by (State.modTb_frame _ _) rfl (.refl _ _))) (.iff (.by (State.modTb_frame _
    _) rfl (.refl _ _)) (fun _ => (.by (State.bump_frame _ _ _) rfl (.refl _ _))))))))

theorem State.zEdge_frame : ∀ a0 a1 s, Frame [.tb, .obs] s (State.zEdge a0 a1 s) := by
  intro a0 a1 s
  unfold State.zEdge
  refine .ite (.refl _ _) ?_
  try dsimp only
  split
  · exact .by (State.reference_frame _ _ _) rfl (.by (State.bump_frame _ _ _) rfl (.by (State.modTb_frame _ _) rfl
      (.refl _ _)))
  · exact .by (State.bump_frame _ _ _) rfl (.by (State.modTb_frame _ _) rfl (.refl _ _))

theorem State.switchEncoder_frame : ∀ a0 s, Frame [.tb, .obs] s (State.switchEncoder a0 s) := by
  intro a0 s
  unfold State.switchEncoder
  exact .ite (.by (State.reference_frame _ _ _) rfl (.by (State.modTb_frame _ _) rfl (.by (State.modTb_frame _ _) rfl
    (.refl _ _)))) (.by (State.modTb_frame _ _) rfl (.by (State.modTb_frame _ _) rfl (.refl _ _)))

theorem State.returnEnc0_frame : ∀ s, Frame [.tb, .obs] s (State.returnEnc0 s) := by
  intro s
  unfold State.returnEnc0
  exact .ite (.refl _ _) (.ite (.by (State.modTb_frame _ _) rfl (.refl _ _)) (.by (State.switchEncoder_frame _ _) rfl
    (.refl _ _)))

theorem State.markCoast_frame : ∀ a0 s, Frame [.tb, .obs] s (State.markCoast a0 s) := by
  intro a0 s
  unfold State.markCoast
  exact .ite (.by (State.bump_frame _ _ _) rfl (.by (State.modTb_frame _ _) rfl (.refl _ _))) (.refl _ _)

theorem State.coastExposure_frame : ∀ s, Frame [.tb, .hb, .obs] s (State.coastExposure s) := by
  intro s
  unfold State.coastExposure
  refine .ite (.refl _ _) ?_
  split
  · exact .ite (.by (State.markCoast_frame _ _) rfl (.by (State.modHb_frame _ _) rfl (.refl _ _))) (.refl _ _)
  · split
    · exact .ite (.by (State.markCoast_frame _ _) rfl (.refl _ _)) (.refl _ _)
    · exact .refl _ _

theorem State.beginCoast_frame : ∀ a0 s, Frame [.regs, .tb, .hb, .link, .tnd, .obs, .out] s (State.beginCoast a0 s) :=
  by
  intro a0 s
  unfold State.beginCoast
  exact .by (State.trace_frame _ _ _ _) rfl (.by (State.alarmOf_frame _ _ _) rfl (.by (State.raise_frame _ _ (by rfl))
    rfl (.by (State.coastExposure_frame _) rfl (.by (State.modTb_frame _ _) rfl (.refl _ _)))))

theorem State.coast_frame : ∀ s, Frame [.regs, .tb, .hb, .link, .tnd, .obs, .out] s (State.coast s) := by
  intro s
  unfold State.coast
  exact .ite (.refl _ _) (.ite (.by (State.raise_frame _ _ (by rfl)) rfl (.by (State.switchEncoder_frame _ _) rfl
    (.refl _ _))) (.by (State.beginCoast_frame _ _) rfl (.refl _ _)))

theorem State.lose_frame : ∀ s, Frame [.regs, .tb, .link, .wl, .tnd, .obs, .out] s (State.lose s) := by
  intro s
  unfold State.lose
  exact .by (State.trace_frame _ _ _ _) rfl (.by (State.alarmOf_frame _ _ _) rfl (.by (State.raise_frame _ _ (by rfl))
    rfl (.ite (.by (State.raise_frame _ _ (by rfl)) rfl (.by (State.modWl_frame _ _) rfl (.by (State.modTb_frame _ _)
    rfl (.refl _ _)))) (.by (State.modTb_frame _ _) rfl (.refl _ _)))))

end Sys2Proof.Machine
end

