-- ==== Sys2Proof/Laws/Felt.lean ====
section
/-! SUPPORT. The frames of the operations of Machine/Felt.lean: each changes the parts named and no others, and
keeps the stores canonical. -/

namespace Sys2Proof.Machine

theorem State.clampEvents_frame : ∀ s, Frame [.regs, .link, .obs, .out] s (State.clampEvents s) := by
  intro s
  unfold State.clampEvents
  exact .ite (.refl _ _) (.ite (.by (State.raise_frame _ _ (by rfl)) rfl (.refl _ _)) (.by (State.raise_frame _ _ (by
    rfl)) rfl (.refl _ _)))

theorem State.noteClamp_frame : ∀ a0 a1 s, Frame [.felt] s (State.noteClamp a0 a1 s) := by
  intro a0 a1 s
  unfold State.noteClamp
  exact .by (State.modFelt_frame _ _) rfl (.refl _ _)

theorem State.formClamp_frame : ∀ a0 a1 s, Frame [.regs, .felt, .link, .obs, .out] s (State.formClamp a0 a1 s) := by
  intro a0 a1 s
  unfold State.formClamp
  exact .ite (.refl _ _) (.by (State.modFelt_frame _ _) rfl (.by (State.noteClamp_frame _ _ _) rfl (.iff (.refl _ _)
    (fun _ => (.by (State.clampEvents_frame _) rfl (.refl _ _))))))

theorem State.onLine_frame : ∀ a0 a1 a2 s, Frame [.felt] s (State.onLine a0 a1 a2 s) := by
  intro a0 a1 a2 s
  unfold State.onLine
  exact .by (State.modFelt_frame _ _) rfl (.refl _ _)

theorem State.accumulate_frame : ∀ a0 a1 a2 a3 a4 s, Frame [.regs, .felt, .link, .obs, .out] s (State.accumulate a0 a1
  a2 a3 a4 s) := by
  intro a0 a1 a2 a3 a4 s
  unfold State.accumulate
  split
  · exact .refl _ _
  · exact .ite (.by (State.raise_frame _ _ (by rfl)) rfl (.by (State.onLine_frame _ _ _ _) rfl (.refl _ _))) (.iff
      (.by (State.modFelt_frame _ _) rfl (.by (State.onLine_frame _ _ _ _) rfl (.refl _ _))) (fun _ => (.by
      (State.raise_frame _ _ (by rfl)) rfl (.refl _ _))))

theorem State.meet_frame : ∀ a0 a1 a2 a3 a4 s, Frame [.felt] s (State.meet a0 a1 a2 a3 a4 s) := by
  intro a0 a1 a2 a3 a4 s
  unfold State.meet
  exact .by (State.modFelt_frame _ _) rfl (.refl _ _)

theorem State.place_frame : ∀ a0 a1 a2 a3 a4 a5 a6 a7 a8 a9 a10 a11 s, Frame [.regs, .felt, .link, .obs, .out] s
  (State.place a0 a1 a2 a3 a4 a5 a6 a7 a8 a9 a10 a11 s) := by
  intro a0 a1 a2 a3 a4 a5 a6 a7 a8 a9 a10 a11 s
  unfold State.place
  split
  · exact .refl _ _
  · refine .ite (.ite (.iff (.by (State.onLine_frame _ _ _ _) rfl (.refl _ _)) (fun _ => (.by (State.count_frame _ _ _
      (by rfl)) rfl (.by (State.raise_frame _ _ (by rfl)) rfl (.by (State.modFelt_frame _ _) rfl (.refl _ _))))))
      (.refl _ _)) ?_
    try dsimp only
    split
    · exact .by (State.onLine_frame _ _ _ _) rfl (.iff (.by (State.onLine_frame _ _ _ _) rfl (.ite (.iff (.by
        (State.onLine_frame _ _ _ _) rfl (.refl _ _)) (fun _ => (.by (State.count_frame _ _ _ (by rfl)) rfl (.by
        (State.raise_frame _ _ (by rfl)) rfl (.by (State.modFelt_frame _ _) rfl (.refl _ _)))))) (.refl _ _))) (fun _
        => (.by (State.raise_frame _ _ (by rfl)) rfl (.by (State.onLine_frame _ _ _ _) rfl (.refl _ _)))))
    · exact .ite (.by (State.onLine_frame _ _ _ _) rfl (.iff (.by (State.onLine_frame _ _ _ _) rfl (.ite (.iff (.by
        (State.onLine_frame _ _ _ _) rfl (.refl _ _)) (fun _ => (.by (State.count_frame _ _ _ (by rfl)) rfl (.by
        (State.raise_frame _ _ (by rfl)) rfl (.by (State.modFelt_frame _ _) rfl (.refl _ _)))))) (.refl _ _))) (fun _
        => (.by (State.raise_frame _ _ (by rfl)) rfl (.by (State.onLine_frame _ _ _ _) rfl (.refl _ _)))))) (.each
        (.by (State.onLine_frame _ _ _ _) rfl (.iff (.by (State.onLine_frame _ _ _ _) rfl (.ite (.iff (.by
        (State.onLine_frame _ _ _ _) rfl (.refl _ _)) (fun _ => (.by (State.count_frame _ _ _ (by rfl)) rfl (.by
        (State.raise_frame _ _ (by rfl)) rfl (.by (State.modFelt_frame _ _) rfl (.refl _ _)))))) (.refl _ _))) (fun _
        => (.by (State.raise_frame _ _ (by rfl)) rfl (.by (State.onLine_frame _ _ _ _) rfl (.refl _ _)))))) (fun _ _
        => (.by (State.accumulate_frame _ _ _ _ _ _) rfl (.refl _ _))))

theorem State.couch_frame : ∀ a0 a1 a2 a3 a4 s, Frame [.regs, .felt, .link, .obs, .out] s (State.couch a0 a1 a2 a3 a4
  s) := by
  intro a0 a1 a2 a3 a4 s
  unfold State.couch
  try dsimp only
  split
  · exact .by (State.formClamp_frame _ _ _) rfl (.refl _ _)
  · try dsimp only
    split
    · exact .by (State.formClamp_frame _ _ _) rfl (.refl _ _)
    · refine .ite (.by (State.formClamp_frame _ _ _) rfl (.refl _ _)) ?_
      refine .by (State.meet_frame _ _ _ _ _ _) rfl ?_
      refine .by (State.onLine_frame _ _ _ _) rfl ?_
      refine .each ?_ (fun _ _ => (.by (State.place_frame _ _ _ _ _ _ _ _ _ _ _ _ _) rfl (.refl _ _)))
      split
      · exact .iff (.by (State.formClamp_frame _ _ _) rfl (.refl _ _)) (fun _ => (.by (State.onLine_frame _ _ _ _) rfl
          (.refl _ _)))
      · exact .by (State.formClamp_frame _ _ _) rfl (.refl _ _)

theorem State.passUnplaced_frame : ∀ a0 s, Frame [.felt] s (State.passUnplaced a0 s) := by
  intro a0 s
  unfold State.passUnplaced
  refine .ite (.refl _ _) ?_
  refine .ite (.refl _ _) ?_
  refine .each (.refl _ _) (fun _ _ => ?_)
  split
  · exact .by (State.meet_frame _ _ _ _ _ _) rfl (.refl _ _)
  · exact .refl _ _

theorem State.dropShells_frame : ∀ a0 s, Frame [.felt] s (State.dropShells a0 s) := by
  intro a0 s
  unfold State.dropShells
  exact .by (State.modFelt_frame _ _) rfl (.refl _ _)

theorem State.accCorrected_frame : ∀ a0 s, Frame [.regs, .link, .obs, .out] s (State.accCorrected a0 s) := by
  intro a0 s
  unfold State.accCorrected
  exact .iff (.refl _ _) (fun _ => (.by (State.count_frame _ _ _ (by rfl)) rfl (.by (State.raise_frame _ _ (by rfl))
    rfl (.refl _ _))))

theorem State.accUncorrectable_frame : ∀ a0 a1 a2 a3 s, Frame [.regs, .felt, .link, .obs, .out] s
  (State.accUncorrectable a0 a1 a2 a3 s) := by
  intro a0 a1 a2 a3 s
  unfold State.accUncorrectable
  exact .by (State.onLine_frame _ _ _ _) rfl (.by (State.count_frame _ _ _ (by rfl)) rfl (.by (State.raise_frame _ _
    (by rfl)) rfl (.refl _ _)))

theorem State.sendDark_frame : ∀ a0 s, Frame [.felt] s (State.sendDark a0 s) := by
  intro a0 s
  unfold State.sendDark
  split
  · exact .by (State.modFelt_frame _ _) rfl (.refl _ _)
  · exact .refl _ _

theorem State.toStock_frame : ∀ a0 s, Frame [.felt, .obs] s (State.toStock a0 s) := by
  intro a0 s
  unfold State.toStock
  try dsimp only
  split
  · exact .by (State.sendDark_frame _ _) rfl (.by (State.bump_frame _ _ _) rfl (.by (State.modFelt_frame _ _) rfl
      (.refl _ _)))
  · exact .by (State.bump_frame _ _ _) rfl (.by (State.modFelt_frame _ _) rfl (.refl _ _))

theorem State.closeLine_frame : ∀ a0 s, Frame [.regs, .felt, .obs] s (State.closeLine a0 s) := by
  intro a0 s
  unfold State.closeLine
  exact .by (State.toStock_frame _ _) rfl (.iff (.by (State.modFelt_frame _ _) rfl (.refl _ _)) (fun _ => (.by
    (State.count_frame _ _ _ (by rfl)) rfl (.refl _ _))))

theorem State.openIn_frame : ∀ a0 a1 s, Frame [.felt] s (State.openIn a0 a1 s) := by
  intro a0 a1 s
  unfold State.openIn
  exact .by (State.modFelt_frame _ _) rfl (.refl _ _)

theorem State.bornDisabled_frame : ∀ a0 a1 s, Frame [.tb, .felt] s (State.bornDisabled a0 a1 s) := by
  intro a0 a1 s
  unfold State.bornDisabled
  exact .by (State.markLines_frame _ _ _) rfl (.by (State.modTb_frame _ _) rfl (.refl _ _))

theorem State.births_frame : ∀ a0 s, Frame [.tb, .felt] s (State.births a0 s) := by
  intro a0 s
  unfold State.births
  refine .ite (.refl _ _) ?_
  refine .each (.refl _ _) (fun _ _ => ?_)
  refine .ite (.refl _ _) ?_
  split
  · exact .refl _ _
  · exact .ite (.refl _ _) (.ite (.by (State.openIn_frame _ _ _) rfl (.refl _ _)) (.by (State.bornDisabled_frame _ _
      _) rfl (.refl _ _)))

theorem State.releaseRow_frame : ∀ a0 a1 s, Frame [.regs, .felt, .obs] s (State.releaseRow a0 a1 s) := by
  intro a0 a1 s
  unfold State.releaseRow
  exact .by (State.toStock_frame _ _) rfl (.iff (.refl _ _) (fun _ => (.by (State.count_frame _ _ _ (by rfl)) rfl
    (.refl _ _))))

theorem State.releaseRows_frame : ∀ s, Frame [.regs, .felt, .obs] s (State.releaseRows s) := by
  intro s
  unfold State.releaseRows
  exact .each (.by (State.modFelt_frame _ _) rfl (.refl _ _)) (fun _ _ => (.by (State.releaseRow_frame _ _ _) rfl
    (.refl _ _)))

theorem State.areaUncorrectable_frame : ∀ a0 a1 a2 s, Frame [.regs, .felt, .link, .obs, .out] s
  (State.areaUncorrectable a0 a1 a2 s) := by
  intro a0 a1 a2 s
  unfold State.areaUncorrectable
  exact .by (State.modFelt_frame _ _) rfl (.by (State.count_frame _ _ _ (by rfl)) rfl (.by (State.raise_frame _ _ (by
    rfl)) rfl (.refl _ _)))

theorem State.closure_frame : ∀ a0 a1 a2 a3 s, Frame [.regs, .felt, .link, .obs, .out] s (State.closure a0 a1 a2 a3 s)
  := by
  intro a0 a1 a2 a3 s
  unfold State.closure
  split
  · refine .ite ?_ (.refl _ _)
    try dsimp only
    split
    · exact .by (State.closeLine_frame _ _) rfl (.each (.by (State.accCorrected_frame _ _) rfl (.refl _ _)) (fun _ _
        => (.by (State.accUncorrectable_frame _ _ _ _ _) rfl (.refl _ _))))
    · exact .each (.by (State.accCorrected_frame _ _) rfl (.refl _ _)) (fun _ _ => (.by (State.accUncorrectable_frame
        _ _ _ _ _) rfl (.refl _ _)))
  · exact .refl _ _

end Sys2Proof.Machine
end

