-- ==== Sys2Proof/Laws/Headbox.lean ====
section
/-! SUPPORT. The frames of the operations of Machine/Headbox.lean: each changes the parts named and no others, and
keeps the stores canonical. -/

namespace Sys2Proof.Machine

theorem State.onSlice_frame : ∀ a0 a1 s, Frame [.hb] s (State.onSlice a0 a1 s) := by
  intro a0 a1 s
  unfold State.onSlice
  exact .by (State.modHb_frame _ _) rfl (.refl _ _)

theorem State.failSlice_frame : ∀ a0 a1 s, Frame [.regs, .hb, .felt, .link, .tnd, .obs, .out] s (State.failSlice a0 a1
  s) := by
  intro a0 a1 s
  unfold State.failSlice
  exact .ite (.refl _ _) (.by (State.trace_frame _ _ _ _) rfl (.by (State.alarmOf_frame _ _ _) rfl (.by
    (State.raise_frame _ _ (by rfl)) rfl (.by (State.onSlice_frame _ _ _) rfl (.by (State.modHb_frame _ _) rfl (.by
    (State.modFelt_frame _ _) rfl (.refl _ _)))))))

theorem State.missWindow_frame : ∀ a0 a1 a2 s, Frame [.regs, .hb, .felt, .link, .tnd, .obs, .out] s (State.missWindow
  a0 a1 a2 s) := by
  intro a0 a1 a2 s
  unfold State.missWindow
  exact .ite (.by (State.raise_frame _ _ (by rfl)) rfl (.refl _ _)) (.iff (.by (State.count_frame _ _ _ (hw_hbxSlMiss
    _)) rfl (.by (State.onSlice_frame _ _ _) rfl (.by (State.raise_frame _ _ (by rfl)) rfl (.refl _ _)))) (fun _ =>
    (.by (State.failSlice_frame _ _ _) rfl (.refl _ _))))

theorem State.latch_frame : ∀ a0 a1 s, Frame [.hb, .obs] s (State.latch a0 a1 s) := by
  intro a0 a1 s
  unfold State.latch
  split
  · exact .refl _ _
  · exact .ite (.refl _ _) (.ite (.by (State.modHb_frame _ _) rfl (.iff (.by (State.onSlice_frame _ _ _) rfl (.refl _
      _)) (fun _ => (.by (State.bump_frame _ _ _) rfl (.refl _ _))))) (.ite (.by (State.modHb_frame _ _) rfl (.iff
      (.by (State.onSlice_frame _ _ _) rfl (.refl _ _)) (fun _ => (.by (State.bump_frame _ _ _) rfl (.refl _ _)))))
      (.iff (.by (State.onSlice_frame _ _ _) rfl (.refl _ _)) (fun _ => (.by (State.bump_frame _ _ _) rfl (.refl _
      _))))))

theorem State.takeSample_frame : ∀ a0 a1 s, Frame [.hb] s (State.takeSample a0 a1 s) := by
  intro a0 a1 s
  unfold State.takeSample
  exact .by (State.onSlice_frame _ _ _) rfl (.refl _ _)

theorem State.loseDark_frame : ∀ a0 a1 s, Frame [.hb] s (State.loseDark a0 a1 s) := by
  intro a0 a1 s
  unfold State.loseDark
  exact .by (State.modHb_frame _ _) rfl (.refl _ _)

theorem State.discard_frame : ∀ a0 a1 s, Frame [.regs, .hb, .felt, .link, .obs, .out] s (State.discard a0 a1 s) := by
  intro a0 a1 s
  unfold State.discard
  exact .by (State.couch_frame _ _ _ _ _ _) rfl (.by (State.loseDark_frame _ _ _) rfl (.by (State.takeSample_frame _ _
    _) rfl (.refl _ _)))

theorem State.badFurnishCopy_frame : ∀ a0 a1 s, Frame [.regs, .hb, .felt, .link, .tnd, .obs, .out] s
  (State.badFurnishCopy a0 a1 s) := by
  intro a0 a1 s
  unfold State.badFurnishCopy
  refine .by (State.missWindow_frame _ _ _ _) rfl ?_
  refine .by (State.raise_frame _ _ (by rfl)) rfl ?_
  refine .by (State.onSlice_frame _ _ _) rfl ?_
  refine .each (.each (.refl _ _) (fun _ _ => (.by (State.discard_frame _ _ _) rfl (.refl _ _)))) (fun _ _ => ?_)
  split
  · exact .by (State.onLine_frame _ _ _ _) rfl (.refl _ _)
  · exact .refl _ _

theorem State.deliver_frame : ∀ a0 a1 a2 s, Frame [.regs, .hb, .felt, .link, .tnd, .obs, .out] s (State.deliver a0 a1
  a2 s) := by
  intro a0 a1 a2 s
  unfold State.deliver
  split
  · refine .iff (.refl _ _) (fun _ => ?_)
    split
    · exact .by (State.badFurnishCopy_frame _ _ _) rfl (.refl _ _)
    · exact .refl _ _
  · try dsimp only
    split
    · exact .by (State.bump_frame _ _ _) rfl (.by (State.couch_frame _ _ _ _ _ _) rfl (.by (State.takeSample_frame _ _
        _) rfl (.refl _ _)))
    · exact .by (State.missWindow_frame _ _ _ _) rfl (.by (State.discard_frame _ _ _) rfl (.refl _ _))
    · exact .by (State.badFurnishCopy_frame _ _ _) rfl (.refl _ _)
    · exact .by (State.accCorrected_frame _ _) rfl (.by (State.bump_frame _ _ _) rfl (.by (State.couch_frame _ _ _ _ _
        _) rfl (.by (State.takeSample_frame _ _ _) rfl (.refl _ _))))
    · exact .by (State.accUncorrectable_frame _ _ _ _ _) rfl (.by (State.bump_frame _ _ _) rfl (.by (State.couch_frame
        _ _ _ _ _ _) rfl (.by (State.takeSample_frame _ _ _) rfl (.refl _ _))))

theorem State.missedWindow_frame : ∀ a0 s, Frame [.regs, .hb, .felt, .link, .tnd, .obs, .out] s (State.missedWindow a0
  s) := by
  intro a0 s
  unfold State.missedWindow
  split
  · exact .refl _ _
  · try dsimp only
    split
    · exact .refl _ _
    · exact .by (State.missWindow_frame _ _ _ _) rfl (.each (.refl _ _) (fun _ _ => (.by (State.discard_frame _ _ _)
        rfl (.refl _ _))))

theorem State.rearmSlice_frame : ∀ a0 s, Frame [.regs, .hb, .felt, .link, .tnd, .obs, .out] s (State.rearmSlice a0 s)
  := by
  intro a0 s
  unfold State.rearmSlice
  exact .ite (.refl _ _) (.ite (.by (State.failSlice_frame _ _ _) rfl (.by (State.onSlice_frame _ _ _) rfl (.refl _
    _))) (.by (State.onSlice_frame _ _ _) rfl (.refl _ _)))

theorem State.activateSlices_frame : ∀ a0 s, Frame [.hb, .obs] s (State.activateSlices a0 s) := by
  intro a0 s
  unfold State.activateSlices
  exact .each (.refl _ _) (fun _ _ => (.ite (.by (State.trace_frame _ _ _ _) rfl (.by (State.onSlice_frame _ _ _) rfl
    (.refl _ _))) (.refl _ _)))

theorem State.wakeAndIdle_frame : ∀ a0 s, Frame [.hb] s (State.wakeAndIdle a0 s) := by
  intro a0 s
  unfold State.wakeAndIdle
  exact .each (.refl _ _) (fun _ _ => (.ite (.by (State.onSlice_frame _ _ _) rfl (.refl _ _)) (.ite (.by
    (State.onSlice_frame _ _ _) rfl (.refl _ _)) (.refl _ _))))

theorem State.onPeriod_frame : ∀ a0 s, Frame [.tb] s (State.onPeriod a0 s) := by
  intro a0 s
  unfold State.onPeriod
  exact .by (State.modTb_frame _ _) rfl (.refl _ _)

theorem State.coastPeriod_frame : ∀ s, Frame [.tb, .obs] s (State.coastPeriod s) := by
  intro s
  unfold State.coastPeriod
  split
  · exact .iff (.refl _ _) (fun _ => (.by (State.markCoast_frame _ _) rfl (.refl _ _)))
  · exact .refl _ _

theorem State.beginExposure_frame : ∀ s, Frame [.tb, .hb, .obs] s (State.beginExposure s) := by
  intro s
  unfold State.beginExposure
  exact .by (State.modHb_frame _ _) rfl (.by (State.onPeriod_frame _ _) rfl (.by (State.coastPeriod_frame _) rfl
    (.refl _ _)))

theorem State.finishExposure_frame : ∀ s, Frame [.tb, .hb, .obs] s (State.finishExposure s) := by
  intro s
  unfold State.finishExposure
  exact .by (State.modHb_frame _ _) rfl (.by (State.onPeriod_frame _ _) rfl (.by (State.coastPeriod_frame _) rfl
    (.refl _ _)))

theorem State.preTrigger_frame : ∀ s, Frame [.tb, .hb, .obs] s (State.preTrigger s) := by
  intro s
  unfold State.preTrigger
  refine .by (State.modTb_frame _ _) rfl ?_
  refine .by (State.modHb_frame _ _) rfl ?_
  refine .ite (.refl _ _) ?_
  refine .by (State.modHb_frame _ _) rfl ?_
  refine .ite (.by (State.finishExposure_frame _) rfl (.refl _ _)) ?_
  split
  · exact .ite (.by (State.finishExposure_frame _) rfl (.by (State.beginExposure_frame _) rfl (.refl _ _))) (.refl _
      _)
  · exact .refl _ _

theorem State.exposureStart_frame : ∀ s, Frame [.tb, .hb, .obs] s (State.exposureStart s) := by
  intro s
  unfold State.exposureStart
  refine .ite ?_ ?_
  · split
    · exact .ite (.refl _ _) (.by (State.coastExposure_frame _) rfl (.by (State.modHb_frame _ _) rfl (.refl _ _)))
    · exact .refl _ _
  · split
    · exact .ite (.refl _ _) (.by (State.beginExposure_frame _) rfl (.refl _ _))
    · exact .refl _ _

theorem State.exposureEnd_frame : ∀ s, Frame [.tb, .hb, .obs] s (State.exposureEnd s) := by
  intro s
  unfold State.exposureEnd
  refine .ite ?_ ?_
  · split
    · exact .ite (.refl _ _) (.by (State.modHb_frame _ _) rfl (.by (State.coastExposure_frame _) rfl (.refl _ _)))
    · exact .refl _ _
  · split
    · exact .ite (.by (State.finishExposure_frame _) rfl (.refl _ _)) (.refl _ _)
    · exact .refl _ _

theorem State.areaDroop_frame : ∀ a0 s, Frame [.hb] s (State.areaDroop a0 s) := by
  intro a0 s
  unfold State.areaDroop
  exact .by (State.modHb_frame _ _) rfl (.refl _ _)

theorem State.adcDroop_frame : ∀ s, Frame [.regs, .tb, .hb, .link, .obs, .out] s (State.adcDroop s) := by
  intro s
  unfold State.adcDroop
  exact .ite (.by (State.trace_frame _ _ _ _) rfl (.by (State.bump_frame _ _ _) rfl (.by (State.raise_frame _ _ (by
    rfl)) rfl (.iff (.iff (.by (State.areaDroop_frame _ _) rfl (.refl _ _)) (fun _ => (.by (State.onPeriod_frame _ _)
    rfl (.refl _ _)))) (fun _ => (.by (State.modTb_frame _ _) rfl (.refl _ _))))))) (.by (State.trace_frame _ _ _ _)
    rfl (.by (State.bump_frame _ _ _) rfl (.by (State.raise_frame _ _ (by rfl)) rfl (.by (State.areaDroop_frame _ _)
    rfl (.refl _ _)))))

theorem State.startFrame_frame : ∀ a0 a1 a2 a3 a4 s, Frame [.hb] s (State.startFrame a0 a1 a2 a3 a4 s) := by
  intro a0 a1 a2 a3 a4 s
  unfold State.startFrame
  exact .by (State.modHb_frame _ _) rfl (.refl _ _)

theorem State.frameTrigger_frame : ∀ a0 s, Frame [.regs, .hb, .link, .obs, .out] s (State.frameTrigger a0 s) := by
  intro a0 s
  unfold State.frameTrigger
  try dsimp only
  split
  · exact .by (State.startFrame_frame _ _ _ _ _ _) rfl (.refl _ _)
  · exact .ite (.ite (.by (State.modHb_frame _ _) rfl (.refl _ _)) (.by (State.modHb_frame _ _) rfl (.refl _ _))) (.by
      (State.count_frame _ _ _ (by rfl)) rfl (.by (State.raise_frame _ _ (by rfl)) rfl (.refl _ _)))

theorem State.slotEnd_frame : ∀ s, Frame [.hb, .felt] s (State.slotEnd s) := by
  intro s
  unfold State.slotEnd
  split
  · exact .refl _ _
  · refine .ite (.refl _ _) ?_
    refine .ite ?_ ?_
    · split
      · exact .by (State.startFrame_frame _ _ _ _ _ _) rfl (.refl _ _)
      · exact .by (State.modHb_frame _ _) rfl (.refl _ _)
    · try dsimp only
      split
      · exact .by (State.startFrame_frame _ _ _ _ _ _) rfl (.by (State.modFelt_frame _ _) rfl (.refl _ _))
      · exact .by (State.modHb_frame _ _) rfl (.by (State.modFelt_frame _ _) rfl (.refl _ _))

theorem State.readRows_frame : ∀ a0 a1 a2 a3 a4 s, Frame [.regs, .hb, .felt, .link, .obs, .out] s (State.readRows a0
  a1 a2 a3 a4 s) := by
  intro a0 a1 a2 a3 a4 s
  unfold State.readRows
  exact .by (State.releaseRows_frame _) rfl (.by (State.modHb_frame _ _) rfl (.each (.by (State.accCorrected_frame _
    _) rfl (.each (.each (.refl _ _) (fun _ _ => (.ite (.refl _ _) (.by (State.modFelt_frame _ _) rfl (.iff (.iff (.by
    (State.noteClamp_frame _ _ _) rfl (.iff (.refl _ _) (fun _ => (.by (State.clampEvents_frame _) rfl (.refl _ _)))))
    (fun _ => (.by (State.count_frame _ _ _ (by rfl)) rfl (.by (State.raise_frame _ _ (by rfl)) rfl (.refl _ _)))))
    (fun _ => (.by (State.raise_frame _ _ (by rfl)) rfl (.refl _ _)))))))) (fun _ _ => (.iff (.refl _ _) (fun _ =>
    (.by (State.bump_frame _ _ _) rfl (.refl _ _))))))) (fun _ _ => (.by (State.areaUncorrectable_frame _ _ _ _) rfl
    (.refl _ _)))))

theorem State.forceFail_frame : ∀ a0 s, Frame [.regs, .hb, .felt, .link, .tnd, .obs, .out] s (State.forceFail a0 s) :=
  by
  intro a0 s
  unfold State.forceFail
  exact .by (State.failSlice_frame _ _ _) rfl (.by (State.fset_frame _ _ _ (hw_hbxSlCtrlForceFail _)) rfl (.refl _ _))

end Sys2Proof.Machine
end

