-- ==== Sys2Proof/Laws/PinEngine.lean ====
section
/-! SUPPORT. The frames of the operations of Machine/PinEngine.lean: each changes the parts named and no others, and
keeps the stores canonical. -/

namespace Sys2Proof.Machine

theorem State.onEng_frame : ∀ a0 a1 s, Frame [.pen] s (State.onEng a0 a1 s) := by
  intro a0 a1 s
  unfold State.onEng
  exact .by (State.modPen_frame _ _) rfl (.refl _ _)

theorem State.nextStep_frame : ∀ a0 s, Frame [.pen] s (State.nextStep a0 s) := by
  intro a0 s
  unfold State.nextStep
  exact .by (State.onEng_frame _ _ _) rfl (.refl _ _)

theorem Frame.penExec {ps : List Part} {e : Fin 8} {op : Nat} {f : Word → State → State} {s u : State}
    (h : Frame ps s u) (k : ∀ p v, Frame ps v (f p v)) (_w : within [] ps = true) : Frame ps s (u.penExec e op f) := by
  unfold State.penExec
  exact (.ite (.then h (k _ _)) h)

theorem State.drivePin_frame : ∀ a0 a1 a2 s, Frame [.regs, .link, .pen, .obs, .out] s (State.drivePin a0 a1 a2 s) :=
  by
  intro a0 a1 a2 s
  unfold State.drivePin
  exact .ite (.by (State.modPen_frame _ _) rfl (.refl _ _)) (.by (State.raise_frame _ _ (hw_penEvtPinConflict _)) rfl
    (.refl _ _))

theorem State.samplePins_frame : ∀ a0 s, Frame [.pen, .free] s (State.samplePins a0 s) := by
  intro a0 s
  unfold State.samplePins
  exact ⟨fun p hp => by cases p <;> first | (cases hp; done) | rfl | exact fun _ _ => rfl, id⟩

theorem State.makeSafe_frame : ∀ a0 s, Frame [.pen] s (State.makeSafe a0 s) := by
  intro a0 s
  unfold State.makeSafe
  split
  · exact .by (State.modPen_frame _ _) rfl (.refl _ _)
  · exact .by (State.modPen_frame _ _) rfl (.refl _ _)
  · exact .by (State.modPen_frame _ _) rfl (.refl _ _)
  · exact .refl _ _

theorem State.quitEng_frame : ∀ a0 a1 s, Frame [.pen] s (State.quitEng a0 a1 s) := by
  intro a0 a1 s
  unfold State.quitEng
  exact .ite (.refl _ _) (.each (.by (State.onEng_frame _ _ _) rfl (.refl _ _)) (fun _ _ => (.by (State.makeSafe_frame
    _ _) rfl (.refl _ _))))

theorem State.quitAll_frame : ∀ s, Frame [.pen] s (State.quitAll s) := by
  intro s
  unfold State.quitAll
  exact .each (.refl _ _) (fun _ _ => (.ite (.by (State.onEng_frame _ _ _) rfl (.refl _ _)) (.by (State.quitEng_frame
    _ _ _) rfl (.refl _ _))))

theorem State.pinEffect_frame : ∀ a0 a1 s, Frame [.regs, .link, .pen, .obs, .out] s (State.pinEffect a0 a1 s) := by
  intro a0 a1 s
  unfold State.pinEffect
  exact .ite (.by (State.onEng_frame _ _ _) rfl (.each (.refl _ _) (fun _ _ => (.by (State.drivePin_frame _ _ _ _) rfl
    (.refl _ _))))) (.each (.refl _ _) (fun _ _ => (.by (State.drivePin_frame _ _ _ _) rfl (.refl _ _))))

theorem State.noteMet_frame : ∀ s, Frame [.pen] s (State.noteMet s) := by
  intro s
  unfold State.noteMet
  refine .each (.refl _ _) (fun _ _ => ?_)
  try dsimp only
  split
  · exact .ite (.by (State.onEng_frame _ _ _) rfl (.refl _ _)) (.refl _ _)
  · exact .refl _ _

theorem State.pinAction_frame : ∀ a0 a1 s, Frame [.regs, .link, .pen, .obs, .out] s (State.pinAction a0 a1 s) := by
  intro a0 a1 s
  unfold State.pinAction
  try dsimp only
  split
  · exact .by (State.nextStep_frame _ _) rfl (.by (State.onEng_frame _ _ _) rfl (.by (State.pinEffect_frame _ _ _) rfl
      (.refl _ _)))
  · exact .ite (.by (State.bump_frame _ _ _) rfl (.by (State.raise_frame _ _ (hw_penEvtLate _)) rfl (.by
      (State.nextStep_frame _ _) rfl (.by (State.onEng_frame _ _ _) rfl (.by (State.pinEffect_frame _ _ _) rfl (.refl
      _ _)))))) (.ite (.by (State.bump_frame _ _ _) rfl (.by (State.nextStep_frame _ _) rfl (.by (State.onEng_frame _
      _ _) rfl (.by (State.pinEffect_frame _ _ _) rfl (.refl _ _))))) (.by (State.onEng_frame _ _ _) rfl (.refl _ _)))

theorem State.releaseHeld_frame : ∀ a0 s, Frame [.regs, .link, .pen, .obs, .out] s (State.releaseHeld a0 s) := by
  intro a0 s
  unfold State.releaseHeld
  exact .by (State.bump_frame _ _ _) rfl (.by (State.nextStep_frame _ _) rfl (.by (State.onEng_frame _ _ _) rfl (.by
    (State.pinEffect_frame _ _ _) rfl (.refl _ _))))

theorem State.stampMet_frame : ∀ a0 s, Frame [.regs, .link, .pen, .obs, .out] s (State.stampMet a0 s) := by
  intro a0 s
  unfold State.stampMet
  try dsimp only
  split
  · exact .ite (.by (State.releaseHeld_frame _ _) rfl (.refl _ _)) (.refl _ _)
  · exact .refl _ _

theorem State.steppedPast_frame : ∀ a0 a1 s, Frame [.regs, .link, .pen, .obs, .out] s (State.steppedPast a0 a1 s) :=
  by
  intro a0 a1 s
  unfold State.steppedPast
  refine .each (.refl _ _) (fun _ _ => ?_)
  try dsimp only
  split
  · exact .ite (.by (State.raise_frame _ _ (hw_penEvtStepped _)) rfl (.ite (.by (State.releaseHeld_frame _ _) rfl
      (.refl _ _)) (.by (State.onEng_frame _ _ _) rfl (.refl _ _)))) (.refl _ _)
  · exact .refl _ _

theorem State.armStamp_frame : ∀ a0 a1 s, Frame [.pen] s (State.armStamp a0 a1 s) := by
  intro a0 a1 s
  unfold State.armStamp
  exact .by (State.nextStep_frame _ _) rfl (.by (State.onEng_frame _ _ _) rfl (.refl _ _))

theorem State.fifoStep_frame : ∀ a0 a1 s, Frame [.regs, .link, .pen, .obs, .out] s (State.fifoStep a0 a1 s) := by
  intro a0 a1 s
  unfold State.fifoStep
  refine .ite ?_ (.ite (.by (State.nextStep_frame _ _) rfl (.by (State.onEng_frame _ _ _) rfl (.refl _ _))) (.ite (.by
    (State.nextStep_frame _ _) rfl (.by (State.onEng_frame _ _ _) rfl (.by (State.raise_frame _ _ (hw_penEvtOver _))
    rfl (.refl _ _)))) (.by (State.onEng_frame _ _ _) rfl (.by (State.raise_frame _ _ (hw_penEvtOver _)) rfl (.refl _
    _)))))
  split
  · exact .by (State.nextStep_frame _ _) rfl (.by (State.onEng_frame _ _ _) rfl (.refl _ _))
  · exact .ite (.by (State.nextStep_frame _ _) rfl (.by (State.onEng_frame _ _ _) rfl (.by (State.raise_frame _ _
      (hw_penEvtUnder _)) rfl (.refl _ _)))) (.by (State.onEng_frame _ _ _) rfl (.by (State.raise_frame _ _
      (hw_penEvtUnder _)) rfl (.refl _ _)))

theorem State.unstall_frame : ∀ a0 s, Frame [.regs, .link, .pen, .obs, .out] s (State.unstall a0 s) := by
  intro a0 s
  unfold State.unstall
  exact .ite (.by (State.fifoStep_frame _ _ _) rfl (.refl _ _)) (.refl _ _)

theorem State.fifoOp_frame : ∀ a0 a1 s, Frame [.regs, .link, .pen, .obs, .out] s (State.fifoOp a0 a1 s) := by
  intro a0 a1 s
  unfold State.fifoOp
  exact .ite (.by (State.unstall_frame _ _) rfl (.refl _ _)) (Frame.penExec (.refl _ _) (fun _ _ => (.by
    (State.fifoStep_frame _ _ _) rfl (.refl _ _))) rfl)

theorem State.txWrite_frame : ∀ a0 a1 s, Frame [.regs, .link, .pen, .obs, .out] s (State.txWrite a0 a1 s) := by
  intro a0 a1 s
  unfold State.txWrite
  exact .ite (.by (State.unstall_frame _ _) rfl (.by (State.onEng_frame _ _ _) rfl (.by (State.setReg_frame _ _ _
    (hw_tx _)) rfl (.refl _ _)))) (.by (State.raise_frame _ _ (hw_penEvtTxOvf _)) rfl (.by (State.setReg_frame _ _ _
    (hw_tx _)) rfl (.refl _ _)))

theorem State.rxPop_frame : ∀ a0 s, Frame [.regs, .link, .pen, .obs, .out] s (State.rxPop a0 s) := by
  intro a0 s
  unfold State.rxPop
  exact .by (State.unstall_frame _ _) rfl (.by (State.onEng_frame _ _ _) rfl (.refl _ _))

theorem State.shiftIn_frame : ∀ a0 a1 s, Frame [.pen] s (State.shiftIn a0 a1 s) := by
  intro a0 a1 s
  unfold State.shiftIn
  exact .by (State.nextStep_frame _ _) rfl (.by (State.onEng_frame _ _ _) rfl (.refl _ _))

theorem State.move_frame : ∀ a0 a1 s, Frame [.pen] s (State.move a0 a1 s) := by
  intro a0 a1 s
  unfold State.move
  exact .by (State.nextStep_frame _ _) rfl (.by (State.onEng_frame _ _ _) rfl (.refl _ _))

theorem State.beginWait_frame : ∀ a0 a1 s, Frame [.pen] s (State.beginWait a0 a1 s) := by
  intro a0 a1 s
  unfold State.beginWait
  exact .by (State.onEng_frame _ _ _) rfl (.refl _ _)

theorem State.waitMet_frame : ∀ a0 s, Frame [.pen] s (State.waitMet a0 s) := by
  intro a0 s
  unfold State.waitMet
  refine .ite (.refl _ _) ?_
  refine .by (State.nextStep_frame _ _) rfl ?_
  refine .ite ?_ (.refl _ _)
  split
  · exact .by (State.onEng_frame _ _ _) rfl (.refl _ _)
  · exact .refl _ _

theorem State.jump_frame : ∀ a0 a1 s, Frame [.pen] s (State.jump a0 a1 s) := by
  intro a0 a1 s
  unfold State.jump
  try dsimp only
  split
  · exact .by (State.onEng_frame _ _ _) rfl (.by (State.nextStep_frame _ _) rfl (.refl _ _))
  · exact .by (State.nextStep_frame _ _) rfl (.refl _ _)

theorem State.setFlags_frame : ∀ a0 s, Frame [.pen] s (State.setFlags a0 s) := by
  intro a0 s
  unfold State.setFlags
  exact .by (State.modPen_frame _ _) rfl (.refl _ _)

theorem State.clrFlags_frame : ∀ a0 a1 s, Frame [.pen] s (State.clrFlags a0 a1 s) := by
  intro a0 a1 s
  unfold State.clrFlags
  exact .by (State.modPen_frame _ _) rfl (.refl _ _)

theorem State.request_frame : ∀ a0 s, Frame [.regs, .tb, .hb, .link, .obs, .out] s (State.request a0 s) := by
  intro a0 s
  unfold State.request
  exact .ite (.iff (.by (State.modTb_frame _ _) rfl (.refl _ _)) (fun _ => (.by (State.preTrigger_frame _) rfl (.refl
    _ _)))) (.by (State.raise_frame _ _ (hw_penEvtTrigIgn _)) rfl (.refl _ _))

theorem State.flagOp_frame : ∀ a0 a1 s, Frame [.regs, .tb, .hb, .link, .pen, .obs, .out] s (State.flagOp a0 a1 s) :=
  by
  intro a0 a1 s
  unfold State.flagOp
  refine .by (State.nextStep_frame _ _) rfl ?_
  split
  · exact .by (State.clrFlags_frame _ _ _) rfl (.refl _ _)
  · exact .by (State.request_frame _ _) rfl (.refl _ _)
  · exact .by (State.raise_frame _ _ (hw_penEvtSig _)) rfl (.refl _ _)
  · exact .by (State.setFlags_frame _ _) rfl (.refl _ _)

theorem State.delay_frame : ∀ a0 a1 s, Frame [.pen] s (State.delay a0 a1 s) := by
  intro a0 a1 s
  unfold State.delay
  exact .by (State.onEng_frame _ _ _) rfl (.refl _ _)

theorem State.delayDone_frame : ∀ a0 s, Frame [.pen] s (State.delayDone a0 s) := by
  intro a0 s
  unfold State.delayDone
  exact .ite (.by (State.onEng_frame _ _ _) rfl (.by (State.nextStep_frame _ _) rfl (.refl _ _))) (.refl _ _)

theorem State.publish_frame : ∀ a0 a1 a2 a3 s, Frame [.pen] s (State.publish a0 a1 a2 a3 s) := by
  intro a0 a1 a2 a3 s
  unfold State.publish
  exact .by (State.modPen_frame _ _) rfl (.refl _ _)

theorem State.exposureRecord_frame : ∀ s, Frame [.pen] s (State.exposureRecord s) := by
  intro s
  unfold State.exposureRecord
  refine .ite ?_ ?_
  · split
    · exact .ite (.refl _ _) (.by (State.publish_frame _ _ _ _ _) rfl (.refl _ _))
    · exact .refl _ _
  · split
    · exact .ite (.refl _ _) (.by (State.publish_frame _ _ _ _ _) rfl (.refl _ _))
    · exact .refl _ _

theorem State.actOn_frame : ∀ a0 a1 s, Frame [.pen] s (State.actOn a0 a1 s) := by
  intro a0 a1 s
  unfold State.actOn
  try dsimp only
  split
  · exact .by (State.onEng_frame _ _ _) rfl (.refl _ _)
  · exact .ite (.by (State.onEng_frame _ _ _) rfl (.refl _ _)) (.ite (.by (State.onEng_frame _ _ _) rfl (.refl _ _))
      (.by (State.onEng_frame _ _ _) rfl (.refl _ _)))
  · exact .ite (.by (State.onEng_frame _ _ _) rfl (.refl _ _)) (.refl _ _)
  · exact .by (State.quitEng_frame _ _ _) rfl (.refl _ _)

theorem State.actionTick_frame : ∀ s, Frame [.pen] s (State.actionTick s) := by
  intro s
  unfold State.actionTick
  exact .each (.by (State.modPen_frame _ _) rfl (.refl _ _)) (fun _ _ => (.each (.refl _ _) (fun _ _ => (.iff (.refl _
    _) (fun _ => (.by (State.actOn_frame _ _ _) rfl (.refl _ _)))))))

theorem State.goEngines_frame : ∀ a0 a1 s, Frame [.pen] s (State.goEngines a0 a1 s) := by
  intro a0 a1 s
  unfold State.goEngines
  exact .by (State.modPen_frame _ _) rfl (.refl _ _)

theorem State.writePenStart_frame : ∀ a0 s, Frame [.regs, .pen] s (State.writePenStart a0 s) := by
  intro a0 s
  unfold State.writePenStart
  exact .iff (.by (State.setReg_frame _ _ _ (by rfl)) rfl (.refl _ _)) (fun _ => (.by (State.goEngines_frame _ _ _)
    rfl (.refl _ _)))

theorem State.penOp_frame : ∀ a0 a1 s, Frame [.regs, .pen] s (State.penOp a0 a1 s) := by
  intro a0 a1 s
  unfold State.penOp
  exact .by (State.writePenStart_frame _ _) rfl (.refl _ _)

theorem State.storeWrite_frame : ∀ a0 a1 a2 a3 s, Frame [.regs, .link, .pen, .obs, .out] s (State.storeWrite a0 a1 a2
  a3 s) := by
  intro a0 a1 a2 a3 s
  unfold State.storeWrite
  exact .ite (.by (State.onEng_frame _ _ _) rfl (.refl _ _)) (.by (State.raise_frame _ _ (hw_penEvtProgBusy _)) rfl
    (.refl _ _))

end Sys2Proof.Machine
end

