-- ==== Sys2Proof/Laws/Dma.lean ====
section
/-! SUPPORT. The frames of the operations of Machine/Dma.lean: each changes the parts named and no others, and
keeps the stores canonical. -/

namespace Sys2Proof.Machine

theorem State.onCh_frame : ∀ a0 a1 s, Frame [.dma] s (State.onCh a0 a1 s) := by
  intro a0 a1 s
  unfold State.onCh
  exact .by (State.modDma_frame _ _) rfl (.refl _ _)

theorem State.leaveL1_frame : ∀ s, Frame [.link] s (State.leaveL1 s) := by
  intro s
  unfold State.leaveL1
  exact .by (State.modLink_frame _ _) rfl (.refl _ _)

theorem State.writeOut_frame : ∀ a0 a1 a2 s, Frame [.link, .out] s (State.writeOut a0 a1 a2 s) := by
  intro a0 a1 a2 s
  unfold State.writeOut
  exact .by (State.emit_frame _ _) rfl (.by (State.leaveL1_frame _) rfl (.refl _ _))

theorem State.allocChunk_frame : ∀ a0 s, Frame [.reel, .dma] s (State.allocChunk a0 s) := by
  intro a0 s
  unfold State.allocChunk
  exact .by (State.onCh_frame _ _ _) rfl (.by (State.modReel_frame _ _) rfl (.refl _ _))

theorem State.charge_frame : ∀ a0 s, Frame [.reel] s (State.charge a0 s) := by
  intro a0 s
  unfold State.charge
  exact .by (State.modReel_frame _ _) rfl (.refl _ _)

theorem State.fillChunks_frame : ∀ a0 a1 a2 s, Frame [.reel, .dma, .obs] s (State.fillChunks a0 a1 a2 s) := by
  intro a0 a1 a2 s
  unfold State.fillChunks
  exact .by (State.bump_frame _ _ _) rfl (.by (State.charge_frame _ _) rfl (.each (.by (State.onCh_frame _ _ _) rfl
    (.refl _ _)) (fun _ _ => (.by (State.allocChunk_frame _ _) rfl (.refl _ _)))))

theorem State.drainChunks_frame : ∀ a0 a1 s, Frame [.reel, .dma, .obs] s (State.drainChunks a0 a1 s) := by
  intro a0 a1 s
  unfold State.drainChunks
  exact .by (State.bump_frame _ _ _) rfl (.by (State.charge_frame _ _) rfl (.by (State.modReel_frame _ _) rfl (.by
    (State.onCh_frame _ _ _) rfl (.refl _ _))))

theorem State.freeChunks_frame : ∀ a0 s, Frame [.reel, .dma] s (State.freeChunks a0 s) := by
  intro a0 s
  unfold State.freeChunks
  exact .by (State.modReel_frame _ _) rfl (.by (State.onCh_frame _ _ _) rfl (.refl _ _))

theorem State.resetDue_frame : ∀ s, Frame [.cmd] s (State.resetDue s) := by
  intro s
  unfold State.resetDue
  exact .by (State.modCmd_frame _ _) rfl (.refl _ _)

theorem State.loseCompletion_frame : ∀ a0 s, Frame [.regs, .link, .obs, .out] s (State.loseCompletion a0 s) := by
  intro a0 s
  unfold State.loseCompletion
  exact .by (State.raise_frame _ _ (hw_cmdQEvtLostCpl _)) rfl (.by (State.count_frame _ _ _ (hw_cmdQLost _)) rfl
    (.refl _ _))

theorem State.lostUnit_frame : ∀ a0 s, Frame [.cmd] s (State.lostUnit a0 s) := by
  intro a0 s
  unfold State.lostUnit
  exact .iff (.refl _ _) (fun _ => (.by (State.resetDue_frame _) rfl (.refl _ _)))

theorem State.dropRecord_frame : ∀ a0 a1 s, Frame [.regs, .link, .obs, .out] s (State.dropRecord a0 a1 s) := by
  intro a0 a1 s
  unfold State.dropRecord
  exact .by (State.trace_frame _ _ _ _) rfl (.by (State.fset_frame _ _ _ (hw_dmaDropsHi _)) rfl (.by (State.fset_frame
    _ _ _ (hw_dmaDropsLo _)) rfl (.iff (.by (State.raise_frame _ _ (hw_dmaChEvtDrop _)) rfl (.refl _ _)) (fun _ =>
    (.by (State.msix_frame _ _) rfl (.refl _ _))))))

theorem State.closeBuf_frame : ∀ a0 a1 s, Frame [.dma] s (State.closeBuf a0 a1 s) := by
  intro a0 a1 s
  unfold State.closeBuf
  split
  · exact .refl _ _
  · exact .by (State.onCh_frame _ _ _) rfl (.refl _ _)

theorem State.closeOpened_frame : ∀ a0 s, Frame [.dma] s (State.closeOpened a0 s) := by
  intro a0 s
  unfold State.closeOpened
  exact .iff (.refl _ _) (fun _ => (.by (State.closeBuf_frame _ _ _) rfl (.refl _ _)))

theorem State.putDrop_frame : ∀ a0 a1 s, Frame [.dma] s (State.putDrop a0 a1 s) := by
  intro a0 a1 s
  unfold State.putDrop
  exact .by (State.onCh_frame _ _ _) rfl (.by (State.closeOpened_frame _ _) rfl (.refl _ _))

theorem State.writeDrop_frame : ∀ a0 a1 s, Frame [.regs, .link, .dma, .obs, .out] s (State.writeDrop a0 a1 s) := by
  intro a0 a1 s
  unfold State.writeDrop
  exact .by (State.putDrop_frame _ _ _) rfl (.by (State.dropRecord_frame _ _ _) rfl (.refl _ _))

theorem State.endRun_frame : ∀ a0 s, Frame [.regs, .link, .dma, .obs, .out] s (State.endRun a0 s) := by
  intro a0 s
  unfold State.endRun
  split
  · exact .refl _ _
  · exact .by (State.onCh_frame _ _ _) rfl (.by (State.dropRecord_frame _ _ _) rfl (.refl _ _))

theorem State.dropUnit_frame : ∀ a0 a1 a2 s, Frame [.regs, .link, .dma, .cmd, .obs, .out] s (State.dropUnit a0 a1 a2
  s) := by
  intro a0 a1 a2 s
  unfold State.dropUnit
  exact .ite (.refl _ _) (.iff (.by (State.onCh_frame _ _ _) rfl (.iff (.by (State.onCh_frame _ _ _) rfl (.by
    (State.lostUnit_frame _ _) rfl (.refl _ _))) (fun _ => (.by (State.endRun_frame _ _) rfl (.refl _ _))))) (fun _ =>
    (.by (State.endRun_frame _ _) rfl (.refl _ _))))

theorem State.writeFront_frame : ∀ a0 s, Frame [.regs, .link, .dma, .obs, .out] s (State.writeFront a0 s) := by
  intro a0 s
  unfold State.writeFront
  split
  · exact .by (State.onCh_frame _ _ _) rfl (.by (State.writeDrop_frame _ _ _) rfl (.refl _ _))
  · exact .refl _ _

theorem State.dropFront_frame : ∀ a0 a1 a2 s, Frame [.regs, .link, .dma, .cmd, .obs, .out] s (State.dropFront a0 a1 a2
  s) := by
  intro a0 a1 a2 s
  unfold State.dropFront
  exact .ite (.refl _ _) (.by (State.onCh_frame _ _ _) rfl (.iff (.by (State.onCh_frame _ _ _) rfl (.by
    (State.lostUnit_frame _ _) rfl (.refl _ _))) (fun _ => (.by (State.writeFront_frame _ _) rfl (.refl _ _)))))

theorem State.spill_frame : ∀ a0 a1 s, Frame [.regs, .reel, .link, .dma, .cmd, .obs, .out] s (State.spill a0 a1 s) :=
  by
  intro a0 a1 s
  unfold State.spill
  try dsimp only
  split
  · exact .by (State.dropUnit_frame _ _ _ _) rfl (.iff (.refl _ _) (fun _ => (.by (State.raise_frame _ _ (by rfl)) rfl
      (.refl _ _))))
  · exact .by (State.onCh_frame _ _ _) rfl (.by (State.fillChunks_frame _ _ _ _) rfl (.by (State.endRun_frame _ _) rfl
      (.refl _ _)))

theorem State.spillQueue_frame : ∀ a0 s, Frame [.regs, .reel, .link, .dma, .cmd, .obs, .out] s (State.spillQueue a0 s)
  := by
  intro a0 s
  unfold State.spillQueue
  try dsimp only
  split
  · refine .by (State.onCh_frame _ _ _) rfl ?_
    refine .by (State.endRun_frame _ _) rfl ?_
    refine .each (.by (State.onCh_frame _ _ _) rfl (.refl _ _)) (fun _ _ => ?_)
    split
    · exact .by (State.onCh_frame _ _ _) rfl (.by (State.endRun_frame _ _) rfl (.refl _ _))
    · exact .by (State.spill_frame _ _ _) rfl (.refl _ _)
  · refine .each (.by (State.onCh_frame _ _ _) rfl (.refl _ _)) (fun _ _ => ?_)
    split
    · exact .by (State.onCh_frame _ _ _) rfl (.by (State.endRun_frame _ _) rfl (.refl _ _))
    · exact .by (State.spill_frame _ _ _) rfl (.refl _ _)

theorem State.park_frame : ∀ a0 a1 s, Frame [.regs, .reel, .link, .dma, .cmd, .obs, .out] s (State.park a0 a1 s) := by
  intro a0 a1 s
  unfold State.park
  exact .ite (.by (State.spillQueue_frame _ _) rfl (.by (State.trace_frame _ _ _ _) rfl (.by (State.count_frame _ _ _
    (hw_dmaChParks _)) rfl (.by (State.raise_frame _ _ (hw_dmaChEvtPark _)) rfl (.by (State.onCh_frame _ _ _) rfl (.by
    (State.onCh_frame _ _ _) rfl (.refl _ _))))))) (.by (State.onCh_frame _ _ _) rfl (.refl _ _))

theorem State.placeRuns_frame : ∀ a0 s, Frame [.dma] s (State.placeRuns a0 s) := by
  intro a0 s
  unfold State.placeRuns
  exact .by (State.onCh_frame _ _ _) rfl (.refl _ _)

theorem State.goLive_frame : ∀ a0 s, Frame [.regs, .link, .dma, .obs, .out] s (State.goLive a0 s) := by
  intro a0 s
  unfold State.goLive
  exact .by (State.trace_frame _ _ _ _) rfl (.by (State.raise_frame _ _ (hw_dmaChEvtUnpark _)) rfl (.by
    (State.placeRuns_frame _ _) rfl (.by (State.onCh_frame _ _ _) rfl (.refl _ _))))

theorem State.resume_frame : ∀ a0 s, Frame [.regs, .link, .dma, .obs, .out] s (State.resume a0 s) := by
  intro a0 s
  unfold State.resume
  exact .ite (.ite (.by (State.goLive_frame _ _) rfl (.refl _ _)) (.by (State.onCh_frame _ _ _) rfl (.refl _ _)))
    (.refl _ _)

theorem State.unpark_frame : ∀ a0 a1 s, Frame [.regs, .link, .dma, .obs, .out] s (State.unpark a0 a1 s) := by
  intro a0 a1 s
  unfold State.unpark
  exact .by (State.resume_frame _ _) rfl (.by (State.onCh_frame _ _ _) rfl (.refl _ _))

theorem State.stagingDrained_frame : ∀ a0 s, Frame [.regs, .link, .dma, .obs, .out] s (State.stagingDrained a0 s) :=
  by
  intro a0 s
  unfold State.stagingDrained
  exact .by (State.unpark_frame _ _ _) rfl (.refl _ _)

theorem State.popHead_frame : ∀ a0 s, Frame [.regs, .link, .dma, .obs, .out] s (State.popHead a0 s) := by
  intro a0 s
  unfold State.popHead
  exact .by (State.stagingDrained_frame _ _) rfl (.by (State.onCh_frame _ _ _) rfl (.refl _ _))

theorem State.unbind_frame : ∀ a0 s, Frame [.regs, .link, .obs, .out] s (State.unbind a0 s) := by
  intro a0 s
  unfold State.unbind
  exact .each (.refl _ _) (fun _ _ => (.iff (.refl _ _) (fun _ => (.by (State.raise_frame _ _ (hw_cmdQEvtBind _)) rfl
    (.refl _ _)))))

theorem State.forget_frame : ∀ a0 s, Frame [.dma] s (State.forget a0 s) := by
  intro a0 s
  unfold State.forget
  exact .by (State.modDma_frame _ _) rfl (.refl _ _)

theorem State.chError_frame : ∀ a0 s, Frame [.regs, .link, .dma, .obs, .out] s (State.chError a0 s) := by
  intro a0 s
  unfold State.chError
  exact .by (State.unbind_frame _ _) rfl (.by (State.raise_frame _ _ (hw_dmaChEvtErr _)) rfl (.by (State.onCh_frame _
    _ _) rfl (.by (State.forget_frame _ _) rfl (.refl _ _))))

theorem State.touch_frame : ∀ a0 a1 s, Frame [.dma] s (State.touch a0 a1 s) := by
  intro a0 a1 s
  unfold State.touch
  exact .by (State.modDma_frame _ _) rfl (.refl _ _)

theorem State.sendAsk_frame : ∀ a0 a1 a2 s, Frame [.regs, .link, .dma, .obs, .out] s (State.sendAsk a0 a1 a2 s) := by
  intro a0 a1 a2 s
  unfold State.sendAsk
  exact .ite (.refl _ _) (.by (State.bump_frame _ _ _) rfl (.by (State.count_frame _ _ _ (by rfl)) rfl (.by
    (State.emit_frame _ _) rfl (.by (State.onCh_frame _ _ _) rfl (.by (State.leaveL1_frame _) rfl (.refl _ _))))))

theorem State.ask_frame : ∀ a0 a1 a2 s, Frame [.regs, .link, .dma, .obs, .out] s (State.ask a0 a1 a2 s) := by
  intro a0 a1 a2 s
  unfold State.ask
  exact .ite (.refl _ _) (.by (State.sendAsk_frame _ _ _ _) rfl (.refl _ _))

theorem State.windowed_frame : ∀ s, Frame [.dma] s (State.windowed s) := by
  intro s
  unfold State.windowed
  exact .by (State.modDma_frame _ _) rfl (.refl _ _)

theorem State.spend_frame : ∀ a0 a1 s, Frame [.dma] s (State.spend a0 a1 s) := by
  intro a0 a1 s
  unfold State.spend
  exact .by (State.modDma_frame _ _) rfl (.by (State.windowed_frame _) rfl (.refl _ _))

theorem State.writeNotice_frame : ∀ a0 s, Frame [.link, .dma, .obs, .out] s (State.writeNotice a0 s) := by
  intro a0 s
  unfold State.writeNotice
  split
  · exact .refl _ _
  · exact .ite (.by (State.emit_frame _ _) rfl (.by (State.modLink_frame _ _) rfl (.by (State.leaveL1_frame _) rfl
      (.by (State.bump_frame _ _ _) rfl (.by (State.onCh_frame _ _ _) rfl (.by (State.touch_frame _ _ _) rfl (.by
      (State.spend_frame _ _ _) rfl (.refl _ _)))))))) (.iff (.by (State.writeOut_frame _ _ _ _) rfl (.by
      (State.bump_frame _ _ _) rfl (.by (State.onCh_frame _ _ _) rfl (.by (State.touch_frame _ _ _) rfl (.by
      (State.spend_frame _ _ _) rfl (.refl _ _)))))) (fun _ => (.by (State.msix_frame _ _) rfl (.refl _ _))))

theorem State.pushNotice_frame : ∀ a0 s, Frame [.regs, .reel, .link, .dma, .cmd, .obs, .out] s (State.pushNotice a0 s)
  := by
  intro a0 s
  unfold State.pushNotice
  exact .ite (.ite (.by (State.onCh_frame _ _ _) rfl (.refl _ _)) (.by (State.park_frame _ _ _) rfl (.refl _ _)))
    (.iff (.refl _ _) (fun _ => (.by (State.ask_frame _ _ _ _) rfl (.refl _ _))))

theorem State.keepPlace_frame : ∀ a0 a1 s, Frame [.dma] s (State.keepPlace a0 a1 s) := by
  intro a0 a1 s
  unfold State.keepPlace
  exact .by (State.onCh_frame _ _ _) rfl (.refl _ _)

theorem State.outgrown_frame : ∀ a0 a1 a2 s, Frame [.regs, .link, .dma, .obs, .out] s (State.outgrown a0 a1 a2 s) :=
  by
  intro a0 a1 a2 s
  unfold State.outgrown
  exact .ite (.by (State.raise_frame _ _ (hw_dmaChEvtTooSmall _)) rfl (.by (State.closeBuf_frame _ _ _) rfl (.refl _
    _))) (.by (State.closeBuf_frame _ _ _) rfl (.refl _ _))

theorem State.settleUnit_frame : ∀ a0 a1 s, Frame [.regs, .reel, .link, .dma, .cmd, .obs, .out] s (State.settleUnit a0
  a1 s) := by
  intro a0 a1 s
  unfold State.settleUnit
  refine .ite (.by (State.writeFront_frame _ _) rfl (.refl _ _)) ?_
  split
  · exact .ite (.ite (.refl _ _) (.by (State.park_frame _ _ _) rfl (.refl _ _))) (.ite (.by (State.ask_frame _ _ _ _)
      rfl (.refl _ _)) (.refl _ _))
  · exact .ite (.refl _ _) (.ite (.by (State.outgrown_frame _ _ _ _) rfl (.refl _ _)) (.ite (.by (State.ask_frame _ _
      _ _) rfl (.refl _ _)) (.by (State.writeFront_frame _ _) rfl (.refl _ _))))

theorem State.settlePlace_frame : ∀ a0 a1 s, Frame [.regs, .reel, .link, .dma, .cmd, .obs, .out] s (State.settlePlace
  a0 a1 s) := by
  intro a0 a1 s
  unfold State.settlePlace
  try dsimp only
  split
  · exact .ite (.ite (.refl _ _) (.by (State.park_frame _ _ _) rfl (.refl _ _))) (.ite (.by (State.ask_frame _ _ _ _)
      rfl (.refl _ _)) (.refl _ _))
  · exact .ite (.by (State.outgrown_frame _ _ _ _) rfl (.refl _ _)) (.by (State.popHead_frame _ _) rfl (.by
      (State.keepPlace_frame _ _ _) rfl (.refl _ _)))

theorem State.settleRecord_frame : ∀ a0 a1 s, Frame [.regs, .link, .dma, .obs, .out] s (State.settleRecord a0 a1 s) :=
  by
  intro a0 a1 s
  unfold State.settleRecord
  exact .ite (.by (State.writeFront_frame _ _) rfl (.refl _ _)) (.ite (.refl _ _) (.ite (.by (State.ask_frame _ _ _ _)
    rfl (.refl _ _)) (.by (State.writeFront_frame _ _) rfl (.refl _ _))))

theorem State.settleEmpty_frame : ∀ a0 s, Frame [.regs, .link, .dma, .obs, .out] s (State.settleEmpty a0 s) := by
  intro a0 s
  unfold State.settleEmpty
  refine .ite (.refl _ _) ?_
  refine .ite (.by (State.writeFront_frame _ _) rfl (.refl _ _)) ?_
  refine .ite ?_ (.ite (.by (State.goLive_frame _ _) rfl (.refl _ _)) (.refl _ _))
  refine .ite (.by (State.closeBuf_frame _ _ _) rfl (.refl _ _)) ?_
  split
  · exact .by (State.onCh_frame _ _ _) rfl (.by (State.putDrop_frame _ _ _) rfl (.refl _ _))
  · exact .by (State.onCh_frame _ _ _) rfl (.by (State.writeDrop_frame _ _ _) rfl (.refl _ _))
  · exact .by (State.unbind_frame _ _) rfl (.by (State.onCh_frame _ _ _) rfl (.refl _ _))

theorem State.settleOnce_frame : ∀ a0 s, Frame [.regs, .reel, .link, .dma, .cmd, .obs, .out] s (State.settleOnce a0 s)
  := by
  intro a0 s
  unfold State.settleOnce
  refine .ite (.refl _ _) ?_
  refine .ite (.iff (.refl _ _) (fun _ => (.by (State.pushNotice_frame _ _) rfl (.refl _ _)))) ?_
  refine .ite (.refl _ _) ?_
  split
  · exact .by (State.settleEmpty_frame _ _) rfl (.refl _ _)
  · split
    · exact .ite (.by (State.writeFront_frame _ _) rfl (.refl _ _)) (.by (State.popHead_frame _ _) rfl (.by
        (State.putDrop_frame _ _ _) rfl (.refl _ _)))
    · exact .by (State.settlePlace_frame _ _ _) rfl (.refl _ _)
    · exact .ite (.by (State.writeFront_frame _ _) rfl (.refl _ _)) (.ite (.refl _ _) (.ite (.ite (.refl _ _) (.by
        (State.park_frame _ _ _) rfl (.by (State.raise_frame _ _ (hw_cmdQEvtCqWait _)) rfl (.refl _ _)))) (.ite (.by
        (State.ask_frame _ _ _ _) rfl (.refl _ _)) (.refl _ _))))
    · split
      · exact .by (State.settleRecord_frame _ _ _) rfl (.refl _ _)
      · exact .by (State.settleUnit_frame _ _ _) rfl (.refl _ _)

theorem State.askQueues_frame : ∀ a0 s, Frame [.regs, .link, .dma, .obs, .out] s (State.askQueues a0 s) := by
  intro a0 s
  unfold State.askQueues
  refine .ite ?_ (.refl _ _)
  split
  · exact .by (State.ask_frame _ _ _ _) rfl (.refl _ _)
  · exact .refl _ _

theorem State.settle_frame : ∀ a0 s, Frame [.regs, .reel, .link, .dma, .cmd, .obs, .out] s (State.settle a0 s) := by
  intro a0 s
  unfold State.settle
  exact .by (State.askQueues_frame _ _) rfl (.fold (fun _ _ => (.by (State.settleOnce_frame _ _) rfl (.refl _ _))) _
    (.refl _ _))

theorem State.handUnit_frame : ∀ a0 a1 s, Frame [.regs, .reel, .link, .dma, .cmd, .obs, .out] s (State.handUnit a0 a1
  s) := by
  intro a0 a1 s
  unfold State.handUnit
  refine .ite (.by (State.dropUnit_frame _ _ _ _) rfl (.by (State.leaveL1_frame _) rfl (.refl _ _))) ?_
  split
  · exact .ite (.by (State.stagingDrained_frame _ _) rfl (.by (State.spill_frame _ _ _) rfl (.by (State.park_frame _ _
      _) rfl (.by (State.raise_frame _ _ (by rfl)) rfl (.by (State.endRun_frame _ _) rfl (.by (State.leaveL1_frame _)
      rfl (.refl _ _))))))) (.by (State.settle_frame _ _) rfl (.by (State.onCh_frame _ _ _) rfl (.by
      (State.endRun_frame _ _) rfl (.by (State.leaveL1_frame _) rfl (.refl _ _)))))
  · exact .by (State.spill_frame _ _ _) rfl (.by (State.raise_frame _ _ (by rfl)) rfl (.by (State.leaveL1_frame _) rfl
      (.refl _ _)))
  · exact .by (State.spill_frame _ _ _) rfl (.by (State.leaveL1_frame _) rfl (.refl _ _))

theorem State.handClass_frame : ∀ a0 a1 a2 s, Frame [.regs, .reel, .link, .dma, .cmd, .obs, .out] s (State.handClass
  a0 a1 a2 s) := by
  intro a0 a1 a2 s
  unfold State.handClass
  exact .ite (.by (State.handUnit_frame _ _ _) rfl (.refl _ _)) (.by (State.dropUnit_frame _ _ _ _) rfl (.refl _ _))

theorem State.countUnit_frame : ∀ a0 s, Frame [.regs] s (State.countUnit a0 s) := by
  intro a0 s
  unfold State.countUnit
  exact .by (State.fset_frame _ _ _ (hw_dmaUnitsHi _)) rfl (.by (State.fset_frame _ _ _ (hw_dmaUnitsLo _)) rfl (.refl
    _ _))

theorem State.recordWritten_frame : ∀ a0 s, Frame [.reel] s (State.recordWritten a0 s) := by
  intro a0 s
  unfold State.recordWritten
  exact .by (State.modReel_frame _ _) rfl (.refl _ _)

theorem State.delivered_frame : ∀ a0 a1 s, Frame [.regs, .reel, .link, .dma, .cmd, .obs, .out] s (State.delivered a0
  a1 s) := by
  intro a0 a1 s
  unfold State.delivered
  refine .by (State.settle_frame _ _) rfl ?_
  refine .by (State.popHead_frame _ _) rfl ?_
  split
  · exact .by (State.recordWritten_frame _ _) rfl (.by (State.closeBuf_frame _ _ _) rfl (.by (State.onCh_frame _ _ _)
      rfl (.by (State.countUnit_frame _ _) rfl (.refl _ _))))
  · exact .ite (.by (State.closeBuf_frame _ _ _) rfl (.by (State.onCh_frame _ _ _) rfl (.by (State.countUnit_frame _
      _) rfl (.refl _ _)))) (.by (State.onCh_frame _ _ _) rfl (.by (State.countUnit_frame _ _) rfl (.refl _ _)))
  · exact .by (State.onCh_frame _ _ _) rfl (.by (State.countUnit_frame _ _) rfl (.refl _ _))

theorem State.writeRecord_frame : ∀ a0 a1 a2 a3 a4 s, Frame [.regs, .reel, .link, .dma, .cmd, .obs, .out] s
  (State.writeRecord a0 a1 a2 a3 a4 s) := by
  intro a0 a1 a2 a3 a4 s
  unfold State.writeRecord
  exact .by (State.settle_frame _ _) rfl (.by (State.popHead_frame _ _) rfl (.by (State.recordWritten_frame _ _) rfl
    (.iff (.by (State.onCh_frame _ _ _) rfl (.by (State.countUnit_frame _ _) rfl (.by (State.bump_frame _ _ _) rfl
    (.by (State.bump_frame _ _ _) rfl (.by (State.writeOut_frame _ _ _ _) rfl (.by (State.touch_frame _ _ _) rfl
    (.refl _ _))))))) (fun _ => (.by (State.closeBuf_frame _ _ _) rfl (.refl _ _))))))

theorem State.writeCompletion_frame : ∀ a0 a1 a2 a3 a4 s, Frame [.regs, .reel, .link, .dma, .cmd, .obs, .out] s
  (State.writeCompletion a0 a1 a2 a3 a4 s) := by
  intro a0 a1 a2 a3 a4 s
  unfold State.writeCompletion
  exact .by (State.settle_frame _ _) rfl (.by (State.popHead_frame _ _) rfl (.by (State.bump_frame _ _ _) rfl (.by
    (State.bump_frame _ _ _) rfl (.iff (.iff (.by (State.countUnit_frame _ _) rfl (.by (State.onCh_frame _ _ _) rfl
    (.by (State.modCmd_frame _ _) rfl (.by (State.writeOut_frame _ _ _ _) rfl (.by (State.touch_frame _ _ _) rfl
    (.refl _ _)))))) (fun _ => (.by (State.raise_frame _ _ (hw_cmdQEvtCpl _)) rfl (.refl _ _)))) (fun _ => (.by
    (State.resetDue_frame _) rfl (.refl _ _)))))))

theorem State.prefetchNext_frame : ∀ a0 a1 a2 a3 s, Frame [.regs, .link, .dma, .obs, .out] s (State.prefetchNext a0 a1
  a2 a3 s) := by
  intro a0 a1 a2 a3 s
  unfold State.prefetchNext
  exact .iff (.refl _ _) (fun _ => (.by (State.ask_frame _ _ _ _) rfl (.refl _ _)))

theorem State.writeSegment_frame : ∀ a0 a1 a2 a3 s, Frame [.regs, .reel, .link, .dma, .cmd, .obs, .out] s
  (State.writeSegment a0 a1 a2 a3 s) := by
  intro a0 a1 a2 a3 s
  unfold State.writeSegment
  try dsimp only
  split
  · exact .refl _ _
  · exact .ite (.by (State.delivered_frame _ _ _) rfl (.by (State.onCh_frame _ _ _) rfl (.by (State.bump_frame _ _ _)
      rfl (.by (State.bump_frame _ _ _) rfl (.by (State.writeOut_frame _ _ _ _) rfl (.by (State.prefetchNext_frame _ _
      _ _ _) rfl (.by (State.touch_frame _ _ _) rfl (.refl _ _)))))))) (.by (State.settle_frame _ _) rfl (.by
      (State.onCh_frame _ _ _) rfl (.by (State.bump_frame _ _ _) rfl (.by (State.bump_frame _ _ _) rfl (.by
      (State.writeOut_frame _ _ _ _) rfl (.by (State.prefetchNext_frame _ _ _ _ _) rfl (.by (State.touch_frame _ _ _)
      rfl (.refl _ _))))))))

theorem State.segmentIssue_frame : ∀ a0 s, Frame [.regs, .reel, .link, .dma, .cmd, .obs, .out] s (State.segmentIssue
  a0 s) := by
  intro a0 s
  unfold State.segmentIssue
  try dsimp only
  split
  · exact .by (State.windowed_frame _) rfl (.refl _ _)
  · refine .ite (.ite (.by (State.settle_frame _ _) rfl (.by (State.writeNotice_frame _ _) rfl (.by
      (State.windowed_frame _) rfl (.refl _ _)))) (.ite (.by (State.onCh_frame _ _ _) rfl (.by (State.windowed_frame
      _) rfl (.refl _ _))) (.by (State.chError_frame _ _) rfl (.by (State.windowed_frame _) rfl (.refl _ _))))) ?_
    split
    · exact .ite (.by (State.settle_frame _ _) rfl (.by (State.popHead_frame _ _) rfl (.by (State.dropFront_frame _ _
        _ _) rfl (.by (State.windowed_frame _) rfl (.refl _ _))))) (.by (State.settle_frame _ _) rfl (.by
        (State.writeFront_frame _ _) rfl (.by (State.windowed_frame _) rfl (.refl _ _))))
    · split
      · exact .by (State.windowed_frame _) rfl (.refl _ _)
      · refine .ite (.by (State.settle_frame _ _) rfl (.by (State.popHead_frame _ _) rfl (.by (State.dropFront_frame _
          _ _ _) rfl (.by (State.spend_frame _ _ _) rfl (.by (State.windowed_frame _) rfl (.refl _ _)))))) ?_
        split
        · exact .by (State.writeCompletion_frame _ _ _ _ _ _) rfl (.by (State.spend_frame _ _ _) rfl (.by
            (State.windowed_frame _) rfl (.refl _ _)))
        · split
          · exact .by (State.writeRecord_frame _ _ _ _ _ _) rfl (.by (State.spend_frame _ _ _) rfl (.by
              (State.windowed_frame _) rfl (.refl _ _)))
          · exact .by (State.writeSegment_frame _ _ _ _ _) rfl (.by (State.spend_frame _ _ _) rfl (.by
              (State.windowed_frame _) rfl (.refl _ _)))
        · exact .by (State.writeSegment_frame _ _ _ _ _) rfl (.by (State.spend_frame _ _ _) rfl (.by
            (State.windowed_frame _) rfl (.refl _ _)))

theorem State.refuse_frame : ∀ a0 s, Frame [.regs, .reel, .link, .dma, .cmd, .obs, .out] s (State.refuse a0 s) := by
  intro a0 s
  unfold State.refuse
  try dsimp only
  split
  · split
    · exact .by (State.chError_frame _ _) rfl (.by (State.onCh_frame _ _ _) rfl (.refl _ _))
    · exact .by (State.settle_frame _ _) rfl (.by (State.popHead_frame _ _) rfl (.by (State.raise_frame _ _
        (hw_dmaChEvtRefused _)) rfl (.by (State.dropFront_frame _ _ _ _) rfl (.by (State.closeBuf_frame _ _ _) rfl
        (.by (State.onCh_frame _ _ _) rfl (.refl _ _))))))
  · exact .by (State.settle_frame _ _) rfl (.by (State.resume_frame _ _) rfl (.by (State.onCh_frame _ _ _) rfl (.refl
      _ _)))
  · exact .by (State.settle_frame _ _) rfl (.by (State.resume_frame _ _) rfl (.by (State.raise_frame _ _
      (hw_cmdQEvtFetchErr _)) rfl (.by (State.modCmd_frame _ _) rfl (.by (State.onCh_frame _ _ _) rfl (.refl _ _)))))
  · exact .by (State.settle_frame _ _) rfl (.by (State.resume_frame _ _) rfl (.by (State.modCmd_frame _ _) rfl (.by
      (State.onCh_frame _ _ _) rfl (.refl _ _))))
  · exact .by (State.onCh_frame _ _ _) rfl (.refl _ _)
  · exact .by (State.chError_frame _ _) rfl (.by (State.onCh_frame _ _ _) rfl (.refl _ _))

theorem State.pageRequest_frame : ∀ a0 s, Frame [.regs, .dma, .obs, .out] s (State.pageRequest a0 s) := by
  intro a0 s
  unfold State.pageRequest
  exact .by (State.trace_frame _ _ _ _) rfl (.by (State.bump_frame _ _ _) rfl (.by (State.count_frame _ _ _
    (hw_dmaChFaults _)) rfl (.by (State.emit_frame _ _) rfl (.by (State.modDma_frame _ _) rfl (.refl _ _)))))

theorem State.faults_frame : ∀ a0 a1 a2 s, Frame [.regs, .reel, .link, .dma, .cmd, .obs, .out] s (State.faults a0 a1
  a2 s) := by
  intro a0 a1 a2 s
  unfold State.faults
  exact .ite (.by (State.refuse_frame _ _) rfl (.by (State.onCh_frame _ _ _) rfl (.by (State.fset_frame _ _ _
    (hw_dmaFaultVaHi _)) rfl (.by (State.fset_frame _ _ _ (hw_dmaFaultVaLo _)) rfl (.by (State.onCh_frame _ _ _) rfl
    (.refl _ _)))))) (.ite (.by (State.pageRequest_frame _ _) rfl (.by (State.park_frame _ _ _) rfl (.by
    (State.fset_frame _ _ _ (hw_dmaFaultVaHi _)) rfl (.by (State.fset_frame _ _ _ (hw_dmaFaultVaLo _)) rfl (.by
    (State.onCh_frame _ _ _) rfl (.refl _ _)))))) (.by (State.modDma_frame _ _) rfl (.by (State.park_frame _ _ _) rfl
    (.by (State.fset_frame _ _ _ (hw_dmaFaultVaHi _)) rfl (.by (State.fset_frame _ _ _ (hw_dmaFaultVaLo _)) rfl (.by
    (State.onCh_frame _ _ _) rfl (.refl _ _)))))))

theorem State.unfault_frame : ∀ a0 s, Frame [.regs, .reel, .link, .dma, .cmd, .obs, .out] s (State.unfault a0 s) := by
  intro a0 s
  unfold State.unfault
  exact .by (State.settle_frame _ _) rfl (.by (State.unpark_frame _ _ _) rfl (.refl _ _))

theorem State.translated_frame : ∀ a0 a1 a2 a3 a4 a5 s, Frame [.regs, .reel, .link, .dma, .cmd, .obs, .out] s
  (State.translated a0 a1 a2 a3 a4 a5 s) := by
  intro a0 a1 a2 a3 a4 a5 s
  unfold State.translated
  try dsimp only
  split
  · exact .iff (.refl _ _) (fun _ => (.by (State.chError_frame _ _) rfl (.refl _ _)))
  · exact .ite (.by (State.settle_frame _ _) rfl (.iff (.by (State.onCh_frame _ _ _) rfl (.refl _ _)) (fun _ => (.by
      (State.modDma_frame _ _) rfl (.refl _ _))))) (.ite (.by (State.unfault_frame _ _) rfl (.iff (.by
      (State.onCh_frame _ _ _) rfl (.refl _ _)) (fun _ => (.by (State.modDma_frame _ _) rfl (.refl _ _))))) (.ite (.by
      (State.onCh_frame _ _ _) rfl (.iff (.by (State.onCh_frame _ _ _) rfl (.refl _ _)) (fun _ => (.by
      (State.modDma_frame _ _) rfl (.refl _ _))))) (.by (State.faults_frame _ _ _ _) rfl (.iff (.by (State.onCh_frame
      _ _ _) rfl (.refl _ _)) (fun _ => (.by (State.modDma_frame _ _) rfl (.refl _ _)))))))

theorem State.grantPri_frame : ∀ s, Frame [.regs, .reel, .link, .dma, .cmd, .obs, .out] s (State.grantPri s) := by
  intro s
  unfold State.grantPri
  split
  · exact .refl _ _
  · exact .ite (.refl _ _) (.ite (.by (State.settle_frame _ _) rfl (.by (State.unpark_frame _ _ _) rfl (.by
      (State.modDma_frame _ _) rfl (.refl _ _)))) (.ite (.by (State.refuse_frame _ _) rfl (.by (State.modDma_frame _
      _) rfl (.refl _ _))) (.by (State.pageRequest_frame _ _) rfl (.by (State.onCh_frame _ _ _) rfl (.by
      (State.modDma_frame _ _) rfl (.refl _ _))))))

theorem Frame.endRequest {ps : List Part} {r : PageReq} {g : State → State} {s u : State} (h : Frame ps s u)
    (k : ∀ v, Frame ps v (g v)) (w : within [.regs, .reel, .link, .dma, .cmd, .obs, .out] ps = true) :
    Frame ps s (State.endRequest r g u) := by
  refine h.then ?_
  unfold State.endRequest
  exact .iff (.by (State.grantPri_frame _) (within_trans rfl w) (.by (State.modDma_frame _ _) (within_trans rfl w)
    (.refl _ _))) k

theorem State.pageAnswer_frame : ∀ a0 a1 a2 s, Frame [.regs, .reel, .link, .dma, .cmd, .obs, .out] s (State.pageAnswer
  a0 a1 a2 s) := by
  intro a0 a1 a2 s
  unfold State.pageAnswer
  split
  · exact .refl _ _
  · refine Frame.endRequest (.iff (.refl _ _) (fun _ => (.by (State.raise_frame _ _ (by rfl)) rfl (.by
      (State.modDma_frame _ _) rfl (.refl _ _))))) (fun _ => ?_) rfl
    split
    · exact .ite (.by (State.sendAsk_frame _ _ _ _) rfl (.refl _ _)) (.by (State.unfault_frame _ _) rfl (.refl _ _))
    · exact .by (State.refuse_frame _ _) rfl (.refl _ _)

theorem State.priExpired_frame : ∀ a0 s, Frame [.regs, .reel, .link, .dma, .cmd, .obs, .out] s (State.priExpired a0 s)
  := by
  intro a0 s
  unfold State.priExpired
  try dsimp only
  split
  · exact .refl _ _
  · exact .ite (.refl _ _) (Frame.endRequest (.by (State.raise_frame _ _ (by rfl)) rfl (.refl _ _)) (fun _ => (.by
      (State.refuse_frame _ _) rfl (.refl _ _))) rfl)

theorem State.completeInv_frame : ∀ a0 s, Frame [.regs, .obs, .out] s (State.completeInv a0 s) := by
  intro a0 s
  unfold State.completeInv
  exact .by (State.bump_frame _ _ _) rfl (.by (State.count_frame _ _ _ (by rfl)) rfl (.by (State.emit_frame _ _) rfl
    (.refl _ _)))

theorem State.issuedNotices_frame : ∀ a0 s, Frame [.regs, .dma, .obs, .out] s (State.issuedNotices a0 s) := by
  intro a0 s
  unfold State.issuedNotices
  exact .each (.by (State.modDma_frame _ _) rfl (.refl _ _)) (fun _ _ => (.by (State.completeInv_frame _ _) rfl (.refl
    _ _)))

theorem State.invalidate_frame : ∀ a0 a1 a2 s, Frame [.regs, .reel, .link, .dma, .cmd, .obs, .out] s (State.invalidate
  a0 a1 a2 s) := by
  intro a0 a1 a2 s
  unfold State.invalidate
  exact .each (.ite (.by (State.completeInv_frame _ _) rfl (.by (State.modDma_frame _ _) rfl (.refl _ _))) (.by
    (State.modDma_frame _ _) rfl (.by (State.modDma_frame _ _) rfl (.refl _ _)))) (fun _ _ => (.by (State.settle_frame
    _ _) rfl (.refl _ _)))

theorem State.fetchDescriptor_frame : ∀ a0 a1 a2 s, Frame [.regs, .reel, .link, .dma, .cmd, .obs, .out] s
  (State.fetchDescriptor a0 a1 a2 s) := by
  intro a0 a1 a2 s
  unfold State.fetchDescriptor
  refine .ite (.refl _ _) ?_
  split
  · exact .by (State.chError_frame _ _) rfl (.refl _ _)
  · exact .by (State.chError_frame _ _) rfl (.refl _ _)
  · exact .ite (.by (State.settle_frame _ _) rfl (.by (State.raise_frame _ _ (hw_dmaChEvtPasidRef _)) rfl (.by
      (State.onCh_frame _ _ _) rfl (.by (State.onCh_frame _ _ _) rfl (.by (State.touch_frame _ _ _) rfl (.by
      (State.leaveL1_frame _) rfl (.refl _ _))))))) (.by (State.settle_frame _ _) rfl (.iff (.by (State.onCh_frame _ _
      _) rfl (.by (State.onCh_frame _ _ _) rfl (.by (State.touch_frame _ _ _) rfl (.by (State.leaveL1_frame _) rfl
      (.refl _ _))))) (fun _ => (.by (State.ask_frame _ _ _ _) rfl (.refl _ _)))))

theorem State.bufTimeout_frame : ∀ a0 s, Frame [.regs, .reel, .link, .dma, .cmd, .obs, .out] s (State.bufTimeout a0 s)
  := by
  intro a0 s
  unfold State.bufTimeout
  try dsimp only
  split
  · split
    · exact .ite (.by (State.settle_frame _ _) rfl (.by (State.closeBuf_frame _ _ _) rfl (.by (State.leaveL1_frame _)
        rfl (.refl _ _)))) (.refl _ _)
    · exact .refl _ _
  · exact .refl _ _

theorem State.ringTail_frame : ∀ a0 a1 s, Frame [.regs, .reel, .link, .dma, .cmd, .obs, .out] s (State.ringTail a0 a1
  s) := by
  intro a0 a1 s
  unfold State.ringTail
  exact .ite (.refl _ _) (.by (State.settle_frame _ _) rfl (.iff (.by (State.leaveL1_frame _) rfl (.by
    (State.onCh_frame _ _ _) rfl (.refl _ _))) (fun _ => (.by (State.unpark_frame _ _ _) rfl (.refl _ _)))))

theorem State.slotFreed_frame : ∀ a0 s, Frame [.regs, .reel, .link, .dma, .cmd, .obs, .out] s (State.slotFreed a0 s)
  := by
  intro a0 s
  unfold State.slotFreed
  exact .by (State.settle_frame _ _) rfl (.iff (.refl _ _) (fun _ => (.by (State.unpark_frame _ _ _) rfl (.refl _
    _))))

theorem State.ringHead_frame : ∀ a0 a1 s, Frame [.regs, .reel, .link, .dma, .cmd, .obs, .out] s (State.ringHead a0 a1
  s) := by
  intro a0 a1 s
  unfold State.ringHead
  exact .ite (.refl _ _) (.by (State.slotFreed_frame _ _) rfl (.by (State.leaveL1_frame _) rfl (.by (State.onCh_frame
    _ _ _) rfl (.refl _ _))))

theorem State.replay_frame : ∀ a0 a1 a2 a3 s, Frame [.regs, .reel, .link, .dma, .cmd, .obs, .out, .free] s
  (State.replay a0 a1 a2 a3 s) := by
  intro a0 a1 a2 a3 s
  unfold State.replay
  refine .ite (.refl _ _) ?_
  split
  · exact .by (State.settle_frame _ _) rfl (.refl _ _)
  · try dsimp only
    split
    · exact .by (State.settle_frame _ _) rfl (.by (State.putDrop_frame _ _ _) rfl (.by (State.writeFront_frame _ _)
        rfl (.ite (.by (Frame.put_free _ _) rfl (.by (State.drainChunks_frame _ _ _) rfl (.by (State.onCh_frame _ _ _)
        rfl (.iff (.refl _ _) (fun _ => (.by (State.bump_frame _ _ _) rfl (.by (State.count_frame _ _ _ (by rfl)) rfl
        (.by (State.raise_frame _ _ (by rfl)) rfl (.refl _ _))))))))) (.by (State.drainChunks_frame _ _ _) rfl (.by
        (State.onCh_frame _ _ _) rfl (.iff (.refl _ _) (fun _ => (.by (State.bump_frame _ _ _) rfl (.by
        (State.count_frame _ _ _ (by rfl)) rfl (.by (State.raise_frame _ _ (by rfl)) rfl (.refl _ _)))))))))))
    · exact .ite (.by (State.settle_frame _ _) rfl (.by (State.drainChunks_frame _ _ _) rfl (.by (State.onCh_frame _ _
        _) rfl (.iff (.refl _ _) (fun _ => (.by (State.bump_frame _ _ _) rfl (.by (State.count_frame _ _ _ (by rfl))
        rfl (.by (State.raise_frame _ _ (by rfl)) rfl (.refl _ _))))))))) (.ite (.by (State.settle_frame _ _) rfl (.by
        (State.dropFront_frame _ _ _ _) rfl (.by (State.drainChunks_frame _ _ _) rfl (.by (State.onCh_frame _ _ _) rfl
        (.iff (.refl _ _) (fun _ => (.by (State.bump_frame _ _ _) rfl (.by (State.count_frame _ _ _ (by rfl)) rfl (.by
        (State.raise_frame _ _ (by rfl)) rfl (.refl _ _)))))))))) (.by (State.settle_frame _ _) rfl (.by
        (State.onCh_frame _ _ _) rfl (.by (State.drainChunks_frame _ _ _) rfl (.by (State.onCh_frame _ _ _) rfl (.iff
        (.refl _ _) (fun _ => (.by (State.bump_frame _ _ _) rfl (.by (State.count_frame _ _ _ (by rfl)) rfl (.by
        (State.raise_frame _ _ (by rfl)) rfl (.refl _ _)))))))))))

theorem State.giveUp_frame : ∀ a0 a1 a2 s, Frame [.regs, .link, .dma, .cmd, .obs, .out] s (State.giveUp a0 a1 a2 s) :=
  by
  intro a0 a1 a2 s
  unfold State.giveUp
  split
  · exact .by (State.dropFront_frame _ _ _ _) rfl (.refl _ _)
  · exact .by (State.putDrop_frame _ _ _) rfl (.by (State.writeFront_frame _ _) rfl (.refl _ _))

theorem State.disableCh_frame : ∀ a0 s, Frame [.regs, .reel, .link, .dma, .cmd, .obs, .out] s (State.disableCh a0 s)
  := by
  intro a0 s
  unfold State.disableCh
  exact .ite (.refl _ _) (.by (State.settle_frame _ _) rfl (.by (State.unbind_frame _ _) rfl (.by (State.onCh_frame _
    _ _) rfl (.by (State.forget_frame _ _) rfl (.iff (.each (.by (State.freeChunks_frame _ _) rfl (.by
    (State.onCh_frame _ _ _) rfl (.refl _ _))) (fun _ _ => (.by (State.giveUp_frame _ _ _ _) rfl (.refl _ _)))) (fun _
    => (.by (State.writeFront_frame _ _) rfl (.refl _ _))))))))

theorem State.stopCh_frame : ∀ a0 s, Frame [.regs, .reel, .link, .dma, .cmd, .obs, .out] s (State.stopCh a0 s) := by
  intro a0 s
  unfold State.stopCh
  exact .ite (.refl _ _) (.by (State.settle_frame _ _) rfl (.by (State.onCh_frame _ _ _) rfl (.by (State.leaveL1_frame
    _) rfl (.refl _ _))))

theorem State.holdCh_frame : ∀ a0 s, Frame [.regs, .reel, .link, .dma, .cmd, .obs, .out] s (State.holdCh a0 s) := by
  intro a0 s
  unfold State.holdCh
  exact .ite (.refl _ _) (.iff (.by (State.spillQueue_frame _ _) rfl (.by (State.onCh_frame _ _ _) rfl (.by
    (State.forget_frame _ _) rfl (.iff (.refl _ _) (fun _ => (.by (State.raise_frame _ _ (by rfl)) rfl (.refl _
    _))))))) (fun _ => (.by (State.trace_frame _ _ _ _) rfl (.by (State.count_frame _ _ _ (hw_dmaChParks _)) rfl (.by
    (State.raise_frame _ _ (hw_dmaChEvtPark _)) rfl (.refl _ _))))))

theorem State.discardKept_frame : ∀ a0 s, Frame [.regs, .reel, .link, .dma, .cmd, .obs, .out] s (State.discardKept a0
  s) := by
  intro a0 s
  unfold State.discardKept
  refine .each ?_ (fun _ _ => ?_)
  · refine .by (State.writeFront_frame _ _) rfl ?_
    refine .by (State.onCh_frame _ _ _) rfl ?_
    refine .by (State.writeFront_frame _ _) rfl ?_
    refine .each (.by (State.freeChunks_frame _ _) rfl (.by (State.onCh_frame _ _ _) rfl (.refl _ _))) (fun _ _ => ?_)
    split
    · exact .by (State.dropFront_frame _ _ _ _) rfl (.refl _ _)
    · exact .refl _ _
  · split
    · exact .by (State.putDrop_frame _ _ _) rfl (.refl _ _)
    · exact .refl _ _

theorem State.enableCh_frame : ∀ a0 s, Frame [.regs, .reel, .link, .dma, .cmd, .obs, .out] s (State.enableCh a0 s) :=
  by
  intro a0 s
  unfold State.enableCh
  exact .ite (.refl _ _) (.ite (.by (State.raise_frame _ _ (hw_dmaChEvtPasidRef _)) rfl (.refl _ _)) (.ite (.by
    (State.settle_frame _ _) rfl (.iff (.iff (.by (State.onCh_frame _ _ _) rfl (.by (State.leaveL1_frame _) rfl (.refl
    _ _))) (fun _ => (.by (State.discardKept_frame _ _) rfl (.refl _ _)))) (fun _ => (.ite (.by (State.goLive_frame _
    _) rfl (.refl _ _)) (.by (State.placeRuns_frame _ _) rfl (.refl _ _)))))) (.by (State.holdCh_frame _ _) rfl (.iff
    (.iff (.by (State.onCh_frame _ _ _) rfl (.by (State.leaveL1_frame _) rfl (.refl _ _))) (fun _ => (.by
    (State.discardKept_frame _ _) rfl (.refl _ _)))) (fun _ => (.ite (.by (State.goLive_frame _ _) rfl (.refl _ _))
    (.by (State.placeRuns_frame _ _) rfl (.refl _ _))))))))

theorem State.writeChCtrl_frame : ∀ a0 a1 s, Frame [.regs, .reel, .link, .dma, .cmd, .obs, .out] s (State.writeChCtrl
  a0 a1 s) := by
  intro a0 a1 s
  unfold State.writeChCtrl
  exact .iff (.ite (.iff (.by (State.setReg_frame _ _ _ (hw_chCtrl _)) rfl (.refl _ _)) (fun _ => (.by
    (State.enableCh_frame _ _) rfl (.refl _ _)))) (.iff (.by (State.setReg_frame _ _ _ (hw_chCtrl _)) rfl (.refl _ _))
    (fun _ => (.by (State.disableCh_frame _ _) rfl (.refl _ _))))) (fun _ => (.by (State.stopCh_frame _ _) rfl (.refl
    _ _)))

end Sys2Proof.Machine
end

