-- ==== Sys2Proof/Laws/Command.lean ====
section
/-! SUPPORT. The frames of the operations of Machine/Command.lean: each changes the parts named and no others, and
keeps the stores canonical. -/

namespace Sys2Proof.Machine

theorem State.onPacket_frame : ∀ a0 a1 s, Frame [.cmd] s (State.onPacket a0 a1 s) := by
  intro a0 a1 s
  unfold State.onPacket
  exact .by (State.modCmd_frame _ _) rfl (.refl _ _)

theorem State.onQueue_frame : ∀ a0 a1 s, Frame [.cmd] s (State.onQueue a0 a1 s) := by
  intro a0 a1 s
  unfold State.onQueue
  exact .by (State.modCmd_frame _ _) rfl (.refl _ _)

theorem State.storeBytes_frame (off : Nat) (bs : List Byte) (s : State)
    (n : ∀ i, i < ceilDiv bs.length 4 → softwareRegs.contains (off + 4 * i) = false) :
    Frame [.regs] s (s.storeBytes off bs) := by
  unfold State.storeBytes
  exact .eachMem (.refl _ _) fun i m _ => .by (State.setReg_frame _ _ _ (n i (List.mem_range.mp m))) rfl (.refl _ _)

theorem State.mailboxDone_frame : ∀ a0 a1 a2 a3 a4 a5 s, Frame [.regs, .link, .cmd, .obs, .out, .free] s
  (State.mailboxDone a0 a1 a2 a3 a4 a5 s) := by
  have g (k : Nat) (bs : List Byte) : ceilDiv (bs.take k).length 4 ≤ ceilDiv k 4 := by
    unfold ceilDiv
    rw [List.length_take]
    exact Nat.div_le_div_right (by omega)
  intro a0 a1 a2 a3 a4 a5 s
  unfold State.mailboxDone
  refine .by (State.bump_frame _ _ _) rfl (.by (State.raise_frame _ _ (by rfl)) rfl (.by (State.fset_frame _ _ _ (by rfl))
    rfl (.by (State.modCmd_frame _ _) rfl (.by (State.storeBytes_frame _ _ _ ?_) rfl (.by
    (State.storeBytes_frame _ _ _ ?_) rfl (.by (Frame.put_free _ _) rfl (.refl _ _)))))))
  · intro i h
    have := Nat.lt_of_lt_of_le h (g 16 _)
    exact hw_range (a := 0x0A1000) (b := 0x0A3000) rfl (by omega) (by unfold ceilDiv at this; omega)
  · intro i h
    have := Nat.lt_of_lt_of_le h (g 4096 _)
    exact hw_range (a := 0x0A1000) (b := 0x0A3000) rfl (by omega) (by unfold ceilDiv at this; omega)

theorem State.takeMail_frame : ∀ s, Frame [.cmd] s (State.takeMail s) := by
  intro s
  unfold State.takeMail
  split
  · exact .ite (.by (State.modCmd_frame _ _) rfl (.refl _ _)) (.refl _ _)
  · exact .refl _ _

theorem State.complete_frame : ∀ a0 a1 a2 a3 a4 s, Frame [.regs, .reel, .link, .dma, .cmd, .tnd, .obs, .out, .free] s
  (State.complete a0 a1 a2 a3 a4 s) := by
  intro a0 a1 a2 a3 a4 s
  unfold State.complete
  split
  · exact .refl _ _
  · exact .ite (.iff (.by (State.mailboxDone_frame _ _ _ _ _ _ _) rfl (.by (State.modTnd_frame _ _) rfl (.by
      (State.takeMail_frame _) rfl (.by (State.modCmd_frame _ _) rfl (.refl _ _))))) (fun _ => (.by
      (State.resetDue_frame _) rfl (.refl _ _)))) (.ite (.iff (.by (State.loseCompletion_frame _ _) rfl (.by
      (State.bump_frame _ _ _) rfl (.by (State.modTnd_frame _ _) rfl (.by (State.takeMail_frame _) rfl (.by
      (State.modCmd_frame _ _) rfl (.refl _ _)))))) (fun _ => (.by (State.resetDue_frame _) rfl (.refl _ _)))) (.by
      (State.handClass_frame _ _ _ _) rfl (.ite (.by (State.bump_frame _ _ _) rfl (.by (State.modTnd_frame _ _) rfl
      (.by (State.takeMail_frame _) rfl (.by (State.modCmd_frame _ _) rfl (.refl _ _))))) (.by (State.handClass_frame
      _ _ _ _) rfl (.by (State.bump_frame _ _ _) rfl (.by (State.modTnd_frame _ _) rfl (.by (State.takeMail_frame _)
      rfl (.by (State.modCmd_frame _ _) rfl (.refl _ _)))))))))

theorem State.done_frame : ∀ a0 a1 a2 a3 s, Frame [.regs, .reel, .link, .dma, .cmd, .tnd, .obs, .out, .free] s
  (State.done a0 a1 a2 a3 s) := by
  intro a0 a1 a2 a3 s
  unfold State.done
  exact .by (State.complete_frame _ _ _ _ _ _) rfl (.refl _ _)

theorem State.wakeTender_frame : ∀ s, Frame [.tnd] s (State.wakeTender s) := by
  intro s
  unfold State.wakeTender
  exact .by (State.modTnd_frame _ _) rfl (.refl _ _)

theorem State.dispatch_frame : ∀ s, Frame [.regs, .reel, .link, .dma, .cmd, .tnd, .obs, .out, .free] s (State.dispatch
  s) := by
  intro s
  unfold State.dispatch
  split
  · exact .refl _ _
  · try dsimp only
    split
    · exact .by (State.done_frame _ _ _ _ _) rfl (.by (State.onPacket_frame _ _ _) rfl (.by (State.wakeTender_frame _)
        rfl (.refl _ _)))
    · exact .iff (.by (State.onPacket_frame _ _ _) rfl (.by (State.wakeTender_frame _) rfl (.refl _ _))) (fun _ =>
        (.by (State.askQueues_frame _ _) rfl (.refl _ _)))

theorem Frame.pelquel {ps : List Part} {r : PktRef} {op : Nat} {c : Bool} {f : Packet → State → State} {s u : State}
    (h : Frame ps s u) (k : ∀ p v, Frame ps v (f p v)) (_w : within [] ps = true) : Frame ps s (u.pelquel r op c f) := by
  unfold State.pelquel
  split
  · exact h.then (k _ u)
  · exact h

theorem State.runOn_frame : ∀ a0 s, Frame [.cmd] s (State.runOn a0 s) := by
  intro a0 s
  unfold State.runOn
  exact .by (State.onPacket_frame _ _ _) rfl (.refl _ _)

theorem State.accept_frame : ∀ a0 s, Frame [.cmd] s (State.accept a0 s) := by
  intro a0 s
  unfold State.accept
  exact .by (State.onPacket_frame _ _ _) rfl (.refl _ _)

theorem State.dataIn_frame : ∀ a0 a1 a2 s, Frame [.regs, .reel, .link, .dma, .cmd, .tnd, .obs, .out, .free] s
  (State.dataIn a0 a1 a2 s) := by
  intro a0 a1 a2 s
  unfold State.dataIn
  split
  · refine .ite (.refl _ _) ?_
    refine .ite (.by (State.done_frame _ _ _ _ _) rfl (.refl _ _)) ?_
    refine .ite (.refl _ _) ?_
    split
    · exact .ite (.refl _ _) (.by (State.onPacket_frame _ _ _) rfl (.by (State.touch_frame _ _ _) rfl (.refl _ _)))
    · exact .by (State.done_frame _ _ _ _ _) rfl (.refl _ _)
    · exact .by (State.done_frame _ _ _ _ _) rfl (.refl _ _)
  · exact .refl _ _

theorem State.fetchPacket_frame : ∀ a0 a1 a2 s, Frame [.regs, .reel, .link, .dma, .cmd, .obs, .out] s
  (State.fetchPacket a0 a1 a2 s) := by
  intro a0 a1 a2 s
  unfold State.fetchPacket
  refine .ite (.refl _ _) ?_
  try dsimp only
  split
  · exact .by (State.raise_frame _ _ (hw_cmdQEvtFetchErr _)) rfl (.by (State.onQueue_frame _ _ _) rfl (.by
      (State.modCmd_frame _ _) rfl (.refl _ _)))
  · exact .by (State.raise_frame _ _ (hw_cmdQEvtFetchErr _)) rfl (.by (State.onQueue_frame _ _ _) rfl (.by
      (State.modCmd_frame _ _) rfl (.refl _ _)))
  · exact .ite (.refl _ _) (.ite (.by (State.handClass_frame _ _ _ _) rfl (.by (State.bump_frame _ _ _) rfl (.by
      (State.onQueue_frame _ _ _) rfl (.by (State.touch_frame _ _ _) rfl (.by (State.modCmd_frame _ _) rfl (.refl _
      _)))))) (.by (State.askQueues_frame _ _) rfl (.by (State.modCmd_frame _ _) rfl (.by (State.onQueue_frame _ _ _)
      rfl (.by (State.touch_frame _ _ _) rfl (.by (State.modCmd_frame _ _) rfl (.refl _ _)))))))

theorem State.checkBind_frame : ∀ a0 s, Frame [.regs, .link, .obs, .out] s (State.checkBind a0 s) := by
  intro a0 s
  unfold State.checkBind
  exact .iff (.refl _ _) (fun _ => (.by (State.raise_frame _ _ (hw_cmdQEvtBind _)) rfl (.refl _ _)))

theorem State.sqDoorbell_frame : ∀ a0 a1 s, Frame [.regs, .link, .dma, .cmd, .tnd, .obs, .out] s (State.sqDoorbell a0
  a1 s) := by
  intro a0 a1 s
  unfold State.sqDoorbell
  exact .ite (.by (State.askQueues_frame _ _) rfl (.by (State.checkBind_frame _ _) rfl (.by (State.wakeTender_frame _)
    rfl (.by (State.leaveL1_frame _) rfl (.by (State.onQueue_frame _ _ _) rfl (.refl _ _)))))) (.refl _ _)

theorem State.cqDoorbell_frame : ∀ a0 a1 s, Frame [.regs, .reel, .link, .dma, .cmd, .tnd, .obs, .out] s
  (State.cqDoorbell a0 a1 s) := by
  intro a0 a1 s
  unfold State.cqDoorbell
  exact .ite (.by (State.slotFreed_frame _ _) rfl (.by (State.wakeTender_frame _) rfl (.by (State.leaveL1_frame _) rfl
    (.by (State.onQueue_frame _ _ _) rfl (.refl _ _))))) (.refl _ _)

theorem State.dropHanded_frame : ∀ a0 s, Frame [.regs, .link, .dma, .cmd, .obs, .out] s (State.dropHanded a0 s) := by
  intro a0 s
  unfold State.dropHanded
  exact .each (.refl _ _) (fun _ _ => (.by (State.stagingDrained_frame _ _) rfl (.each (.by (State.onCh_frame _ _ _)
    rfl (.refl _ _)) (fun _ _ => (.by (State.lostUnit_frame _ _) rfl (.by (State.loseCompletion_frame _ _) rfl (.refl
    _ _)))))))

theorem State.stopQueue_frame : ∀ a0 s, Frame [.regs, .link, .dma, .cmd, .obs, .out] s (State.stopQueue a0 s) := by
  intro a0 s
  unfold State.stopQueue
  exact .by (State.onQueue_frame _ _ _) rfl (.by (State.dropHanded_frame _ _) rfl (.by (State.takeMail_frame _) rfl
    (.by (State.modCmd_frame _ _) rfl (.refl _ _))))

theorem State.startQueue_frame : ∀ a0 s, Frame [.regs, .link, .cmd, .obs, .out] s (State.startQueue a0 s) := by
  intro a0 s
  unfold State.startQueue
  exact .ite (.refl _ _) (.by (State.checkBind_frame _ _) rfl (.by (State.onQueue_frame _ _ _) rfl (.refl _ _)))

theorem State.writeQCtrl_frame : ∀ a0 a1 s, Frame [.regs, .link, .dma, .cmd, .obs, .out] s (State.writeQCtrl a0 a1 s)
  := by
  intro a0 a1 s
  unfold State.writeQCtrl
  exact .ite (.by (State.startQueue_frame _ _) rfl (.by (State.setReg_frame _ _ _ (hw_qCtrl _)) rfl (.refl _ _)))
    (.iff (.by (State.setReg_frame _ _ _ (hw_qCtrl _)) rfl (.refl _ _)) (fun _ => (.by (State.stopQueue_frame _ _) rfl
    (.refl _ _))))

theorem State.mailboxGo_frame : ∀ s, Frame [.regs, .link, .cmd, .tnd, .obs, .out] s (State.mailboxGo s) := by
  intro s
  unfold State.mailboxGo
  exact .ite (.by (State.raise_frame _ _ (by rfl)) rfl (.refl _ _)) (.by (State.wakeTender_frame _) rfl (.by
    (State.takeMail_frame _) rfl (.by (State.fset_frame _ _ _ (by rfl)) rfl (.by (State.modCmd_frame _ _) rfl (.refl _
    _)))))

end Sys2Proof.Machine
end

