-- ==== Sys2Proof/Laws/Furnish.lean ====
section
/-! SUPPORT. The frames of the operations of Machine/Furnish.lean: each changes the parts named and no others, and
keeps the stores canonical. -/

namespace Sys2Proof.Machine

theorem State.furnResult_frame : ∀ a0 a1 a2 s, Frame [.fu] s (State.furnResult a0 a1 a2 s) := by
  intro a0 a1 a2 s
  unfold State.furnResult
  exact .by (State.modFu_frame _ _) rfl (.refl _ _)

theorem State.commitDone_frame : ∀ a0 a1 a2 a3 a4 s, Frame [.regs, .fu, .reel, .link, .dma, .cmd, .tnd, .obs, .out,
  .free] s (State.commitDone a0 a1 a2 a3 a4 s) := by
  intro a0 a1 a2 a3 a4 s
  unfold State.commitDone
  try dsimp only
  split
  · refine .by (State.done_frame _ _ _ _ _) rfl ?_
    split
    · exact .by (State.raise_frame _ _ (by rfl)) rfl (.refl _ _)
    · exact .by (State.raise_frame _ _ (by rfl)) rfl (.refl _ _)
    · exact .by (State.raise_frame _ _ (by rfl)) rfl (.refl _ _)
    · exact .refl _ _
  · refine .by (State.raise_frame _ _ (by rfl)) rfl ?_
    refine .by (State.furnResult_frame _ _ _ _) rfl ?_
    split
    · exact .by (State.raise_frame _ _ (by rfl)) rfl (.refl _ _)
    · exact .by (State.raise_frame _ _ (by rfl)) rfl (.refl _ _)
    · exact .by (State.raise_frame _ _ (by rfl)) rfl (.refl _ _)
    · exact .refl _ _

theorem State.furnReports_frame : ∀ s, Frame [.regs] s (State.furnReports s) := by
  intro s
  unfold State.furnReports
  exact .by (State.fset_frame _ _ _ (by rfl)) rfl (.by (State.fset_frame _ _ _ (by rfl)) rfl (.by (State.fset_frame _
    _ _ (by rfl)) rfl (.by (State.fset_frame _ _ _ (by rfl)) rfl (.by (State.fset_frame _ _ _ (by rfl)) rfl (.by
    (State.fset_frame _ _ _ (by rfl)) rfl (.refl _ _))))))

theorem State.retire_frame : ∀ a0 s, Frame [.fu] s (State.retire a0 s) := by
  intro a0 s
  unfold State.retire
  exact .ite (.by (State.modFu_frame _ _) rfl (.refl _ _)) (.refl _ _)

theorem State.screensLeave_frame : ∀ a0 a1 a2 s, Frame [.scr] s (State.screensLeave a0 a1 a2 s) := by
  intro a0 a1 a2 s
  unfold State.screensLeave
  exact .by (State.modScr_frame _ _) rfl (.refl _ _)

theorem State.boundaryAt_frame : ∀ a0 a1 s, Frame [.fu, .scr, .obs] s (State.boundaryAt a0 a1 s) := by
  intro a0 a1 s
  unfold State.boundaryAt
  exact .by (State.bump_frame _ _ _) rfl (.by (State.trace_frame _ _ _ _) rfl (.by (State.modFu_frame _ _) rfl (.by
    (State.screensLeave_frame _ _ _ _) rfl (.refl _ _))))

theorem State.loadReamK_frame : ∀ s, Frame [.tb] s (State.loadReamK s) := by
  intro s
  unfold State.loadReamK
  exact .iff (.refl _ _) (fun _ => (.by (State.modTb_frame _ _) rfl (.refl _ _)))

theorem State.install_frame : ∀ a0 s, Frame [.regs, .tb, .fu, .obs] s (State.install a0 s) := by
  intro a0 s
  unfold State.install
  exact .by (State.judgeStill_frame _) rfl (.by (State.loadReamK_frame _) rfl (.by (State.furnReports_frame _) rfl
    (.by (State.modFu_frame _ _) rfl (.iff (.refl _ _) (fun _ => (.by (State.returnEnc0_frame _) rfl (.refl _ _)))))))

theorem State.applyEarly_frame : ∀ a0 s, Frame [.regs, .tb, .fu, .cal, .reel, .link, .dma, .cmd, .tnd, .obs, .out,
  .free] s (State.applyEarly a0 s) := by
  intro a0 s
  unfold State.applyEarly
  refine .by (State.modTb_frame _ _) rfl ?_
  refine .by (State.dropGuides_frame _) rfl ?_
  refine .by (State.install_frame _ _) rfl ?_
  refine .by (State.modFu_frame _ _) rfl ?_
  split
  · exact .by (State.commitDone_frame _ _ _ _ _ _) rfl (.refl _ _)
  · exact .by (State.retire_frame _ _) rfl (.refl _ _)

theorem State.armOnce_frame : ∀ s, Frame [.regs, .tb, .fu, .cal, .reel, .link, .dma, .cmd, .tnd, .obs, .out, .free] s
  (State.armOnce s) := by
  intro s
  unfold State.armOnce
  split
  · exact .ite (.ite (.by (State.modFu_frame _ _) rfl (.refl _ _)) (.by (State.applyEarly_frame _ _) rfl (.by
      (State.modFu_frame _ _) rfl (.refl _ _)))) (.refl _ _)
  · exact .refl _ _

theorem State.arm_frame : ∀ s, Frame [.regs, .tb, .fu, .cal, .reel, .link, .dma, .cmd, .tnd, .obs, .out, .free] s
  (State.arm s) := by
  intro s
  unfold State.arm
  exact .fold (fun _ _ => (.by (State.armOnce_frame _) rfl (.refl _ _))) _ (.refl _ _)

theorem State.onCommit_frame : ∀ a0 s, Frame [.fu] s (State.onCommit a0 s) := by
  intro a0 s
  unfold State.onCommit
  exact .by (State.modFu_frame _ _) rfl (.refl _ _)

theorem State.judge_frame : ∀ a0 a1 a2 s, Frame [.fu] s (State.judge a0 a1 a2 s) := by
  intro a0 a1 a2 s
  unfold State.judge
  exact .by (State.onCommit_frame _ _) rfl (.refl _ _)

theorem State.distribute_frame : ∀ a0 a1 s, Frame [.fu] s (State.distribute a0 a1 s) := by
  intro a0 a1 s
  unfold State.distribute
  split
  · split
    · exact .ite (.refl _ _) (.by (State.judge_frame _ _ _ _) rfl (.refl _ _))
    · exact .ite (.refl _ _) (.ite (.by (State.onCommit_frame _ _) rfl (.refl _ _)) (.by (State.onCommit_frame _ _)
        rfl (.refl _ _)))
    · exact .refl _ _
  · exact .refl _ _

theorem State.judgeHere_frame : ∀ a0 s, Frame [.fu] s (State.judgeHere a0 s) := by
  intro a0 s
  unfold State.judgeHere
  split
  · split
    · exact .ite (.by (State.judge_frame _ _ _ _) rfl (.refl _ _)) (.refl _ _)
    · exact .refl _ _
  · exact .refl _ _

theorem State.crossX_frame : ∀ a0 a1 s, Frame [.fu] s (State.crossX a0 a1 s) := by
  intro a0 a1 s
  unfold State.crossX
  exact .by (State.onCommit_frame _ _) rfl (.refl _ _)

theorem State.applyFurnish_frame : ∀ a0 a1 s, Frame [.regs, .tb, .fu, .cal, .scr, .reel, .link, .dma, .cmd, .tnd,
  .obs, .out, .free] s (State.applyFurnish a0 a1 s) := by
  intro a0 a1 s
  unfold State.applyFurnish
  split
  · exact .by (State.commitDone_frame _ _ _ _ _ _) rfl (.by (State.modFu_frame _ _) rfl (.by (State.boundaryAt_frame _
      _ _) rfl (.refl _ _)))
  · try dsimp only
    split
    · exact .ite (.by (State.arm_frame _) rfl (.by (State.commitDone_frame _ _ _ _ _ _) rfl (.by
        (State.boundaryAt_frame _ _ _) rfl (.by (State.dropGuides_frame _) rfl (.by (State.retire_frame _ _) rfl (.by
        (State.install_frame _ _) rfl (.by (State.modFu_frame _ _) rfl (.by (State.judgeHere_frame _ _) rfl (.refl _
        _))))))))) (.by (State.judgeHere_frame _ _) rfl (.refl _ _))
    · exact .by (State.judgeHere_frame _ _) rfl (.refl _ _)

theorem State.releaseFurnish_frame : ∀ s, Frame [.fu] s (State.releaseFurnish s) := by
  intro s
  unfold State.releaseFurnish
  split
  · exact .by (State.modFu_frame _ _) rfl (.refl _ _)
  · exact .refl _ _

theorem State.capture_frame : ∀ a0 a1 a2 a3 a4 s, Frame [.fu] s (State.capture a0 a1 a2 a3 a4 s) := by
  intro a0 a1 a2 a3 a4 s
  unfold State.capture
  exact .by (State.modFu_frame _ _) rfl (.refl _ _)

theorem State.newRequest_frame : ∀ a0 s, Frame [.fu] s (State.newRequest a0 s) := by
  intro a0 s
  unfold State.newRequest
  exact .by (State.modFu_frame _ _) rfl (.refl _ _)

theorem State.registerCommit_frame : ∀ a0 s, Frame [.fu] s (State.registerCommit a0 s) := by
  intro a0 s
  unfold State.registerCommit
  exact .by (State.capture_frame _ _ _ _ _ _) rfl (.by (State.newRequest_frame _ _) rfl (.refl _ _))

theorem State.cancelCommit_frame : ∀ s, Frame [.regs, .fu, .reel, .link, .dma, .cmd, .tnd, .obs, .out, .free] s
  (State.cancelCommit s).2 := by
  intro s
  unfold State.cancelCommit
  split
  · exact .refl _ _
  · exact .iteSnd (.refl _ _) (.by (State.commitDone_frame _ _ _ _ _ _) rfl (.by (State.modFu_frame _ _) rfl (.refl _
      _)))

theorem State.registerCancel_frame : ∀ s, Frame [.regs, .fu, .reel, .link, .dma, .cmd, .tnd, .obs, .out, .free] s
  (State.registerCancel s) := by
  intro s
  unfold State.registerCancel
  exact .by (State.raise_frame _ _ (by rfl)) rfl (.by (State.furnResult_frame _ _ _ _) rfl (.by
    (State.cancelCommit_frame _) rfl (.by (State.newRequest_frame _ _) rfl (.refl _ _))))

theorem State.checkDone_frame : ∀ s, Frame [.regs, .tb, .fu, .cal, .reel, .link, .dma, .cmd, .tnd, .obs, .out, .free]
  s (State.checkDone s) := by
  intro s
  unfold State.checkDone
  split
  · exact .refl _ _
  · split
    · exact .refl _ _
    · split
      · exact .by (State.arm_frame _) rfl (.by (State.commitDone_frame _ _ _ _ _ _) rfl (.by (State.bump_frame _ _ _)
          rfl (.by (State.trace_frame _ _ _ _) rfl (.by (State.modFu_frame _ _) rfl (.refl _ _)))))
      · refine .by (State.arm_frame _) rfl ?_
        split
        · exact .by (State.furnResult_frame _ _ _ _) rfl (.by (State.modFu_frame _ _) rfl (.refl _ _))
        · exact .by (State.modFu_frame _ _) rfl (.refl _ _)

theorem State.endCommits_frame : ∀ s, Frame [.regs, .fu, .reel, .link, .dma, .cmd, .tnd, .obs, .out, .free] s
  (State.endCommits s) := by
  intro s
  unfold State.endCommits
  exact .each (.by (State.modFu_frame _ _) rfl (.refl _ _)) (fun _ _ => (.by (State.commitDone_frame _ _ _ _ _ _) rfl
    (.refl _ _)))

end Sys2Proof.Machine
end

