-- ==== Sys2Proof/Laws/Stats.lean ====
section
/-! SUPPORT. The frames of the operations of Machine/Stats.lean: each changes the parts named and no others, and
keeps the stores canonical. -/

namespace Sys2Proof.Machine

theorem State.onBank_frame : ∀ a0 a1 s, Frame [.sts] s (State.onBank a0 a1 s) := by
  intro a0 a1 s
  unfold State.onBank
  exact .by (State.modSts_frame _ _) rfl (.refl _ _)

theorem State.takeBank_frame : ∀ a0 s, Frame [.regs, .sts, .link, .obs, .out] s (State.takeBank a0 s) := by
  intro a0 s
  unfold State.takeBank
  exact .by (State.onBank_frame _ _ _) rfl (.by (State.bump_frame _ _ _) rfl (.iff (.refl _ _) (fun _ => (.by
    (State.raise_frame _ _ (by rfl)) rfl (.refl _ _)))))

theorem State.openPeriodRec_frame : ∀ a0 a1 s, Frame [.regs, .sts, .link, .obs, .out] s (State.openPeriodRec a0 a1 s)
  := by
  intro a0 a1 s
  unfold State.openPeriodRec
  exact .ite (.refl _ _) (.ite (.by (State.onBank_frame _ _ _) rfl (.refl _ _)) (.ite (.refl _ _) (.by
    (State.count_frame _ _ _ (by rfl)) rfl (.by (State.raise_frame _ _ (by rfl)) rfl (.by (State.onBank_frame _ _ _)
    rfl (.refl _ _))))))

theorem State.statsLine_frame : ∀ a0 a1 a2 s, Frame [.regs, .sts, .link, .obs, .out] s (State.statsLine a0 a1 a2 s) :=
  by
  intro a0 a1 a2 s
  unfold State.statsLine
  exact .ite (.by (State.count_frame _ _ _ (by rfl)) rfl (.by (State.raise_frame _ _ (by rfl)) rfl (.refl _ _))) (.ite
    (.iff (.refl _ _) (fun _ => (.by (State.takeBank_frame _ _) rfl (.refl _ _)))) (.by (State.onBank_frame _ _ _) rfl
    (.by (State.openPeriodRec_frame _ _ _) rfl (.iff (.refl _ _) (fun _ => (.by (State.takeBank_frame _ _) rfl (.refl
    _ _)))))))

theorem State.statsDark_frame : ∀ a0 a1 s, Frame [.regs, .sts, .link, .obs, .out] s (State.statsDark a0 a1 s) := by
  intro a0 a1 s
  unfold State.statsDark
  exact .ite (.by (State.onBank_frame _ _ _) rfl (.refl _ _)) (.by (State.raise_frame _ _ (by rfl)) rfl (.refl _ _))

theorem State.bankDone_frame : ∀ a0 s, Frame [.regs, .sts, .link, .obs, .out] s (State.bankDone a0 s) := by
  intro a0 s
  unfold State.bankDone
  exact .by (State.raise_frame _ _ (by rfl)) rfl (.by (State.onBank_frame _ _ _) rfl (.by (State.modSts_frame _ _) rfl
    (.refl _ _)))

theorem State.closePeriods_frame : ∀ a0 s, Frame [.regs, .sts, .link, .obs, .out] s (State.closePeriods a0 s) := by
  intro a0 s
  unfold State.closePeriods
  exact .ite (.by (State.bankDone_frame _ _) rfl (.by (State.bump_frame _ _ _) rfl (.by (State.onBank_frame _ _ _) rfl
    (.refl _ _)))) (.by (State.bump_frame _ _ _) rfl (.by (State.onBank_frame _ _ _) rfl (.refl _ _)))

end Sys2Proof.Machine
end

