-- ==== Sys2Proof/Laws/Screens.lean ====
section
/-! SUPPORT. The frames of the operations of Machine/Screens.lean: each changes the parts named and no others, and
keeps the stores canonical. -/

namespace Sys2Proof.Machine

theorem State.emitShive_frame : ∀ a0 a1 s, Frame [.regs, .reel, .link, .dma, .cmd, .obs, .out] s (State.emitShive a0
  a1 s) := by
  intro a0 a1 s
  unfold State.emitShive
  exact .ite (.by (State.handUnit_frame _ _ _) rfl (.by (State.count_frame _ _ _ (by rfl)) rfl (.by (State.bump_frame
    _ _ _) rfl (.refl _ _)))) (.by (State.raise_frame _ _ (by rfl)) rfl (.refl _ _))

theorem State.takeToken_frame : ∀ s, Frame [.regs, .scr, .reel, .link, .dma, .cmd, .obs, .out] s (State.takeToken s)
  := by
  intro s
  unfold State.takeToken
  split
  · exact .by (State.emitShive_frame _ _ _) rfl (.by (State.modScr_frame _ _) rfl (.refl _ _))
  · exact .by (State.modScr_frame _ _) rfl (.refl _ _)

theorem State.shiveToken_frame : ∀ s, Frame [.regs, .scr, .reel, .link, .dma, .cmd, .obs, .out] s (State.shiveToken s)
  := by
  intro s
  unfold State.shiveToken
  exact .times (fun _ => (.by (State.takeToken_frame _) rfl (.refl _ _))) _ (.by (State.modScr_frame _ _) rfl (.refl _
    _))

theorem State.formShive_frame : ∀ a0 a1 a2 s, Frame [.regs, .scr, .reel, .link, .dma, .cmd, .obs, .out] s
  (State.formShive a0 a1 a2 s) := by
  intro a0 a1 a2 s
  unfold State.formShive
  exact .ite (.by (State.emitShive_frame _ _ _) rfl (.by (State.modScr_frame _ _) rfl (.by (State.bump_frame _ _ _)
    rfl (.by (State.modScr_frame _ _) rfl (.by (State.shiveToken_frame _) rfl (.refl _ _)))))) (.ite (.by
    (State.modScr_frame _ _) rfl (.by (State.bump_frame _ _ _) rfl (.by (State.modScr_frame _ _) rfl (.by
    (State.shiveToken_frame _) rfl (.refl _ _))))) (.by (State.bump_frame _ _ _) rfl (.by (State.count_frame _ _ _ (by
    rfl)) rfl (.by (State.raise_frame _ _ (by rfl)) rfl (.by (State.bump_frame _ _ _) rfl (.by (State.modScr_frame _
    _) rfl (.by (State.shiveToken_frame _) rfl (.refl _ _))))))))

theorem State.closeCandidate_frame : ∀ a0 a1 a2 s, Frame [.regs, .scr, .reel, .link, .dma, .cmd, .obs, .out] s
  (State.closeCandidate a0 a1 a2 s) := by
  intro a0 a1 a2 s
  unfold State.closeCandidate
  exact .iff (.refl _ _) (fun _ => (.by (State.formShive_frame _ _ _ _) rfl (.refl _ _)))

theorem State.endCandidates_frame : ∀ a0 s, Frame [.regs, .scr, .reel, .link, .dma, .cmd, .obs, .out] s
  (State.endCandidates a0 s) := by
  intro a0 s
  unfold State.endCandidates
  exact .each (.by (State.modScr_frame _ _) rfl (.refl _ _)) (fun _ _ => (.by (State.closeCandidate_frame _ _ _ _) rfl
    (.refl _ _)))

theorem State.finishCandidate_frame : ∀ a0 a1 a2 s, Frame [.regs, .scr, .reel, .link, .dma, .cmd, .obs, .out] s
  (State.finishCandidate a0 a1 a2 s) := by
  intro a0 a1 a2 s
  unfold State.finishCandidate
  split
  · exact .by (State.closeCandidate_frame _ _ _ _) rfl (.refl _ _)
  · exact .ite (.by (State.modScr_frame _ _) rfl (.by (State.closeCandidate_frame _ _ _ _) rfl (.refl _ _))) (.by
      (State.modScr_frame _ _) rfl (.refl _ _))

theorem State.sortRuns_frame : ∀ a0 a1 a2 s, Frame [.regs, .scr, .reel, .link, .dma, .cmd, .obs, .out] s
  (State.sortRuns a0 a1 a2 s) := by
  intro a0 a1 a2 s
  unfold State.sortRuns
  exact .by (State.modScr_frame _ _) rfl (.each (.by (State.modScr_frame _ _) rfl (.iff (.refl _ _) (fun _ => (.by
    (State.count_frame _ _ _ (by rfl)) rfl (.by (State.raise_frame _ _ (by rfl)) rfl (.refl _ _)))))) (fun _ _ => (.by
    (State.finishCandidate_frame _ _ _ _) rfl (.refl _ _))))

theorem State.coolRefs_frame : ∀ a0 s, Frame [.scr] s (State.coolRefs a0 s) := by
  intro a0 s
  unfold State.coolRefs
  exact .iff (.refl _ _) (fun _ => (.by (State.modScr_frame _ _) rfl (.refl _ _)))

theorem State.screenLine_frame : ∀ a0 a1 s, Frame [.regs, .scr, .reel, .link, .dma, .cmd, .obs, .out] s
  (State.screenLine a0 a1 s) := by
  intro a0 a1 s
  unfold State.screenLine
  exact .ite (.refl _ _) (.ite (.by (State.modScr_frame _ _) rfl (.refl _ _)) (.ite (.by (State.endCandidates_frame _
    _) rfl (.refl _ _)) (.by (State.sortRuns_frame _ _ _ _) rfl (.iff (.by (State.modScr_frame _ _) rfl (.by
    (State.endCandidates_frame _ _) rfl (.by (State.endCandidates_frame _ _) rfl (.by (State.coolRefs_frame _ _) rfl
    (.refl _ _))))) (fun _ => (.by (State.raise_frame _ _ (by rfl)) rfl (.refl _ _)))))))

theorem State.endScreens_frame : ∀ s, Frame [.regs, .scr, .reel, .link, .dma, .cmd, .obs, .out] s (State.endScreens s)
  := by
  intro s
  unfold State.endScreens
  exact .by (State.endCandidates_frame _ _) rfl (.refl _ _)

end Sys2Proof.Machine
end

