-- ==== Sys2Proof/Laws/Calender.lean ====
section
/-! SUPPORT. The frames of the operations of Machine/Calender.lean: each changes the parts named and no others, and
keeps the stores canonical. -/

namespace Sys2Proof.Machine

theorem State.storePair_frame : ∀ a0 s, Frame [.cal] s (State.storePair a0 s) := by
  intro a0 s
  unfold State.storePair
  exact .by (State.modCal_frame _ _) rfl (.refl _ _)

theorem State.finish_frame : ∀ a0 a1 s, Frame [.cal] s (State.finish a0 a1 s) := by
  intro a0 a1 s
  unfold State.finish
  exact .by (State.modCal_frame _ _) rfl (.refl _ _)

theorem State.lateEvents_frame : ∀ s, Frame [.regs, .link, .obs, .out] s (State.lateEvents s) := by
  intro s
  unfold State.lateEvents
  exact .by (State.bump_frame _ _ _) rfl (.by (State.count_frame _ _ _ (by rfl)) rfl (.by (State.raise_frame _ _ (by
    rfl)) rfl (.by (State.raise_frame _ _ (by rfl)) rfl (.refl _ _))))

theorem State.bypassReady_frame : ∀ a0 s, Frame [.regs, .cal, .link, .obs, .out] s (State.bypassReady a0 s) := by
  intro a0 s
  unfold State.bypassReady
  exact .by (State.finish_frame _ _ _) rfl (.by (State.lateEvents_frame _) rfl (.by (State.modCal_frame _ _) rfl
    (.refl _ _)))

theorem State.becomeReady_frame : ∀ a0 s, Frame [.regs, .cal, .link, .obs, .out] s (State.becomeReady a0 s) := by
  intro a0 s
  unfold State.becomeReady
  refine .by (State.modCal_frame _ _) rfl ?_
  split
  · exact .by (State.bypassReady_frame _ _) rfl (.by (State.modCal_frame _ _) rfl (.refl _ _))
  · exact .by (State.modCal_frame _ _) rfl (.refl _ _)

theorem State.mergeAlone_frame : ∀ a0 a1 s, Frame [.regs, .cal, .link, .obs, .out] s (State.mergeAlone a0 a1 s) := by
  intro a0 a1 s
  unfold State.mergeAlone
  exact .by (State.finish_frame _ _ _) rfl (.by (State.raise_frame _ _ (by rfl)) rfl (.refl _ _))

theorem State.releasePair_frame : ∀ a0 s, Frame [.regs, .cal, .link, .obs, .out] s (State.releasePair a0 s) := by
  intro a0 s
  unfold State.releasePair
  try dsimp only
  split
  · exact .by (State.becomeReady_frame _ _) rfl (.by (State.modCal_frame _ _) rfl (.refl _ _))
  · exact .by (State.mergeAlone_frame _ _ _) rfl (.by (State.modCal_frame _ _) rfl (.refl _ _))
  · exact .by (State.modCal_frame _ _) rfl (.refl _ _)

theorem State.settlePairs_frame : ∀ s, Frame [.regs, .cal, .link, .obs, .out] s (State.settlePairs s) := by
  intro s
  unfold State.settlePairs
  exact .each (.by (State.bump_frame _ _ _) rfl (.by (State.modCal_frame _ _) rfl (.refl _ _))) (fun _ _ => (.by
    (State.releasePair_frame _ _) rfl (.refl _ _)))

theorem State.handOver_frame : ∀ a0 a1 s, Frame [.regs, .cal, .fmt, .sts, .scr, .reel, .link, .dma, .cmd, .obs, .out]
  s (State.handOver a0 a1 s) := by
  intro a0 a1 s
  unfold State.handOver
  exact .by (State.modFmt_frame _ _) rfl (.by (State.screenLine_frame _ _ _) rfl (.by (State.statsLine_frame _ _ _ _)
    rfl (.by (State.bump_frame _ _ _) rfl (.by (State.bump_frame _ _ _) rfl (.by (State.bump_frame _ _ _) rfl (.by
    (State.bump_frame _ _ _) rfl (.by (State.bump_frame _ _ _) rfl (.by (State.modCal_frame _ _) rfl (.refl _
    _)))))))))

theorem State.drain_frame : ∀ n s, Frame [.regs, .cal, .fmt, .sts, .scr, .reel, .link, .dma, .cmd, .obs, .out] s (State.drain n s) := by
  intro n
  induction n with
  | zero => exact fun s => .refl _ s
  | succ n ih =>
    intro s
    unfold State.drain
    split
    · exact (.then (.by (State.handOver_frame _ _ _) rfl (.refl _ _)) (ih _))
    · exact (.refl _ _)

theorem State.calSettle_frame : ∀ s, Frame [.regs, .cal, .fmt, .sts, .scr, .reel, .link, .dma, .cmd, .obs, .out] s
  (State.calSettle s) := by
  intro s
  unfold State.calSettle
  exact .by (State.drain_frame _ _) rfl (.by (State.settlePairs_frame _) rfl (.refl _ _))

theorem State.lineArrives_frame : ∀ s, Frame [.regs, .felt, .cal, .fmt, .sts, .scr, .reel, .link, .dma, .cmd, .obs,
  .out] s (State.lineArrives s) := by
  intro s
  unfold State.lineArrives
  split
  · exact .refl _ _
  · exact .by (State.statsDark_frame _ _ _) rfl (.by (State.modFelt_frame _ _) rfl (.refl _ _))
  · exact .by (State.calSettle_frame _) rfl (.ite (.by (State.becomeReady_frame _ _) rfl (.by (State.bump_frame _ _ _)
      rfl (.by (State.modCal_frame _ _) rfl (.by (State.modFelt_frame _ _) rfl (.refl _ _))))) (.ite (.by
      (State.bump_frame _ _ _) rfl (.by (State.storePair_frame _ _) rfl (.by (State.bump_frame _ _ _) rfl (.by
      (State.modCal_frame _ _) rfl (.by (State.modFelt_frame _ _) rfl (.refl _ _)))))) (.by (State.becomeReady_frame _
      _) rfl (.by (State.raise_frame _ _ (by rfl)) rfl (.by (State.bump_frame _ _ _) rfl (.by (State.modCal_frame _ _)
      rfl (.by (State.modFelt_frame _ _) rfl (.refl _ _))))))))

theorem State.laneTake_frame : ∀ s, Frame [.cal] s (State.laneTake s) := by
  intro s
  unfold State.laneTake
  split
  · exact .by (State.modCal_frame _ _) rfl (.refl _ _)
  · exact .refl _ _

theorem State.askReload_frame : ∀ a0 s, Frame [.tnd] s (State.askReload a0 s) := by
  intro a0 s
  unfold State.askReload
  exact .by (State.modTnd_frame _ _) rfl (.refl _ _)

theorem State.calCorrected_frame : ∀ s, Frame [.regs, .link, .obs, .out] s (State.calCorrected s) := by
  intro s
  unfold State.calCorrected
  exact .by (State.count_frame _ _ _ (by rfl)) rfl (.by (State.raise_frame _ _ (by rfl)) rfl (.refl _ _))

theorem State.calUncorrectable_frame : ∀ s, Frame [.regs, .link, .obs, .out] s (State.calUncorrectable s) := by
  intro s
  unfold State.calUncorrectable
  exact .by (State.count_frame _ _ _ (by rfl)) rfl (.by (State.raise_frame _ _ (by rfl)) rfl (.refl _ _))

theorem State.loseHeld_frame : ∀ a0 a1 a2 a3 a4 s, Frame [.regs, .cal, .link, .obs, .out] s (State.loseHeld a0 a1 a2
  a3 a4 s) := by
  intro a0 a1 a2 a3 a4 s
  unfold State.loseHeld
  exact .ite (.by (State.modCal_frame _ _) rfl (.by (State.calUncorrectable_frame _) rfl (.refl _ _))) (.refl _ _)

theorem State.calFault_frame : ∀ a0 a1 s, Frame [.regs, .cal, .link, .tnd, .obs, .out] s (State.calFault a0 a1 s).2 :=
  by
  intro a0 a1 s
  unfold State.calFault
  try dsimp only
  split
  · exact .by (State.calCorrected_frame _) rfl (.refl _ _)
  · exact .by (State.calCorrected_frame _) rfl (.refl _ _)
  · exact .by (State.calCorrected_frame _) rfl (.refl _ _)
  · exact .by (State.calUncorrectable_frame _) rfl (.refl _ _)
  · exact .by (State.modCal_frame _ _) rfl (.by (State.calUncorrectable_frame _) rfl (.refl _ _))
  · exact .iteSnd (.by (State.askReload_frame _ _) rfl (.by (State.modCal_frame _ _) rfl (.by
      (State.calUncorrectable_frame _) rfl (.refl _ _)))) (.refl _ _)
  · exact .iteSnd (.by (State.askReload_frame _ _) rfl (.by (State.modCal_frame _ _) rfl (.by
      (State.calUncorrectable_frame _) rfl (.refl _ _)))) (.refl _ _)
  · exact .refl _ _

theorem State.calFaults_frame : ∀ fs l s, Frame [.regs, .cal, .link, .tnd, .obs, .out] s (State.calFaults fs l s).2 := by
  have g : ∀ (fs : List CalFault) (r : Line × State) (s : State), Frame [.regs, .cal, .link, .tnd, .obs, .out] s r.2 → Frame [.regs, .cal, .link, .tnd, .obs, .out] s
      (fs.foldl (fun r f => r.2.calFault f r.1) r).2 := by
    intro fs
    induction fs with
    | nil => exact fun _ _ h => h
    | cons f fs ih => exact fun r s h => ih _ s (.by (State.calFault_frame _ _ _) rfl h)
  exact fun fs l s => g fs (l, s) s (.refl _ _)

theorem State.heldFaults_frame : ∀ a0 s, Frame [.regs, .cal, .link, .obs, .out] s (State.heldFaults a0 s) := by
  intro a0 s
  unfold State.heldFaults
  refine .each (.refl _ _) (fun _ _ => ?_)
  split
  · exact .by (State.loseHeld_frame _ _ _ _ _ _) rfl (.refl _ _)
  · exact .refl _ _

theorem State.reconstruct_frame : ∀ a0 a1 a2 s, Frame [.regs, .link, .obs, .out] s (State.reconstruct a0 a1 a2 s).2.2
  := by
  intro a0 a1 a2 s
  unfold State.reconstruct
  exact .iff (.iff (.refl _ _) (fun _ => (.by (State.raise_frame _ _ (by rfl)) rfl (.refl _ _)))) (fun _ => (.by
    (State.bump_frame _ _ _) rfl (.by (State.count_frame _ _ _ (by rfl)) rfl (.by (State.raise_frame _ _ (by rfl)) rfl
    (.refl _ _)))))

theorem State.storeGuide_frame : ∀ a0 a1 s, Frame [.regs, .cal, .link, .obs, .out] s (State.storeGuide a0 a1 s) := by
  intro a0 a1 s
  unfold State.storeGuide
  exact .ite (.ite (.by (State.bump_frame _ _ _) rfl (.by (State.storePair_frame _ _) rfl (.refl _ _))) (.by
    (State.raise_frame _ _ (by rfl)) rfl (.refl _ _))) (.refl _ _)

theorem State.mergeWith_frame : ∀ a0 s, Frame [.cal, .obs] s (State.mergeWith a0 s) := by
  intro a0 s
  unfold State.mergeWith
  exact .each (.refl _ _) (fun _ _ => (.by (State.finish_frame _ _ _) rfl (.by (State.bump_frame _ _ _) rfl (.by
    (State.modCal_frame _ _) rfl (.refl _ _)))))

theorem State.keepPassed_frame : ∀ a0 s, Frame [.cal] s (State.keepPassed a0 s) := by
  intro a0 s
  unfold State.keepPassed
  exact .ite (.by (State.modCal_frame _ _) rfl (.refl _ _)) (.refl _ _)

theorem State.stage8_frame : ∀ a0 a1 a2 s, Frame [.regs, .cal, .link, .obs, .out] s (State.stage8 a0 a1 a2 s) := by
  intro a0 a1 a2 s
  unfold State.stage8
  refine .ite (.by (State.finish_frame _ _ _) rfl (.by (State.mergeWith_frame _ _) rfl (.by (State.keepPassed_frame _
    _) rfl (.refl _ _)))) ?_
  split
  · exact .by (State.finish_frame _ _ _) rfl (.by (State.bump_frame _ _ _) rfl (.by (State.modCal_frame _ _) rfl (.by
      (State.mergeWith_frame _ _) rfl (.by (State.keepPassed_frame _ _) rfl (.refl _ _)))))
  · exact .ite (.by (State.storePair_frame _ _) rfl (.by (State.mergeWith_frame _ _) rfl (.by (State.keepPassed_frame
      _ _) rfl (.refl _ _)))) (.by (State.mergeAlone_frame _ _ _) rfl (.by (State.raise_frame _ _ (by rfl)) rfl (.by
      (State.mergeWith_frame _ _) rfl (.by (State.keepPassed_frame _ _) rfl (.refl _ _)))))

theorem State.process_frame : ∀ a0 a1 s, Frame [.regs, .cal, .link, .tnd, .obs, .out] s (State.process a0 a1 s) := by
  intro a0 a1 s
  unfold State.process
  split
  rename_i l u e
  have h := State.calFaults_frame a1 a0.line s
  rw [e] at h
  refine Frame.then (h.mono rfl) ?_
  dsimp only
  split
  · exact .by (State.stage8_frame _ _ _ _) rfl (.iff (.by (State.reconstruct_frame _ _ _ _) rfl
      (.by (State.storeGuide_frame _ _ _) rfl (.iff (.refl _ _) fun _ => .by (State.raise_frame _ _ (by rfl)) rfl (.refl _ _))))
      fun _ => .by (State.modCal_frame _ _) rfl (.refl _ _))
  · exact .by (State.stage8_frame _ _ _ _) rfl (.iff (.by (State.storeGuide_frame _ _ _) rfl
      (.iff (.refl _ _) fun _ => .by (State.raise_frame _ _ (by rfl)) rfl (.refl _ _)))
      fun _ => .by (State.modCal_frame _ _) rfl (.refl _ _))

theorem State.laneExit_frame : ∀ a0 a1 s, Frame [.regs, .cal, .fmt, .sts, .scr, .reel, .link, .dma, .cmd, .tnd, .obs,
  .out] s (State.laneExit a0 a1 s) := by
  intro a0 a1 s
  unfold State.laneExit
  split
  · exact .refl _ _
  · exact .ite (.by (State.calSettle_frame _) rfl (.by (State.process_frame _ _ _) rfl (.by (State.modCal_frame _ _)
      rfl (.refl _ _)))) (.refl _ _)

theorem State.missDeadline_frame : ∀ a0 a1 s, Frame [.regs, .cal, .fmt, .sts, .scr, .reel, .link, .dma, .cmd, .obs,
  .out] s (State.missDeadline a0 a1 s) := by
  intro a0 a1 s
  unfold State.missDeadline
  exact .ite (.refl _ _) (.by (State.calSettle_frame _) rfl (.each (.each (.by (State.modCal_frame _ _) rfl (.refl _
    _)) (fun _ _ => (.by (State.lateEvents_frame _) rfl (.refl _ _)))) (fun _ _ => (.by (State.bypassReady_frame _ _)
    rfl (.refl _ _)))))

theorem State.partnerAbsent_frame : ∀ a0 a1 a2 s, Frame [.regs, .cal, .fmt, .sts, .scr, .reel, .link, .dma, .cmd,
  .obs, .out] s (State.partnerAbsent a0 a1 a2 s) := by
  intro a0 a1 a2 s
  unfold State.partnerAbsent
  exact .by (State.calSettle_frame _) rfl (.by (State.bump_frame _ _ _) rfl (.by (State.modCal_frame _ _) rfl (.refl _
    _)))

end Sys2Proof.Machine
end

