-- ==== Sys2Proof/Laws/Reel.lean ====
section
/-! SUPPORT. The frames of the operations of Machine/Reel.lean: each changes the parts named and no others, and
keeps the stores canonical. -/

namespace Sys2Proof.Machine

theorem State.relayout_frame : ∀ s, Frame [.regs, .reel, .window, .poison, .link, .obs, .out] s (State.relayout s) :=
  by
  intro s
  unfold State.relayout
  exact .ite (.by (State.modReel_frame _ _) rfl (.refl _ _)) (.ite (.by (State.modReel_frame _ _) rfl (.refl _ _))
    (.by (State.raise_frame _ _ (by rfl)) rfl (.by (Frame.put_window_poison _) rfl (.by (State.modReel_frame _ _) rfl
    (.refl _ _)))))

theorem State.enter_frame : ∀ a0 s, Frame [.regs, .reel, .link, .obs, .out] s (State.enter a0 s) := by
  intro a0 s
  unfold State.enter
  exact .by (State.modReel_frame _ _) rfl (.iff (.refl _ _) (fun _ => (.by (State.raise_frame _ _ (by rfl)) rfl (.refl
    _ _))))

theorem State.onCuts_frame : ∀ a0 s, Frame [.reel] s (State.onCuts a0 s) := by
  intro a0 s
  unfold State.onCuts
  exact .by (State.modReel_frame _ _) rfl (.refl _ _)

theorem State.offer_frame : ∀ a0 s, Frame [.reel] s (State.offer a0 s) := by
  intro a0 s
  unfold State.offer
  exact .by (State.onCuts_frame _ _) rfl (.refl _ _)

theorem State.record_frame : ∀ a0 a1 s, Frame [.regs, .reel, .link, .obs, .out] s (State.record a0 a1 s) := by
  intro a0 a1 s
  unfold State.record
  exact .ite (.by (State.count_frame _ _ _ (by rfl)) rfl (.refl _ _)) (.ite (.by (State.offer_frame _ _) rfl (.by
    (State.enter_frame _ _) rfl (.by (State.bump_frame _ _ _) rfl (.by (State.count_frame _ _ _ (by rfl)) rfl (.by
    (State.raise_frame _ _ (by rfl)) rfl (.by (State.raise_frame _ _ (by rfl)) rfl (.refl _ _))))))) (.by
    (State.offer_frame _ _) rfl (.by (State.enter_frame _ _) rfl (.by (State.bump_frame _ _ _) rfl (.by
    (State.bump_frame _ _ _) rfl (.by (State.modReel_frame _ _) rfl (.by (State.modReel_frame _ _) rfl (.refl _
    _))))))))

theorem State.placeCut_frame : ∀ a0 s, Frame [.regs, .reel, .link, .dma, .cmd, .obs, .out] s (State.placeCut a0 s) :=
  by
  intro a0 s
  unfold State.placeCut
  exact .by (State.handClass_frame _ _ _ _) rfl (.refl _ _)

theorem State.finishCuts_frame : ∀ s, Frame [.regs, .reel, .link, .dma, .cmd, .obs, .out] s (State.finishCuts s) := by
  intro s
  unfold State.finishCuts
  exact .each (.by (State.onCuts_frame _ _) rfl (.by (State.modReel_frame _ _) rfl (.refl _ _))) (fun _ _ => (.by
    (State.handClass_frame _ _ _ _) rfl (.iff (.refl _ _) (fun _ => (.by (State.placeCut_frame _ _) rfl (.refl _
    _))))))

theorem State.endStreams_frame : ∀ s, Frame [.regs, .reel, .link, .dma, .cmd, .obs, .out] s (State.endStreams s) := by
  intro s
  unfold State.endStreams
  exact .by (State.finishCuts_frame _) rfl (.by (State.onCuts_frame _ _) rfl (.refl _ _))

theorem State.activateCut_frame : ∀ a0 s, Frame [.regs, .reel, .link, .dma, .cmd, .obs, .out] s (State.activateCut a0
  s) := by
  intro a0 s
  unfold State.activateCut
  refine .ite (.refl _ _) ?_
  split
  · exact .refl _ _
  · exact .by (State.endStreams_frame _) rfl (.by (State.placeCut_frame _ _) rfl (.by (State.onCuts_frame _ _) rfl
      (.refl _ _)))

theorem State.deliverCut_frame : ∀ a0 a1 a2 a3 a4 s, Frame [.regs, .reel, .link, .dma, .cmd, .obs, .out] s
  (State.deliverCut a0 a1 a2 a3 a4 s) := by
  intro a0 a1 a2 a3 a4 s
  unfold State.deliverCut
  refine .ite (.by (State.handClass_frame _ _ _ _) rfl (.by (State.bump_frame _ _ _) rfl (.by (State.onCuts_frame _ _)
    rfl (.refl _ _)))) ?_
  split
  · exact .by (State.handClass_frame _ _ _ _) rfl (.by (State.bump_frame _ _ _) rfl (.by (State.onCuts_frame _ _) rfl
      (.refl _ _)))
  · exact .by (State.handClass_frame _ _ _ _) rfl (.by (State.bump_frame _ _ _) rfl (.by (State.onCuts_frame _ _) rfl
      (.iff (.iff (.iff (.by (State.charge_frame _ _) rfl (.refl _ _)) (fun _ => (.by (State.bump_frame _ _ _) rfl
      (.by (State.count_frame _ _ _ (by rfl)) rfl (.by (State.raise_frame _ _ (by rfl)) rfl (.refl _ _)))))) (fun _ =>
      (.by (State.count_frame _ _ _ (by rfl)) rfl (.by (State.raise_frame _ _ (by rfl)) rfl (.refl _ _))))) (fun _ =>
      (.by (State.bump_frame _ _ _) rfl (.by (State.count_frame _ _ _ (by rfl)) rfl (.by (State.raise_frame _ _ (by
      rfl)) rfl (.refl _ _))))))))

theorem State.cutLine_frame : ∀ a0 a1 a2 s, Frame [.regs, .reel, .link, .dma, .cmd, .obs, .out] s (State.cutLine a0 a1
  a2 s) := by
  intro a0 a1 a2 s
  unfold State.cutLine
  refine .ite (.refl _ _) ?_
  split
  · exact .refl _ _
  · refine .by (State.finishCuts_frame _) rfl ?_
    split
    · exact .by (State.modReel_frame _ _) rfl (.refl _ _)
    · exact .ite (.by (State.deliverCut_frame _ _ _ _ _ _) rfl (.by (State.modReel_frame _ _) rfl (.refl _ _))) (.by
        (State.onCuts_frame _ _) rfl (.by (State.modReel_frame _ _) rfl (.refl _ _)))

theorem State.cancelCut_frame : ∀ a0 s, Frame [.regs, .reel, .link, .dma, .cmd, .obs, .out] s (State.cancelCut a0 s).2
  := by
  intro a0 s
  unfold State.cancelCut
  split
  · exact .refl _ _
  · exact .by (State.finishCuts_frame _) rfl (.by (State.onCuts_frame _ _) rfl (.refl _ _))

theorem State.cutWritten_frame : ∀ a0 s, Frame [.regs, .reel, .link, .dma, .cmd, .tnd, .obs, .out, .free] s
  (State.cutWritten a0 s) := by
  intro a0 s
  unfold State.cutWritten
  split
  · exact .refl _ _
  · try dsimp only
    split
    · exact .iff (.by (State.modReel_frame _ _) rfl (.refl _ _)) (fun _ => (.by (State.onCh_frame _ _ _) rfl (.refl _
        _)))
    · exact .ite (.by (State.done_frame _ _ _ _ _) rfl (.iff (.by (State.modReel_frame _ _) rfl (.refl _ _)) (fun _ =>
        (.by (State.onCh_frame _ _ _) rfl (.refl _ _))))) (.by (State.done_frame _ _ _ _ _) rfl (.iff (.by
        (State.modReel_frame _ _) rfl (.refl _ _)) (fun _ => (.by (State.onCh_frame _ _ _) rfl (.refl _ _)))))

theorem State.windowWait_frame : ∀ a0 a1 s, Frame [.reel] s (State.windowWait a0 a1 s) := by
  intro a0 a1 s
  unfold State.windowWait
  exact .iff (.refl _ _) (fun _ => (.by (State.modReel_frame _ _) rfl (.refl _ _)))

theorem State.readWindow_frame : ∀ a0 a1 a2 s, Frame [.regs, .reel, .link, .obs, .out] s (State.readWindow a0 a1 a2 s)
  := by
  intro a0 a1 a2 s
  unfold State.readWindow
  split
  · exact .by (State.windowWait_frame _ _ _) rfl (.refl _ _)
  · exact .by (State.emit_frame _ _) rfl (.iff (.iff (.refl _ _) (fun _ => (.by (State.bump_frame _ _ _) rfl (.by
      (State.count_frame _ _ _ (by rfl)) rfl (.by (State.raise_frame _ _ (by rfl)) rfl (.refl _ _)))))) (fun _ => (.by
      (State.raise_frame _ _ (by rfl)) rfl (.refl _ _))))

theorem wf_storeLine (a : Nat) (bs : List Byte) {m : List Host.Cell} (h : Memory.wf m = true) :
    Memory.wf (storeLine a bs m) = true := by
  unfold storeLine
  generalize bs.zipIdx = l
  induction l generalizing m with
  | nil => exact h
  | cons e l ih => exact ih (msorted_mput _ _ h)

theorem State.writeWindow_frame (addr : Nat) (data : BitVec 512) (poison : Bool) (s : State) :
    Frame [.reel, .window, .poison] s (s.writeWindow addr data poison) := by
  unfold State.writeWindow
  split
  · exact .by (State.windowWait_frame _ _ _) rfl (.refl _ _)
  · exact .ite (.refl _ _) (.by (Frame.set_window _ _ _ (wf_storeLine _ _)) rfl (.refl _ _))

theorem State.serveWindow_frame : ∀ s, Frame [.regs, .reel, .window, .poison, .link, .obs, .out] s (State.serveWindow
  s) := by
  intro s
  unfold State.serveWindow
  refine .each (.by (State.modReel_frame _ _) rfl (.refl _ _)) (fun _ _ => ?_)
  split
  · exact .by (State.readWindow_frame _ _ _ _) rfl (.refl _ _)
  · exact .by (State.writeWindow_frame _ _ _ _) rfl (.refl _ _)

end Sys2Proof.Machine
end

