-- ==== Sys2Proof/Laws/Trigger.lean ====
section
/-! SUPPORT. The frames of the operations of Machine/Trigger.lean: each changes the parts named and no others, and
keeps the stores canonical. -/

namespace Sys2Proof.Machine

theorem State.onPort_frame : ∀ a0 a1 s, Frame [.wl] s (State.onPort a0 a1 s) := by
  intro a0 a1 s
  unfold State.onPort
  exact .by (State.modWl_frame _ _) rfl (.refl _ _)

theorem State.sendChunk_frame : ∀ a0 a1 a2 s, Frame [.wl] s (State.sendChunk a0 a1 a2 s) := by
  intro a0 a1 a2 s
  unfold State.sendChunk
  exact .ite (.by (State.onPort_frame _ _ _) rfl (.refl _ _)) (.refl _ _)

theorem State.primaryLapse_frame : ∀ a0 s, Frame [.wl] s (State.primaryLapse a0 s) := by
  intro a0 s
  unfold State.primaryLapse
  exact .ite (.by (State.modWl_frame _ _) rfl (.refl _ _)) (.refl _ _)

theorem State.setPort_frame : ∀ a0 a1 s, Frame [.wl, .obs] s (State.setPort a0 a1 s) := by
  intro a0 a1 s
  unfold State.setPort
  exact .ite (.refl _ _) (.by (State.primaryLapse_frame _ _) rfl (.by (State.trace_frame _ _ _ _) rfl (.by
    (State.onPort_frame _ _ _) rfl (.refl _ _))))

theorem State.sendSets_frame : ∀ a0 a1 s, Frame [.out] s (State.sendSets a0 a1 s) := by
  intro a0 a1 s
  unfold State.sendSets
  exact .by (State.emit_frame _ _) rfl (.by (State.emit_frame _ _) rfl (.refl _ _))

theorem State.beginTraining_frame : ∀ a0 s, Frame [.wl, .obs, .out] s (State.beginTraining a0 s) := by
  intro a0 s
  unfold State.beginTraining
  exact .ite (.refl _ _) (.by (State.sendSets_frame _ _ _) rfl (.by (State.setPort_frame _ _ _) rfl (.by
    (State.onPort_frame _ _ _) rfl (.refl _ _))))

theorem State.idlePort_frame : ∀ a0 s, Frame [.wl, .obs] s (State.idlePort a0 s) := by
  intro a0 s
  unfold State.idlePort
  exact .by (State.setPort_frame _ _ _) rfl (.by (State.onPort_frame _ _ _) rfl (.refl _ _))

theorem State.sendMark_frame : ∀ a0 s, Frame [.wl] s (State.sendMark a0 s) := by
  intro a0 s
  unfold State.sendMark
  exact .each (.refl _ _) (fun _ _ => (.by (State.sendChunk_frame _ _ _ _) rfl (.refl _ _)))

theorem State.skipOne_frame : ∀ s, Frame [.tb, .obs] s (State.skipOne s) := by
  intro s
  unfold State.skipOne
  exact .by (State.bump_frame _ _ _) rfl (.by (State.modTb_frame _ _) rfl (.refl _ _))

theorem State.catchUp_frame : ∀ a0 s, Frame [.tb] s (State.catchUp a0 s) := by
  intro a0 s
  unfold State.catchUp
  exact .by (State.modTb_frame _ _) rfl (.refl _ _)

theorem State.ceilStep_frame : ∀ s, Frame [.felt] s (State.ceilStep s) := by
  intro s
  unfold State.ceilStep
  exact .by (State.modFelt_frame _ _) rfl (.refl _ _)

theorem State.fieldBreak_frame : ∀ s, Frame [.regs, .tb, .felt, .link, .obs, .out] s (State.fieldBreak s) := by
  intro s
  unfold State.fieldBreak
  exact .by (State.raise_frame _ _ (by rfl)) rfl (.by (State.modTb_frame _ _) rfl (.by (State.markLines_frame _ _ _)
    rfl (.refl _ _)))

theorem State.dropArea_frame : ∀ s, Frame [.regs, .hb, .felt, .obs] s (State.dropArea s) := by
  intro s
  unfold State.dropArea
  exact .by (State.modHb_frame _ _) rfl (.each (.by (State.modFelt_frame _ _) rfl (.refl _ _)) (fun _ _ => (.by
    (State.releaseRow_frame _ _ _) rfl (.refl _ _))))

theorem State.modeChange_frame : ∀ a0 s, Frame [.regs, .hb, .felt, .link, .obs, .out] s (State.modeChange a0 s) := by
  intro a0 s
  unfold State.modeChange
  exact .by (State.raise_frame _ _ (by rfl)) rfl (.by (State.modHb_frame _ _) rfl (.by (State.dropArea_frame _) rfl
    (.by (State.modFelt_frame _ _) rfl (.by (State.markLines_frame _ _ _) rfl (.refl _ _)))))

theorem State.furnishChange_frame : ∀ a0 a1 s, Frame [.regs, .tb, .hb, .felt, .link, .obs, .out] s
  (State.furnishChange a0 a1 s) := by
  intro a0 a1 s
  unfold State.furnishChange
  exact .by (State.modTb_frame _ _) rfl (.iff (.iff (.iff (.refl _ _) (fun _ => (.by (State.fieldBreak_frame _) rfl
    (.refl _ _)))) (fun _ => (.by (State.modeChange_frame _ _) rfl (.refl _ _)))) (fun _ => (.by (State.modTb_frame _
    _) rfl (.refl _ _))))

theorem State.refreshMember_frame : ∀ s, Frame [.wl] s (State.refreshMember s) := by
  intro s
  unfold State.refreshMember
  split
  · exact .by (State.modWl_frame _ _) rfl (.refl _ _)
  · exact .by (State.modWl_frame _ _) rfl (.refl _ _)
  · exact .by (State.modWl_frame _ _) rfl (.refl _ _)
  · exact .refl _ _

theorem State.wakeDown_frame : ∀ s, Frame [.wl, .obs, .out] s (State.wakeDown s) := by
  intro s
  unfold State.wakeDown
  exact .each (.refl _ _) (fun _ _ => (.iff (.refl _ _) (fun _ => (.by (State.beginTraining_frame _ _) rfl (.refl _
    _)))))

theorem State.becomeSource_frame : ∀ s, Frame [.tb, .wl, .obs, .out] s (State.becomeSource s) := by
  intro s
  unfold State.becomeSource
  exact .by (State.modTb_frame _ _) rfl (.by (State.wakeDown_frame _) rfl (.by (State.modWl_frame _ _) rfl (.refl _
    _)))

theorem State.leaveSource_frame : ∀ a0 s, Frame [.tb, .wl] s (State.leaveSource a0 s) := by
  intro a0 s
  unfold State.leaveSource
  exact .ite (.by (State.modTb_frame _ _) rfl (.by (State.modWl_frame _ _) rfl (.by (State.modWl_frame _ _) rfl (.refl
    _ _)))) (.by (State.refreshMember_frame _) rfl (.by (State.modWl_frame _ _) rfl (.by (State.modWl_frame _ _) rfl
    (.refl _ _))))

theorem State.takeRole_frame : ∀ a0 s, Frame [.tb, .wl, .obs, .out] s (State.takeRole a0 s) := by
  intro a0 s
  unfold State.takeRole
  exact .ite (.refl _ _) (.ite (.ite (.by (State.modTb_frame _ _) rfl (.by (State.becomeSource_frame _) rfl (.refl _
    _))) (.by (State.reference_frame _ _ _) rfl (.by (State.becomeSource_frame _) rfl (.refl _ _)))) (.ite (.by
    (State.leaveSource_frame _ _) rfl (.refl _ _)) (.by (State.modWl_frame _ _) rfl (.refl _ _))))

theorem State.takeOver_frame : ∀ s, Frame [.regs, .tb, .link, .wl, .obs, .out] s (State.takeOver s) := by
  intro s
  unfold State.takeOver
  exact .ite (.by (State.raise_frame _ _ (by rfl)) rfl (.by (State.modWl_frame _ _) rfl (.by (State.reference_frame _
    _ _) rfl (.by (State.becomeSource_frame _) rfl (.refl _ _))))) (.refl _ _)

theorem State.revert_frame : ∀ s, Frame [.wl] s (State.revert s) := by
  intro s
  unfold State.revert
  exact .by (State.modWl_frame _ _) rfl (.refl _ _)

theorem State.reamDone_frame : ∀ s, Frame [.regs, .reel, .link, .dma, .cmd, .tnd, .obs, .out, .free] s (State.reamDone
  s) := by
  intro s
  unfold State.reamDone
  exact .each (.refl _ _) (fun _ _ => (.by (State.done_frame _ _ _ _ _) rfl (.refl _ _)))

theorem State.roleDone_frame : ∀ s, Frame [.regs, .reel, .link, .dma, .cmd, .tnd, .obs, .out, .free] s (State.roleDone
  s) := by
  intro s
  unfold State.roleDone
  exact .each (.refl _ _) (fun _ _ => (.by (State.done_frame _ _ _ _ _) rfl (.refl _ _)))

theorem State.leaveNow_frame : ∀ s, Frame [.regs, .tb, .reel, .link, .dma, .cmd, .wl, .tnd, .obs, .out, .free] s
  (State.leaveNow s) := by
  intro s
  unfold State.leaveNow
  refine .by (State.reamDone_frame _) rfl ?_
  refine .by (State.raise_frame _ _ (by rfl)) rfl ?_
  refine .by (State.refreshMember_frame _) rfl ?_
  refine .by (State.modTb_frame _ _) rfl ?_
  refine .by (State.modWl_frame _ _) rfl ?_
  refine .each (.refl _ _) (fun _ _ => ?_)
  split
  · exact .by (State.idlePort_frame _ _) rfl (.refl _ _)
  · exact .by (State.idlePort_frame _ _) rfl (.refl _ _)
  · exact .by (State.idlePort_frame _ _) rfl (.refl _ _)
  · exact .refl _ _

theorem State.meetMark_frame : ∀ a0 a1 s, Frame [.regs, .tb, .link, .wl, .tnd, .obs, .out] s (State.meetMark a0 a1 s)
  := by
  intro a0 a1 s
  unfold State.meetMark
  refine .ite (.refl _ _) ?_
  split
  · exact .ite (.ite (.by (State.reference_frame _ _ _) rfl (.by (State.modWl_frame _ _) rfl (.by (State.modTb_frame _
      _) rfl (.by (State.modTb_frame _ _) rfl (.refl _ _))))) (.by (State.modTb_frame _ _) rfl (.refl _ _))) (.by
      (State.modWl_frame _ _) rfl (.by (State.raiseAlarm_frame _ _ (by rfl)) rfl (.refl _ _)))
  · exact .by (State.modWl_frame _ _) rfl (.by (State.raiseAlarm_frame _ _ (by rfl)) rfl (.refl _ _))

theorem State.darkDue_frame : ∀ a0 s, Frame [.felt, .free] s (State.darkDue a0 s) := by
  intro a0 s
  unfold State.darkDue
  exact .by (Frame.put_free _ _) rfl (.by (State.modFelt_frame _ _) rfl (.iff (.refl _ _) (fun _ => (.by
    (State.sendDark_frame _ _) rfl (.refl _ _)))))

theorem State.resync_frame : ∀ s, Frame [.regs, .tb, .fu, .link, .pen, .obs, .out] s (State.resync s) := by
  intro s
  unfold State.resync
  exact .ite (.refl _ _) (.ite (.by (State.trace_frame _ _ _ _) rfl (.by (State.raise_frame _ _ (by rfl)) rfl (.by
    (State.catchUp_frame _ _) rfl (.by (State.steppedPast_frame _ _ _) rfl (.by (State.crossX_frame _ _ _) rfl (.by
    (State.modTb_frame _ _) rfl (.refl _ _))))))) (.ite (.by (State.trace_frame _ _ _ _) rfl (.by (State.raise_frame _
    _ (by rfl)) rfl (.by (State.raise_frame _ _ (by rfl)) rfl (.by (State.modTb_frame _ _) rfl (.refl _ _))))) (.refl
    _ _)))

theorem State.reamBoundary_frame : ∀ a0 a1 a2 s, Frame [.regs, .tb, .hb, .felt, .fu, .reel, .link, .dma, .cmd, .wl,
  .pen, .tnd, .obs, .out, .free] s (State.reamBoundary a0 a1 a2 s) := by
  intro a0 a1 a2 s
  unfold State.reamBoundary
  exact .by (State.reamDone_frame _) rfl (.by (State.resync_frame _) rfl (.iff (.by (State.activateSlices_frame _ _)
    rfl (.by (State.bump_frame _ _ _) rfl (.by (State.modPen_frame _ _) rfl (.by (State.modTb_frame _ _) rfl (.iff
    (.refl _ _) (fun _ => (.by (State.modTb_frame _ _) rfl (.by (State.darkDue_frame _ _) rfl (.refl _ _))))))))) (fun
    _ => (.by (State.revert_frame _) rfl (.by (State.takeOver_frame _) rfl (.by (State.takeRole_frame _ _) rfl (.by
    (State.modWl_frame _ _) rfl (.by (State.meetMark_frame _ _ _) rfl (.refl _ _)))))))))

theorem State.openPeriod_frame : ∀ a0 a1 s, Frame [.tb, .hb] s (State.openPeriod a0 a1 s) := by
  intro a0 a1 s
  unfold State.openPeriod
  exact .by (State.modHb_frame _ _) rfl (.by (State.modTb_frame _ _) rfl (.refl _ _))

theorem State.failLate_frame : ∀ s, Frame [.regs, .hb, .felt, .link, .tnd, .rst, .obs, .out] s (State.failLate s) :=
  by
  intro s
  unfold State.failLate
  exact .each (.by (State.modRst_frame _ _) rfl (.refl _ _)) (fun _ _ => (.by (State.failSlice_frame _ _ _) rfl (.refl
    _ _)))

theorem State.latchSeen_frame : ∀ s, Frame [.felt, .reel] s (State.latchSeen s) := by
  intro s
  unfold State.latchSeen
  exact .by (State.modFelt_frame _ _) rfl (.by (State.modReel_frame _ _) rfl (.refl _ _))

theorem State.raiseTrigger_frame : ∀ a0 a1 a2 s, Frame [.regs, .tb, .hb, .felt, .fu, .cal, .scr, .reel, .link, .dma,
  .cmd, .wl, .pen, .tnd, .thm, .rst, .obs, .out, .free] s (State.raiseTrigger a0 a1 a2 s) := by
  intro a0 a1 a2 s
  unfold State.raiseTrigger
  exact .iff (.by (State.distribute_frame _ _ _) rfl (.iff (.by (State.failLate_frame _) rfl (.by
    (State.wakeAndIdle_frame _ _) rfl (.by (State.births_frame _ _) rfl (.by (State.modThm_frame _ _) rfl (.by
    (State.modPen_frame _ _) rfl (.by (State.bump_frame _ _ _) rfl (.by (State.coastPeriod_frame _) rfl (.by
    (State.openPeriod_frame _ _ _) rfl (.by (State.ceilStep_frame _) rfl (.iff (.iff (.by (State.furnishChange_frame _
    _ _) rfl (.by (State.modTb_frame _ _) rfl (.by (State.latchSeen_frame _) rfl (.by (State.endStreams_frame _) rfl
    (.by (State.applyFurnish_frame _ _ _) rfl (.by (State.dropShells_frame _ _) rfl (.by (State.passUnplaced_frame _
    _) rfl (.iff (.refl _ _) (fun _ => (.by (State.preTrigger_frame _) rfl (.refl _ _))))))))))) (fun _ => (.by
    (State.reamBoundary_frame _ _ _ _) rfl (.refl _ _)))) (fun _ => (.by (State.catchUp_frame _ _) rfl (.refl _
    _))))))))))))) (fun _ => (.by (State.frameTrigger_frame _ _) rfl (.refl _ _))))) (fun _ => (.by
    (State.sendMark_frame _ _) rfl (.refl _ _)))

theorem State.triggerOrLeave_frame : ∀ a0 a1 s, Frame [.regs, .tb, .hb, .felt, .fu, .cal, .scr, .reel, .link, .dma,
  .cmd, .wl, .pen, .tnd, .thm, .rst, .obs, .out, .free] s (State.triggerOrLeave a0 a1 s) := by
  intro a0 a1 s
  unfold State.triggerOrLeave
  exact .ite (.by (State.leaveNow_frame _) rfl (.refl _ _)) (.by (State.raiseTrigger_frame _ _ _ _) rfl (.refl _ _))

theorem State.crossing_frame : ∀ a0 s, Frame [.regs, .tb, .hb, .felt, .fu, .cal, .scr, .reel, .link, .dma, .cmd, .wl,
  .pen, .tnd, .thm, .rst, .obs, .out, .free] s (State.crossing a0 s) := by
  intro a0 s
  unfold State.crossing
  refine .ite (.by (State.raise_frame _ _ (by rfl)) rfl (.by (State.skipOne_frame _) rfl (.refl _ _))) ?_
  split
  · exact .ite (.by (State.modTb_frame _ _) rfl (.refl _ _)) (.by (State.triggerOrLeave_frame _ _ _) rfl (.refl _ _))
  · exact .by (State.triggerOrLeave_frame _ _ _) rfl (.refl _ _)

theorem State.join_frame : ∀ a0 s, Frame [.regs, .tb, .hb, .felt, .fu, .cal, .scr, .reel, .link, .dma, .cmd, .wl,
  .pen, .tnd, .thm, .rst, .obs, .out, .free] s (State.join a0 s) := by
  intro a0 s
  unfold State.join
  exact .ite (.by (State.modWl_frame _ _) rfl (.refl _ _)) (.ite (.by (State.raise_frame _ _ (by rfl)) rfl (.by
    (State.modWl_frame _ _) rfl (.refl _ _))) (.by (State.raise_frame _ _ (by rfl)) rfl (.by (State.raiseTrigger_frame
    _ _ _ _) rfl (.by (State.wakeDown_frame _) rfl (.iff (.by (State.modWl_frame _ _) rfl (.by (State.modTb_frame _ _)
    rfl (.refl _ _))) (fun _ => (.by (State.reference_frame _ _ _) rfl (.refl _ _))))))))

theorem State.lineTrigger_frame : ∀ s, Frame [.regs, .tb, .hb, .felt, .fu, .cal, .scr, .reel, .link, .dma, .cmd, .wl,
  .pen, .tnd, .thm, .rst, .obs, .out, .free] s (State.lineTrigger s) := by
  intro s
  unfold State.lineTrigger
  refine .ite ?_ (.ite (.refl _ _) (.ite (.by (State.modTb_frame _ _) rfl (.refl _ _)) (.ite (.refl _ _) (.ite (.by
    (State.skipOne_frame _) rfl (.by (State.modTb_frame _ _) rfl (.refl _ _))) (.by (State.crossing_frame _ _) rfl
    (.by (State.modTb_frame _ _) rfl (.refl _ _)))))))
  split
  · exact .ite (.by (State.join_frame _ _) rfl (.refl _ _)) (.refl _ _)
  · exact .refl _ _

end Sys2Proof.Machine
end

