-- ==== Sys2Proof/Laws/Output.lean ====
section
/-! SUPPORT. The frames of the operations of Machine/Output.lean: each changes the parts named and no others, and
keeps the stores canonical. -/

namespace Sys2Proof.Machine

theorem State.select_frame : ∀ a0 a1 a2 s, Frame [.fmt] s (State.select a0 a1 a2 s).2 := by
  intro a0 a1 a2 s
  unfold State.select
  exact .iteSnd (.by (State.modFmt_frame _ _) rfl (.refl _ _)) (.refl _ _)

theorem State.bind_frame : ∀ a0 a1 a2 a3 s, Frame [.regs, .reel, .link, .dma, .cmd, .obs, .out] s (State.bind a0 a1 a2
  a3 s) := by
  intro a0 a1 a2 a3 s
  unfold State.bind
  exact .ite (.refl _ _) (.ite (.by (State.handUnit_frame _ _ _) rfl (.refl _ _)) (.by (State.raise_frame _ _ (by
    rfl)) rfl (.refl _ _)))

theorem State.formed_frame : ∀ a0 a1 s, Frame [.obs] s (State.formed a0 a1 s) := by
  intro a0 a1 s
  unfold State.formed
  exact .by (State.bump_frame _ _ _) rfl (.by (State.bump_frame _ _ _) rfl (.refl _ _))

theorem State.sendSeam_frame : ∀ a0 a1 a2 s, Frame [.wl] s (State.sendSeam a0 a1 a2 s) := by
  intro a0 a1 a2 s
  unfold State.sendSeam
  exact .ite (.refl _ _) (.iff (.iff (.refl _ _) (fun _ => (.by (State.sendChunk_frame _ _ _ _) rfl (.each (.refl _ _)
    (fun _ _ => (.by (State.sendChunk_frame _ _ _ _) rfl (.refl _ _))))))) (fun _ => (.by (State.sendChunk_frame _ _ _
    _) rfl (.each (.refl _ _) (fun _ _ => (.by (State.sendChunk_frame _ _ _ _) rfl (.refl _ _)))))))

theorem outFault_frame : ∀ a0 a1 s, Frame [.regs, .link, .obs, .out] s (outFault a0 a1 s).2 := by
  intro a0 a1 s
  unfold outFault
  split
  · exact .refl _ _
  · exact .refl _ _
  · exact .by (State.raise_frame _ _ (by rfl)) rfl (.refl _ _)
  · exact .refl _ _
  · exact .by (State.count_frame _ _ _ (by rfl)) rfl (.by (State.raise_frame _ _ (by rfl)) rfl (.refl _ _))
  · exact .by (State.count_frame _ _ _ (by rfl)) rfl (.by (State.raise_frame _ _ (by rfl)) rfl (.refl _ _))

theorem fitLine_frame : ∀ a0 a1 s, Frame [.regs, .link, .obs, .out] s (fitLine a0 a1 s).2 := by
  intro a0 a1 s
  unfold fitLine
  exact .iteSnd (.by (State.count_frame _ _ _ (by rfl)) rfl (.by (State.raise_frame _ _ (by rfl)) rfl (.refl _ _)))
    (.iteSnd (.by (State.count_frame _ _ _ (by rfl)) rfl (.by (State.raise_frame _ _ (by rfl)) rfl (.refl _ _)))
    (.refl _ _))

theorem State.emitLine_frame : ∀ a0 a1 a2 s, Frame [.regs, .fmt, .reel, .link, .dma, .cmd, .wl, .obs, .out] s
  (State.emitLine a0 a1 a2 s) := by
  intro a0 a1 a2 s
  unfold State.emitLine
  exact .ite (.ite (.ite (.by (State.sendSeam_frame _ _ _ _) rfl (.by (State.bind_frame _ _ _ _ _) rfl (.iff (.by
    (State.formed_frame _ _ _) rfl (.refl _ _)) (fun _ => (.by (State.record_frame _ _ _) rfl (.refl _ _)))))) (.refl
    _ _)) (.ite (.by (State.bind_frame _ _ _ _ _) rfl (.by (State.formed_frame _ _ _) rfl (.by (State.select_frame _ _
    _ _) rfl (.ite (.by (State.sendSeam_frame _ _ _ _) rfl (.by (State.bind_frame _ _ _ _ _) rfl (.iff (.by
    (State.formed_frame _ _ _) rfl (.refl _ _)) (fun _ => (.by (State.record_frame _ _ _) rfl (.refl _ _)))))) (.refl
    _ _))))) (.by (State.select_frame _ _ _ _) rfl (.ite (.by (State.sendSeam_frame _ _ _ _) rfl (.by
    (State.bind_frame _ _ _ _ _) rfl (.iff (.by (State.formed_frame _ _ _) rfl (.refl _ _)) (fun _ => (.by
    (State.record_frame _ _ _) rfl (.refl _ _)))))) (.refl _ _))))) (.ite (.by (State.bind_frame _ _ _ _ _) rfl (.by
    (State.formed_frame _ _ _) rfl (.by (State.select_frame _ _ _ _) rfl (.ite (.ite (.by (State.sendSeam_frame _ _ _
    _) rfl (.by (State.bind_frame _ _ _ _ _) rfl (.iff (.by (State.formed_frame _ _ _) rfl (.refl _ _)) (fun _ => (.by
    (State.record_frame _ _ _) rfl (.refl _ _)))))) (.refl _ _)) (.ite (.by (State.bind_frame _ _ _ _ _) rfl (.by
    (State.formed_frame _ _ _) rfl (.by (State.select_frame _ _ _ _) rfl (.ite (.by (State.sendSeam_frame _ _ _ _) rfl
    (.by (State.bind_frame _ _ _ _ _) rfl (.iff (.by (State.formed_frame _ _ _) rfl (.refl _ _)) (fun _ => (.by
    (State.record_frame _ _ _) rfl (.refl _ _)))))) (.refl _ _))))) (.by (State.select_frame _ _ _ _) rfl (.ite (.by
    (State.sendSeam_frame _ _ _ _) rfl (.by (State.bind_frame _ _ _ _ _) rfl (.iff (.by (State.formed_frame _ _ _) rfl
    (.refl _ _)) (fun _ => (.by (State.record_frame _ _ _) rfl (.refl _ _)))))) (.refl _ _)))))))) (.by
    (State.select_frame _ _ _ _) rfl (.ite (.ite (.by (State.sendSeam_frame _ _ _ _) rfl (.by (State.bind_frame _ _ _
    _ _) rfl (.iff (.by (State.formed_frame _ _ _) rfl (.refl _ _)) (fun _ => (.by (State.record_frame _ _ _) rfl
    (.refl _ _)))))) (.refl _ _)) (.ite (.by (State.bind_frame _ _ _ _ _) rfl (.by (State.formed_frame _ _ _) rfl (.by
    (State.select_frame _ _ _ _) rfl (.ite (.by (State.sendSeam_frame _ _ _ _) rfl (.by (State.bind_frame _ _ _ _ _)
    rfl (.iff (.by (State.formed_frame _ _ _) rfl (.refl _ _)) (fun _ => (.by (State.record_frame _ _ _) rfl (.refl _
    _)))))) (.refl _ _))))) (.by (State.select_frame _ _ _ _) rfl (.ite (.by (State.sendSeam_frame _ _ _ _) rfl (.by
    (State.bind_frame _ _ _ _ _) rfl (.iff (.by (State.formed_frame _ _ _) rfl (.refl _ _)) (fun _ => (.by
    (State.record_frame _ _ _) rfl (.refl _ _)))))) (.refl _ _)))))))

theorem State.outputLine_frame : ∀ a0 s, Frame [.regs, .fmt, .reel, .link, .dma, .cmd, .wl, .obs, .out] s (State.outputLine a0 s) := by
  have g : ∀ (fs : List OutFault) (l : Line) (s u : State), Frame [.regs, .fmt, .reel, .link, .dma, .cmd, .wl, .obs, .out] s u → Frame [.regs, .fmt, .reel, .link, .dma, .cmd, .wl, .obs, .out] s
      (fs.foldl (fun (l, s) f => outFault l f s) (l, u)).2 := by
    intro fs
    induction fs with
    | nil => exact fun _ _ _ h => h
    | cons f fs ih => exact fun l s u h => ih _ s _ (.by (outFault_frame _ _ _) rfl h)
  intro a0 s
  unfold State.outputLine
  split
  · exact (.refl _ _)
  · refine (.ite (.by (State.trace_frame _ _ _ _) rfl (.by (State.count_frame _ _ _ (by rfl)) rfl (.by (State.raise_frame _ _ (by rfl)) rfl (.each (.by (State.modFmt_frame _ _) rfl (.refl _ _)) fun f v => ?_)))) ?_)
    · split
      · exact .by (outFault_frame _ _ _) rfl (.refl _ _)
      · exact .by (outFault_frame _ _ _) rfl (.refl _ _)
      · exact .refl _ _
    · exact (.by (State.finishCuts_frame _) rfl (.by (State.emitLine_frame _ _ _ _) rfl (.by (fitLine_frame _ _ _) rfl (g _ _ _ _ (.by (State.modFmt_frame _ _) rfl (.refl _ _))))))

end Sys2Proof.Machine
end

