-- ==== Sys2Proof/Laws/Link.lean ====
section
/-! SUPPORT. The frames of the operations of Machine/Link.lean: each changes the parts named and no others, and
keeps the stores canonical. -/

namespace Sys2Proof.Machine

theorem State.resetChRegs_frame : ∀ a0 a1 s, Frame [.regs] s (State.resetChRegs a0 a1 s) := by
  intro ch keep s
  unfold State.resetChRegs
  refine .eachMem (.by (State.setReg_frame _ _ _ (hw_chCtrl _)) rfl (.refl _ _)) fun i m _ =>
    .by (State.setReg_frame _ _ _ ?_) rfl (.refl _ _)
  have : i < 0x18 := (List.all_eq_true.mp (by decide : [0x04, 0x08, 0x0C, 0x10, 0x14].all fun i => i < 0x18) i m) |>
    of_decide_eq_true
  exact hw_range (a := 0x090000) (b := 0x092000) rfl (by omega) (by omega)

theorem State.holdAll_frame : ∀ s, Frame [.regs, .reel, .link, .dma, .cmd, .obs, .out] s (State.holdAll s) := by
  intro s
  unfold State.holdAll
  exact .each (.refl _ _) (fun _ _ => (.iff (.refl _ _) (fun _ => (.by (State.resetChRegs_frame _ _ _) rfl (.by
    (State.holdCh_frame _ _) rfl (.refl _ _))))))

theorem State.resetIdle_frame : ∀ s, Frame [.regs, .dma] s (State.resetIdle s) := by
  intro s
  unfold State.resetIdle
  exact .each (.refl _ _) (fun _ _ => (.iff (.refl _ _) (fun _ => (.by (State.resetChRegs_frame _ _ _) rfl (.by
    (State.onCh_frame _ _ _) rfl (.refl _ _))))))

theorem State.resetDmaRegs_frame : ∀ s, Frame [.regs, .dma] s (State.resetDmaRegs s) := by
  intro s
  unfold State.resetDmaRegs
  refine .eachMem (.each (.refl _ _) fun ch _ => .by (State.onCh_frame _ _ _) rfl
    (.eachMem (.refl _ _) fun i m _ => .by (State.setReg_frame _ _ _ ?_) rfl (.refl _ _))) fun i m _ =>
    .by (State.setReg_frame _ _ _ ?_) rfl (.refl _ _)
  · have : i < 0x48 := (List.all_eq_true.mp (by decide : [0x24, 0x40, 0x44].all fun i => i < 0x48) i m) |>
      of_decide_eq_true
    exact hw_range (a := 0x090000) (b := 0x092000) rfl (by omega) (by omega)
  · have := (List.all_eq_true.mp (by decide : [0x092000, 0x092008, 0x09200C, 0x092010].all
      fun i => !softwareRegs.contains i) i m)
    simpa using this

theorem State.resetQueues_frame : ∀ s, Frame [.regs, .link, .dma, .cmd, .obs, .out] s (State.resetQueues s) := by
  intro s
  unfold State.resetQueues
  refine .each (.refl _ _) fun q _ => .by (State.onQueue_frame _ _ _) rfl (.iff (.eachMem (.refl _ _) fun i m _ =>
    .by (State.setReg_frame _ _ _ ?_) rfl (.refl _ _)) fun _ => .by (State.stopQueue_frame _ _) rfl (.refl _ _))
  have : i < 0x28 :=
    (List.all_eq_true.mp (by decide : [0x00, 0x04, 0x08, 0x0C, 0x10, 0x14, 0x24].all fun i => i < 0x28) i m) |>
    of_decide_eq_true
  exact hw_range (a := 0x0A0000) (b := 0x0A0400) rfl (by omega) (by omega)

theorem State.linkReset_frame : ∀ a0 s, Frame [.regs, .reel, .link, .dma, .cmd, .obs, .out] s (State.linkReset a0 s)
  := by
  intro a0 s
  unfold State.linkReset
  exact .by (State.modLink_frame _ _) rfl (.iff (.by (State.modDma_frame _ _) rfl (.by (State.resetIdle_frame _) rfl
    (.by (State.holdAll_frame _) rfl (.by (State.resetDmaRegs_frame _) rfl (.by (State.resetQueues_frame _) rfl (.refl
    _ _)))))) (fun _ => (.by (State.modReel_frame _ _) rfl (.refl _ _))))

theorem State.phyDark_frame : ∀ s, Frame [.link] s (State.phyDark s) := by
  intro s
  unfold State.phyDark
  exact .iff (.refl _ _) (fun _ => (.by (State.modLink_frame _ _) rfl (.refl _ _)))

theorem State.traceLink_frame : ∀ a0 s, Frame [.obs] s (State.traceLink a0 s) := by
  intro a0 s
  unfold State.traceLink
  exact .by (State.trace_frame _ _ _ _) rfl (.refl _ _)

theorem State.degrade_frame : ∀ s, Frame [.regs, .link, .tnd, .obs, .out] s (State.degrade s) := by
  intro s
  unfold State.degrade
  exact .by (State.raiseAlarm_frame _ _ (by rfl)) rfl (.refl _ _)

theorem State.linkUp_frame : ∀ a0 a1 a2 a3 a4 s, Frame [.regs, .link, .tnd, .obs, .out] s (State.linkUp a0 a1 a2 a3 a4
  s) := by
  intro a0 a1 a2 a3 a4 s
  unfold State.linkUp
  exact .ite (.refl _ _) (.iff (.by (State.traceLink_frame _ _) rfl (.by (State.modTnd_frame _ _) rfl (.by
    (State.modLink_frame _ _) rfl (.refl _ _)))) (fun _ => (.by (State.degrade_frame _) rfl (.refl _ _))))

theorem State.postWaiting_frame : ∀ s, Frame [.regs, .link, .dma, .obs, .out] s (State.postWaiting s) := by
  intro s
  unfold State.postWaiting
  exact .by (State.issuedNotices_frame _ _) rfl (.each (.by (State.modLink_frame _ _) rfl (.refl _ _)) (fun _ _ =>
    (.iff (.by (State.writeOut_frame _ _ _ _) rfl (.refl _ _)) (fun _ => (.by (State.msix_frame _ _) rfl (.refl _
    _))))))

theorem State.retrainLink_frame : ∀ a0 a1 s, Frame [.regs, .link, .dma, .tnd, .obs, .out] s (State.retrainLink a0 a1
  s) := by
  intro a0 a1 s
  unfold State.retrainLink
  exact .ite (.refl _ _) (.iff (.by (State.raise_frame _ _ (by rfl)) rfl (.iff (.by (State.modLink_frame _ _) rfl
    (.refl _ _)) (fun _ => (.by (State.postWaiting_frame _) rfl (.refl _ _))))) (fun _ => (.by (State.degrade_frame _)
    rfl (.refl _ _))))

theorem State.linkDown_frame : ∀ s, Frame [.regs, .reel, .link, .dma, .cmd, .tnd, .obs, .out] s (State.linkDown s) :=
  by
  intro s
  unfold State.linkDown
  exact .ite (.refl _ _) (.by (State.linkReset_frame _ _) rfl (.by (State.modTnd_frame _ _) rfl (.ite (.by
    (State.logOwn_frame _ _ _) rfl (.by (State.traceLink_frame _ _) rfl (.by (State.raiseAlarm_frame _ _ (by rfl)) rfl
    (.by (State.count_frame _ _ _ (by rfl)) rfl (.by (State.modLink_frame _ _) rfl (.refl _ _)))))) (.by
    (State.modTnd_frame _ _) rfl (.by (State.traceLink_frame _ _) rfl (.by (State.raiseAlarm_frame _ _ (by rfl)) rfl
    (.by (State.count_frame _ _ _ (by rfl)) rfl (.by (State.modLink_frame _ _) rfl (.refl _ _)))))))))

theorem State.writeLinkCtrl_frame : ∀ a0 s, Frame [.regs, .reel, .link, .dma, .cmd, .tnd, .obs, .out] s
  (State.writeLinkCtrl a0 s) := by
  intro a0 s
  unfold State.writeLinkCtrl
  exact .iff (.iff (.iff (.iff (.iff (.by (State.setReg_frame _ _ _ (by rfl)) rfl (.refl _ _)) (fun _ => (.by
    (State.emit_frame _ _) rfl (.refl _ _)))) (fun _ => (.by (State.modLink_frame _ _) rfl (.refl _ _)))) (fun _ =>
    (.by (State.modLink_frame _ _) rfl (.eachMem (.refl _ _) (fun _ h _ => (.by (State.fset_frame _ _ _
    (hw_glbLinkPrbsErr _ h)) rfl (.refl _ _))))))) (fun _ => (.by (State.modLink_frame _ _) rfl (.refl _ _)))) (fun _
    => (.by (State.linkDown_frame _) rfl (.refl _ _)))

theorem State.linkPrbs_frame : ∀ a0 a1 a2 a3 s, Frame [.regs, .reel, .link, .dma, .cmd, .tnd, .obs, .out] s
  (State.linkPrbs a0 a1 a2 a3 s) := by
  intro a0 a1 a2 a3 s
  unfold State.linkPrbs
  exact .ite (.by (State.writeLinkCtrl_frame _ _) rfl (.refl _ _)) (.eachMem (.by (State.modLink_frame _ _) rfl (.by
    (State.writeLinkCtrl_frame _ _) rfl (.refl _ _))) (fun _ h _ => (.iff (.refl _ _) (fun _ => (.by
    (State.countSat_frame _ _ _ (hw_glbLinkPrbsErr _ h)) rfl (.refl _ _))))))

theorem State.enterD3_frame : ∀ s, Frame [.regs, .reel, .link, .dma, .cmd, .obs, .out] s (State.enterD3 s) := by
  intro s
  unfold State.enterD3
  exact .ite (.refl _ _) (.by (State.modLink_frame _ _) rfl (.by (State.holdAll_frame _) rfl (.refl _ _)))

theorem State.sendPending_frame : ∀ s, Frame [.link, .out] s (State.sendPending s) := by
  intro s
  unfold State.sendPending
  exact .each (.refl _ _) (fun _ _ => (.iff (.refl _ _) (fun _ => (.by (State.emit_frame _ _) rfl (.by
    (State.modLink_frame _ _) rfl (.refl _ _))))))

theorem State.returnD0_frame : ∀ s, Frame [.link, .out] s (State.returnD0 s) := by
  intro s
  unfold State.returnD0
  exact .ite (.by (State.sendPending_frame _) rfl (.by (State.modLink_frame _ _) rfl (.refl _ _))) (.refl _ _)

theorem State.enterL1_frame : ∀ s, Frame [.link] s (State.enterL1 s) := by
  intro s
  unfold State.enterL1
  exact .iff (.refl _ _) (fun _ => (.by (State.modLink_frame _ _) rfl (.refl _ _)))

theorem State.viralFromHost_frame : ∀ s, Frame [.regs, .reel, .link, .dma, .cmd, .obs, .out] s (State.viralFromHost s)
  := by
  intro s
  unfold State.viralFromHost
  exact .ite (.by (State.holdAll_frame _) rfl (.by (State.raise_frame _ _ (by rfl)) rfl (.by (State.modLink_frame _ _)
    rfl (.refl _ _)))) (.refl _ _)

theorem State.viralOwn_frame : ∀ s, Frame [.regs, .reel, .link, .dma, .cmd, .obs, .out] s (State.viralOwn s) := by
  intro s
  unfold State.viralOwn
  exact .by (State.holdAll_frame _) rfl (.by (State.raise_frame _ _ (by rfl)) rfl (.by (State.modLink_frame _ _) rfl
    (.refl _ _)))

theorem State.commitHdm_frame : ∀ a0 a1 a2 a3 s, Frame [.link] s (State.commitHdm a0 a1 a2 a3 s) := by
  intro a0 a1 a2 a3 s
  unfold State.commitHdm
  exact .ite (.refl _ _) (.by (State.modLink_frame _ _) rfl (.refl _ _))

theorem State.snoop_frame : ∀ a0 s, Frame [.link, .out] s (State.snoop a0 s) := by
  intro a0 s
  unfold State.snoop
  exact .ite (.by (State.modLink_frame _ _) rfl (.refl _ _)) (.iff (.refl _ _) (fun _ => (.by (State.emit_frame _ _)
    rfl (.refl _ _))))

theorem State.cacheGrant_frame : ∀ s, Frame [.regs, .link, .dma, .obs, .out] s (State.cacheGrant s) := by
  intro s
  unfold State.cacheGrant
  split
  · exact .refl _ _
  · exact .ite (.refl _ _) (.by (State.issuedNotices_frame _ _) rfl (.each (.iff (.by (State.bump_frame _ _ _) rfl
      (.by (State.emit_frame _ _) rfl (.by (State.modLink_frame _ _) rfl (.refl _ _)))) (fun _ => (.by
      (State.msix_frame _ _) rfl (.refl _ _)))) (fun _ _ => (.by (State.emit_frame _ _) rfl (.refl _ _)))))

theorem State.dropPri_frame : ∀ s, Frame [.regs, .reel, .link, .dma, .cmd, .obs, .out] s (State.dropPri s) := by
  intro s
  unfold State.dropPri
  exact .each (.by (State.modDma_frame _ _) rfl (.refl _ _)) (fun _ _ => (.by (State.settle_frame _ _) rfl (.by
    (State.unpark_frame _ _ _) rfl (.refl _ _))))

theorem State.setEnables_frame : ∀ a0 a1 a2 s, Frame [.regs, .reel, .link, .dma, .cmd, .obs, .out] s (State.setEnables
  a0 a1 a2 s) := by
  intro a0 a1 a2 s
  unfold State.setEnables
  exact .iff (.iff (.by (State.modLink_frame _ _) rfl (.refl _ _)) (fun _ => (.by (State.modDma_frame _ _) rfl (.refl
    _ _)))) (fun _ => (.by (State.dropPri_frame _) rfl (.refl _ _)))

theorem State.modCfg_frame : ∀ a0 s, Frame [.link] s (State.modCfg a0 s) := by
  intro a0 s
  unfold State.modCfg
  exact .by (State.modLink_frame _ _) rfl (.refl _ _)

theorem State.configWrite_frame : ∀ a0 s, Frame [.regs, .reel, .link, .dma, .cmd, .obs, .out] s (State.configWrite a0
  s) := by
  intro a0 s
  unfold State.configWrite
  refine .ite (.refl _ _) ?_
  split
  · exact .by (State.setEnables_frame _ _ _ _) rfl (.refl _ _)
  · exact .by (State.modCfg_frame _ _) rfl (.refl _ _)
  · exact .by (State.modCfg_frame _ _) rfl (.refl _ _)
  · exact .by (State.modCfg_frame _ _) rfl (.refl _ _)

theorem State.unmask_frame : ∀ a0 s, Frame [.link, .out] s (State.unmask a0 s) := by
  intro a0 s
  unfold State.unmask
  exact .ite (.by (State.sendPending_frame _) rfl (.by (State.modLink_frame _ _) rfl (.refl _ _))) (.refl _ _)

theorem State.writeTable_frame : ∀ a0 a1 s, Frame [.link, .out] s (State.writeTable a0 a1 s) := by
  intro a0 a1 s
  unfold State.writeTable
  try dsimp only
  split
  · exact .by (State.modLink_frame _ _) rfl (.refl _ _)
  · exact .by (State.modLink_frame _ _) rfl (.refl _ _)
  · exact .by (State.modLink_frame _ _) rfl (.refl _ _)
  · exact .ite (.by (State.modLink_frame _ _) rfl (.refl _ _)) (.by (State.unmask_frame _ _) rfl (.refl _ _))

theorem State.write2_frame : ∀ a0 a1 s, Frame [.regs, .reel, .link, .dma, .cmd, .tnd, .obs, .out] s (State.write2 a0
  a1 s) := by
  intro a0 a1 s
  unfold State.write2
  exact .ite (.ite (.by (State.sqDoorbell_frame _ _ _) rfl (.refl _ _)) (.ite (.by (State.cqDoorbell_frame _ _ _) rfl
    (.refl _ _)) (.refl _ _))) (.ite (.ite (.by (State.ringTail_frame _ _ _) rfl (.refl _ _)) (.ite (.by
    (State.ringHead_frame _ _ _) rfl (.refl _ _)) (.refl _ _))) (.ite (.by (State.writeTable_frame _ _ _) rfl (.refl _
    _)) (.refl _ _)))

end Sys2Proof.Machine
end

