-- ==== Sys2Proof/Laws/WebLink.lean ====
section
/-! SUPPORT. The frames of the operations of Machine/WebLink.lean: each changes the parts named and no others, and
keeps the stores canonical. -/

namespace Sys2Proof.Machine

theorem State.train_frame : ∀ a0 s, Frame [.wl, .obs, .out] s (State.train a0 s) := by
  intro a0 s
  unfold State.train
  exact .by (State.refreshMember_frame _) rfl (.by (State.beginTraining_frame _ _) rfl (.refl _ _))

theorem State.beginFrames_frame : ∀ a0 s, Frame [.wl, .obs] s (State.beginFrames a0 s) := by
  intro a0 s
  unfold State.beginFrames
  exact .by (State.setPort_frame _ _ _) rfl (.by (State.onPort_frame _ _ _) rfl (.refl _ _))

theorem Frame.rxChunk {ps : List Part} {p : Fin 4} {type : Nat} {c : BitVec 432} {f : State → State} {s u : State}
    (h : Frame ps s u) (k : ∀ v, Frame ps v (f v)) (w : within [.regs, .obs] ps = true) :
    Frame ps s (u.rxChunk p type c f) := by
  refine h.then ?_
  unfold State.rxChunk
  exact (.ite (.refl _ _) (.ite (.by (State.bump_frame _ _ _) (within_trans rfl w) (.by (State.count_frame _ _ _ (hw_wlkPBad _))
    (within_trans rfl w) (.refl _ _))) (.iff (.refl _ _) k)))

theorem State.flood_frame : ∀ a0 a1 a2 s, Frame [.wl] s (State.flood a0 a1 a2 s) := by
  intro a0 a1 a2 s
  unfold State.flood
  exact .each (.refl _ _) (fun _ _ => (.each (.refl _ _) (fun _ _ => (.by (State.sendChunk_frame _ _ _ _) rfl (.refl _
    _)))))

theorem State.sendMessage_frame : ∀ a0 a1 s, Frame [.wl] s (State.sendMessage a0 a1 s) := by
  intro a0 a1 s
  unfold State.sendMessage
  exact .by (State.flood_frame _ _ _ _) rfl (.by (State.modWl_frame _ _) rfl (.refl _ _))

theorem State.tryMessage_frame : ∀ s, Frame [.regs, .reel, .link, .dma, .cmd, .wl, .tnd, .obs, .out, .free] s
  (State.tryMessage s) := by
  intro s
  unfold State.tryMessage
  split
  · refine .ite (.refl _ _) ?_
    split
    · exact .by (State.done_frame _ _ _ _ _) rfl (.by (State.modCmd_frame _ _) rfl (.by (State.sendMessage_frame _ _
        _) rfl (.refl _ _)))
    · exact .by (State.modCmd_frame _ _) rfl (.refl _ _)
  · exact .refl _ _

theorem State.messageIn_frame : ∀ a0 a1 a2 s, Frame [.regs, .link, .wl, .obs, .out] s (State.messageIn a0 a1 a2 s) :=
  by
  intro a0 a1 a2 s
  unfold State.messageIn
  exact .ite (.by (State.raise_frame _ _ (by rfl)) rfl (.by (State.modWl_frame _ _) rfl (.refl _ _))) (.by
    (State.raise_frame _ _ (by rfl)) rfl (.refl _ _))

theorem State.remoteAlarm_frame : ∀ a0 s, Frame [.regs, .link, .tnd, .obs, .out] s (State.remoteAlarm a0 s) := by
  intro a0 s
  unfold State.remoteAlarm
  exact .ite (.by (State.queueLog_frame _ _ _ _ _ _ _ _) rfl (.refl _ _)) (.refl _ _)

theorem State.segmentIn_frame : ∀ a0 a1 s, Frame [.regs, .link, .wl, .tnd, .obs, .out] s (State.segmentIn a0 a1 s) :=
  by
  intro a0 a1 s
  unfold State.segmentIn
  refine .ite (.refl _ _) ?_
  refine .ite (.by (State.flood_frame _ _ _ _) rfl (.refl _ _)) ?_
  try dsimp only
  split
  · exact .by (State.remoteAlarm_frame _ _) rfl (.by (State.messageIn_frame _ _ _ _) rfl (.by (State.modWl_frame _ _)
      rfl (.by (State.flood_frame _ _ _ _) rfl (.refl _ _))))
  · exact .by (State.modWl_frame _ _) rfl (.by (State.flood_frame _ _ _ _) rfl (.refl _ _))

theorem State.portUp_frame : ∀ a0 a1 a2 a3 a4 a5 s, Frame [.regs, .reel, .link, .dma, .cmd, .wl, .tnd, .obs, .out,
  .free] s (State.portUp a0 a1 a2 a3 a4 a5 s) := by
  intro a0 a1 a2 a3 a4 a5 s
  unfold State.portUp
  exact .ite (.refl _ _) (.by (State.tryMessage_frame _) rfl (.by (State.refreshMember_frame _) rfl (.by
    (State.raise_frame _ _ (by rfl)) rfl (.by (State.beginFrames_frame _ _) rfl (.by (State.onPort_frame _ _ _) rfl
    (.by (State.sendSets_frame _ _ _) rfl (.refl _ _)))))))

theorem State.failOver_frame : ∀ a0 s, Frame [.wl, .obs, .out] s (State.failOver a0 s) := by
  intro a0 s
  unfold State.failOver
  split
  · exact .ite (.refl _ _) (.ite (.by (State.beginFrames_frame _ _) rfl (.by (State.emit_frame _ _) rfl (.by
      (State.modWl_frame _ _) rfl (.refl _ _)))) (.by (State.modWl_frame _ _) rfl (.refl _ _)))
  · exact .refl _ _

theorem State.lockLoss_frame : ∀ a0 a1 s, Frame [.wl, .obs, .out] s (State.lockLoss a0 a1 s) := by
  intro a0 a1 s
  unfold State.lockLoss
  exact .ite (.refl _ _) (.ite (.by (State.idlePort_frame _ _) rfl (.refl _ _)) (.by (State.failOver_frame _ _) rfl
    (.by (State.primaryLapse_frame _ _) rfl (.by (State.onPort_frame _ _ _) rfl (.refl _ _)))))

theorem State.lockGain_frame : ∀ a0 a1 s, Frame [.wl] s (State.lockGain a0 a1 s) := by
  intro a0 a1 s
  unfold State.lockGain
  split
  · exact .ite (.by (State.onPort_frame _ _ _) rfl (.refl _ _)) (.refl _ _)
  · exact .refl _ _

theorem State.portDown_frame : ∀ a0 s, Frame [.regs, .link, .wl, .obs, .out] s (State.portDown a0 s) := by
  intro a0 s
  unfold State.portDown
  split
  · exact .ite (.by (State.train_frame _ _) rfl (.by (State.raise_frame _ _ (by rfl)) rfl (.by (State.count_frame _ _
      _ (hw_wlkPDown _)) rfl (.refl _ _)))) (.refl _ _)
  · exact .refl _ _

theorem State.portAbsent_frame : ∀ a0 s, Frame [.wl, .obs] s (State.portAbsent a0 s) := by
  intro a0 s
  unfold State.portAbsent
  exact .ite (.by (State.setPort_frame _ _ _) rfl (.refl _ _)) (.refl _ _)

theorem State.portRetry_frame : ∀ a0 s, Frame [.wl, .obs, .out] s (State.portRetry a0 s) := by
  intro a0 s
  unfold State.portRetry
  exact .ite (.by (State.train_frame _ _) rfl (.refl _ _)) (.refl _ _)

theorem State.secCheck_frame : ∀ s, Frame [.wl, .obs] s (State.secCheck s) := by
  intro s
  unfold State.secCheck
  try dsimp only
  split
  · exact .ite (.by (State.beginFrames_frame _ _) rfl (.by (State.onPort_frame _ _ _) rfl (.refl _ _))) (.refl _ _)
  · exact .refl _ _

theorem State.idleExit_frame : ∀ a0 s, Frame [.regs, .reel, .link, .dma, .cmd, .wl, .tnd, .obs, .out, .free] s
  (State.idleExit a0 s) := by
  intro a0 s
  unfold State.idleExit
  exact .ite (.by (State.tryMessage_frame _) rfl (.by (State.refreshMember_frame _) rfl (.by (State.beginFrames_frame
    _ _) rfl (.refl _ _)))) (.refl _ _)

theorem State.sendFrame_frame : ∀ a0 s, Frame [.wl, .obs, .out, .free] s (State.sendFrame a0 s) := by
  intro a0 s
  unfold State.sendFrame
  exact .ite (.refl _ _) (.ite (.by (State.refreshMember_frame _) rfl (.by (State.idlePort_frame _ _) rfl (.refl _
    _))) (.by (State.emit_frame _ _) rfl (.by (State.onPort_frame _ _ _) rfl ⟨fun p hp => by cases p <;> first | (cases hp; done) | rfl | exact fun _ _ => rfl, id⟩)))

theorem State.sendEcho_frame : ∀ a0 s, Frame [.wl] s (State.sendEcho a0 s) := by
  intro a0 s
  unfold State.sendEcho
  exact .ite (.refl _ _) (.by (State.sendChunk_frame _ _ _ _) rfl (.by (State.onPort_frame _ _ _) rfl (.refl _ _)))

theorem State.echoBack_frame : ∀ a0 a1 a2 s, Frame [.wl, .obs] s (State.echoBack a0 a1 a2 s) := by
  intro a0 a1 a2 s
  unfold State.echoBack
  exact .by (State.refreshMember_frame _) rfl (.iff (.iff (.by (State.onPort_frame _ _ _) rfl (.refl _ _)) (fun _ =>
    (.by (State.primaryLapse_frame _ _) rfl (.refl _ _)))) (fun _ => (.by (State.idlePort_frame _ _) rfl (.refl _
    _))))

theorem State.useSecondary_frame : ∀ s, Frame [.regs, .link, .wl, .tnd, .obs, .out] s (State.useSecondary s) := by
  intro s
  unfold State.useSecondary
  exact .by (State.raiseAlarm_frame _ _ (by rfl)) rfl (.by (State.modWl_frame _ _) rfl (.refl _ _))

theorem State.upReverse_frame : ∀ a0 s, Frame [.regs, .tb, .link, .wl, .tnd, .obs, .out] s (State.upReverse a0 s) :=
  by
  intro a0 s
  unfold State.upReverse
  exact .ite (.by (State.alarmOf_frame _ _ _) rfl (.by (State.raise_frame _ _ (by rfl)) rfl (.by (State.modTb_frame _
    _) rfl (.by (State.modWl_frame _ _) rfl (.refl _ _))))) (.iff (.iff (.by (State.modWl_frame _ _) rfl (.refl _ _))
    (fun _ => (.by (State.modTb_frame _ _) rfl (.refl _ _)))) (fun _ => (.by (State.modTb_frame _ _) rfl (.refl _
    _))))

theorem State.trackUp_frame : ∀ a0 s, Frame [.tb, .wl, .obs] s (State.trackUp a0 s) := by
  intro a0 s
  unfold State.trackUp
  exact .by (State.modTb_frame _ _) rfl (.ite (.by (State.reference_frame _ _ _) rfl (.ite (.by (State.modWl_frame _
    _) rfl (.by (State.modWl_frame _ _) rfl (.refl _ _))) (.by (State.modWl_frame _ _) rfl (.refl _ _)))) (.ite (.by
    (State.trace_frame _ _ _ _) rfl (.by (State.modTb_frame _ _) rfl (.ite (.by (State.modWl_frame _ _) rfl (.by
    (State.modWl_frame _ _) rfl (.refl _ _))) (.by (State.modWl_frame _ _) rfl (.refl _ _))))) (.ite (.by
    (State.modWl_frame _ _) rfl (.by (State.modWl_frame _ _) rfl (.refl _ _))) (.by (State.modWl_frame _ _) rfl (.refl
    _ _)))))

theorem State.takePacket_frame : ∀ a0 a1 s, Frame [.regs, .tb, .hb, .reel, .link, .dma, .cmd, .wl, .tnd, .obs, .out,
  .free] s (State.takePacket a0 a1 s) := by
  intro a0 a1 s
  unfold State.takePacket
  exact .by (State.tryMessage_frame _) rfl (.by (State.coastExposure_frame _) rfl (.by (State.refreshMember_frame _)
    rfl (.by (State.judgeStill_frame _) rfl (.by (State.trackUp_frame _ _) rfl (.by (State.upReverse_frame _ _) rfl
    (.iff (.by (State.modWl_frame _ _) rfl (.refl _ _)) (fun _ => (.by (State.raise_frame _ _ (by rfl)) rfl (.refl _
    _)))))))))

theorem State.packetIn_frame : ∀ a0 a1 a2 s, Frame [.regs, .tb, .hb, .reel, .link, .dma, .cmd, .wl, .tnd, .obs, .out,
  .free] s (State.packetIn a0 a1 a2 s) := by
  intro a0 a1 a2 s
  unfold State.packetIn
  exact .ite (.refl _ _) (.ite (.by (State.bump_frame _ _ _) rfl (.by (State.count_frame _ _ _ (hw_wlkPBad _)) rfl
    (.refl _ _))) (.ite (.ite (.by (State.bump_frame _ _ _) rfl (.refl _ _)) (.by (State.raiseOnce_frame _ _ (by rfl))
    rfl (.by (State.bump_frame _ _ _) rfl (.refl _ _)))) (.ite (.by (State.bump_frame _ _ _) rfl (.ite (.by
    (State.useSecondary_frame _) rfl (.refl _ _)) (.refl _ _))) (.ite (.by (State.bump_frame _ _ _) rfl (.by
    (State.count_frame _ _ _ (hw_wlkPBad _)) rfl (.ite (.by (State.useSecondary_frame _) rfl (.refl _ _)) (.refl _
    _)))) (.by (State.takePacket_frame _ _ _) rfl (.by (State.bump_frame _ _ _) rfl (.ite (.by
    (State.useSecondary_frame _) rfl (.refl _ _)) (.refl _ _))))))))

theorem State.holdoverExpire_frame : ∀ s, Frame [.regs, .tb, .hb, .link, .wl, .tnd, .obs, .out] s
  (State.holdoverExpire s) := by
  intro s
  unfold State.holdoverExpire
  exact .ite (.refl _ _) (.by (State.raise_frame _ _ (by rfl)) rfl (.by (State.beginCoast_frame _ _) rfl (.by
    (State.modWl_frame _ _) rfl (.refl _ _))))

theorem State.markIn_frame : ∀ a0 a1 s, Frame [.regs, .link, .wl, .tnd, .obs, .out] s (State.markIn a0 a1 s) := by
  intro a0 a1 s
  unfold State.markIn
  exact .ite (.refl _ _) (.ite (.ite (.iff (.refl _ _) (fun _ => (.by (State.sendMark_frame _ _) rfl (.refl _ _))))
    (.ite (.by (State.modWl_frame _ _) rfl (.by (State.raiseAlarm_frame _ _ (by rfl)) rfl (.by (State.modWl_frame _ _)
    rfl (.iff (.refl _ _) (fun _ => (.by (State.sendMark_frame _ _) rfl (.refl _ _))))))) (.by (State.modWl_frame _ _)
    rfl (.iff (.refl _ _) (fun _ => (.by (State.sendMark_frame _ _) rfl (.refl _ _))))))) (.by
    (State.refreshMember_frame _) rfl (.by (State.modWl_frame _ _) rfl (.iff (.refl _ _) (fun _ => (.by
    (State.sendMark_frame _ _) rfl (.refl _ _)))))))

theorem State.collect_frame : ∀ a0 s, Frame [.regs, .link, .cmd, .tnd, .obs, .out] s (State.collect a0 s) := by
  intro a0 s
  unfold State.collect
  exact .each (.refl _ _) (fun _ _ => (.iff (.by (State.modCmd_frame _ _) rfl (.refl _ _)) (fun _ => (.by
    (State.raiseAlarm_frame _ _ (by rfl)) rfl (.refl _ _)))))

theorem State.enumRequest_frame : ∀ a0 a1 s, Frame [.wl] s (State.enumRequest a0 a1 s) := by
  intro a0 a1 s
  unfold State.enumRequest
  exact .ite (.refl _ _) (.ite (.each (.refl _ _) (fun _ _ => (.by (State.sendChunk_frame _ _ _ _) rfl (.refl _ _))))
    (.by (State.sendChunk_frame _ _ _ _) rfl (.each (.refl _ _) (fun _ _ => (.by (State.sendChunk_frame _ _ _ _) rfl
    (.refl _ _))))))

theorem State.enumReply_frame : ∀ a0 a1 s, Frame [.regs, .link, .cmd, .wl, .tnd, .obs, .out] s (State.enumReply a0 a1
  s) := by
  intro a0 a1 s
  unfold State.enumReply
  exact .ite (.refl _ _) (.ite (.by (State.sendChunk_frame _ _ _ _) rfl (.refl _ _)) (.ite (.refl _ _) (.by
    (State.collect_frame _ _) rfl (.refl _ _))))

theorem State.enumDone_frame : ∀ s, Frame [.regs, .reel, .link, .dma, .cmd, .tnd, .obs, .out, .free] s (State.enumDone
  s) := by
  intro s
  unfold State.enumDone
  split
  · exact .ite (.refl _ _) (.ite (.by (State.done_frame _ _ _ _ _) rfl (.by (State.modCmd_frame _ _) rfl (.refl _ _)))
      (.by (State.complete_frame _ _ _ _ _ _) rfl (.by (State.modCmd_frame _ _) rfl (.refl _ _))))
  · exact .refl _ _

theorem State.seamUnit_frame : ∀ a0 a1 a2 s, Frame [.regs, .reel, .link, .dma, .cmd, .wl, .obs, .out] s
  (State.seamUnit a0 a1 a2 s) := by
  intro a0 a1 a2 s
  unfold State.seamUnit
  exact .by (State.handClass_frame _ _ _ _) rfl (.by (State.modWl_frame _ _) rfl (.refl _ _))

theorem State.seamStep_frame : ∀ a0 s, Frame [.regs, .reel, .link, .dma, .cmd, .wl, .obs, .out] s (State.seamStep a0
  s) := by
  intro a0 s
  unfold State.seamStep
  try dsimp only
  split
  · split
    · exact .ite (.by (State.seamUnit_frame _ _ _ _) rfl (.refl _ _)) (.refl _ _)
    · exact .by (State.seamUnit_frame _ _ _ _) rfl (.refl _ _)
    · exact .refl _ _
  · exact .refl _ _

theorem State.seamFlow_frame : ∀ a0 s, Frame [.regs, .reel, .link, .dma, .cmd, .wl, .obs, .out] s (State.seamFlow a0
  s) := by
  intro a0 s
  unfold State.seamFlow
  exact .fold (fun _ _ => (.by (State.seamStep_frame _ _) rfl (.refl _ _))) _ (.refl _ _)

theorem State.seamIn_frame : ∀ a0 a1 s, Frame [.regs, .reel, .link, .dma, .cmd, .wl, .obs, .out] s (State.seamIn a0 a1
  s) := by
  intro a0 a1 s
  unfold State.seamIn
  exact .ite (.by (State.bump_frame _ _ _) rfl (.refl _ _)) (.by (State.seamFlow_frame _ _) rfl (.by
    (State.modWl_frame _ _) rfl (.by (State.bump_frame _ _ _) rfl (.refl _ _))))

theorem State.seamMiss_frame : ∀ a0 s, Frame [.regs, .reel, .link, .dma, .cmd, .wl, .obs, .out] s (State.seamMiss a0
  s) := by
  intro a0 s
  unfold State.seamMiss
  refine .ite (.refl _ _) ?_
  split
  · exact .refl _ _
  · exact .ite (.refl _ _) (.by (State.seamFlow_frame _ _) rfl (.by (State.seamUnit_frame _ _ _ _) rfl (.by
      (State.raise_frame _ _ (by rfl)) rfl (.by (State.count_frame _ _ _ (by rfl)) rfl (.refl _ _)))))

theorem State.roleNow_frame : ∀ s, Frame [.regs, .tb, .reel, .link, .dma, .cmd, .wl, .tnd, .obs, .out, .free] s
  (State.roleNow s) := by
  intro s
  unfold State.roleNow
  exact .ite (.refl _ _) (.ite (.by (State.roleDone_frame _) rfl (.by (State.raiseAlarm_frame _ _ (by rfl)) rfl (.refl
    _ _))) (.by (State.roleDone_frame _) rfl (.by (State.refreshMember_frame _) rfl (.by (State.takeRole_frame _ _)
    rfl (.refl _ _)))))

theorem State.wlkCtrlWritten_frame : ∀ a0 s, Frame [.regs, .tb, .reel, .link, .dma, .cmd, .wl, .tnd, .obs, .out,
  .free] s (State.wlkCtrlWritten a0 s) := by
  intro a0 s
  unfold State.wlkCtrlWritten
  exact .by (State.tryMessage_frame _) rfl (.by (State.roleNow_frame _) rfl (.by (State.refreshMember_frame _) rfl
    (.by (State.modWl_frame _ _) rfl (.by (State.modWl_frame _ _) rfl (.refl _ _)))))

theorem State.writeWlkCtrl_frame : ∀ a0 s, Frame [.regs, .settings, .tb, .reel, .link, .dma, .cmd, .wl, .tnd, .obs,
  .out, .free] s (State.writeWlkCtrl a0 s) := by
  intro a0 s
  unfold State.writeWlkCtrl
  exact .by (State.wlkCtrlWritten_frame _ _) rfl (.by (State.setReg_any _ _ _) rfl (.refl _ _))

theorem State.writePortCtrl_frame : ∀ a0 a1 s, Frame [.regs, .wl, .obs, .out] s (State.writePortCtrl a0 a1 s) := by
  intro a0 a1 s
  unfold State.writePortCtrl
  exact .ite (.by (State.refreshMember_frame _) rfl (.by (State.setPort_frame _ _ _) rfl (.by (State.onPort_frame _ _
    _) rfl (.iff (.iff (.by (State.setReg_frame _ _ _ (hw_portCtrl _)) rfl (.refl _ _)) (fun _ => (.by
    (State.onPort_frame _ _ _) rfl (.by (State.fset_frame _ _ _ (hw_wlkPErr _ _ (by decide))) rfl (.by
    (State.fset_frame _ _ _ (hw_wlkPErr _ _ (by decide))) rfl (.refl _ _)))))) (fun _ => (.by (State.emit_frame _ _)
    rfl (.refl _ _))))))) (.ite (.ite (.iff (.iff (.by (State.setReg_frame _ _ _ (hw_portCtrl _)) rfl (.refl _ _))
    (fun _ => (.by (State.onPort_frame _ _ _) rfl (.by (State.fset_frame _ _ _ (hw_wlkPErr _ _ (by decide))) rfl (.by
    (State.fset_frame _ _ _ (hw_wlkPErr _ _ (by decide))) rfl (.refl _ _)))))) (fun _ => (.by (State.emit_frame _ _)
    rfl (.refl _ _)))) (.by (State.refreshMember_frame _) rfl (.by (State.setPort_frame _ _ _) rfl (.by
    (State.onPort_frame _ _ _) rfl (.iff (.iff (.by (State.setReg_frame _ _ _ (hw_portCtrl _)) rfl (.refl _ _)) (fun _
    => (.by (State.onPort_frame _ _ _) rfl (.by (State.fset_frame _ _ _ (hw_wlkPErr _ _ (by decide))) rfl (.by
    (State.fset_frame _ _ _ (hw_wlkPErr _ _ (by decide))) rfl (.refl _ _)))))) (fun _ => (.by (State.emit_frame _ _)
    rfl (.refl _ _)))))))) (.ite (.by (State.train_frame _ _) rfl (.iff (.iff (.by (State.setReg_frame _ _ _
    (hw_portCtrl _)) rfl (.refl _ _)) (fun _ => (.by (State.onPort_frame _ _ _) rfl (.by (State.fset_frame _ _ _
    (hw_wlkPErr _ _ (by decide))) rfl (.by (State.fset_frame _ _ _ (hw_wlkPErr _ _ (by decide))) rfl (.refl _ _))))))
    (fun _ => (.by (State.emit_frame _ _) rfl (.refl _ _))))) (.iff (.iff (.by (State.setReg_frame _ _ _ (hw_portCtrl
    _)) rfl (.refl _ _)) (fun _ => (.by (State.onPort_frame _ _ _) rfl (.by (State.fset_frame _ _ _ (hw_wlkPErr _ _
    (by decide))) rfl (.by (State.fset_frame _ _ _ (hw_wlkPErr _ _ (by decide))) rfl (.refl _ _)))))) (fun _ => (.by
    (State.emit_frame _ _) rfl (.refl _ _))))))

theorem State.portPrbs_frame : ∀ a0 a1 a2 a3 s, Frame [.regs, .wl, .obs, .out] s (State.portPrbs a0 a1 a2 a3 s) := by
  intro a0 a1 a2 a3 s
  unfold State.portPrbs
  exact .ite (.by (State.writePortCtrl_frame _ _ _) rfl (.refl _ _)) (.eachMem (.by (State.onPort_frame _ _ _) rfl
    (.by (State.writePortCtrl_frame _ _ _) rfl (.refl _ _))) (fun _ h _ => (.iff (.refl _ _) (fun _ => (.by
    (State.countSat_frame _ _ _ (hw_wlkPErr _ _ h)) rfl (.refl _ _))))))

theorem State.popMessage_frame : ∀ s, Frame [.wl] s (State.popMessage s) := by
  intro s
  unfold State.popMessage
  exact .by (State.modWl_frame _ _) rfl (.refl _ _)

theorem State.messageTimeout_frame : ∀ a0 s, Frame [.regs, .reel, .link, .dma, .cmd, .wl, .tnd, .obs, .out, .free] s
  (State.messageTimeout a0 s) := by
  intro a0 s
  unfold State.messageTimeout
  split
  · exact .ite (.refl _ _) (.ite (.by (State.tryMessage_frame _) rfl (.refl _ _)) (.ite (.by (State.done_frame _ _ _ _
      _) rfl (.by (State.modCmd_frame _ _) rfl (.refl _ _))) (.refl _ _)))
  · exact .refl _ _

end Sys2Proof.Machine
end

