-- ==== Sys2Proof/Laws/Clock.lean ====
section
/-! SUPPORT. The frames of the operations of Machine/Clock.lean: each changes the parts named and no others, and
keeps the stores canonical. -/

namespace Sys2Proof.Machine

theorem State.setMdll_frame : ∀ a0 a1 s, Frame [.clk] s (State.setMdll a0 a1 s) := by
  intro a0 a1 s
  unfold State.setMdll
  exact .by (State.modClk_frame _ _) rfl (.refl _ _)

theorem hw_bypass (m : Mdll) : softwareRegs.contains (bypassEvent m).off = false := by
  cases m <;> rfl

theorem State.unlock_frame : ∀ a0 a1 s, Frame [.regs, .hb, .felt, .link, .clk, .tnd, .obs, .out] s (State.unlock a0 a1
  s) := by
  intro a0 a1 s
  unfold State.unlock
  try dsimp only
  split
  · exact .by (State.failSlice_frame _ _ _) rfl (.by (State.failSlice_frame _ _ _) rfl (.iff (.by (State.setMdll_frame
      _ _ _) rfl (.refl _ _)) (fun _ => (.by (State.bump_frame _ _ _) rfl (.by (State.raiseAlarm_frame _ _ (hw_bypass
      _)) rfl (.refl _ _))))))
  · exact .iff (.by (State.setMdll_frame _ _ _) rfl (.refl _ _)) (fun _ => (.by (State.bump_frame _ _ _) rfl (.by
      (State.raiseAlarm_frame _ _ (hw_bypass _)) rfl (.refl _ _))))

theorem State.loseRef_frame : ∀ s, Frame [.regs, .hb, .felt, .link, .clk, .tnd, .obs, .out] s (State.loseRef s) := by
  intro s
  unfold State.loseRef
  exact .each (.by (State.raiseAlarm_frame _ _ (by rfl)) rfl (.by (State.modClk_frame _ _) rfl (.refl _ _))) (fun _ _
    => (.by (State.unlock_frame _ _ _) rfl (.refl _ _)))

theorem State.refclkStops_frame : ∀ s, Frame [.regs, .hb, .felt, .reel, .link, .dma, .cmd, .clk, .tnd, .obs, .out] s
  (State.refclkStops s) := by
  intro s
  unfold State.refclkStops
  exact .iff (.by (State.modClk_frame _ _) rfl (.by (State.linkDown_frame _) rfl (.by (State.modLink_frame _ _) rfl
    (.by (State.phyDark_frame _) rfl (.refl _ _))))) (fun _ => (.by (State.loseRef_frame _) rfl (.refl _ _)))

theorem State.refBack_frame : ∀ s, Frame [.regs, .link, .clk, .tnd, .obs, .out] s (State.refBack s) := by
  intro s
  unfold State.refBack
  exact .ite (.by (State.raiseAlarm_frame _ _ (by rfl)) rfl (.by (State.modClk_frame _ _) rfl (.refl _ _))) (.refl _
    _)

theorem State.referenceReturns_frame : ∀ a0 s, Frame [.regs, .link, .clk, .tnd, .obs, .out] s (State.referenceReturns
  a0 s) := by
  intro a0 s
  unfold State.referenceReturns
  exact .ite (.iff (.by (State.modLink_frame _ _) rfl (.by (State.modClk_frame _ _) rfl (.refl _ _))) (fun _ => (.by
    (State.refBack_frame _) rfl (.refl _ _)))) (.iff (.by (State.modClk_frame _ _) rfl (.refl _ _)) (fun _ => (.by
    (State.refBack_frame _) rfl (.refl _ _))))

theorem State.lockLost_frame : ∀ a0 s, Frame [.regs, .hb, .felt, .link, .clk, .tnd, .obs, .out] s (State.lockLost a0
  s) := by
  intro a0 s
  unfold State.lockLost
  exact .ite (.by (State.unlock_frame _ _ _) rfl (.refl _ _)) (.refl _ _)

theorem State.stableDone_frame : ∀ a0 s, Frame [.clk] s (State.stableDone a0 s) := by
  intro a0 s
  unfold State.stableDone
  exact .ite (.by (State.setMdll_frame _ _ _) rfl (.refl _ _)) (.refl _ _)

theorem State.tickOffset_frame : ∀ a0 s, Frame [.regs, .link, .clk, .tnd, .obs, .out] s (State.tickOffset a0 s) := by
  intro a0 s
  unfold State.tickOffset
  exact .ite (.by (State.modClk_frame _ _) rfl (.refl _ _)) (.by (State.raiseAlarm_frame _ _ (by rfl)) rfl (.by
    (State.modClk_frame _ _) rfl (.refl _ _)))

theorem State.countOver_frame : ∀ s, Frame [.clk] s (State.countOver s) := by
  intro s
  unfold State.countOver
  exact .ite (.refl _ _) (.by (State.modClk_frame _ _) rfl (.refl _ _))

theorem State.relocked_frame : ∀ a0 a1 s, Frame [.regs, .reel, .window, .poison, .link, .clk, .tnd, .obs, .out] s
  (State.relocked a0 a1 s) := by
  intro a0 a1 s
  unfold State.relocked
  refine .ite ?_ (.refl _ _)
  try dsimp only
  split
  · exact .by (State.tickOffset_frame _ _) rfl (.by (State.raiseAlarm_frame _ _ (by rfl)) rfl (.by
      (State.countOver_frame _) rfl (.by (State.setMdll_frame _ _ _) rfl (.refl _ _))))
  · exact .by (State.serveWindow_frame _) rfl (.by (State.raiseAlarm_frame _ _ (by rfl)) rfl (.by
      (State.countOver_frame _) rfl (.by (State.setMdll_frame _ _ _) rfl (.refl _ _))))
  · exact .by (State.modClk_frame _ _) rfl (.by (State.raiseAlarm_frame _ _ (by rfl)) rfl (.by (State.countOver_frame
      _) rfl (.by (State.setMdll_frame _ _ _) rfl (.refl _ _))))

theorem State.slewDone_frame : ∀ s, Frame [.clk] s (State.slewDone s) := by
  intro s
  unfold State.slewDone
  exact .ite (.by (State.modClk_frame _ _) rfl (.refl _ _)) (.refl _ _)

theorem State.measureRef_frame : ∀ a0 a1 s, Frame [.regs, .hb, .felt, .reel, .link, .dma, .cmd, .clk, .tnd, .obs,
  .out] s (State.measureRef a0 a1 s) := by
  intro a0 a1 s
  unfold State.measureRef
  exact .ite (.by (State.refclkStops_frame _) rfl (.by (State.modClk_frame _ _) rfl (.refl _ _))) (.ite (.iff (.by
    (State.modClk_frame _ _) rfl (.by (State.modLink_frame _ _) rfl (.by (State.modClk_frame _ _) rfl (.refl _ _))))
    (fun _ => (.by (State.refBack_frame _) rfl (.refl _ _)))) (.iff (.by (State.modClk_frame _ _) rfl (.by
    (State.modLink_frame _ _) rfl (.by (State.modClk_frame _ _) rfl (.refl _ _)))) (fun _ => (.by (State.loseRef_frame
    _) rfl (.refl _ _)))))

theorem State.clkWritten_frame : ∀ a0 a1 s, Frame [.regs, .hb, .felt, .link, .clk, .tnd, .obs, .out] s
  (State.clkWritten a0 a1 s) := by
  intro a0 a1 s
  unfold State.clkWritten
  exact .ite (.by (State.loseRef_frame _) rfl (.iff (.refl _ _) (fun _ => (.by (State.modClk_frame _ _) rfl (.refl _
    _))))) (.iff (.iff (.iff (.iff (.refl _ _) (fun _ => (.by (State.modClk_frame _ _) rfl (.refl _ _)))) (fun _ =>
    (.by (State.unlock_frame _ _ _) rfl (.refl _ _)))) (fun _ => (.by (State.unlock_frame _ _ _) rfl (.refl _ _))))
    (fun _ => (.each (.refl _ _) (fun _ _ => (.by (State.unlock_frame _ _ _) rfl (.refl _ _))))))

theorem State.tenderRearm_frame : ∀ a0 s, Frame [.regs, .hb, .felt, .link, .clk, .tnd, .obs, .out] s
  (State.tenderRearm a0 s) := by
  intro a0 s
  unfold State.tenderRearm
  exact .ite (.by (State.rearmSlice_frame _ _) rfl (.by (State.rearmSlice_frame _ _) rfl (.by (State.modClk_frame _ _)
    rfl (.refl _ _)))) (.refl _ _)

end Sys2Proof.Machine
end

