-- ==== Sys2Proof/Laws/Thermal.lean ====
section
/-! SUPPORT. The frames of the operations of Machine/Thermal.lean: each changes the parts named and no others, and
keeps the stores canonical. -/

namespace Sys2Proof.Machine

theorem State.onNode_frame : ∀ a0 a1 s, Frame [.thm] s (State.onNode a0 a1 s) := by
  intro a0 a1 s
  unfold State.onNode
  exact .by (State.modThm_frame _ _) rfl (.refl _ _)

theorem State.sensorFail_frame : ∀ a0 s, Frame [.regs, .link, .tnd, .thm, .obs, .out] s (State.sensorFail a0 s) := by
  intro a0 s
  unfold State.sensorFail
  exact .by (State.raiseAlarm_frame _ _ (by rfl)) rfl (.by (State.onNode_frame _ _ _) rfl (.refl _ _))

theorem State.rangeCheck_frame : ∀ s, Frame [.regs, .link, .tnd, .thm, .obs, .out] s (State.rangeCheck s) := by
  intro s
  unfold State.rangeCheck
  exact .each (.refl _ _) (fun _ _ => (.iff (.refl _ _) (fun _ => (.by (State.sensorFail_frame _ _) rfl (.refl _
    _)))))

theorem State.crossCheck_frame : ∀ s, Frame [.regs, .link, .tnd, .thm, .obs, .out] s (State.crossCheck s) := by
  intro s
  unfold State.crossCheck
  exact .each (.refl _ _) (fun _ _ => (.ite (.refl _ _) (.ite (.iff (.by (State.onNode_frame _ _ _) rfl (.refl _ _))
    (fun _ => (.by (State.sensorFail_frame _ _) rfl (.refl _ _)))) (.by (State.onNode_frame _ _ _) rfl (.refl _ _)))))

theorem State.rateOfRise_frame : ∀ s, Frame [.regs, .link, .tnd, .thm, .obs, .out] s (State.rateOfRise s) := by
  intro s
  unfold State.rateOfRise
  exact .iff (.by (State.modThm_frame _ _) rfl (.refl _ _)) (fun _ => (.by (State.raiseAlarm_frame _ _ (by rfl)) rfl
    (.refl _ _)))

theorem State.enterHold_frame : ∀ a0 a1 s, Frame [.regs, .link, .tnd, .thm, .obs, .out] s (State.enterHold a0 a1 s) :=
  by
  intro a0 a1 s
  unfold State.enterHold
  exact .ite (.by (State.raiseAlarm_frame _ _ (by rfl)) rfl (.by (State.modThm_frame _ _) rfl (.refl _ _))) (.refl _
    _)

theorem State.holdCheck_frame : ∀ a0 a1 s, Frame [.regs, .link, .tnd, .thm, .obs, .out] s (State.holdCheck a0 a1 s) :=
  by
  intro a0 a1 s
  unfold State.holdCheck
  split
  · exact .ite (.by (State.modThm_frame _ _) rfl (.refl _ _)) (.refl _ _)
  · exact .by (State.enterHold_frame _ _ _) rfl (.refl _ _)

theorem State.levelStep_frame : ∀ s, Frame [.regs, .link, .tnd, .thm, .obs, .out] s (State.levelStep s) := by
  intro s
  unfold State.levelStep
  exact .ite (.refl _ _) (.iff (.iff (.by (State.trace_frame _ _ _ _) rfl (.by (State.modThm_frame _ _) rfl (.refl _
    _))) (fun _ => (.by (State.raiseAlarm_frame _ _ (by rfl)) rfl (.refl _ _)))) (fun _ => (.by (State.raise_frame _ _
    (by rfl)) rfl (.refl _ _))))

theorem State.takePower_frame : ∀ a0 a1 s, Frame [.thm, .obs] s (State.takePower a0 a1 s) := by
  intro a0 a1 s
  unfold State.takePower
  exact .by (State.bump_frame _ _ _) rfl (.by (State.modThm_frame _ _) rfl (.refl _ _))

theorem State.criticalStop_frame : ∀ s, Frame [.regs, .fu, .reel, .link, .dma, .cmd, .tnd, .thm, .obs, .out, .free] s
  (State.criticalStop s) := by
  intro s
  unfold State.criticalStop
  exact .by (State.modThm_frame _ _) rfl (.by (State.endCommits_frame _) rfl (.by (State.alarmOf_frame _ _ _) rfl (.by
    (State.raise_frame _ _ (by rfl)) rfl (.refl _ _))))

theorem State.closeAll_frame : ∀ s, Frame [.regs, .hb, .felt, .obs] s (State.closeAll s) := by
  intro s
  unfold State.closeAll
  exact .by (State.dropArea_frame _) rfl (.by (State.modFelt_frame _ _) rfl (.each (.refl _ _) (fun _ _ => (.by
    (State.closeLine_frame _ _) rfl (.refl _ _)))))

theorem State.beginDrain_frame : ∀ s, Frame [.regs, .hb, .felt, .thm, .obs] s (State.beginDrain s) := by
  intro s
  unfold State.beginDrain
  exact .by (State.modThm_frame _ _) rfl (.by (State.closeAll_frame _) rfl (.refl _ _))

theorem State.safeState_frame : ∀ s, Frame [.hb, .felt, .cal, .pen, .thm, .rst] s (State.safeState s) := by
  intro s
  unfold State.safeState
  exact .by (State.modThm_frame _ _) rfl (.by (State.modRst_frame _ _) rfl (.by (State.modCal_frame _ _) rfl (.by
    (State.modFelt_frame _ _) rfl (.by (State.modHb_frame _ _) rfl (.by (State.quitAll_frame _) rfl (.refl _ _))))))

theorem State.trip_frame : ∀ s, Frame [.reel, .window, .poison, .link, .wl, .pen, .clk, .tnd, .thm, .rst] s
  (State.trip s) := by
  intro s
  unfold State.trip
  exact .by (State.modRst_frame _ _) rfl (.by (State.modTnd_frame _ _) rfl (.by (State.modWl_frame _ _) rfl (.by
    (State.modLink_frame _ _) rfl (.by (State.phyDark_frame _) rfl (.by (State.modClk_frame _ _) rfl (.by
    (Frame.put_window_poison _) rfl (.by (State.modReel_frame _ _) rfl (.by (State.modPen_frame _ _) rfl (.by
    (State.modThm_frame _ _) rfl (.refl _ _))))))))))

theorem State.coreDroop_frame : ∀ s, Frame [.regs, .cal, .fmt, .link, .thm, .obs, .out] s (State.coreDroop s) := by
  intro s
  unfold State.coreDroop
  exact .by (State.bump_frame _ _ _) rfl (.by (State.trace_frame _ _ _ _) rfl (.by (State.raise_frame _ _ (by rfl))
    rfl (.by (State.modFmt_frame _ _) rfl (.by (State.modCal_frame _ _) rfl (.by (State.modThm_frame _ _) rfl (.refl _
    _))))))

theorem State.crystalFails_frame : ∀ s, Frame [.regs, .hb, .felt, .link, .wl, .clk, .tnd, .thm, .rst, .obs, .out] s
  (State.crystalFails s) := by
  intro s
  unfold State.crystalFails
  exact .ite (.refl _ _) (.by (State.beginDrain_frame _) rfl (.by (State.postAlarm_frame _ _ _) rfl (.each (.by
    (State.modRst_frame _ _) rfl (.iff (.by (State.modClk_frame _ _) rfl (.by (State.raiseAlarm_frame _ _ (by rfl))
    rfl (.refl _ _))) (fun _ => (.by (State.loseRef_frame _) rfl (.refl _ _))))) (fun _ _ => (.by (State.setPort_frame
    _ _ _) rfl (.refl _ _))))))

theorem State.rearmSensors_frame : ∀ s, Frame [.regs, .link, .tnd, .thm, .obs, .out] s (State.rearmSensors s) := by
  intro s
  unfold State.rearmSensors
  exact .by (State.enterHold_frame _ _ _) rfl (.by (State.rangeCheck_frame _) rfl (.by (State.modThm_frame _ _) rfl
    (.refl _ _)))

end Sys2Proof.Machine
end

