-- ==== Sys2Proof/Laws/RegView.lean ====
section
/-! SUPPORT. The frames of the operations of Machine/RegView.lean: each changes the parts named and no others, and
keeps the stores canonical. -/

namespace Sys2Proof.Machine

theorem State.dropShadow_frame : ∀ a0 a1 s, Frame [.shadow] s (State.dropShadow a0 a1 s) := by
  intro a0 a1 s
  unfold State.dropShadow
  exact ⟨fun p hp => by cases p <;> first | (cases hp; done) | rfl | exact fun _ _ => rfl, id⟩

end Sys2Proof.Machine
end

