-- ==== Sys2Proof/Laws/Tender.lean ====
section
/-! SUPPORT. The frames of the operations of Machine/Tender.lean: each changes the parts named and no others, and
keeps the stores canonical. -/

namespace Sys2Proof.Machine

theorem State.onFw_frame : ∀ a0 a1 s, Frame [.tnd] s (State.onFw a0 a1 s) := by
  intro a0 a1 s
  unfold State.onFw
  exact .by (State.modTnd_frame _ _) rfl (.refl _ _)

theorem State.verify_frame : ∀ a0 s, Frame [.tnd] s (State.verify a0 s).2 := by
  intro a0 s
  unfold State.verify
  exact .by (State.onFw_frame _ _ _) rfl (.refl _ _)

theorem State.onTables_frame : ∀ a0 a1 s, Frame [.cal] s (State.onTables a0 a1 s) := by
  intro a0 a1 s
  unfold State.onTables
  exact .by (State.modCal_frame _ _) rfl (.refl _ _)

theorem State.onSlot_frame : ∀ a0 a1 s, Frame [.tnd] s (State.onSlot a0 a1 s) := by
  intro a0 a1 s
  unfold State.onSlot
  exact .by (State.modTnd_frame _ _) rfl (.refl _ _)

theorem State.loadSlot_frame : ∀ a0 s, Frame [.regs, .cal, .link, .tnd, .obs, .out] s (State.loadSlot a0 s) := by
  intro a0 s
  unfold State.loadSlot
  exact .ite (.by (State.logOwn_frame _ _ _) rfl (.by (State.onTables_frame _ _ _) rfl (.refl _ _))) (.by
    (State.postAlarm_frame _ _ _) rfl (.by (State.onTables_frame _ _ _) rfl (.refl _ _)))

theorem State.nvEffect_frame : ∀ a0 s, Frame [.regs, .tnd] s (State.nvEffect a0 s) := by
  intro a0 s
  unfold State.nvEffect
  split
  · exact .by (State.onFw_frame _ _ _) rfl (.refl _ _)
  · exact .by (State.onFw_frame _ _ _) rfl (.refl _ _)
  · exact .refl _ _
  · exact .by (State.modTnd_frame _ _) rfl (.refl _ _)
  · exact .by (State.modTnd_frame _ _) rfl (.refl _ _)
  · exact .by (State.modTnd_frame _ _) rfl (.refl _ _)
  · exact .by (State.onSlot_frame _ _ _) rfl (.refl _ _)
  · exact .ite (.by (State.onSlot_frame _ _ _) rfl (.refl _ _)) (.refl _ _)
  · exact .by (State.onSlot_frame _ _ _) rfl (.refl _ _)
  · exact .by (State.setReg_frame _ _ _ (by rfl)) rfl (.by (State.modTnd_frame _ _) rfl (.refl _ _))
  · exact .by (State.modTnd_frame _ _) rfl (.refl _ _)
  · exact .by (State.modTnd_frame _ _) rfl (.refl _ _)

theorem State.nvFinish_frame : ∀ a0 s, Frame [.regs, .reel, .link, .dma, .cmd, .tnd, .obs, .out, .free] s
  (State.nvFinish a0 s) := by
  intro a0 s
  unfold State.nvFinish
  try dsimp only
  split
  · exact .by (State.done_frame _ _ _ _ _) rfl (.by (State.onFw_frame _ _ _) rfl (.by (State.modTnd_frame _ _) rfl
      (.refl _ _)))
  · exact .by (State.done_frame _ _ _ _ _) rfl (.by (State.logOwn_frame _ _ _) rfl (.by (State.modTnd_frame _ _) rfl
      (.refl _ _)))
  · exact .by (State.done_frame _ _ _ _ _) rfl (.by (State.logOwn_frame _ _ _) rfl (.by (State.modTnd_frame _ _) rfl
      (.refl _ _)))
  · exact .by (State.logOwn_frame _ _ _) rfl (.by (State.modTnd_frame _ _) rfl (.refl _ _))
  · exact .by (State.modTnd_frame _ _) rfl (.refl _ _)
  · exact .by (State.modTnd_frame _ _) rfl (.refl _ _)
  · exact .by (State.logOwn_frame _ _ _) rfl (.by (State.modTnd_frame _ _) rfl (.by (State.modTnd_frame _ _) rfl
      (.refl _ _)))

theorem State.nvBroken_frame : ∀ a0 s, Frame [.tnd] s (State.nvBroken a0 s) := by
  intro a0 s
  unfold State.nvBroken
  split
  · exact .by (State.onFw_frame _ _ _) rfl (.refl _ _)
  · exact .by (State.onSlot_frame _ _ _) rfl (.refl _ _)
  · exact .refl _ _

theorem State.nvNote_frame : ∀ a0 a1 s, Frame [.tnd] s (State.nvNote a0 a1 s) := by
  intro a0 a1 s
  unfold State.nvNote
  exact .by (State.modTnd_frame _ _) rfl (.refl _ _)

theorem State.nvRefuse_frame : ∀ a0 a1 s, Frame [.regs, .reel, .link, .dma, .cmd, .tnd, .obs, .out, .free] s
  (State.nvRefuse a0 a1 s) := by
  intro a0 a1 s
  unfold State.nvRefuse
  try dsimp only
  split
  · refine .by (State.done_frame _ _ _ _ _) rfl ?_
    refine .iff ?_ (fun _ => (.by (State.raise_frame _ _ (by rfl)) rfl (.by (State.fset_frame _ _ _ (by rfl)) rfl
      (.refl _ _))))
    refine .iff ?_ (fun _ => (.by (State.nvBroken_frame _ _) rfl (.refl _ _)))
    split
    · exact .by (State.nvNote_frame _ _ _) rfl (.refl _ _)
    · exact .refl _ _
  · refine .iff ?_ (fun _ => (.by (State.raise_frame _ _ (by rfl)) rfl (.by (State.fset_frame _ _ _ (by rfl)) rfl
      (.refl _ _))))
    refine .iff ?_ (fun _ => (.by (State.nvBroken_frame _ _) rfl (.refl _ _)))
    split
    · exact .by (State.nvNote_frame _ _ _) rfl (.refl _ _)
    · exact .refl _ _

theorem State.nvQueue_frame : ∀ a0 a1 s, Frame [.tnd] s (State.nvQueue a0 a1 s) := by
  intro a0 a1 s
  unfold State.nvQueue
  exact .by (State.modTnd_frame _ _) rfl (.refl _ _)

theorem State.nvBegin_frame : ∀ a0 a1 s, Frame [.regs, .reel, .link, .dma, .cmd, .tnd, .obs, .out, .free] s
  (State.nvBegin a0 a1 s) := by
  intro a0 a1 s
  unfold State.nvBegin
  refine .ite (.ite (.by (State.modTnd_frame _ _) rfl (.by (State.nvQueue_frame _ _ _) rfl (.refl _ _))) (.by
    (State.nvRefuse_frame _ _ _) rfl (.refl _ _))) ?_
  refine .ite (.by (State.nvFinish_frame _ _) rfl (.refl _ _)) ?_
  try dsimp only
  split
  · exact .by (State.runOn_frame _ _) rfl (.by (State.nvQueue_frame _ _ _) rfl (.refl _ _))
  · exact .by (State.nvQueue_frame _ _ _) rfl (.refl _ _)

theorem State.bootRewrite_frame : ∀ a0 a1 a2 s, Frame [.regs, .reel, .link, .dma, .cmd, .tnd, .obs, .out, .free] s
  (State.bootRewrite a0 a1 a2 s) := by
  intro a0 a1 a2 s
  unfold State.bootRewrite
  exact .ite (.by (State.nvBegin_frame _ _ _) rfl (.refl _ _)) (.by (State.nvEffect_frame _ _) rfl (.refl _ _))

theorem State.nvStep_frame : ∀ a0 s, Frame [.regs, .reel, .link, .dma, .cmd, .tnd, .obs, .out, .free] s (State.nvStep
  a0 s) := by
  intro a0 s
  unfold State.nvStep
  split
  · exact .refl _ _
  · refine .ite (.refl _ _) ?_
    split
    · exact .by (State.modTnd_frame _ _) rfl (.refl _ _)
    · refine .ite ?_ ?_
      · refine .by (State.nvFinish_frame _ _) rfl ?_
        refine .by (State.modTnd_frame _ _) rfl ?_
        split
        · exact .iff (.refl _ _) (fun _ => (.by (State.nvEffect_frame _ _) rfl (.refl _ _)))
        · exact .by (State.nvEffect_frame _ _) rfl (.refl _ _)
      · refine .by (State.modTnd_frame _ _) rfl ?_
        split
        · exact .iff (.refl _ _) (fun _ => (.by (State.nvEffect_frame _ _) rfl (.refl _ _)))
        · exact .by (State.nvEffect_frame _ _) rfl (.refl _ _)

theorem State.nvNotes_frame : ∀ s, Frame [.regs, .reel, .link, .dma, .cmd, .tnd, .obs, .out, .free] s (State.nvNotes
  s) := by
  intro s
  unfold State.nvNotes
  exact .each (.by (State.modTnd_frame _ _) rfl (.refl _ _)) (fun _ _ => (.by (State.done_frame _ _ _ _ _) rfl (.by
    (State.modTnd_frame _ _) rfl (.refl _ _))))

theorem State.nvCut_frame : ∀ a0 s, Frame [.regs, .reel, .link, .dma, .cmd, .tnd, .obs, .out, .free] s (State.nvCut a0
  s) := by
  intro a0 s
  unfold State.nvCut
  split
  · exact .ite (.by (State.nvStep_frame _ _) rfl (.refl _ _)) (.refl _ _)
  · exact .refl _ _

theorem State.inhibitNv_frame : ∀ a0 s, Frame [.regs, .reel, .link, .dma, .cmd, .tnd, .obs, .out, .free] s
  (State.inhibitNv a0 s) := by
  intro a0 s
  unfold State.inhibitNv
  exact .ite (.by (State.modTnd_frame _ _) rfl (.refl _ _)) (.by (State.nvNotes_frame _) rfl (.each (.by
    (State.modTnd_frame _ _) rfl (.by (State.raiseOnce_frame _ _ (by rfl)) rfl (.by (State.modTnd_frame _ _) rfl (.by
    (State.nvCut_frame _ _) rfl (.refl _ _))))) (fun _ _ => (.iff (.refl _ _) (fun _ => (.by (State.nvRefuse_frame _ _
    _) rfl (.refl _ _)))))))

theorem State.recoverNv_frame : ∀ s, Frame [.regs, .link, .tnd, .obs, .out] s (State.recoverNv s) := by
  intro s
  unfold State.recoverNv
  exact .ite (.refl _ _) (.by (State.raiseOnce_frame _ _ (by rfl)) rfl (.by (State.logOwn_frame _ _ _) rfl (.each (.by
    (State.modTnd_frame _ _) rfl (.refl _ _)) (fun _ _ => (.by (State.logOwn_frame _ _ _) rfl (.refl _ _))))))

theorem State.nvAbandon_frame : ∀ a0 s, Frame [.regs, .reel, .link, .dma, .cmd, .tnd, .obs, .out, .free] s
  (State.nvAbandon a0 s) := by
  intro a0 s
  unfold State.nvAbandon
  exact .each (.by (State.modTnd_frame _ _) rfl (.by (State.nvCut_frame _ _) rfl (.refl _ _))) (fun _ _ => (.iff
    (.refl _ _) (fun _ => (.by (State.nvBroken_frame _ _) rfl (.refl _ _)))))

theorem State.alarmRecord_frame : ∀ s, Frame [.regs, .reel, .link, .dma, .cmd, .wl, .tnd, .obs, .out] s
  (State.alarmRecord s) := by
  intro s
  unfold State.alarmRecord
  split
  · exact .refl _ _
  · exact .ite (.refl _ _) (.iff (.iff (.iff (.by (State.queueLog_frame _ _ _ _ _ _ _ _) rfl (.by (State.modTnd_frame
      _ _) rfl (.refl _ _))) (fun _ => (.by (State.handUnit_frame _ _ _) rfl (.refl _ _)))) (fun _ => (.by
      (State.modTnd_frame _ _) rfl (.by (State.raiseOnce_frame _ _ (by rfl)) rfl (.refl _ _))))) (fun _ => (.by
      (State.sendMessage_frame _ _ _) rfl (.refl _ _))))

theorem State.reportRefused_frame : ∀ s, Frame [.regs, .link, .tnd, .obs, .out] s (State.reportRefused s) := by
  intro s
  unfold State.reportRefused
  exact .each (.refl _ _) (fun _ _ => (.ite (.by (State.logOwn_frame _ _ _) rfl (.by (State.modTnd_frame _ _) rfl
    (.refl _ _))) (.refl _ _)))

theorem State.notesDone_frame : ∀ s, Frame [.regs, .reel, .link, .dma, .cmd, .tnd, .obs, .out, .free] s
  (State.notesDone s) := by
  intro s
  unfold State.notesDone
  exact .each (.by (State.modTnd_frame _ _) rfl (.refl _ _)) (fun _ _ => (.by (State.done_frame _ _ _ _ _) rfl (.refl
    _ _)))

theorem State.logWrite_frame : ∀ s, Frame [.regs, .reel, .link, .dma, .cmd, .tnd, .obs, .out, .free] s (State.logWrite
  s) := by
  intro s
  unfold State.logWrite
  split
  · exact .refl _ _
  · exact .ite (.refl _ _) (.by (State.notesDone_frame _) rfl (.by (State.reportRefused_frame _) rfl (.by
      (State.bump_frame _ _ _) rfl (.by (State.modTnd_frame _ _) rfl (.refl _ _)))))

theorem State.logErase_frame : ∀ s, Frame [.tnd] s (State.logErase s) := by
  intro s
  unfold State.logErase
  exact .ite (.refl _ _) (.by (State.modTnd_frame _ _) rfl (.refl _ _))

theorem State.keepRecords_frame : ∀ s, Frame [.tnd] s (State.keepRecords s) := by
  intro s
  unfold State.keepRecords
  exact .by (State.modTnd_frame _ _) rfl (.refl _ _)

theorem State.sramHit_frame : ∀ a0 s, Frame [.tnd] s (State.sramHit a0 s) := by
  intro a0 s
  unfold State.sramHit
  split
  · exact .by (State.modTnd_frame _ _) rfl (.refl _ _)
  · exact .refl _ _

theorem State.tenderRestart_frame : ∀ a0 s, Frame [.regs, .reel, .link, .dma, .cmd, .tnd, .obs, .out, .free] s
  (State.tenderRestart a0 s) := by
  intro a0 s
  unfold State.tenderRestart
  exact .ite (.refl _ _) (.by (State.trace_frame _ _ _ _) rfl (.by (State.raiseOnce_frame _ _ (by rfl)) rfl (.each
    (.by (State.modTnd_frame _ _) rfl (.by (State.modCmd_frame _ _) rfl (.by (State.nvAbandon_frame _ _) rfl (.refl _
    _)))) (fun _ _ => (.by (State.done_frame _ _ _ _ _) rfl (.refl _ _))))))

theorem State.enterRecovery_frame : ∀ a0 a1 s, Frame [.regs, .link, .tnd, .obs, .out] s (State.enterRecovery a0 a1 s)
  := by
  intro a0 a1 s
  unfold State.enterRecovery
  exact .by (State.postAlarm_frame _ _ _) rfl (.by (State.modTnd_frame _ _) rfl (.refl _ _))

theorem State.loadResident_frame : ∀ s, Frame [.tnd] s (State.loadResident s) := by
  intro s
  unfold State.loadResident
  exact .by (State.modTnd_frame _ _) rfl (.refl _ _)

theorem State.doAdvance_frame : ∀ s, Frame [.regs, .reel, .link, .dma, .cmd, .tnd, .obs, .out, .free] s
  (State.doAdvance s) := by
  intro s
  unfold State.doAdvance
  exact .ite (.by (State.raiseOnce_frame _ _ (by rfl)) rfl (.refl _ _)) (.by (State.nvBegin_frame _ _ _) rfl (.refl _
    _))

theorem State.advance_frame : ∀ s, Frame [.regs, .reel, .link, .dma, .cmd, .tnd, .obs, .out, .free] s (State.advance
  s) := by
  intro s
  unfold State.advance
  exact .ite (.by (State.doAdvance_frame _) rfl (.by (State.wakeTender_frame _) rfl (.refl _ _))) (.by
    (State.modTnd_frame _ _) rfl (.refl _ _))

theorem State.tenderBack_frame : ∀ s, Frame [.regs, .reel, .link, .dma, .cmd, .tnd, .obs, .out, .free] s
  (State.tenderBack s) := by
  intro s
  unfold State.tenderBack
  exact .iff (.each (.by (State.modTnd_frame _ _) rfl (.refl _ _)) (fun _ _ => (.by (State.logOwn_frame _ _ _) rfl
    (.refl _ _)))) (fun _ => (.by (State.advance_frame _) rfl (.refl _ _)))

theorem State.restartDone_frame : ∀ s, Frame [.regs, .reel, .link, .dma, .cmd, .tnd, .obs, .out, .free] s
  (State.restartDone s) := by
  intro s
  unfold State.restartDone
  split
  · exact .refl _ _
  · exact .ite (.by (State.tenderBack_frame _) rfl (.by (State.logOwn_frame _ _ _) rfl (.by (State.keepRecords_frame
      _) rfl (.by (State.bootRewrite_frame _ _ _ _) rfl (.by (State.modTnd_frame _ _) rfl (.refl _ _)))))) (.by
      (State.tenderBack_frame _) rfl (.ite (.by (State.loadResident_frame _) rfl (.by (State.verify_frame _ _) rfl
      (.by (State.logOwn_frame _ _ _) rfl (.by (State.keepRecords_frame _) rfl (.by (State.bootRewrite_frame _ _ _ _)
      rfl (.by (State.modTnd_frame _ _) rfl (.refl _ _))))))) (.by (State.enterRecovery_frame _ _ _) rfl (.by
      (State.verify_frame _ _) rfl (.by (State.logOwn_frame _ _ _) rfl (.by (State.keepRecords_frame _) rfl (.by
      (State.bootRewrite_frame _ _ _ _) rfl (.by (State.modTnd_frame _ _) rfl (.refl _ _)))))))))

theorem State.tenderSleeps_frame : ∀ s, Frame [.tnd] s (State.tenderSleeps s) := by
  intro s
  unfold State.tenderSleeps
  exact .ite (.by (State.modTnd_frame _ _) rfl (.refl _ _)) (.refl _ _)

theorem State.hostLoss_frame : ∀ s, Frame [.regs, .link, .tnd, .obs, .out] s (State.hostLoss s) := by
  intro s
  unfold State.hostLoss
  split
  · exact .refl _ _
  · exact .ite (.by (State.logOwn_frame _ _ _) rfl (.by (State.fset_frame _ _ _ (by rfl)) rfl (.by (State.modTnd_frame
      _ _) rfl (.by (State.wakeTender_frame _) rfl (.refl _ _))))) (.refl _ _)

theorem State.tableReload_frame : ∀ s, Frame [.regs, .cal, .link, .tnd, .obs, .out] s (State.tableReload s) := by
  intro s
  unfold State.tableReload
  refine .ite (.refl _ _) ?_
  split
  · exact .refl _ _
  · exact .ite (.by (State.logOwn_frame _ _ _) rfl (.by (State.raiseOnce_frame _ _ (by rfl)) rfl (.by
      (State.onTables_frame _ _ _) rfl (.by (State.modTnd_frame _ _) rfl (.refl _ _))))) (.by (State.alarmOf_frame _ _
      _) rfl (.by (State.modTnd_frame _ _) rfl (.refl _ _)))
  · exact .by (State.logOwn_frame _ _ _) rfl (.by (State.raiseOnce_frame _ _ (by rfl)) rfl (.by (State.modCal_frame _
      _) rfl (.by (State.modTnd_frame _ _) rfl (.refl _ _))))

theorem State.fwWrite_frame : ∀ a0 s, Frame [.regs, .reel, .link, .dma, .cmd, .tnd, .obs, .out, .free] s
  (State.fwWrite a0 s) := by
  intro a0 s
  unfold State.fwWrite
  exact .ite (.by (State.done_frame _ _ _ _ _) rfl (.refl _ _)) (.ite (.by (State.done_frame _ _ _ _ _) rfl (.refl _
    _)) (.ite (.by (State.done_frame _ _ _ _ _) rfl (.refl _ _)) (.ite (.by (State.done_frame _ _ _ _ _) rfl (.refl _
    _)) (.by (State.nvBegin_frame _ _ _) rfl (.refl _ _)))))

theorem State.fwActivate_frame : ∀ a0 s, Frame [.regs, .reel, .link, .dma, .cmd, .tnd, .obs, .out, .free] s
  (State.fwActivate a0 s) := by
  intro a0 s
  unfold State.fwActivate
  exact .ite (.by (State.done_frame _ _ _ _ _) rfl (.refl _ _)) (.ite (.by (State.nvRefuse_frame _ _ _) rfl (.refl _
    _)) (.ite (.by (State.done_frame _ _ _ _ _) rfl (.by (State.verify_frame _ _) rfl (.refl _ _))) (.by
    (State.nvBegin_frame _ _ _) rfl (.by (State.verify_frame _ _) rfl (.refl _ _)))))

theorem State.calStore_frame : ∀ a0 s, Frame [.regs, .reel, .link, .dma, .cmd, .tnd, .obs, .out, .free] s
  (State.calStore a0 s) := by
  intro a0 s
  unfold State.calStore
  exact .by (State.nvBegin_frame _ _ _) rfl (.refl _ _)

theorem State.calLoad_frame : ∀ a0 s, Frame [.regs, .cal, .reel, .link, .dma, .cmd, .tnd, .obs, .out, .free] s
  (State.calLoad a0 s) := by
  intro a0 s
  unfold State.calLoad
  exact .ite (.by (State.done_frame _ _ _ _ _) rfl (.refl _ _)) (.ite (.by (State.done_frame _ _ _ _ _) rfl (.by
    (State.loadSlot_frame _ _) rfl (.refl _ _))) (.by (State.done_frame _ _ _ _ _) rfl (.by (State.loadSlot_frame _ _)
    rfl (.refl _ _))))

theorem State.logRead_frame : ∀ a0 s, Frame [.regs, .reel, .link, .dma, .cmd, .tnd, .obs, .out, .free] s
  (State.logRead a0 s) := by
  intro a0 s
  unfold State.logRead
  exact .ite (.by (State.done_frame _ _ _ _ _) rfl (.refl _ _)) (.ite (.by (State.done_frame _ _ _ _ _) rfl (.refl _
    _)) (.by (State.complete_frame _ _ _ _ _ _) rfl (.refl _ _)))

theorem State.logNote_frame : ∀ a0 s, Frame [.regs, .reel, .link, .dma, .cmd, .tnd, .obs, .out, .free] s
  (State.logNote a0 s) := by
  intro a0 s
  unfold State.logNote
  exact .ite (.by (State.done_frame _ _ _ _ _) rfl (.by (State.nvNote_frame _ _ _) rfl (.refl _ _))) (.by
    (State.notesDone_frame _) rfl (.by (State.runOn_frame _ _) rfl (.by (State.modTnd_frame _ _) rfl (.each (.refl _
    _) (fun _ _ => (.by (State.logOwn_frame _ _ _) rfl (.refl _ _)))))))

end Sys2Proof.Machine
end

