-- ==== Sys2Proof/Laws/Registers.lean ====
section
/-! SUPPORT. The frames of the operations of Machine/Registers.lean: each changes the parts named and no others, and
keeps the stores canonical. -/

namespace Sys2Proof.Machine

theorem State.attnSettle_frame : ∀ s, Frame [.tnd, .tw] s (State.attnSettle s) := by
  intro s
  unfold State.attnSettle
  exact .by (State.modTw_frame _ _) rfl (.iff (.refl _ _) (fun _ => (.by (State.wakeTender_frame _) rfl (.refl _ _))))

theorem State.violation_frame : ∀ a0 a1 s, Frame [.regs, .link, .tnd, .obs, .out] s (State.violation a0 a1 s) := by
  intro a0 a1 s
  unfold State.violation
  exact .by (State.bump_frame _ _ _) rfl (.by (State.alarmOf_frame _ _ _) rfl (.by (State.trace_frame _ _ _ _) rfl
    (.by (State.setReg_frame _ _ _ (by rfl)) rfl (.by (State.fset_frame _ _ _ (by rfl)) rfl (.by (State.countSat_frame
    _ _ _ (by rfl)) rfl (.by (State.raise_frame _ _ (by rfl)) rfl (.refl _ _)))))))

theorem State.assetWrite_frame : ∀ a0 a1 s, Frame [.regs, .reel, .link, .dma, .cmd, .tnd, .obs, .out, .free] s
  (State.assetWrite a0 a1 s) := by
  intro a0 a1 s
  unfold State.assetWrite
  exact .ite (.by (State.violation_frame _ _ _) rfl (.refl _ _)) (.by (State.nvBegin_frame _ _ _) rfl (.by
    (State.fset_frame _ _ _ (by rfl)) rfl (.refl _ _)))

theorem State.writeFurnCmd_frame : ∀ a0 a1 a2 s, Frame [.regs, .fu, .reel, .link, .dma, .cmd, .tnd, .obs, .out, .free]
  s (State.writeFurnCmd a0 a1 a2 s) := by
  intro a0 a1 a2 s
  unfold State.writeFurnCmd
  exact .iff (.iff (.by (State.setReg_frame _ _ _ (by rfl)) rfl (.refl _ _)) (fun _ => (.by
    (State.registerCommit_frame _ _) rfl (.refl _ _)))) (fun _ => (.by (State.registerCancel_frame _) rfl (.refl _
    _)))

theorem State.writeSlice_frame : ∀ a0 a1 s, Frame [.regs, .hb, .felt, .link, .tnd, .obs, .out] s (State.writeSlice a0
  a1 s) := by
  intro a0 a1 s
  unfold State.writeSlice
  exact .iff (.ite (.by (State.forceFail_frame _ _) rfl (.refl _ _)) (.by (State.fset_frame _ _ _
    (hw_hbxSlCtrlForceFail _)) rfl (.refl _ _))) (fun _ => (.by (State.rearmSlice_frame _ _) rfl (.refl _ _)))

theorem State.writeEngine_frame : ∀ a0 a1 a2 a3 s, Frame [.regs, .settings, .link, .pen, .obs, .out] s
  (State.writeEngine a0 a1 a2 a3 s) := by
  intro a0 a1 a2 a3 s
  unfold State.writeEngine
  split
  · exact .by (State.txWrite_frame _ _ _) rfl (.refl _ _)
  · exact .iff (.refl _ _) (fun _ => (.by (State.rxPop_frame _ _) rfl (.refl _ _)))
  · exact .by (State.setReg_any _ _ _) rfl (.refl _ _)

theorem State.effect_frame : ∀ a0 a1 a2 a3 s, Frame [.regs, .settings, .tb, .hb, .felt, .fu, .reel, .window, .poison,
  .link, .dma, .cmd, .wl, .pen, .clk, .tnd, .thm, .obs, .out, .free] s (State.effect a0 a1 a2 a3 s) := by
  intro a0 a1 a2 a3 s
  unfold State.effect
  split
  · exact .by (State.writeFurnCmd_frame _ _ _ _) rfl (.refl _ _)
  · exact .by (State.writeLinkCtrl_frame _ _) rfl (.refl _ _)
  · exact .iff (.by (State.setReg_any _ _ _) rfl (.refl _ _)) (fun _ => (.by (State.relayout_frame _) rfl (.refl _
      _)))
  · exact .iff (.refl _ _) (fun _ => (.by (State.mailboxGo_frame _) rfl (.refl _ _)))
  · exact .by (State.writeWlkCtrl_frame _ _) rfl (.refl _ _)
  · exact .iff (.refl _ _) (fun _ => (.by (State.popMessage_frame _) rfl (.refl _ _)))
  · exact .by (State.writePenStart_frame _ _) rfl (.refl _ _)
  · exact .by (State.clrFlags_frame _ _ _) rfl (.by (State.setFlags_frame _ _) rfl (.refl _ _))
  · exact .by (State.clkWritten_frame _ _ _) rfl (.by (State.setReg_any _ _ _) rfl (.refl _ _))
  · exact .by (State.clkWritten_frame _ _ _) rfl (.by (State.setReg_any _ _ _) rfl (.refl _ _))
  · exact .iff (.refl _ _) (fun _ => (.by (State.rearmSensors_frame _) rfl (.refl _ _)))
  · exact .iff (.by (State.setReg_any _ _ _) rfl (.refl _ _)) (fun _ => (.by (State.advance_frame _) rfl (.refl _ _)))
  · exact .ite (.by (State.writeSlice_frame _ _ _) rfl (.refl _ _)) (.ite (.by (State.writeChCtrl_frame _ _ _) rfl
      (.refl _ _)) (.ite (.by (State.writeQCtrl_frame _ _ _) rfl (.refl _ _)) (.ite (.by (State.writePortCtrl_frame _
      _ _) rfl (.refl _ _)) (.ite (.by (State.writeEngine_frame _ _ _ _ _) rfl (.refl _ _)) (.ite (.by
      (State.storeWrite_frame _ _ _ _ _) rfl (.refl _ _)) (.by (State.setReg_any _ _ _) rfl (.refl _ _)))))))

theorem State.stage_frame : ∀ a0 a1 s, Frame [.fu] s (State.stage a0 a1 s) := by
  intro a0 a1 s
  unfold State.stage
  exact .ite (.refl _ _) (.by (State.modFu_frame _ _) rfl (.refl _ _))

theorem State.holdWake_frame : ∀ s, Frame [.link] s (State.holdWake s) := by
  intro s
  unfold State.holdWake
  exact .iff (.refl _ _) (fun _ => (.by (State.modLink_frame _ _) rfl (.refl _ _)))

theorem State.writeReg_frame : ∀ a0 a1 a2 s, Frame [.regs, .settings, .tb, .hb, .felt, .fu, .reel, .window, .poison,
  .link, .dma, .cmd, .wl, .pen, .clk, .tnd, .tw, .thm, .obs, .out, .free] s (State.writeReg a0 a1 a2 s) := by
  intro a0 a1 a2 s
  unfold State.writeReg
  refine .ite (.refl _ _) ?_
  split
  · exact .refl _ _
  · exact .ite (.by (State.assetWrite_frame _ _ _) rfl (.refl _ _)) (.by (State.attnSettle_frame _) rfl (.by
      (State.effect_frame _ _ _ _ _) rfl (.by (State.holdWake_frame _) rfl (.by (State.stage_frame _ _ _) rfl (.by
      (State.setFired_frame _ _) rfl (.iff (.by (State.rsvCheck_frame _ _ _ _) rfl (.by (State.setFired_frame _ _) rfl
      (.refl _ _))) (fun _ => (.by (State.violation_frame _ _ _) rfl (.refl _ _)))))))))

theorem State.busWrite_frame : ∀ a0 a1 a2 s, Frame [.regs, .settings, .tb, .hb, .felt, .fu, .reel, .window, .poison,
  .link, .dma, .cmd, .wl, .pen, .clk, .tnd, .tw, .thm, .obs, .out, .free] s (State.busWrite a0 a1 a2 s) := by
  intro a0 a1 a2 s
  unfold State.busWrite
  exact Frame.access (.refl _ _) (fun _ => (.by (State.writeReg_frame _ _ _ _) rfl (.refl _ _))) rfl

theorem State.pathRead_frame : ∀ a0 a1 a2 s, Frame [.regs, .link, .obs, .shadow, .out] s (State.pathRead a0 a1 a2 s).2
  := by
  intro a0 a1 a2 s
  unfold State.pathRead
  try dsimp only
  split
  · exact .by (Frame.put_shadow _ _) rfl (.by (State.dropShadow_frame _ _ _) rfl (.iff (.refl _ _) (fun _ => (.by
      (State.raise_frame _ _ (by rfl)) rfl (.refl _ _)))))
  · split
    · exact .by (State.dropShadow_frame _ _ _) rfl (.refl _ _)
    · exact .iff (.refl _ _) (fun _ => (.by (State.raise_frame _ _ (by rfl)) rfl (.refl _ _)))

theorem State.busRead_frame : ∀ a0 a1 a2 a3 s, Frame [.regs, .link, .pen, .obs, .shadow, .out, .free] s (State.busRead
  a0 a1 a2 a3 s) := by
  intro a0 a1 a2 a3 s
  unfold State.busRead
  exact .ite (.refl _ _) (.by (State.emit_frame _ _) rfl (.by (State.pathRead_frame _ _ _ _) rfl (.iff (.refl _ _)
    (fun _ => (.by (State.samplePins_frame _ _) rfl (.refl _ _))))))

theorem State.unsupported_frame : ∀ a0 s, Frame [.link] s (State.unsupported a0 s) := by
  intro a0 s
  unfold State.unsupported
  exact .iff (.refl _ _) (fun _ => (.by (State.modCfg_frame _ _) rfl (.refl _ _)))

theorem State.sizedWrite_frame : ∀ a0 a1 a2 s, Frame [.regs, .settings, .tb, .hb, .felt, .fu, .reel, .window, .poison,
  .link, .dma, .cmd, .wl, .pen, .clk, .tnd, .tw, .thm, .obs, .out, .free] s (State.sizedWrite a0 a1 a2 s) := by
  intro a0 a1 a2 s
  unfold State.sizedWrite
  try dsimp only
  split
  · exact .ite (.by (State.busWrite_frame _ _ _ _) rfl (.refl _ _)) (.by (State.unsupported_frame _ _) rfl (.refl _
      _))
  · exact .ite (.by (State.busWrite_frame _ _ _ _) rfl (.by (State.busWrite_frame _ _ _ _) rfl (.refl _ _))) (.by
      (State.unsupported_frame _ _) rfl (.refl _ _))
  · exact .by (State.unsupported_frame _ _) rfl (.refl _ _)
  · exact .by (State.unsupported_frame _ _) rfl (.refl _ _)
  · exact .ite (.iff (.refl _ _) (fun _ => (.by (State.write2_frame _ _ _) rfl (.refl _ _)))) (.by
      (State.unsupported_frame _ _) rfl (.refl _ _))
  · exact .ite (.iff (.refl _ _) (fun _ => (.by (State.write2_frame _ _ _) rfl (.by (State.write2_frame _ _ _) rfl
      (.refl _ _))))) (.by (State.unsupported_frame _ _) rfl (.refl _ _))

theorem State.sizedRead_frame : ∀ a0 a1 a2 a3 a4 s, Frame [.regs, .link, .pen, .obs, .shadow, .out, .free] s
  (State.sizedRead a0 a1 a2 a3 a4 s) := by
  intro a0 a1 a2 a3 a4 s
  unfold State.sizedRead
  try dsimp only
  split
  · exact .ite (.by (State.busRead_frame _ _ _ _ _) rfl (.refl _ _)) (.by (State.unsupported_frame _ _) rfl (.iff
      (.refl _ _) (fun _ => (.by (State.emit_frame _ _) rfl (.refl _ _)))))
  · exact .ite (.by (State.busRead_frame _ _ _ _ _) rfl (.by (State.busRead_frame _ _ _ _ _) rfl (.refl _ _))) (.by
      (State.unsupported_frame _ _) rfl (.iff (.refl _ _) (fun _ => (.by (State.emit_frame _ _) rfl (.refl _ _)))))
  · exact .by (State.unsupported_frame _ _) rfl (.iff (.refl _ _) (fun _ => (.by (State.emit_frame _ _) rfl (.refl _
      _))))
  · exact .ite (.iff (.refl _ _) (fun _ => (.by (State.emit_frame _ _) rfl (.refl _ _)))) (.by
      (State.unsupported_frame _ _) rfl (.iff (.refl _ _) (fun _ => (.by (State.emit_frame _ _) rfl (.refl _ _)))))
  · exact .ite (.iff (.refl _ _) (fun _ => (.by (State.emit_frame _ _) rfl (.by (State.emit_frame _ _) rfl (.refl _
      _))))) (.by (State.unsupported_frame _ _) rfl (.iff (.refl _ _) (fun _ => (.by (State.emit_frame _ _) rfl (.refl
      _ _)))))
  · exact .by (State.unsupported_frame _ _) rfl (.iff (.refl _ _) (fun _ => (.by (State.emit_frame _ _) rfl (.refl _
      _))))

end Sys2Proof.Machine
end

