-- ==== Sys2Proof/Laws/Pelquel.lean ====
section
/-! SUPPORT. The frames of the operations of Machine/Pelquel.lean: each changes the parts named and no others, and
keeps the stores canonical. -/

namespace Sys2Proof.Machine

theorem State.giveData_frame : ∀ a0 a1 a2 s, Frame [.regs, .reel, .link, .dma, .cmd, .tnd, .obs, .out, .free] s
  (State.giveData a0 a1 a2 s) := by
  intro a0 a1 a2 s
  unfold State.giveData
  exact .ite (.by (State.done_frame _ _ _ _ _) rfl (.refl _ _)) (.by (State.complete_frame _ _ _ _ _ _) rfl (.refl _
    _))

theorem State.admitMail_frame : ∀ s, Frame [.cmd] s (State.admitMail s) := by
  intro s
  unfold State.admitMail
  split
  · exact .by (State.modCmd_frame _ _) rfl (.refl _ _)
  · exact .refl _ _

theorem State.abort_frame : ∀ a0 a1 s, Frame [.regs, .reel, .link, .dma, .cmd, .tnd, .obs, .out, .free] s (State.abort
  a0 a1 s) := by
  intro a0 a1 s
  unfold State.abort
  try dsimp only
  split
  · exact .ite (.by (State.done_frame _ _ _ _ _) rfl (.by (State.done_frame _ _ _ _ _) rfl (.iff (.iff (.iff (.refl _
      _) (fun _ => (.by (State.admitMail_frame _) rfl (.refl _ _)))) (fun _ => (.by (State.modCmd_frame _ _) rfl
      (.refl _ _)))) (fun _ => (.by (State.modCmd_frame _ _) rfl (.refl _ _)))))) (.by (State.done_frame _ _ _ _ _)
      rfl (.iff (.refl _ _) (fun _ => (.by (State.admitMail_frame _) rfl (.refl _ _)))))
  · exact .by (State.done_frame _ _ _ _ _) rfl (.iff (.refl _ _) (fun _ => (.by (State.admitMail_frame _) rfl (.refl _
      _))))

theorem State.warmReset_frame : ∀ a0 s, Frame [.regs, .reel, .link, .dma, .cmd, .tnd, .obs, .out, .free] s
  (State.warmReset a0 s) := by
  intro a0 s
  unfold State.warmReset
  exact .ite (.by (State.done_frame _ _ _ _ _) rfl (.refl _ _)) (.ite (.each (.by (State.modCmd_frame _ _) rfl (.by
    (State.admitMail_frame _) rfl (.refl _ _))) (fun _ _ => (.by (State.done_frame _ _ _ _ _) rfl (.refl _ _)))) (.by
    (State.done_frame _ _ _ _ _) rfl (.each (.by (State.modCmd_frame _ _) rfl (.by (State.admitMail_frame _) rfl
    (.refl _ _))) (fun _ _ => (.by (State.done_frame _ _ _ _ _) rfl (.refl _ _))))))

theorem State.readRun_frame : ∀ same off n bad s, Frame [.regs, .link, .obs, .shadow, .out] s (State.readRun same off n bad s).2 := by
  intro same off n bad s
  unfold State.readRun
  generalize List.range n = l
  have g : ∀ (l : List Nat) (b : List Byte) (u : State), Frame [.regs, .link, .obs, .shadow, .out] s u →
      Frame [.regs, .link, .obs, .shadow, .out] s (l.foldl (fun (b, s) i =>
        let (w, s) := s.pathRead { path := .tender, same := same } (off + 4 * i) (bad.contains ((off + 4 * i) / 32))
        (b ++ leBytes 4 w.toNat, s)) (b, u)).2 := by
    intro l
    induction l with
    | nil => exact fun _ _ h => h
    | cons i l ih => exact fun b u h => ih _ _ (.by (State.pathRead_frame _ _ _ _) rfl h)
  exact g l [] s (.refl _ _)

theorem State.regRead_frame : ∀ a0 a1 a2 a3 s, Frame [.regs, .reel, .link, .dma, .cmd, .pen, .tnd, .obs, .shadow,
  .out, .free] s (State.regRead a0 a1 a2 a3 s) := by
  intro a0 a1 a2 a3 s
  unfold State.regRead
  exact .ite (.by (State.complete_frame _ _ _ _ _ _) rfl (.by (State.readRun_frame _ _ _ _ _) rfl (.iff (.refl _ _)
    (fun _ => (.by (State.samplePins_frame _ _) rfl (.refl _ _)))))) (.by (State.done_frame _ _ _ _ _) rfl (.refl _
    _))

theorem State.writeRun_frame : ∀ same l e m s, Frame [.regs, .settings, .tb, .hb, .felt, .fu, .reel, .window, .poison, .link, .dma, .cmd, .wl, .pen, .clk, .tnd, .tw, .thm, .obs, .out, .free] s (State.writeRun same l e m s).1 := by
  intro same l
  induction l with
  | nil => exact fun _ _ s => .refl _ s
  | cons a l ih =>
    intro e m s
    unfold State.writeRun
    split
    · exact (.refl _ _)
    · exact (.then (.by (State.busWrite_frame _ _ _ _) rfl (.refl _ _)) (ih _ _ _))

theorem State.writeAll_frame : ∀ a0 a1 a2 a3 s, Frame [.regs, .settings, .tb, .hb, .felt, .fu, .reel, .window,
  .poison, .link, .dma, .cmd, .wl, .pen, .clk, .tnd, .tw, .thm, .obs, .out, .free] s (State.writeAll a0 a1 a2 a3 s) :=
  by
  intro a0 a1 a2 a3 s
  unfold State.writeAll
  exact .ite (.by (State.done_frame _ _ _ _ _) rfl (.by (State.writeRun_frame _ _ _ _ _) rfl (.refl _ _))) (.ite (.by
    (State.done_frame _ _ _ _ _) rfl (.by (State.writeRun_frame _ _ _ _ _) rfl (.refl _ _))) (.by (State.done_frame _
    _ _ _ _) rfl (.by (State.writeRun_frame _ _ _ _ _) rfl (.refl _ _))))

theorem State.stageAll_frame : ∀ a0 a1 a2 s, Frame [.regs, .settings, .tb, .hb, .felt, .fu, .reel, .window, .poison,
  .link, .dma, .cmd, .wl, .pen, .clk, .tnd, .tw, .thm, .obs, .out, .free] s (State.stageAll a0 a1 a2 s) := by
  intro a0 a1 a2 s
  unfold State.stageAll
  exact .ite (.by (State.writeAll_frame _ _ _ _ _) rfl (.refl _ _)) (.by (State.done_frame _ _ _ _ _) rfl (.refl _ _))

theorem State.furnishRead_frame : ∀ a0 s, Frame [.regs, .reel, .link, .dma, .cmd, .tnd, .obs, .out, .free] s
  (State.furnishRead a0 s) := by
  intro a0 s
  unfold State.furnishRead
  exact .ite (.by (State.complete_frame _ _ _ _ _ _) rfl (.refl _ _)) (.by (State.done_frame _ _ _ _ _) rfl (.refl _
    _))

theorem State.darkCapture_frame : ∀ a0 s, Frame [.regs, .reel, .link, .dma, .cmd, .tnd, .obs, .out, .free] s
  (State.darkCapture a0 s) := by
  intro a0 s
  unfold State.darkCapture
  exact .ite (.by (State.done_frame _ _ _ _ _) rfl (.refl _ _)) (.ite (.by (State.done_frame _ _ _ _ _) rfl (.refl _
    _)) (.by (State.runOn_frame _ _) rfl (.by (State.modCmd_frame _ _) rfl (.refl _ _))))

theorem State.captureDone_frame : ∀ a0 a1 a2 s, Frame [.regs, .cal, .reel, .link, .dma, .cmd, .tnd, .obs, .out, .free]
  s (State.captureDone a0 a1 a2 s) := by
  intro a0 a1 a2 s
  unfold State.captureDone
  split
  · exact .refl _ _
  · exact .ite (.refl _ _) (.ite (.by (State.done_frame _ _ _ _ _) rfl (.by (State.modCmd_frame _ _) rfl (.refl _ _)))
      (.by (State.done_frame _ _ _ _ _) rfl (.by (State.onTables_frame _ _ _) rfl (.by (State.modCmd_frame _ _) rfl
      (.refl _ _)))))

theorem State.captureLate_frame : ∀ a0 s, Frame [.regs, .reel, .link, .dma, .cmd, .tnd, .obs, .out, .free] s
  (State.captureLate a0 s) := by
  intro a0 s
  unfold State.captureLate
  split
  · exact .refl _ _
  · exact .ite (.refl _ _) (.by (State.done_frame _ _ _ _ _) rfl (.by (State.modCmd_frame _ _) rfl (.refl _ _)))

theorem State.darkWrite_frame : ∀ a0 s, Frame [.regs, .cal, .reel, .link, .dma, .cmd, .tnd, .obs, .out, .free] s
  (State.darkWrite a0 s) := by
  intro a0 s
  unfold State.darkWrite
  exact .ite (.by (State.done_frame _ _ _ _ _) rfl (.refl _ _)) (.ite (.by (State.done_frame _ _ _ _ _) rfl (.refl _
    _)) (.by (State.done_frame _ _ _ _ _) rfl (.by (State.onTables_frame _ _ _) rfl (.refl _ _))))

theorem State.darkRead_frame : ∀ a0 s, Frame [.regs, .reel, .link, .dma, .cmd, .tnd, .obs, .out, .free] s
  (State.darkRead a0 s) := by
  intro a0 s
  unfold State.darkRead
  exact .ite (.by (State.done_frame _ _ _ _ _) rfl (.refl _ _)) (.ite (.by (State.done_frame _ _ _ _ _) rfl (.refl _
    _)) (.by (State.giveData_frame _ _ _ _) rfl (.refl _ _)))

theorem State.tableWrite_frame : ∀ a0 s, Frame [.regs, .cal, .reel, .link, .dma, .cmd, .tnd, .obs, .out, .free] s
  (State.tableWrite a0 s) := by
  intro a0 s
  unfold State.tableWrite
  exact .ite (.by (State.done_frame _ _ _ _ _) rfl (.refl _ _)) (.ite (.by (State.done_frame _ _ _ _ _) rfl (.refl _
    _)) (.by (State.done_frame _ _ _ _ _) rfl (.by (State.onTables_frame _ _ _) rfl (.refl _ _))))

theorem State.tableRead_frame : ∀ a0 s, Frame [.regs, .reel, .link, .dma, .cmd, .tnd, .obs, .out, .free] s
  (State.tableRead a0 s) := by
  intro a0 s
  unfold State.tableRead
  exact .ite (.by (State.done_frame _ _ _ _ _) rfl (.refl _ _)) (.by (State.giveData_frame _ _ _ _) rfl (.refl _ _))

theorem State.wlPort_frame : ∀ a0 s, Frame [.regs, .settings, .tb, .hb, .felt, .fu, .reel, .window, .poison, .link,
  .dma, .cmd, .wl, .pen, .clk, .tnd, .tw, .thm, .obs, .out, .free] s (State.wlPort a0 s) := by
  intro a0 s
  unfold State.wlPort
  exact .ite (.by (State.done_frame _ _ _ _ _) rfl (.refl _ _)) (.ite (.by (State.done_frame _ _ _ _ _) rfl (.refl _
    _)) (.by (State.done_frame _ _ _ _ _) rfl (.by (State.busWrite_frame _ _ _ _) rfl (.refl _ _))))

theorem State.atBoundary_frame : ∀ a0 a1 s, Frame [.regs, .settings, .tb, .hb, .felt, .fu, .reel, .window, .poison,
  .link, .dma, .cmd, .wl, .pen, .clk, .tnd, .tw, .thm, .obs, .out, .free] s (State.atBoundary a0 a1 s) := by
  intro a0 a1 s
  unfold State.atBoundary
  exact .ite (.by (State.done_frame _ _ _ _ _) rfl (.refl _ _)) (.by (State.busWrite_frame _ _ _ _) rfl (.by
    (State.runOn_frame _ _) rfl (.by (State.modCmd_frame _ _) rfl (.refl _ _))))

theorem State.wlRole_frame : ∀ a0 s, Frame [.regs, .settings, .tb, .hb, .felt, .fu, .reel, .window, .poison, .link,
  .dma, .cmd, .wl, .pen, .clk, .tnd, .tw, .thm, .obs, .out, .free] s (State.wlRole a0 s) := by
  intro a0 s
  unfold State.wlRole
  exact .ite (.by (State.done_frame _ _ _ _ _) rfl (.refl _ _)) (.by (State.atBoundary_frame _ _ _) rfl (.refl _ _))

theorem State.wlMember_frame : ∀ a0 s, Frame [.regs, .settings, .tb, .hb, .felt, .fu, .reel, .window, .poison, .link,
  .dma, .cmd, .wl, .pen, .clk, .tnd, .tw, .thm, .obs, .out, .free] s (State.wlMember a0 s) := by
  intro a0 s
  unfold State.wlMember
  exact .by (State.atBoundary_frame _ _ _) rfl (.refl _ _)

theorem State.wlEnumerate_frame : ∀ a0 s, Frame [.regs, .reel, .link, .dma, .cmd, .wl, .tnd, .obs, .out, .free] s
  (State.wlEnumerate a0 s) := by
  intro a0 s
  unfold State.wlEnumerate
  exact .ite (.by (State.done_frame _ _ _ _ _) rfl (.refl _ _)) (.each (.by (State.runOn_frame _ _) rfl (.by
    (State.modCmd_frame _ _) rfl (.refl _ _))) (fun _ _ => (.by (State.sendChunk_frame _ _ _ _) rfl (.refl _ _))))

theorem State.wlMessage_frame : ∀ a0 s, Frame [.regs, .reel, .link, .dma, .cmd, .wl, .tnd, .obs, .out, .free] s
  (State.wlMessage a0 s) := by
  intro a0 s
  unfold State.wlMessage
  exact .by (State.tryMessage_frame _) rfl (.by (State.runOn_frame _ _) rfl (.by (State.modCmd_frame _ _) rfl (.refl _
    _)))

theorem State.peLoad_frame : ∀ a0 a1 s, Frame [.regs, .reel, .link, .dma, .cmd, .pen, .tnd, .obs, .out, .free] s
  (State.peLoad a0 a1 s) := by
  intro a0 a1 s
  unfold State.peLoad
  exact .ite (.by (State.done_frame _ _ _ _ _) rfl (.refl _ _)) (.ite (.by (State.done_frame _ _ _ _ _) rfl (.by
    (State.raise_frame _ _ (hw_penEvtProgBusy _)) rfl (.refl _ _))) (.by (State.done_frame _ _ _ _ _) rfl (.by
    (State.onEng_frame _ _ _) rfl (.refl _ _))))

theorem State.peAct_frame : ∀ a0 a1 s, Frame [.regs, .reel, .link, .dma, .cmd, .pen, .tnd, .obs, .out, .free] s
  (State.peAct a0 a1 s) := by
  intro a0 a1 s
  unfold State.peAct
  exact .by (State.done_frame _ _ _ _ _) rfl (.by (State.penOp_frame _ _ _) rfl (.refl _ _))

theorem State.peStatus_frame : ∀ a0 a1 s, Frame [.regs, .reel, .link, .dma, .cmd, .pen, .tnd, .obs, .out, .free] s
  (State.peStatus a0 a1 s) := by
  intro a0 a1 s
  unfold State.peStatus
  exact .by (State.complete_frame _ _ _ _ _ _) rfl (.by (State.samplePins_frame _ _) rfl (.refl _ _))

theorem State.cut_frame : ∀ a0 s, Frame [.regs, .reel, .link, .dma, .cmd, .tnd, .obs, .out, .free] s (State.cut a0 s)
  := by
  intro a0 s
  unfold State.cut
  split
  · exact .by (State.done_frame _ _ _ _ _) rfl (.refl _ _)
  · exact .by (State.accept_frame _ _) rfl (.by (State.modReel_frame _ _) rfl (.refl _ _))

theorem State.cutCancel_frame : ∀ a0 s, Frame [.regs, .reel, .link, .dma, .cmd, .tnd, .obs, .out, .free] s
  (State.cutCancel a0 s) := by
  intro a0 s
  unfold State.cutCancel
  exact .ite (.by (State.done_frame _ _ _ _ _) rfl (.by (State.cancelCut_frame _ _) rfl (.refl _ _))) (.by
    (State.done_frame _ _ _ _ _) rfl (.by (State.cancelCut_frame _ _) rfl (.refl _ _)))

theorem State.reelLayout_frame : ∀ a0 s, Frame [.regs, .reel, .window, .poison, .link, .dma, .cmd, .tnd, .obs, .out,
  .free] s (State.reelLayout a0 s) := by
  intro a0 s
  unfold State.reelLayout
  try dsimp only
  split
  · exact .by (State.done_frame _ _ _ _ _) rfl (.by (State.relayout_frame _) rfl (.by (State.fset_frame _ _ _ (by
      rfl)) rfl (.by (State.fset_frame _ _ _ (by rfl)) rfl (.refl _ _))))
  · exact .by (State.done_frame _ _ _ _ _) rfl (.by (State.relayout_frame _) rfl (.by (State.fset_frame _ _ _ (by
      rfl)) rfl (.by (State.fset_frame _ _ _ (by rfl)) rfl (.refl _ _))))
  · exact .by (State.done_frame _ _ _ _ _) rfl (.by (State.relayout_frame _) rfl (.by (State.fset_frame _ _ _ (by
      rfl)) rfl (.by (State.fset_frame _ _ _ (by rfl)) rfl (.refl _ _))))

theorem State.thmLimits_frame : ∀ a0 s, Frame [.regs, .settings, .tb, .hb, .felt, .fu, .reel, .window, .poison, .link,
  .dma, .cmd, .wl, .pen, .clk, .tnd, .tw, .thm, .obs, .out, .free] s (State.thmLimits a0 s) := by
  intro a0 s
  unfold State.thmLimits
  exact .ite (.by (State.done_frame _ _ _ _ _) rfl (.refl _ _)) (.ite (.by (State.done_frame _ _ _ _ _) rfl (.refl _
    _)) (.by (State.done_frame _ _ _ _ _) rfl (.by (State.busWrite_frame _ _ _ _) rfl (.refl _ _))))

theorem State.obsCounters_frame : ∀ a0 s, Frame [.regs, .reel, .link, .dma, .cmd, .tnd, .obs, .out, .free] s
  (State.obsCounters a0 s) := by
  intro a0 s
  unfold State.obsCounters
  exact .ite (.by (State.done_frame _ _ _ _ _) rfl (.refl _ _)) (.by (State.complete_frame _ _ _ _ _ _) rfl (.refl _
    _))

theorem State.obsTrace_frame : ∀ a0 s, Frame [.regs, .reel, .link, .dma, .cmd, .tnd, .obs, .out, .free] s
  (State.obsTrace a0 s) := by
  intro a0 s
  unfold State.obsTrace
  exact .ite (.by (State.done_frame _ _ _ _ _) rfl (.refl _ _)) (.by (State.giveData_frame _ _ _ _) rfl (.refl _ _))

end Sys2Proof.Machine
end

