-- ==== Sys2Proof/Laws/TwoWire.lean ====
section
/-! SUPPORT. The frames of the operations of Machine/TwoWire.lean: each changes the parts named and no others, and
keeps the stores canonical. -/

namespace Sys2Proof.Machine

theorem State.twActive_frame : ∀ s, Frame [.tw] s (State.twActive s) := by
  intro s
  unfold State.twActive
  exact .by (State.modTw_frame _ _) rfl (.refl _ _)

theorem State.twIdle_frame : ∀ s, Frame [.tw] s (State.twIdle s) := by
  intro s
  unfold State.twIdle
  exact .by (State.modTw_frame _ _) rfl (.refl _ _)

theorem State.twNack_frame : ∀ s, Frame [.tw, .out] s (State.twNack s) := by
  intro s
  unfold State.twNack
  exact .by (State.twIdle_frame _) rfl (.by (State.emit_frame _ _) rfl (.refl _ _))

theorem State.wakeNack_frame : ∀ s, Frame [.regs, .link, .tnd, .tw, .obs, .out] s (State.wakeNack s) := by
  intro s
  unfold State.wakeNack
  exact .by (State.twNack_frame _) rfl (.by (State.raise_frame _ _ (by rfl)) rfl (.by (State.modTw_frame _ _) rfl (.by
    (State.wakeTender_frame _) rfl (.refl _ _))))

theorem State.twAccept_frame : ∀ a0 a1 s, Frame [.tw, .obs, .out] s (State.twAccept a0 a1 s) := by
  intro a0 a1 s
  unfold State.twAccept
  exact .by (State.modTw_frame _ _) rfl (.by (State.bump_frame _ _ _) rfl (.by (State.emit_frame _ _) rfl (.refl _
    _)))

theorem State.twStart_frame : ∀ a0 a1 a2 s, Frame [.regs, .link, .tnd, .tw, .obs, .out, .free] s (State.twStart a0 a1
  a2 s) := by
  intro a0 a1 a2 s
  unfold State.twStart
  refine .ite (.by (State.twNack_frame _) rfl (.by (State.twActive_frame _) rfl (.refl _ _))) ?_
  refine .ite (.by (State.wakeNack_frame _) rfl (.by (State.twActive_frame _) rfl (.refl _ _))) ?_
  split
  · exact .ite (.ite (.by (State.twNack_frame _) rfl (.by (Frame.put_free _ _) rfl (.by (State.twActive_frame _) rfl
      (.refl _ _)))) (.by (State.twAccept_frame _ _ _) rfl (.by (Frame.put_free _ _) rfl (.by (State.twActive_frame _)
      rfl (.refl _ _))))) (.by (State.twAccept_frame _ _ _) rfl (.by (State.modTw_frame _ _) rfl (.by
      (State.twActive_frame _) rfl (.refl _ _))))
  · exact .by (State.twAccept_frame _ _ _) rfl (.by (State.twActive_frame _) rfl (.refl _ _))

theorem State.twAdvance_frame : ∀ s, Frame [.tw, .obs] s (State.twAdvance s) := by
  intro s
  unfold State.twAdvance
  exact .by (State.modTw_frame _ _) rfl (.by (State.bump_frame _ _ _) rfl (.refl _ _))

theorem State.twWrite_frame : ∀ a0 a1 s, Frame [.regs, .settings, .tb, .hb, .felt, .fu, .reel, .window, .poison,
  .link, .dma, .cmd, .wl, .pen, .clk, .tnd, .tw, .thm, .obs, .out, .free] s (State.twWrite a0 a1 s) := by
  intro a0 a1 s
  unfold State.twWrite
  exact .ite (.by (State.twAdvance_frame _) rfl (.by (State.busWrite_frame _ _ _ _) rfl (.by (State.twActive_frame _)
    rfl (.refl _ _)))) (.refl _ _)

theorem State.ibrAnswer_frame : ∀ a0 s, Frame [.tw] s (State.ibrAnswer a0 s) := by
  intro a0 s
  unfold State.ibrAnswer
  split
  · exact .iff (.refl _ _) (fun _ => (.by (State.modTw_frame _ _) rfl (.refl _ _)))
  · exact .refl _ _

theorem State.twRead_frame : ∀ a0 a1 a2 a3 a4 s, Frame [.regs, .link, .pen, .tw, .obs, .shadow, .out, .free] s
  (State.twRead a0 a1 a2 a3 a4 s) := by
  intro a0 a1 a2 a3 a4 s
  unfold State.twRead
  exact .ite (.iff (.iff (.by (State.ibrAnswer_frame _ _) rfl (.by (State.busRead_frame _ _ _ _ _) rfl (.by
    (State.twActive_frame _) rfl (.refl _ _)))) (fun _ => (.by (State.twAdvance_frame _) rfl (.refl _ _)))) (fun _ =>
    (.by (State.twIdle_frame _) rfl (.refl _ _)))) (.refl _ _)

theorem State.twPartial_frame : ∀ a0 s, Frame [.regs, .link, .tw, .obs, .out] s (State.twPartial a0 s) := by
  intro a0 s
  unfold State.twPartial
  exact .ite (.by (State.raise_frame _ _ (by rfl)) rfl (.by (State.modTw_frame _ _) rfl (.refl _ _))) (.refl _ _)

theorem State.twStop_frame : ∀ a0 s, Frame [.regs, .link, .tw, .obs, .out] s (State.twStop a0 s) := by
  intro a0 s
  unfold State.twStop
  exact .ite (.refl _ _) (.by (State.twIdle_frame _) rfl (.by (State.twPartial_frame _ _) rfl (.by
    (State.twActive_frame _) rfl (.refl _ _))))

theorem State.twFault_frame (f : Fld) (s : State) (n : softwareRegs.contains f.off = false) :
    Frame [.regs, .link, .tw, .obs, .out] s (s.twFault f) :=
  .by (State.raise_frame _ _ n) rfl (.by (State.modTw_frame _ _) rfl (.refl _ _))

theorem State.twFrameError_frame : ∀ a0 a1 s, Frame [.regs, .link, .tw, .obs, .out] s (State.twFrameError a0 a1 s) :=
  by
  intro a0 a1 s
  unfold State.twFrameError
  exact .ite (.refl _ _) (.ite (.by (State.twIdle_frame _) rfl (.by (State.twPartial_frame _ _) rfl (.by
    (State.twActive_frame _) rfl (.refl _ _)))) (.by (State.twFault_frame _ _ (by rfl)) rfl (.by (State.twIdle_frame
    _) rfl (.by (State.twPartial_frame _ _) rfl (.by (State.twActive_frame _) rfl (.refl _ _))))))

theorem State.twStuck_frame : ∀ s, Frame [.regs, .link, .tw, .obs, .out] s (State.twStuck s) := by
  intro s
  unfold State.twStuck
  exact .ite (.refl _ _) (.by (State.twFault_frame _ _ (by rfl)) rfl (.by (State.twIdle_frame _) rfl (.by
    (State.twActive_frame _) rfl (.refl _ _))))

theorem State.inBand_frame : ∀ a0 s, Frame [.tw, .out] s (State.inBand a0 s) := by
  intro a0 s
  unfold State.inBand
  exact .ite (.refl _ _) (.ite (.by (State.twActive_frame _) rfl (.refl _ _)) (.by (State.modTw_frame _ _) rfl (.by
    (State.emit_frame _ _) rfl (.refl _ _))))

theorem State.ibrTimeout_frame : ∀ s, Frame [.regs, .link, .tw, .obs, .out] s (State.ibrTimeout s) := by
  intro s
  unfold State.ibrTimeout
  split
  · exact .ite (.refl _ _) (.ite (.by (State.modTw_frame _ _) rfl (.refl _ _)) (.by (State.raise_frame _ _ (by rfl))
      rfl (.by (State.modTw_frame _ _) rfl (.refl _ _))))
  · exact .refl _ _

end Sys2Proof.Machine
end

