-- ==== Sys2Proof/Laws/Accesses.lean ====
section
/-! SUPPORT. The frames of the operations of Machine/Accesses.lean, and what a command that makes an access does when
nothing else stands in its core cycle. -/

namespace Sys2Proof.Machine

theorem State.badOpcode_frame : ∀ a0 s, Frame [.regs, .link, .pen, .obs, .out] s (State.badOpcode a0 s) := by
  intro a0 s
  unfold State.badOpcode
  exact .ite (.by (State.raise_frame _ _ (hw_penEvtBadOp _)) rfl (.by (State.quitEng_frame _ _ _) rfl (.refl _ _)))
    (.refl _ _)

/-! ### The accesses and their order (R292) -/

/-- The access of a row changes only what the row may change. -/
theorem access_run {i : Instr} {s : State} {a : Access} (h : s.accessOf i = some a) (u : State) :
    Frame (touches i) u (a.run u) := by
  cases i
  case sliceRearm =>
    have h : some (Access.mk _ _ _) = some a := h
    cases h
    exact Frame.access (.refl _ _) (fun _ => (.by (State.rearmSlice_frame _ _) rfl (.refl _ _))) rfl
  case forceFail =>
    have h : some (Access.mk _ _ _) = some a := h
    cases h
    exact Frame.access (.refl _ _) (fun _ => (.by (State.forceFail_frame _ _) rfl (.refl _ _))) rfl
  case commit =>
    have h : some (Access.mk _ _ _) = some a := h
    cases h
    exact Frame.access (.refl _ _) (fun _ => (.by (State.registerCommit_frame _ _) rfl (.by (State.fset_frame _ _ _
      (by rfl)) rfl (.refl _ _)))) rfl
  case cancel =>
    have h : some (Access.mk _ _ _) = some a := h
    cases h
    exact Frame.access (.refl _ _) (fun _ => (.by (State.registerCancel_frame _) rfl (.refl _ _))) rfl
  case relayout =>
    have h : some (Access.mk _ _ _) = some a := h
    cases h
    exact Frame.access (.refl _ _) (fun _ => (.by (State.relayout_frame _) rfl (.refl _ _))) rfl
  case linkHold =>
    have h : some (Access.mk _ _ _) = some a := h
    cases h
    exact Frame.access (.refl _ _) (fun _ => (.by (State.writeLinkCtrl_frame _ _) rfl (.refl _ _))) rfl
  case linkPrbsTest =>
    have h : some (Access.mk _ _ _) = some a := h
    cases h
    exact Frame.access (.refl _ _) (fun _ => (.by (State.linkPrbs_frame _ _ _ _ _) rfl (.refl _ _))) rfl
  case channelEnable =>
    have h : some (Access.mk _ _ _) = some a := h
    cases h
    exact Frame.access (.refl _ _) (fun _ => (.by (State.writeChCtrl_frame _ _ _) rfl (.by (State.rsvCheck_frame _ _ _
      _) rfl (.refl _ _)))) rfl
  case channelDisable =>
    have h : some (Access.mk _ _ _) = some a := h
    cases h
    exact Frame.access (.refl _ _) (fun _ => (.by (State.writeChCtrl_frame _ _ _) rfl (.refl _ _))) rfl
  case channelStop =>
    have h : some (Access.mk _ _ _) = some a := h
    cases h
    exact Frame.access (.refl _ _) (fun _ => (.by (State.writeChCtrl_frame _ _ _) rfl (.refl _ _))) rfl
  case queueEnable =>
    have h : some (Access.mk _ _ _) = some a := h
    cases h
    exact Frame.access (.refl _ _) (fun _ => (.by (State.writeQCtrl_frame _ _ _) rfl (.by (State.rsvCheck_frame _ _ _
      _) rfl (.refl _ _)))) rfl
  case queueDisable =>
    have h : some (Access.mk _ _ _) = some a := h
    cases h
    exact Frame.access (.refl _ _) (fun _ => (.by (State.writeQCtrl_frame _ _ _) rfl (.refl _ _))) rfl
  case mailboxGo =>
    have h : some (Access.mk _ _ _) = some a := h
    cases h
    exact Frame.access (.refl _ _) (fun _ => (.by (State.mailboxGo_frame _) rfl (.refl _ _))) rfl
  case regRead =>
    obtain ⟨_, _, rfl⟩ := Option.map_eq_some_iff.mp h
    exact Frame.pelquel (.refl _ _) (fun _ _ => (.by (State.regRead_frame _ _ _ _ _) rfl (.refl _ _))) rfl
  case regWrite =>
    obtain ⟨_, _, rfl⟩ := Option.map_eq_some_iff.mp h
    exact Frame.pelquel (.refl _ _) (fun _ _ => (.by (State.writeAll_frame _ _ _ _ _) rfl (.refl _ _))) rfl
  case stageWrite =>
    obtain ⟨_, _, rfl⟩ := Option.map_eq_some_iff.mp h
    exact Frame.pelquel (.refl _ _) (fun _ _ => (.by (State.stageAll_frame _ _ _ _) rfl (.refl _ _))) rfl
  case stageLoad =>
    obtain ⟨_, _, rfl⟩ := Option.map_eq_some_iff.mp h
    exact Frame.pelquel (.refl _ _) (fun _ _ => (.by (State.stageAll_frame _ _ _ _) rfl (.refl _ _))) rfl
  case peLoad =>
    obtain ⟨_, _, rfl⟩ := Option.map_eq_some_iff.mp h
    exact Frame.pelquel (.refl _ _) (fun _ _ => (.by (State.peLoad_frame _ _ _) rfl (.refl _ _))) rfl
  case peStart =>
    obtain ⟨_, _, rfl⟩ := Option.map_eq_some_iff.mp h
    exact Frame.pelquel (.refl _ _) (fun _ _ => (.by (State.peAct_frame _ _ _) rfl (.refl _ _))) rfl
  case peStop =>
    obtain ⟨_, _, rfl⟩ := Option.map_eq_some_iff.mp h
    exact Frame.pelquel (.refl _ _) (fun _ _ => (.by (State.peAct_frame _ _ _) rfl (.refl _ _))) rfl
  case registerWrite =>
    have h : some (Access.mk _ _ _) = some a := h
    cases h
    exact .by (State.sizedWrite_frame _ _ _ _) rfl (.refl _ _)
  case wideLowRead =>
    have h : some (Access.mk _ _ _) = some a := h
    cases h
    exact .by (State.sizedRead_frame _ _ _ _ _ _) rfl (.refl _ _)
  case wideHighRead =>
    have h : some (Access.mk _ _ _) = some a := h
    cases h
    exact .by (State.sizedRead_frame _ _ _ _ _ _) rfl (.refl _ _)
  case assetWrite =>
    have h : some (Access.mk _ _ _) = some a := h
    cases h
    exact .by (State.busWrite_frame _ _ _ _) rfl (.refl _ _)
  case retrain =>
    have h : some (Access.mk _ _ _) = some a := h
    cases h
    exact Frame.access (.refl _ _) (fun _ => (.by (State.writePortCtrl_frame _ _ _) rfl (.refl _ _))) rfl
  case wlPrbsTest =>
    have h : some (Access.mk _ _ _) = some a := h
    cases h
    exact Frame.access (.refl _ _) (fun _ => (.by (State.portPrbs_frame _ _ _ _ _) rfl (.refl _ _))) rfl
  case rxPop =>
    have h : some (Access.mk _ _ _) = some a := h
    cases h
    exact Frame.access (.refl _ _) (fun _ => (.by (State.popMessage_frame _) rfl (.refl _ _))) rfl
  case penOpStart =>
    have h : some (Access.mk _ _ _) = some a := h
    cases h
    exact Frame.access (.refl _ _) (fun _ => (.by (State.penOp_frame _ _ _) rfl (.refl _ _))) rfl
  case penOpResume =>
    have h : some (Access.mk _ _ _) = some a := h
    cases h
    exact Frame.access (.refl _ _) (fun _ => (.by (State.penOp_frame _ _ _) rfl (.refl _ _))) rfl
  case penOpClockRestart =>
    have h : some (Access.mk _ _ _) = some a := h
    cases h
    exact Frame.access (.refl _ _) (fun _ => (.by (State.penOp_frame _ _ _) rfl (.refl _ _))) rfl
  case penOpStop =>
    have h : some (Access.mk _ _ _) = some a := h
    cases h
    exact Frame.access (.refl _ _) (fun _ => (.by (State.penOp_frame _ _ _) rfl (.refl _ _))) rfl
  case penTxWrite =>
    have h : some (Access.mk _ _ _) = some a := h
    cases h
    exact Frame.access (.refl _ _) (fun _ => (.by (State.txWrite_frame _ _ _) rfl (.refl _ _))) rfl
  case penRxPop =>
    have h : some (Access.mk _ _ _) = some a := h
    cases h
    exact Frame.access (.refl _ _) (fun _ => (.by (State.rxPop_frame _ _) rfl (.refl _ _))) rfl
  case penFlagSet =>
    have h : some (Access.mk _ _ _) = some a := h
    cases h
    exact Frame.access (.refl _ _) (fun _ => (.by (State.setFlags_frame _ _) rfl (.refl _ _))) rfl
  case penFlagClr =>
    have h : some (Access.mk _ _ _) = some a := h
    cases h
    exact Frame.access (.refl _ _) (fun _ => (.by (State.clrFlags_frame _ _ _) rfl (.refl _ _))) rfl
  case penStoreWrite =>
    have h : some (Access.mk _ _ _) = some a := h
    cases h
    exact Frame.access (.refl _ _) (fun _ => (.by (State.storeWrite_frame _ _ _ _ _) rfl (.refl _ _))) rfl
  case clockSettingWrite =>
    have h : some (Access.mk _ _ _) = some a := h
    cases h
    exact .by (State.busWrite_frame _ _ _ _) rfl (.refl _ _)
  case advance =>
    have h : some (Access.mk _ _ _) = some a := h
    cases h
    exact Frame.access (.refl _ _) (fun _ => (.by (State.advance_frame _) rfl (.refl _ _))) rfl
  case twWriteAccess =>
    have h : some (Access.mk _ _ _) = some a := h
    cases h
    exact .by (State.attnSettle_frame _) rfl (.by (State.twWrite_frame _ _ _) rfl (.refl _ _))
  case twReadAccess =>
    have h : some (Access.mk _ _ _) = some a := h
    cases h
    exact .by (State.attnSettle_frame _) rfl (.by (State.twRead_frame _ _ _ _ _ _) rfl (.refl _ _))
  case sensRearm =>
    have h : some (Access.mk _ _ _) = some a := h
    cases h
    exact Frame.access (.refl _ _) (fun _ => (.by (State.rearmSensors_frame _) rfl (.refl _ _))) rfl
  all_goals cases h

/-- An access changes no more than what accesses may change. -/
theorem accessOf_within {i : Instr} {s : State} {a : Access} (h : s.accessOf i = some a) :
    within (touches i) accessTouches = true := by
  cases i <;> first | (cases h; done) | rfl

theorem State.serveFirst_frame : ∀ (r : Nat) (regs : List Nat) (s : State),
    Frame accessTouches s (State.serveFirst r regs s) := by
  intro r
  induction r with
  | zero => exact fun _ s => .refl _ s
  | succ r ih =>
    intro regs s
    unfold State.serveFirst
    refine .each (ih _ _) fun j v => ?_
    split
    · rename_i a h
      exact .by (State.modCmd_frame _ _) rfl (.by (access_run h _) (accessOf_within h) (ih _ _))
    · exact .refl _ _

/-- A command that makes an access, with what goes before it. -/
theorem State.byPath_frame (i : Instr) (s : State) : Frame accessTouches s (s.byPath i) := by
  unfold State.byPath
  refine .ite (.by (State.modCmd_frame _ _) rfl (.refl _ _)) ?_
  split
  · rename_i a h
    exact .by (access_run h _) (accessOf_within h) (State.serveFirst_frame _ _ _)
  · exact .refl _ _

theorem unserved_sub {i : Instr} : ∀ {sv l : List Instr}, i ∈ unserved sv l → i ∈ l
  | _, [], h => h
  | sv, j :: t, h => by
    unfold unserved at h
    split at h
    · exact .tail _ (unserved_sub h)
    · cases h with
      | head => exact .head _
      | tail _ h => exact .tail _ (unserved_sub h)

theorem takeWhile_none {α : Type} {p : α → Bool} : ∀ {l : List α}, (∀ a, a ∈ l → p a = false) → l.takeWhile p = []
  | [], _ => rfl
  | a :: l, h => by rw [List.takeWhile_cons, h a (.head l)]; rfl

/-- With nothing in the core cycle beside it, no access goes first. -/
theorem State.dueFirst_alone {s : State} (h : s.alone = true) (r : Nat) (regs : List Nat) : s.dueFirst r regs = [] := by
  unfold State.alone at h
  rw [Bool.and_eq_true, List.all_eq_true] at h
  unfold State.dueFirst
  have e : ((unserved s.cmd.served s.pending).filter fun j => (s.accessOf j).any fun a => pathCode a.via.path == r).takeWhile
      (fun j => (s.accessOf j).any fun a => a.via.same) = [] := by
    refine takeWhile_none fun j m => ?_
    have := h.2 j (unserved_sub (List.mem_filter.mp m).1)
    simpa using this
  dsimp only
  rw [e]
  rfl

theorem State.serveFirst_alone {s : State} (h : s.alone = true) : ∀ (r : Nat) (regs : List Nat), s.serveFirst r regs = s
  | 0, _ => rfl
  | r + 1, regs => by
    unfold State.serveFirst
    rw [State.serveFirst_alone h r]
    dsimp only
    rw [State.dueFirst_alone h]
    rfl

/-- Alone in its core cycle, a command that makes an access makes it as the state stands. -/
theorem State.byPath_alone {s : State} (h : s.alone = true) (i : Instr) :
    s.byPath i = match s.accessOf i with
      | some a => a.run s
      | none => s := by
  unfold State.byPath
  have e : s.cmd.served = [] := by
    unfold State.alone at h
    rw [Bool.and_eq_true] at h
    exact List.isEmpty_iff.mp h.1
  rw [e]
  simp only [List.contains_nil, Bool.false_eq_true, if_false, State.serveFirst_alone h] <;>
    cases s.accessOf i <;> rfl

/-- Alone in its core cycle, an engine's step fetches as the state stands. -/
theorem State.byStep_alone {s : State} (h : s.alone = true) (e : Fin 8) (op : Nat) (f : State → State) :
    s.byStep e op f = f s := by
  unfold State.byStep
  rw [State.serveFirst_alone h]

theorem State.byPath_own {s : State} (h : s.alone = true) (i : Instr) : Frame (touches i) s (s.byPath i) := by
  rw [State.byPath_alone h]
  split
  · rename_i a e
    exact access_run e _
  · exact .refl _ _

end Sys2Proof.Machine
end

