-- ==== Sys2Proof/Laws/Parts.lean ====
section
/-! SUPPORT. One lemma per shared operation and part of the state that it leaves alone, from the frames of Laws/Ops.lean. -/

namespace Sys2Proof.Machine

variable (s : State)

@[simp] theorem State.fset_pending (a0 : Fld) (a1 : Nat) : (s.fset a0 a1).pending = s.pending := rfl
@[simp] theorem State.fset_tb (a0 : Fld) (a1 : Nat) : (s.fset a0 a1).tb = s.tb := rfl
@[simp] theorem State.fset_hb (a0 : Fld) (a1 : Nat) : (s.fset a0 a1).hb = s.hb := rfl
@[simp] theorem State.fset_felt (a0 : Fld) (a1 : Nat) : (s.fset a0 a1).felt = s.felt := rfl
@[simp] theorem State.fset_fu (a0 : Fld) (a1 : Nat) : (s.fset a0 a1).fu = s.fu := rfl
@[simp] theorem State.fset_cal (a0 : Fld) (a1 : Nat) : (s.fset a0 a1).cal = s.cal := rfl
@[simp] theorem State.fset_fmt (a0 : Fld) (a1 : Nat) : (s.fset a0 a1).fmt = s.fmt := rfl
@[simp] theorem State.fset_sts (a0 : Fld) (a1 : Nat) : (s.fset a0 a1).sts = s.sts := rfl
@[simp] theorem State.fset_scr (a0 : Fld) (a1 : Nat) : (s.fset a0 a1).scr = s.scr := rfl
@[simp] theorem State.fset_reel (a0 : Fld) (a1 : Nat) : (s.fset a0 a1).reel = s.reel := rfl
@[simp] theorem State.fset_window (a0 : Fld) (a1 : Nat) : (s.fset a0 a1).window = s.window := rfl
@[simp] theorem State.fset_poison (a0 : Fld) (a1 : Nat) : (s.fset a0 a1).poison = s.poison := rfl
@[simp] theorem State.fset_link (a0 : Fld) (a1 : Nat) : (s.fset a0 a1).link = s.link := rfl
@[simp] theorem State.fset_dma (a0 : Fld) (a1 : Nat) : (s.fset a0 a1).dma = s.dma := rfl
@[simp] theorem State.fset_cmd (a0 : Fld) (a1 : Nat) : (s.fset a0 a1).cmd = s.cmd := rfl
@[simp] theorem State.fset_wl (a0 : Fld) (a1 : Nat) : (s.fset a0 a1).wl = s.wl := rfl
@[simp] theorem State.fset_pen (a0 : Fld) (a1 : Nat) : (s.fset a0 a1).pen = s.pen := rfl
@[simp] theorem State.fset_clk (a0 : Fld) (a1 : Nat) : (s.fset a0 a1).clk = s.clk := rfl
@[simp] theorem State.fset_tnd (a0 : Fld) (a1 : Nat) : (s.fset a0 a1).tnd = s.tnd := rfl
@[simp] theorem State.fset_tw (a0 : Fld) (a1 : Nat) : (s.fset a0 a1).tw = s.tw := rfl
@[simp] theorem State.fset_thm (a0 : Fld) (a1 : Nat) : (s.fset a0 a1).thm = s.thm := rfl
@[simp] theorem State.fset_rst (a0 : Fld) (a1 : Nat) : (s.fset a0 a1).rst = s.rst := rfl
@[simp] theorem State.fset_obs (a0 : Fld) (a1 : Nat) : (s.fset a0 a1).obs = s.obs := rfl
@[simp] theorem State.fset_before (a0 : Fld) (a1 : Nat) : (s.fset a0 a1).before = s.before := rfl
@[simp] theorem State.fset_shadow (a0 : Fld) (a1 : Nat) : (s.fset a0 a1).shadow = s.shadow := rfl
@[simp] theorem State.fset_out (a0 : Fld) (a1 : Nat) : (s.fset a0 a1).out = s.out := rfl
@[simp] theorem State.fset_free (a0 : Fld) (a1 : Nat) : (s.fset a0 a1).free = s.free := rfl
@[simp] theorem State.count_pending (a0 : Fld) (a1 : Nat) : (s.count a0 a1).pending = s.pending := rfl
@[simp] theorem State.count_tb (a0 : Fld) (a1 : Nat) : (s.count a0 a1).tb = s.tb := rfl
@[simp] theorem State.count_hb (a0 : Fld) (a1 : Nat) : (s.count a0 a1).hb = s.hb := rfl
@[simp] theorem State.count_felt (a0 : Fld) (a1 : Nat) : (s.count a0 a1).felt = s.felt := rfl
@[simp] theorem State.count_fu (a0 : Fld) (a1 : Nat) : (s.count a0 a1).fu = s.fu := rfl
@[simp] theorem State.count_cal (a0 : Fld) (a1 : Nat) : (s.count a0 a1).cal = s.cal := rfl
@[simp] theorem State.count_fmt (a0 : Fld) (a1 : Nat) : (s.count a0 a1).fmt = s.fmt := rfl
@[simp] theorem State.count_sts (a0 : Fld) (a1 : Nat) : (s.count a0 a1).sts = s.sts := rfl
@[simp] theorem State.count_scr (a0 : Fld) (a1 : Nat) : (s.count a0 a1).scr = s.scr := rfl
@[simp] theorem State.count_reel (a0 : Fld) (a1 : Nat) : (s.count a0 a1).reel = s.reel := rfl
@[simp] theorem State.count_window (a0 : Fld) (a1 : Nat) : (s.count a0 a1).window = s.window := rfl
@[simp] theorem State.count_poison (a0 : Fld) (a1 : Nat) : (s.count a0 a1).poison = s.poison := rfl
@[simp] theorem State.count_link (a0 : Fld) (a1 : Nat) : (s.count a0 a1).link = s.link := rfl
@[simp] theorem State.count_dma (a0 : Fld) (a1 : Nat) : (s.count a0 a1).dma = s.dma := rfl
@[simp] theorem State.count_cmd (a0 : Fld) (a1 : Nat) : (s.count a0 a1).cmd = s.cmd := rfl
@[simp] theorem State.count_wl (a0 : Fld) (a1 : Nat) : (s.count a0 a1).wl = s.wl := rfl
@[simp] theorem State.count_pen (a0 : Fld) (a1 : Nat) : (s.count a0 a1).pen = s.pen := rfl
@[simp] theorem State.count_clk (a0 : Fld) (a1 : Nat) : (s.count a0 a1).clk = s.clk := rfl
@[simp] theorem State.count_tnd (a0 : Fld) (a1 : Nat) : (s.count a0 a1).tnd = s.tnd := rfl
@[simp] theorem State.count_tw (a0 : Fld) (a1 : Nat) : (s.count a0 a1).tw = s.tw := rfl
@[simp] theorem State.count_thm (a0 : Fld) (a1 : Nat) : (s.count a0 a1).thm = s.thm := rfl
@[simp] theorem State.count_rst (a0 : Fld) (a1 : Nat) : (s.count a0 a1).rst = s.rst := rfl
@[simp] theorem State.count_obs (a0 : Fld) (a1 : Nat) : (s.count a0 a1).obs = s.obs := rfl
@[simp] theorem State.count_before (a0 : Fld) (a1 : Nat) : (s.count a0 a1).before = s.before := rfl
@[simp] theorem State.count_shadow (a0 : Fld) (a1 : Nat) : (s.count a0 a1).shadow = s.shadow := rfl
@[simp] theorem State.count_out (a0 : Fld) (a1 : Nat) : (s.count a0 a1).out = s.out := rfl
@[simp] theorem State.count_free (a0 : Fld) (a1 : Nat) : (s.count a0 a1).free = s.free := rfl
@[simp] theorem State.countSat_pending (a0 : Fld) (a1 : Nat) : (s.countSat a0 a1).pending = s.pending := rfl
@[simp] theorem State.countSat_tb (a0 : Fld) (a1 : Nat) : (s.countSat a0 a1).tb = s.tb := rfl
@[simp] theorem State.countSat_hb (a0 : Fld) (a1 : Nat) : (s.countSat a0 a1).hb = s.hb := rfl
@[simp] theorem State.countSat_felt (a0 : Fld) (a1 : Nat) : (s.countSat a0 a1).felt = s.felt := rfl
@[simp] theorem State.countSat_fu (a0 : Fld) (a1 : Nat) : (s.countSat a0 a1).fu = s.fu := rfl
@[simp] theorem State.countSat_cal (a0 : Fld) (a1 : Nat) : (s.countSat a0 a1).cal = s.cal := rfl
@[simp] theorem State.countSat_fmt (a0 : Fld) (a1 : Nat) : (s.countSat a0 a1).fmt = s.fmt := rfl
@[simp] theorem State.countSat_sts (a0 : Fld) (a1 : Nat) : (s.countSat a0 a1).sts = s.sts := rfl
@[simp] theorem State.countSat_scr (a0 : Fld) (a1 : Nat) : (s.countSat a0 a1).scr = s.scr := rfl
@[simp] theorem State.countSat_reel (a0 : Fld) (a1 : Nat) : (s.countSat a0 a1).reel = s.reel := rfl
@[simp] theorem State.countSat_window (a0 : Fld) (a1 : Nat) : (s.countSat a0 a1).window = s.window := rfl
@[simp] theorem State.countSat_poison (a0 : Fld) (a1 : Nat) : (s.countSat a0 a1).poison = s.poison := rfl
@[simp] theorem State.countSat_link (a0 : Fld) (a1 : Nat) : (s.countSat a0 a1).link = s.link := rfl
@[simp] theorem State.countSat_dma (a0 : Fld) (a1 : Nat) : (s.countSat a0 a1).dma = s.dma := rfl
@[simp] theorem State.countSat_cmd (a0 : Fld) (a1 : Nat) : (s.countSat a0 a1).cmd = s.cmd := rfl
@[simp] theorem State.countSat_wl (a0 : Fld) (a1 : Nat) : (s.countSat a0 a1).wl = s.wl := rfl
@[simp] theorem State.countSat_pen (a0 : Fld) (a1 : Nat) : (s.countSat a0 a1).pen = s.pen := rfl
@[simp] theorem State.countSat_clk (a0 : Fld) (a1 : Nat) : (s.countSat a0 a1).clk = s.clk := rfl
@[simp] theorem State.countSat_tnd (a0 : Fld) (a1 : Nat) : (s.countSat a0 a1).tnd = s.tnd := rfl
@[simp] theorem State.countSat_tw (a0 : Fld) (a1 : Nat) : (s.countSat a0 a1).tw = s.tw := rfl
@[simp] theorem State.countSat_thm (a0 : Fld) (a1 : Nat) : (s.countSat a0 a1).thm = s.thm := rfl
@[simp] theorem State.countSat_rst (a0 : Fld) (a1 : Nat) : (s.countSat a0 a1).rst = s.rst := rfl
@[simp] theorem State.countSat_obs (a0 : Fld) (a1 : Nat) : (s.countSat a0 a1).obs = s.obs := rfl
@[simp] theorem State.countSat_before (a0 : Fld) (a1 : Nat) : (s.countSat a0 a1).before = s.before := rfl
@[simp] theorem State.countSat_shadow (a0 : Fld) (a1 : Nat) : (s.countSat a0 a1).shadow = s.shadow := rfl
@[simp] theorem State.countSat_out (a0 : Fld) (a1 : Nat) : (s.countSat a0 a1).out = s.out := rfl
@[simp] theorem State.countSat_free (a0 : Fld) (a1 : Nat) : (s.countSat a0 a1).free = s.free := rfl
@[simp] theorem State.bump_pending (a0 : Nat) (a1 : Nat) : (s.bump a0 a1).pending = s.pending := (State.bump_frame a0 a1 s).1 .pending rfl
@[simp] theorem State.bump_regs (a0 : Nat) (a1 : Nat) : (s.bump a0 a1).regs = s.regs := (State.bump_frame a0 a1 s).1 .regs rfl
@[simp] theorem State.bump_tb (a0 : Nat) (a1 : Nat) : (s.bump a0 a1).tb = s.tb := (State.bump_frame a0 a1 s).1 .tb rfl
@[simp] theorem State.bump_hb (a0 : Nat) (a1 : Nat) : (s.bump a0 a1).hb = s.hb := (State.bump_frame a0 a1 s).1 .hb rfl
@[simp] theorem State.bump_felt (a0 : Nat) (a1 : Nat) : (s.bump a0 a1).felt = s.felt := (State.bump_frame a0 a1 s).1 .felt rfl
@[simp] theorem State.bump_fu (a0 : Nat) (a1 : Nat) : (s.bump a0 a1).fu = s.fu := (State.bump_frame a0 a1 s).1 .fu rfl
@[simp] theorem State.bump_cal (a0 : Nat) (a1 : Nat) : (s.bump a0 a1).cal = s.cal := (State.bump_frame a0 a1 s).1 .cal rfl
@[simp] theorem State.bump_fmt (a0 : Nat) (a1 : Nat) : (s.bump a0 a1).fmt = s.fmt := (State.bump_frame a0 a1 s).1 .fmt rfl
@[simp] theorem State.bump_sts (a0 : Nat) (a1 : Nat) : (s.bump a0 a1).sts = s.sts := (State.bump_frame a0 a1 s).1 .sts rfl
@[simp] theorem State.bump_scr (a0 : Nat) (a1 : Nat) : (s.bump a0 a1).scr = s.scr := (State.bump_frame a0 a1 s).1 .scr rfl
@[simp] theorem State.bump_reel (a0 : Nat) (a1 : Nat) : (s.bump a0 a1).reel = s.reel := (State.bump_frame a0 a1 s).1 .reel rfl
@[simp] theorem State.bump_window (a0 : Nat) (a1 : Nat) : (s.bump a0 a1).window = s.window := (State.bump_frame a0 a1 s).1 .window rfl
@[simp] theorem State.bump_poison (a0 : Nat) (a1 : Nat) : (s.bump a0 a1).poison = s.poison := (State.bump_frame a0 a1 s).1 .poison rfl
@[simp] theorem State.bump_link (a0 : Nat) (a1 : Nat) : (s.bump a0 a1).link = s.link := (State.bump_frame a0 a1 s).1 .link rfl
@[simp] theorem State.bump_dma (a0 : Nat) (a1 : Nat) : (s.bump a0 a1).dma = s.dma := (State.bump_frame a0 a1 s).1 .dma rfl
@[simp] theorem State.bump_cmd (a0 : Nat) (a1 : Nat) : (s.bump a0 a1).cmd = s.cmd := (State.bump_frame a0 a1 s).1 .cmd rfl
@[simp] theorem State.bump_wl (a0 : Nat) (a1 : Nat) : (s.bump a0 a1).wl = s.wl := (State.bump_frame a0 a1 s).1 .wl rfl
@[simp] theorem State.bump_pen (a0 : Nat) (a1 : Nat) : (s.bump a0 a1).pen = s.pen := (State.bump_frame a0 a1 s).1 .pen rfl
@[simp] theorem State.bump_clk (a0 : Nat) (a1 : Nat) : (s.bump a0 a1).clk = s.clk := (State.bump_frame a0 a1 s).1 .clk rfl
@[simp] theorem State.bump_tnd (a0 : Nat) (a1 : Nat) : (s.bump a0 a1).tnd = s.tnd := (State.bump_frame a0 a1 s).1 .tnd rfl
@[simp] theorem State.bump_tw (a0 : Nat) (a1 : Nat) : (s.bump a0 a1).tw = s.tw := (State.bump_frame a0 a1 s).1 .tw rfl
@[simp] theorem State.bump_thm (a0 : Nat) (a1 : Nat) : (s.bump a0 a1).thm = s.thm := (State.bump_frame a0 a1 s).1 .thm rfl
@[simp] theorem State.bump_rst (a0 : Nat) (a1 : Nat) : (s.bump a0 a1).rst = s.rst := (State.bump_frame a0 a1 s).1 .rst rfl
@[simp] theorem State.bump_before (a0 : Nat) (a1 : Nat) : (s.bump a0 a1).before = s.before := (State.bump_frame a0 a1 s).1 .before rfl
@[simp] theorem State.bump_shadow (a0 : Nat) (a1 : Nat) : (s.bump a0 a1).shadow = s.shadow := (State.bump_frame a0 a1 s).1 .shadow rfl
@[simp] theorem State.bump_out (a0 : Nat) (a1 : Nat) : (s.bump a0 a1).out = s.out := (State.bump_frame a0 a1 s).1 .out rfl
@[simp] theorem State.bump_free (a0 : Nat) (a1 : Nat) : (s.bump a0 a1).free = s.free := (State.bump_frame a0 a1 s).1 .free rfl
@[simp] theorem State.trace_pending (a0 : Nat) (a1 : Nat) (a2 : Word) : (s.trace a0 a1 a2).pending = s.pending := (State.trace_frame a0 a1 a2 s).1 .pending rfl
@[simp] theorem State.trace_regs (a0 : Nat) (a1 : Nat) (a2 : Word) : (s.trace a0 a1 a2).regs = s.regs := (State.trace_frame a0 a1 a2 s).1 .regs rfl
@[simp] theorem State.trace_tb (a0 : Nat) (a1 : Nat) (a2 : Word) : (s.trace a0 a1 a2).tb = s.tb := (State.trace_frame a0 a1 a2 s).1 .tb rfl
@[simp] theorem State.trace_hb (a0 : Nat) (a1 : Nat) (a2 : Word) : (s.trace a0 a1 a2).hb = s.hb := (State.trace_frame a0 a1 a2 s).1 .hb rfl
@[simp] theorem State.trace_felt (a0 : Nat) (a1 : Nat) (a2 : Word) : (s.trace a0 a1 a2).felt = s.felt := (State.trace_frame a0 a1 a2 s).1 .felt rfl
@[simp] theorem State.trace_fu (a0 : Nat) (a1 : Nat) (a2 : Word) : (s.trace a0 a1 a2).fu = s.fu := (State.trace_frame a0 a1 a2 s).1 .fu rfl
@[simp] theorem State.trace_cal (a0 : Nat) (a1 : Nat) (a2 : Word) : (s.trace a0 a1 a2).cal = s.cal := (State.trace_frame a0 a1 a2 s).1 .cal rfl
@[simp] theorem State.trace_fmt (a0 : Nat) (a1 : Nat) (a2 : Word) : (s.trace a0 a1 a2).fmt = s.fmt := (State.trace_frame a0 a1 a2 s).1 .fmt rfl
@[simp] theorem State.trace_sts (a0 : Nat) (a1 : Nat) (a2 : Word) : (s.trace a0 a1 a2).sts = s.sts := (State.trace_frame a0 a1 a2 s).1 .sts rfl
@[simp] theorem State.trace_scr (a0 : Nat) (a1 : Nat) (a2 : Word) : (s.trace a0 a1 a2).scr = s.scr := (State.trace_frame a0 a1 a2 s).1 .scr rfl
@[simp] theorem State.trace_reel (a0 : Nat) (a1 : Nat) (a2 : Word) : (s.trace a0 a1 a2).reel = s.reel := (State.trace_frame a0 a1 a2 s).1 .reel rfl
@[simp] theorem State.trace_window (a0 : Nat) (a1 : Nat) (a2 : Word) : (s.trace a0 a1 a2).window = s.window := (State.trace_frame a0 a1 a2 s).1 .window rfl
@[simp] theorem State.trace_poison (a0 : Nat) (a1 : Nat) (a2 : Word) : (s.trace a0 a1 a2).poison = s.poison := (State.trace_frame a0 a1 a2 s).1 .poison rfl
@[simp] theorem State.trace_link (a0 : Nat) (a1 : Nat) (a2 : Word) : (s.trace a0 a1 a2).link = s.link := (State.trace_frame a0 a1 a2 s).1 .link rfl
@[simp] theorem State.trace_dma (a0 : Nat) (a1 : Nat) (a2 : Word) : (s.trace a0 a1 a2).dma = s.dma := (State.trace_frame a0 a1 a2 s).1 .dma rfl
@[simp] theorem State.trace_cmd (a0 : Nat) (a1 : Nat) (a2 : Word) : (s.trace a0 a1 a2).cmd = s.cmd := (State.trace_frame a0 a1 a2 s).1 .cmd rfl
@[simp] theorem State.trace_wl (a0 : Nat) (a1 : Nat) (a2 : Word) : (s.trace a0 a1 a2).wl = s.wl := (State.trace_frame a0 a1 a2 s).1 .wl rfl
@[simp] theorem State.trace_pen (a0 : Nat) (a1 : Nat) (a2 : Word) : (s.trace a0 a1 a2).pen = s.pen := (State.trace_frame a0 a1 a2 s).1 .pen rfl
@[simp] theorem State.trace_clk (a0 : Nat) (a1 : Nat) (a2 : Word) : (s.trace a0 a1 a2).clk = s.clk := (State.trace_frame a0 a1 a2 s).1 .clk rfl
@[simp] theorem State.trace_tnd (a0 : Nat) (a1 : Nat) (a2 : Word) : (s.trace a0 a1 a2).tnd = s.tnd := (State.trace_frame a0 a1 a2 s).1 .tnd rfl
@[simp] theorem State.trace_tw (a0 : Nat) (a1 : Nat) (a2 : Word) : (s.trace a0 a1 a2).tw = s.tw := (State.trace_frame a0 a1 a2 s).1 .tw rfl
@[simp] theorem State.trace_thm (a0 : Nat) (a1 : Nat) (a2 : Word) : (s.trace a0 a1 a2).thm = s.thm := (State.trace_frame a0 a1 a2 s).1 .thm rfl
@[simp] theorem State.trace_rst (a0 : Nat) (a1 : Nat) (a2 : Word) : (s.trace a0 a1 a2).rst = s.rst := (State.trace_frame a0 a1 a2 s).1 .rst rfl
@[simp] theorem State.trace_before (a0 : Nat) (a1 : Nat) (a2 : Word) : (s.trace a0 a1 a2).before = s.before := (State.trace_frame a0 a1 a2 s).1 .before rfl
@[simp] theorem State.trace_shadow (a0 : Nat) (a1 : Nat) (a2 : Word) : (s.trace a0 a1 a2).shadow = s.shadow := (State.trace_frame a0 a1 a2 s).1 .shadow rfl
@[simp] theorem State.trace_out (a0 : Nat) (a1 : Nat) (a2 : Word) : (s.trace a0 a1 a2).out = s.out := (State.trace_frame a0 a1 a2 s).1 .out rfl
@[simp] theorem State.trace_free (a0 : Nat) (a1 : Nat) (a2 : Word) : (s.trace a0 a1 a2).free = s.free := (State.trace_frame a0 a1 a2 s).1 .free rfl
@[simp] theorem State.msix_pending (a0 : Nat) : (s.msix a0).pending = s.pending := (State.msix_frame a0 s).1 .pending rfl
@[simp] theorem State.msix_regs (a0 : Nat) : (s.msix a0).regs = s.regs := (State.msix_frame a0 s).1 .regs rfl
@[simp] theorem State.msix_tb (a0 : Nat) : (s.msix a0).tb = s.tb := (State.msix_frame a0 s).1 .tb rfl
@[simp] theorem State.msix_hb (a0 : Nat) : (s.msix a0).hb = s.hb := (State.msix_frame a0 s).1 .hb rfl
@[simp] theorem State.msix_felt (a0 : Nat) : (s.msix a0).felt = s.felt := (State.msix_frame a0 s).1 .felt rfl
@[simp] theorem State.msix_fu (a0 : Nat) : (s.msix a0).fu = s.fu := (State.msix_frame a0 s).1 .fu rfl
@[simp] theorem State.msix_cal (a0 : Nat) : (s.msix a0).cal = s.cal := (State.msix_frame a0 s).1 .cal rfl
@[simp] theorem State.msix_fmt (a0 : Nat) : (s.msix a0).fmt = s.fmt := (State.msix_frame a0 s).1 .fmt rfl
@[simp] theorem State.msix_sts (a0 : Nat) : (s.msix a0).sts = s.sts := (State.msix_frame a0 s).1 .sts rfl
@[simp] theorem State.msix_scr (a0 : Nat) : (s.msix a0).scr = s.scr := (State.msix_frame a0 s).1 .scr rfl
@[simp] theorem State.msix_reel (a0 : Nat) : (s.msix a0).reel = s.reel := (State.msix_frame a0 s).1 .reel rfl
@[simp] theorem State.msix_window (a0 : Nat) : (s.msix a0).window = s.window := (State.msix_frame a0 s).1 .window rfl
@[simp] theorem State.msix_poison (a0 : Nat) : (s.msix a0).poison = s.poison := (State.msix_frame a0 s).1 .poison rfl
@[simp] theorem State.msix_dma (a0 : Nat) : (s.msix a0).dma = s.dma := (State.msix_frame a0 s).1 .dma rfl
@[simp] theorem State.msix_cmd (a0 : Nat) : (s.msix a0).cmd = s.cmd := (State.msix_frame a0 s).1 .cmd rfl
@[simp] theorem State.msix_wl (a0 : Nat) : (s.msix a0).wl = s.wl := (State.msix_frame a0 s).1 .wl rfl
@[simp] theorem State.msix_pen (a0 : Nat) : (s.msix a0).pen = s.pen := (State.msix_frame a0 s).1 .pen rfl
@[simp] theorem State.msix_clk (a0 : Nat) : (s.msix a0).clk = s.clk := (State.msix_frame a0 s).1 .clk rfl
@[simp] theorem State.msix_tnd (a0 : Nat) : (s.msix a0).tnd = s.tnd := (State.msix_frame a0 s).1 .tnd rfl
@[simp] theorem State.msix_tw (a0 : Nat) : (s.msix a0).tw = s.tw := (State.msix_frame a0 s).1 .tw rfl
@[simp] theorem State.msix_thm (a0 : Nat) : (s.msix a0).thm = s.thm := (State.msix_frame a0 s).1 .thm rfl
@[simp] theorem State.msix_rst (a0 : Nat) : (s.msix a0).rst = s.rst := (State.msix_frame a0 s).1 .rst rfl
@[simp] theorem State.msix_obs (a0 : Nat) : (s.msix a0).obs = s.obs := (State.msix_frame a0 s).1 .obs rfl
@[simp] theorem State.msix_before (a0 : Nat) : (s.msix a0).before = s.before := (State.msix_frame a0 s).1 .before rfl
@[simp] theorem State.msix_shadow (a0 : Nat) : (s.msix a0).shadow = s.shadow := (State.msix_frame a0 s).1 .shadow rfl
@[simp] theorem State.msix_free (a0 : Nat) : (s.msix a0).free = s.free := (State.msix_frame a0 s).1 .free rfl
@[simp] theorem State.raise_pending (a0 : Fld) : (s.raise a0).pending = s.pending := (State.raise_any a0 s).1 .pending rfl
@[simp] theorem State.raise_tb (a0 : Fld) : (s.raise a0).tb = s.tb := (State.raise_any a0 s).1 .tb rfl
@[simp] theorem State.raise_hb (a0 : Fld) : (s.raise a0).hb = s.hb := (State.raise_any a0 s).1 .hb rfl
@[simp] theorem State.raise_felt (a0 : Fld) : (s.raise a0).felt = s.felt := (State.raise_any a0 s).1 .felt rfl
@[simp] theorem State.raise_fu (a0 : Fld) : (s.raise a0).fu = s.fu := (State.raise_any a0 s).1 .fu rfl
@[simp] theorem State.raise_cal (a0 : Fld) : (s.raise a0).cal = s.cal := (State.raise_any a0 s).1 .cal rfl
@[simp] theorem State.raise_fmt (a0 : Fld) : (s.raise a0).fmt = s.fmt := (State.raise_any a0 s).1 .fmt rfl
@[simp] theorem State.raise_sts (a0 : Fld) : (s.raise a0).sts = s.sts := (State.raise_any a0 s).1 .sts rfl
@[simp] theorem State.raise_scr (a0 : Fld) : (s.raise a0).scr = s.scr := (State.raise_any a0 s).1 .scr rfl
@[simp] theorem State.raise_reel (a0 : Fld) : (s.raise a0).reel = s.reel := (State.raise_any a0 s).1 .reel rfl
@[simp] theorem State.raise_window (a0 : Fld) : (s.raise a0).window = s.window := (State.raise_any a0 s).1 .window rfl
@[simp] theorem State.raise_poison (a0 : Fld) : (s.raise a0).poison = s.poison := (State.raise_any a0 s).1 .poison rfl
@[simp] theorem State.raise_dma (a0 : Fld) : (s.raise a0).dma = s.dma := (State.raise_any a0 s).1 .dma rfl
@[simp] theorem State.raise_cmd (a0 : Fld) : (s.raise a0).cmd = s.cmd := (State.raise_any a0 s).1 .cmd rfl
@[simp] theorem State.raise_wl (a0 : Fld) : (s.raise a0).wl = s.wl := (State.raise_any a0 s).1 .wl rfl
@[simp] theorem State.raise_pen (a0 : Fld) : (s.raise a0).pen = s.pen := (State.raise_any a0 s).1 .pen rfl
@[simp] theorem State.raise_clk (a0 : Fld) : (s.raise a0).clk = s.clk := (State.raise_any a0 s).1 .clk rfl
@[simp] theorem State.raise_tnd (a0 : Fld) : (s.raise a0).tnd = s.tnd := (State.raise_any a0 s).1 .tnd rfl
@[simp] theorem State.raise_tw (a0 : Fld) : (s.raise a0).tw = s.tw := (State.raise_any a0 s).1 .tw rfl
@[simp] theorem State.raise_thm (a0 : Fld) : (s.raise a0).thm = s.thm := (State.raise_any a0 s).1 .thm rfl
@[simp] theorem State.raise_rst (a0 : Fld) : (s.raise a0).rst = s.rst := (State.raise_any a0 s).1 .rst rfl
@[simp] theorem State.raise_before (a0 : Fld) : (s.raise a0).before = s.before := (State.raise_any a0 s).1 .before rfl
@[simp] theorem State.raise_shadow (a0 : Fld) : (s.raise a0).shadow = s.shadow := (State.raise_any a0 s).1 .shadow rfl
@[simp] theorem State.raise_free (a0 : Fld) : (s.raise a0).free = s.free := (State.raise_any a0 s).1 .free rfl
@[simp] theorem State.post_pending (a0 : Option Nat) (a1 : Nat) (a2 : List Byte) : (s.post a0 a1 a2).pending = s.pending := (State.post_frame a0 a1 a2 s).1 .pending rfl
@[simp] theorem State.post_tb (a0 : Option Nat) (a1 : Nat) (a2 : List Byte) : (s.post a0 a1 a2).tb = s.tb := (State.post_frame a0 a1 a2 s).1 .tb rfl
@[simp] theorem State.post_hb (a0 : Option Nat) (a1 : Nat) (a2 : List Byte) : (s.post a0 a1 a2).hb = s.hb := (State.post_frame a0 a1 a2 s).1 .hb rfl
@[simp] theorem State.post_felt (a0 : Option Nat) (a1 : Nat) (a2 : List Byte) : (s.post a0 a1 a2).felt = s.felt := (State.post_frame a0 a1 a2 s).1 .felt rfl
@[simp] theorem State.post_fu (a0 : Option Nat) (a1 : Nat) (a2 : List Byte) : (s.post a0 a1 a2).fu = s.fu := (State.post_frame a0 a1 a2 s).1 .fu rfl
@[simp] theorem State.post_cal (a0 : Option Nat) (a1 : Nat) (a2 : List Byte) : (s.post a0 a1 a2).cal = s.cal := (State.post_frame a0 a1 a2 s).1 .cal rfl
@[simp] theorem State.post_fmt (a0 : Option Nat) (a1 : Nat) (a2 : List Byte) : (s.post a0 a1 a2).fmt = s.fmt := (State.post_frame a0 a1 a2 s).1 .fmt rfl
@[simp] theorem State.post_sts (a0 : Option Nat) (a1 : Nat) (a2 : List Byte) : (s.post a0 a1 a2).sts = s.sts := (State.post_frame a0 a1 a2 s).1 .sts rfl
@[simp] theorem State.post_scr (a0 : Option Nat) (a1 : Nat) (a2 : List Byte) : (s.post a0 a1 a2).scr = s.scr := (State.post_frame a0 a1 a2 s).1 .scr rfl
@[simp] theorem State.post_reel (a0 : Option Nat) (a1 : Nat) (a2 : List Byte) : (s.post a0 a1 a2).reel = s.reel := (State.post_frame a0 a1 a2 s).1 .reel rfl
@[simp] theorem State.post_window (a0 : Option Nat) (a1 : Nat) (a2 : List Byte) : (s.post a0 a1 a2).window = s.window := (State.post_frame a0 a1 a2 s).1 .window rfl
@[simp] theorem State.post_poison (a0 : Option Nat) (a1 : Nat) (a2 : List Byte) : (s.post a0 a1 a2).poison = s.poison := (State.post_frame a0 a1 a2 s).1 .poison rfl
@[simp] theorem State.post_dma (a0 : Option Nat) (a1 : Nat) (a2 : List Byte) : (s.post a0 a1 a2).dma = s.dma := (State.post_frame a0 a1 a2 s).1 .dma rfl
@[simp] theorem State.post_cmd (a0 : Option Nat) (a1 : Nat) (a2 : List Byte) : (s.post a0 a1 a2).cmd = s.cmd := (State.post_frame a0 a1 a2 s).1 .cmd rfl
@[simp] theorem State.post_wl (a0 : Option Nat) (a1 : Nat) (a2 : List Byte) : (s.post a0 a1 a2).wl = s.wl := (State.post_frame a0 a1 a2 s).1 .wl rfl
@[simp] theorem State.post_pen (a0 : Option Nat) (a1 : Nat) (a2 : List Byte) : (s.post a0 a1 a2).pen = s.pen := (State.post_frame a0 a1 a2 s).1 .pen rfl
@[simp] theorem State.post_clk (a0 : Option Nat) (a1 : Nat) (a2 : List Byte) : (s.post a0 a1 a2).clk = s.clk := (State.post_frame a0 a1 a2 s).1 .clk rfl
@[simp] theorem State.post_tw (a0 : Option Nat) (a1 : Nat) (a2 : List Byte) : (s.post a0 a1 a2).tw = s.tw := (State.post_frame a0 a1 a2 s).1 .tw rfl
@[simp] theorem State.post_thm (a0 : Option Nat) (a1 : Nat) (a2 : List Byte) : (s.post a0 a1 a2).thm = s.thm := (State.post_frame a0 a1 a2 s).1 .thm rfl
@[simp] theorem State.post_rst (a0 : Option Nat) (a1 : Nat) (a2 : List Byte) : (s.post a0 a1 a2).rst = s.rst := (State.post_frame a0 a1 a2 s).1 .rst rfl
@[simp] theorem State.post_before (a0 : Option Nat) (a1 : Nat) (a2 : List Byte) : (s.post a0 a1 a2).before = s.before := (State.post_frame a0 a1 a2 s).1 .before rfl
@[simp] theorem State.post_shadow (a0 : Option Nat) (a1 : Nat) (a2 : List Byte) : (s.post a0 a1 a2).shadow = s.shadow := (State.post_frame a0 a1 a2 s).1 .shadow rfl
@[simp] theorem State.post_free (a0 : Option Nat) (a1 : Nat) (a2 : List Byte) : (s.post a0 a1 a2).free = s.free := (State.post_frame a0 a1 a2 s).1 .free rfl
@[simp] theorem State.postAlarm_pending (a0 : Nat) (a1 : List Byte) : (s.postAlarm a0 a1).pending = s.pending := (State.postAlarm_frame a0 a1 s).1 .pending rfl
@[simp] theorem State.postAlarm_tb (a0 : Nat) (a1 : List Byte) : (s.postAlarm a0 a1).tb = s.tb := (State.postAlarm_frame a0 a1 s).1 .tb rfl
@[simp] theorem State.postAlarm_hb (a0 : Nat) (a1 : List Byte) : (s.postAlarm a0 a1).hb = s.hb := (State.postAlarm_frame a0 a1 s).1 .hb rfl
@[simp] theorem State.postAlarm_felt (a0 : Nat) (a1 : List Byte) : (s.postAlarm a0 a1).felt = s.felt := (State.postAlarm_frame a0 a1 s).1 .felt rfl
@[simp] theorem State.postAlarm_fu (a0 : Nat) (a1 : List Byte) : (s.postAlarm a0 a1).fu = s.fu := (State.postAlarm_frame a0 a1 s).1 .fu rfl
@[simp] theorem State.postAlarm_cal (a0 : Nat) (a1 : List Byte) : (s.postAlarm a0 a1).cal = s.cal := (State.postAlarm_frame a0 a1 s).1 .cal rfl
@[simp] theorem State.postAlarm_fmt (a0 : Nat) (a1 : List Byte) : (s.postAlarm a0 a1).fmt = s.fmt := (State.postAlarm_frame a0 a1 s).1 .fmt rfl
@[simp] theorem State.postAlarm_sts (a0 : Nat) (a1 : List Byte) : (s.postAlarm a0 a1).sts = s.sts := (State.postAlarm_frame a0 a1 s).1 .sts rfl
@[simp] theorem State.postAlarm_scr (a0 : Nat) (a1 : List Byte) : (s.postAlarm a0 a1).scr = s.scr := (State.postAlarm_frame a0 a1 s).1 .scr rfl
@[simp] theorem State.postAlarm_reel (a0 : Nat) (a1 : List Byte) : (s.postAlarm a0 a1).reel = s.reel := (State.postAlarm_frame a0 a1 s).1 .reel rfl
@[simp] theorem State.postAlarm_window (a0 : Nat) (a1 : List Byte) : (s.postAlarm a0 a1).window = s.window := (State.postAlarm_frame a0 a1 s).1 .window rfl
@[simp] theorem State.postAlarm_poison (a0 : Nat) (a1 : List Byte) : (s.postAlarm a0 a1).poison = s.poison := (State.postAlarm_frame a0 a1 s).1 .poison rfl
@[simp] theorem State.postAlarm_dma (a0 : Nat) (a1 : List Byte) : (s.postAlarm a0 a1).dma = s.dma := (State.postAlarm_frame a0 a1 s).1 .dma rfl
@[simp] theorem State.postAlarm_cmd (a0 : Nat) (a1 : List Byte) : (s.postAlarm a0 a1).cmd = s.cmd := (State.postAlarm_frame a0 a1 s).1 .cmd rfl
@[simp] theorem State.postAlarm_wl (a0 : Nat) (a1 : List Byte) : (s.postAlarm a0 a1).wl = s.wl := (State.postAlarm_frame a0 a1 s).1 .wl rfl
@[simp] theorem State.postAlarm_pen (a0 : Nat) (a1 : List Byte) : (s.postAlarm a0 a1).pen = s.pen := (State.postAlarm_frame a0 a1 s).1 .pen rfl
@[simp] theorem State.postAlarm_clk (a0 : Nat) (a1 : List Byte) : (s.postAlarm a0 a1).clk = s.clk := (State.postAlarm_frame a0 a1 s).1 .clk rfl
@[simp] theorem State.postAlarm_tw (a0 : Nat) (a1 : List Byte) : (s.postAlarm a0 a1).tw = s.tw := (State.postAlarm_frame a0 a1 s).1 .tw rfl
@[simp] theorem State.postAlarm_thm (a0 : Nat) (a1 : List Byte) : (s.postAlarm a0 a1).thm = s.thm := (State.postAlarm_frame a0 a1 s).1 .thm rfl
@[simp] theorem State.postAlarm_rst (a0 : Nat) (a1 : List Byte) : (s.postAlarm a0 a1).rst = s.rst := (State.postAlarm_frame a0 a1 s).1 .rst rfl
@[simp] theorem State.postAlarm_before (a0 : Nat) (a1 : List Byte) : (s.postAlarm a0 a1).before = s.before := (State.postAlarm_frame a0 a1 s).1 .before rfl
@[simp] theorem State.postAlarm_shadow (a0 : Nat) (a1 : List Byte) : (s.postAlarm a0 a1).shadow = s.shadow := (State.postAlarm_frame a0 a1 s).1 .shadow rfl
@[simp] theorem State.postAlarm_free (a0 : Nat) (a1 : List Byte) : (s.postAlarm a0 a1).free = s.free := (State.postAlarm_frame a0 a1 s).1 .free rfl
@[simp] theorem State.alarmOf_pending (a0 : Fld) (a1 : Nat) : (s.alarmOf a0 a1).pending = s.pending := (State.alarmOf_frame a0 a1 s).1 .pending rfl
@[simp] theorem State.alarmOf_tb (a0 : Fld) (a1 : Nat) : (s.alarmOf a0 a1).tb = s.tb := (State.alarmOf_frame a0 a1 s).1 .tb rfl
@[simp] theorem State.alarmOf_hb (a0 : Fld) (a1 : Nat) : (s.alarmOf a0 a1).hb = s.hb := (State.alarmOf_frame a0 a1 s).1 .hb rfl
@[simp] theorem State.alarmOf_felt (a0 : Fld) (a1 : Nat) : (s.alarmOf a0 a1).felt = s.felt := (State.alarmOf_frame a0 a1 s).1 .felt rfl
@[simp] theorem State.alarmOf_fu (a0 : Fld) (a1 : Nat) : (s.alarmOf a0 a1).fu = s.fu := (State.alarmOf_frame a0 a1 s).1 .fu rfl
@[simp] theorem State.alarmOf_cal (a0 : Fld) (a1 : Nat) : (s.alarmOf a0 a1).cal = s.cal := (State.alarmOf_frame a0 a1 s).1 .cal rfl
@[simp] theorem State.alarmOf_fmt (a0 : Fld) (a1 : Nat) : (s.alarmOf a0 a1).fmt = s.fmt := (State.alarmOf_frame a0 a1 s).1 .fmt rfl
@[simp] theorem State.alarmOf_sts (a0 : Fld) (a1 : Nat) : (s.alarmOf a0 a1).sts = s.sts := (State.alarmOf_frame a0 a1 s).1 .sts rfl
@[simp] theorem State.alarmOf_scr (a0 : Fld) (a1 : Nat) : (s.alarmOf a0 a1).scr = s.scr := (State.alarmOf_frame a0 a1 s).1 .scr rfl
@[simp] theorem State.alarmOf_reel (a0 : Fld) (a1 : Nat) : (s.alarmOf a0 a1).reel = s.reel := (State.alarmOf_frame a0 a1 s).1 .reel rfl
@[simp] theorem State.alarmOf_window (a0 : Fld) (a1 : Nat) : (s.alarmOf a0 a1).window = s.window := (State.alarmOf_frame a0 a1 s).1 .window rfl
@[simp] theorem State.alarmOf_poison (a0 : Fld) (a1 : Nat) : (s.alarmOf a0 a1).poison = s.poison := (State.alarmOf_frame a0 a1 s).1 .poison rfl
@[simp] theorem State.alarmOf_dma (a0 : Fld) (a1 : Nat) : (s.alarmOf a0 a1).dma = s.dma := (State.alarmOf_frame a0 a1 s).1 .dma rfl
@[simp] theorem State.alarmOf_cmd (a0 : Fld) (a1 : Nat) : (s.alarmOf a0 a1).cmd = s.cmd := (State.alarmOf_frame a0 a1 s).1 .cmd rfl
@[simp] theorem State.alarmOf_wl (a0 : Fld) (a1 : Nat) : (s.alarmOf a0 a1).wl = s.wl := (State.alarmOf_frame a0 a1 s).1 .wl rfl
@[simp] theorem State.alarmOf_pen (a0 : Fld) (a1 : Nat) : (s.alarmOf a0 a1).pen = s.pen := (State.alarmOf_frame a0 a1 s).1 .pen rfl
@[simp] theorem State.alarmOf_clk (a0 : Fld) (a1 : Nat) : (s.alarmOf a0 a1).clk = s.clk := (State.alarmOf_frame a0 a1 s).1 .clk rfl
@[simp] theorem State.alarmOf_tw (a0 : Fld) (a1 : Nat) : (s.alarmOf a0 a1).tw = s.tw := (State.alarmOf_frame a0 a1 s).1 .tw rfl
@[simp] theorem State.alarmOf_thm (a0 : Fld) (a1 : Nat) : (s.alarmOf a0 a1).thm = s.thm := (State.alarmOf_frame a0 a1 s).1 .thm rfl
@[simp] theorem State.alarmOf_rst (a0 : Fld) (a1 : Nat) : (s.alarmOf a0 a1).rst = s.rst := (State.alarmOf_frame a0 a1 s).1 .rst rfl
@[simp] theorem State.alarmOf_before (a0 : Fld) (a1 : Nat) : (s.alarmOf a0 a1).before = s.before := (State.alarmOf_frame a0 a1 s).1 .before rfl
@[simp] theorem State.alarmOf_shadow (a0 : Fld) (a1 : Nat) : (s.alarmOf a0 a1).shadow = s.shadow := (State.alarmOf_frame a0 a1 s).1 .shadow rfl
@[simp] theorem State.alarmOf_free (a0 : Fld) (a1 : Nat) : (s.alarmOf a0 a1).free = s.free := (State.alarmOf_frame a0 a1 s).1 .free rfl
@[simp] theorem State.raiseAlarm_pending (a0 : Fld) : (s.raiseAlarm a0).pending = s.pending := (State.raiseAlarm_any a0 s).1 .pending rfl
@[simp] theorem State.raiseAlarm_tb (a0 : Fld) : (s.raiseAlarm a0).tb = s.tb := (State.raiseAlarm_any a0 s).1 .tb rfl
@[simp] theorem State.raiseAlarm_hb (a0 : Fld) : (s.raiseAlarm a0).hb = s.hb := (State.raiseAlarm_any a0 s).1 .hb rfl
@[simp] theorem State.raiseAlarm_felt (a0 : Fld) : (s.raiseAlarm a0).felt = s.felt := (State.raiseAlarm_any a0 s).1 .felt rfl
@[simp] theorem State.raiseAlarm_fu (a0 : Fld) : (s.raiseAlarm a0).fu = s.fu := (State.raiseAlarm_any a0 s).1 .fu rfl
@[simp] theorem State.raiseAlarm_cal (a0 : Fld) : (s.raiseAlarm a0).cal = s.cal := (State.raiseAlarm_any a0 s).1 .cal rfl
@[simp] theorem State.raiseAlarm_fmt (a0 : Fld) : (s.raiseAlarm a0).fmt = s.fmt := (State.raiseAlarm_any a0 s).1 .fmt rfl
@[simp] theorem State.raiseAlarm_sts (a0 : Fld) : (s.raiseAlarm a0).sts = s.sts := (State.raiseAlarm_any a0 s).1 .sts rfl
@[simp] theorem State.raiseAlarm_scr (a0 : Fld) : (s.raiseAlarm a0).scr = s.scr := (State.raiseAlarm_any a0 s).1 .scr rfl
@[simp] theorem State.raiseAlarm_reel (a0 : Fld) : (s.raiseAlarm a0).reel = s.reel := (State.raiseAlarm_any a0 s).1 .reel rfl
@[simp] theorem State.raiseAlarm_window (a0 : Fld) : (s.raiseAlarm a0).window = s.window := (State.raiseAlarm_any a0 s).1 .window rfl
@[simp] theorem State.raiseAlarm_poison (a0 : Fld) : (s.raiseAlarm a0).poison = s.poison := (State.raiseAlarm_any a0 s).1 .poison rfl
@[simp] theorem State.raiseAlarm_dma (a0 : Fld) : (s.raiseAlarm a0).dma = s.dma := (State.raiseAlarm_any a0 s).1 .dma rfl
@[simp] theorem State.raiseAlarm_cmd (a0 : Fld) : (s.raiseAlarm a0).cmd = s.cmd := (State.raiseAlarm_any a0 s).1 .cmd rfl
@[simp] theorem State.raiseAlarm_wl (a0 : Fld) : (s.raiseAlarm a0).wl = s.wl := (State.raiseAlarm_any a0 s).1 .wl rfl
@[simp] theorem State.raiseAlarm_pen (a0 : Fld) : (s.raiseAlarm a0).pen = s.pen := (State.raiseAlarm_any a0 s).1 .pen rfl
@[simp] theorem State.raiseAlarm_clk (a0 : Fld) : (s.raiseAlarm a0).clk = s.clk := (State.raiseAlarm_any a0 s).1 .clk rfl
@[simp] theorem State.raiseAlarm_tw (a0 : Fld) : (s.raiseAlarm a0).tw = s.tw := (State.raiseAlarm_any a0 s).1 .tw rfl
@[simp] theorem State.raiseAlarm_thm (a0 : Fld) : (s.raiseAlarm a0).thm = s.thm := (State.raiseAlarm_any a0 s).1 .thm rfl
@[simp] theorem State.raiseAlarm_rst (a0 : Fld) : (s.raiseAlarm a0).rst = s.rst := (State.raiseAlarm_any a0 s).1 .rst rfl
@[simp] theorem State.raiseAlarm_before (a0 : Fld) : (s.raiseAlarm a0).before = s.before := (State.raiseAlarm_any a0 s).1 .before rfl
@[simp] theorem State.raiseAlarm_shadow (a0 : Fld) : (s.raiseAlarm a0).shadow = s.shadow := (State.raiseAlarm_any a0 s).1 .shadow rfl
@[simp] theorem State.raiseAlarm_free (a0 : Fld) : (s.raiseAlarm a0).free = s.free := (State.raiseAlarm_any a0 s).1 .free rfl
@[simp] theorem State.raiseOnce_pending (a0 : Fld) : (s.raiseOnce a0).pending = s.pending := (State.raiseOnce_any a0 s).1 .pending rfl
@[simp] theorem State.raiseOnce_tb (a0 : Fld) : (s.raiseOnce a0).tb = s.tb := (State.raiseOnce_any a0 s).1 .tb rfl
@[simp] theorem State.raiseOnce_hb (a0 : Fld) : (s.raiseOnce a0).hb = s.hb := (State.raiseOnce_any a0 s).1 .hb rfl
@[simp] theorem State.raiseOnce_felt (a0 : Fld) : (s.raiseOnce a0).felt = s.felt := (State.raiseOnce_any a0 s).1 .felt rfl
@[simp] theorem State.raiseOnce_fu (a0 : Fld) : (s.raiseOnce a0).fu = s.fu := (State.raiseOnce_any a0 s).1 .fu rfl
@[simp] theorem State.raiseOnce_cal (a0 : Fld) : (s.raiseOnce a0).cal = s.cal := (State.raiseOnce_any a0 s).1 .cal rfl
@[simp] theorem State.raiseOnce_fmt (a0 : Fld) : (s.raiseOnce a0).fmt = s.fmt := (State.raiseOnce_any a0 s).1 .fmt rfl
@[simp] theorem State.raiseOnce_sts (a0 : Fld) : (s.raiseOnce a0).sts = s.sts := (State.raiseOnce_any a0 s).1 .sts rfl
@[simp] theorem State.raiseOnce_scr (a0 : Fld) : (s.raiseOnce a0).scr = s.scr := (State.raiseOnce_any a0 s).1 .scr rfl
@[simp] theorem State.raiseOnce_reel (a0 : Fld) : (s.raiseOnce a0).reel = s.reel := (State.raiseOnce_any a0 s).1 .reel rfl
@[simp] theorem State.raiseOnce_window (a0 : Fld) : (s.raiseOnce a0).window = s.window := (State.raiseOnce_any a0 s).1 .window rfl
@[simp] theorem State.raiseOnce_poison (a0 : Fld) : (s.raiseOnce a0).poison = s.poison := (State.raiseOnce_any a0 s).1 .poison rfl
@[simp] theorem State.raiseOnce_dma (a0 : Fld) : (s.raiseOnce a0).dma = s.dma := (State.raiseOnce_any a0 s).1 .dma rfl
@[simp] theorem State.raiseOnce_cmd (a0 : Fld) : (s.raiseOnce a0).cmd = s.cmd := (State.raiseOnce_any a0 s).1 .cmd rfl
@[simp] theorem State.raiseOnce_wl (a0 : Fld) : (s.raiseOnce a0).wl = s.wl := (State.raiseOnce_any a0 s).1 .wl rfl
@[simp] theorem State.raiseOnce_pen (a0 : Fld) : (s.raiseOnce a0).pen = s.pen := (State.raiseOnce_any a0 s).1 .pen rfl
@[simp] theorem State.raiseOnce_clk (a0 : Fld) : (s.raiseOnce a0).clk = s.clk := (State.raiseOnce_any a0 s).1 .clk rfl
@[simp] theorem State.raiseOnce_tw (a0 : Fld) : (s.raiseOnce a0).tw = s.tw := (State.raiseOnce_any a0 s).1 .tw rfl
@[simp] theorem State.raiseOnce_thm (a0 : Fld) : (s.raiseOnce a0).thm = s.thm := (State.raiseOnce_any a0 s).1 .thm rfl
@[simp] theorem State.raiseOnce_rst (a0 : Fld) : (s.raiseOnce a0).rst = s.rst := (State.raiseOnce_any a0 s).1 .rst rfl
@[simp] theorem State.raiseOnce_before (a0 : Fld) : (s.raiseOnce a0).before = s.before := (State.raiseOnce_any a0 s).1 .before rfl
@[simp] theorem State.raiseOnce_shadow (a0 : Fld) : (s.raiseOnce a0).shadow = s.shadow := (State.raiseOnce_any a0 s).1 .shadow rfl
@[simp] theorem State.raiseOnce_free (a0 : Fld) : (s.raiseOnce a0).free = s.free := (State.raiseOnce_any a0 s).1 .free rfl
@[simp] theorem State.queueLog_pending (a0 : Nat) (a1 : Nat) (a2 : Nat) (a3 : Nat) (a4 : Bool) (a5 : Bool) (a6 : List Byte) : (s.queueLog a0 a1 a2 a3 a4 a5 a6).pending = s.pending := (State.queueLog_frame a0 a1 a2 a3 a4 a5 a6 s).1 .pending rfl
@[simp] theorem State.queueLog_tb (a0 : Nat) (a1 : Nat) (a2 : Nat) (a3 : Nat) (a4 : Bool) (a5 : Bool) (a6 : List Byte) : (s.queueLog a0 a1 a2 a3 a4 a5 a6).tb = s.tb := (State.queueLog_frame a0 a1 a2 a3 a4 a5 a6 s).1 .tb rfl
@[simp] theorem State.queueLog_hb (a0 : Nat) (a1 : Nat) (a2 : Nat) (a3 : Nat) (a4 : Bool) (a5 : Bool) (a6 : List Byte) : (s.queueLog a0 a1 a2 a3 a4 a5 a6).hb = s.hb := (State.queueLog_frame a0 a1 a2 a3 a4 a5 a6 s).1 .hb rfl
@[simp] theorem State.queueLog_felt (a0 : Nat) (a1 : Nat) (a2 : Nat) (a3 : Nat) (a4 : Bool) (a5 : Bool) (a6 : List Byte) : (s.queueLog a0 a1 a2 a3 a4 a5 a6).felt = s.felt := (State.queueLog_frame a0 a1 a2 a3 a4 a5 a6 s).1 .felt rfl
@[simp] theorem State.queueLog_fu (a0 : Nat) (a1 : Nat) (a2 : Nat) (a3 : Nat) (a4 : Bool) (a5 : Bool) (a6 : List Byte) : (s.queueLog a0 a1 a2 a3 a4 a5 a6).fu = s.fu := (State.queueLog_frame a0 a1 a2 a3 a4 a5 a6 s).1 .fu rfl
@[simp] theorem State.queueLog_cal (a0 : Nat) (a1 : Nat) (a2 : Nat) (a3 : Nat) (a4 : Bool) (a5 : Bool) (a6 : List Byte) : (s.queueLog a0 a1 a2 a3 a4 a5 a6).cal = s.cal := (State.queueLog_frame a0 a1 a2 a3 a4 a5 a6 s).1 .cal rfl
@[simp] theorem State.queueLog_fmt (a0 : Nat) (a1 : Nat) (a2 : Nat) (a3 : Nat) (a4 : Bool) (a5 : Bool) (a6 : List Byte) : (s.queueLog a0 a1 a2 a3 a4 a5 a6).fmt = s.fmt := (State.queueLog_frame a0 a1 a2 a3 a4 a5 a6 s).1 .fmt rfl
@[simp] theorem State.queueLog_sts (a0 : Nat) (a1 : Nat) (a2 : Nat) (a3 : Nat) (a4 : Bool) (a5 : Bool) (a6 : List Byte) : (s.queueLog a0 a1 a2 a3 a4 a5 a6).sts = s.sts := (State.queueLog_frame a0 a1 a2 a3 a4 a5 a6 s).1 .sts rfl
@[simp] theorem State.queueLog_scr (a0 : Nat) (a1 : Nat) (a2 : Nat) (a3 : Nat) (a4 : Bool) (a5 : Bool) (a6 : List Byte) : (s.queueLog a0 a1 a2 a3 a4 a5 a6).scr = s.scr := (State.queueLog_frame a0 a1 a2 a3 a4 a5 a6 s).1 .scr rfl
@[simp] theorem State.queueLog_reel (a0 : Nat) (a1 : Nat) (a2 : Nat) (a3 : Nat) (a4 : Bool) (a5 : Bool) (a6 : List Byte) : (s.queueLog a0 a1 a2 a3 a4 a5 a6).reel = s.reel := (State.queueLog_frame a0 a1 a2 a3 a4 a5 a6 s).1 .reel rfl
@[simp] theorem State.queueLog_window (a0 : Nat) (a1 : Nat) (a2 : Nat) (a3 : Nat) (a4 : Bool) (a5 : Bool) (a6 : List Byte) : (s.queueLog a0 a1 a2 a3 a4 a5 a6).window = s.window := (State.queueLog_frame a0 a1 a2 a3 a4 a5 a6 s).1 .window rfl
@[simp] theorem State.queueLog_poison (a0 : Nat) (a1 : Nat) (a2 : Nat) (a3 : Nat) (a4 : Bool) (a5 : Bool) (a6 : List Byte) : (s.queueLog a0 a1 a2 a3 a4 a5 a6).poison = s.poison := (State.queueLog_frame a0 a1 a2 a3 a4 a5 a6 s).1 .poison rfl
@[simp] theorem State.queueLog_dma (a0 : Nat) (a1 : Nat) (a2 : Nat) (a3 : Nat) (a4 : Bool) (a5 : Bool) (a6 : List Byte) : (s.queueLog a0 a1 a2 a3 a4 a5 a6).dma = s.dma := (State.queueLog_frame a0 a1 a2 a3 a4 a5 a6 s).1 .dma rfl
@[simp] theorem State.queueLog_cmd (a0 : Nat) (a1 : Nat) (a2 : Nat) (a3 : Nat) (a4 : Bool) (a5 : Bool) (a6 : List Byte) : (s.queueLog a0 a1 a2 a3 a4 a5 a6).cmd = s.cmd := (State.queueLog_frame a0 a1 a2 a3 a4 a5 a6 s).1 .cmd rfl
@[simp] theorem State.queueLog_wl (a0 : Nat) (a1 : Nat) (a2 : Nat) (a3 : Nat) (a4 : Bool) (a5 : Bool) (a6 : List Byte) : (s.queueLog a0 a1 a2 a3 a4 a5 a6).wl = s.wl := (State.queueLog_frame a0 a1 a2 a3 a4 a5 a6 s).1 .wl rfl
@[simp] theorem State.queueLog_pen (a0 : Nat) (a1 : Nat) (a2 : Nat) (a3 : Nat) (a4 : Bool) (a5 : Bool) (a6 : List Byte) : (s.queueLog a0 a1 a2 a3 a4 a5 a6).pen = s.pen := (State.queueLog_frame a0 a1 a2 a3 a4 a5 a6 s).1 .pen rfl
@[simp] theorem State.queueLog_clk (a0 : Nat) (a1 : Nat) (a2 : Nat) (a3 : Nat) (a4 : Bool) (a5 : Bool) (a6 : List Byte) : (s.queueLog a0 a1 a2 a3 a4 a5 a6).clk = s.clk := (State.queueLog_frame a0 a1 a2 a3 a4 a5 a6 s).1 .clk rfl
@[simp] theorem State.queueLog_tw (a0 : Nat) (a1 : Nat) (a2 : Nat) (a3 : Nat) (a4 : Bool) (a5 : Bool) (a6 : List Byte) : (s.queueLog a0 a1 a2 a3 a4 a5 a6).tw = s.tw := (State.queueLog_frame a0 a1 a2 a3 a4 a5 a6 s).1 .tw rfl
@[simp] theorem State.queueLog_thm (a0 : Nat) (a1 : Nat) (a2 : Nat) (a3 : Nat) (a4 : Bool) (a5 : Bool) (a6 : List Byte) : (s.queueLog a0 a1 a2 a3 a4 a5 a6).thm = s.thm := (State.queueLog_frame a0 a1 a2 a3 a4 a5 a6 s).1 .thm rfl
@[simp] theorem State.queueLog_rst (a0 : Nat) (a1 : Nat) (a2 : Nat) (a3 : Nat) (a4 : Bool) (a5 : Bool) (a6 : List Byte) : (s.queueLog a0 a1 a2 a3 a4 a5 a6).rst = s.rst := (State.queueLog_frame a0 a1 a2 a3 a4 a5 a6 s).1 .rst rfl
@[simp] theorem State.queueLog_before (a0 : Nat) (a1 : Nat) (a2 : Nat) (a3 : Nat) (a4 : Bool) (a5 : Bool) (a6 : List Byte) : (s.queueLog a0 a1 a2 a3 a4 a5 a6).before = s.before := (State.queueLog_frame a0 a1 a2 a3 a4 a5 a6 s).1 .before rfl
@[simp] theorem State.queueLog_shadow (a0 : Nat) (a1 : Nat) (a2 : Nat) (a3 : Nat) (a4 : Bool) (a5 : Bool) (a6 : List Byte) : (s.queueLog a0 a1 a2 a3 a4 a5 a6).shadow = s.shadow := (State.queueLog_frame a0 a1 a2 a3 a4 a5 a6 s).1 .shadow rfl
@[simp] theorem State.queueLog_free (a0 : Nat) (a1 : Nat) (a2 : Nat) (a3 : Nat) (a4 : Bool) (a5 : Bool) (a6 : List Byte) : (s.queueLog a0 a1 a2 a3 a4 a5 a6).free = s.free := (State.queueLog_frame a0 a1 a2 a3 a4 a5 a6 s).1 .free rfl
@[simp] theorem State.logOwn_pending (a0 : Nat) (a1 : List Byte) : (s.logOwn a0 a1).pending = s.pending := (State.logOwn_frame a0 a1 s).1 .pending rfl
@[simp] theorem State.logOwn_tb (a0 : Nat) (a1 : List Byte) : (s.logOwn a0 a1).tb = s.tb := (State.logOwn_frame a0 a1 s).1 .tb rfl
@[simp] theorem State.logOwn_hb (a0 : Nat) (a1 : List Byte) : (s.logOwn a0 a1).hb = s.hb := (State.logOwn_frame a0 a1 s).1 .hb rfl
@[simp] theorem State.logOwn_felt (a0 : Nat) (a1 : List Byte) : (s.logOwn a0 a1).felt = s.felt := (State.logOwn_frame a0 a1 s).1 .felt rfl
@[simp] theorem State.logOwn_fu (a0 : Nat) (a1 : List Byte) : (s.logOwn a0 a1).fu = s.fu := (State.logOwn_frame a0 a1 s).1 .fu rfl
@[simp] theorem State.logOwn_cal (a0 : Nat) (a1 : List Byte) : (s.logOwn a0 a1).cal = s.cal := (State.logOwn_frame a0 a1 s).1 .cal rfl
@[simp] theorem State.logOwn_fmt (a0 : Nat) (a1 : List Byte) : (s.logOwn a0 a1).fmt = s.fmt := (State.logOwn_frame a0 a1 s).1 .fmt rfl
@[simp] theorem State.logOwn_sts (a0 : Nat) (a1 : List Byte) : (s.logOwn a0 a1).sts = s.sts := (State.logOwn_frame a0 a1 s).1 .sts rfl
@[simp] theorem State.logOwn_scr (a0 : Nat) (a1 : List Byte) : (s.logOwn a0 a1).scr = s.scr := (State.logOwn_frame a0 a1 s).1 .scr rfl
@[simp] theorem State.logOwn_reel (a0 : Nat) (a1 : List Byte) : (s.logOwn a0 a1).reel = s.reel := (State.logOwn_frame a0 a1 s).1 .reel rfl
@[simp] theorem State.logOwn_window (a0 : Nat) (a1 : List Byte) : (s.logOwn a0 a1).window = s.window := (State.logOwn_frame a0 a1 s).1 .window rfl
@[simp] theorem State.logOwn_poison (a0 : Nat) (a1 : List Byte) : (s.logOwn a0 a1).poison = s.poison := (State.logOwn_frame a0 a1 s).1 .poison rfl
@[simp] theorem State.logOwn_dma (a0 : Nat) (a1 : List Byte) : (s.logOwn a0 a1).dma = s.dma := (State.logOwn_frame a0 a1 s).1 .dma rfl
@[simp] theorem State.logOwn_cmd (a0 : Nat) (a1 : List Byte) : (s.logOwn a0 a1).cmd = s.cmd := (State.logOwn_frame a0 a1 s).1 .cmd rfl
@[simp] theorem State.logOwn_wl (a0 : Nat) (a1 : List Byte) : (s.logOwn a0 a1).wl = s.wl := (State.logOwn_frame a0 a1 s).1 .wl rfl
@[simp] theorem State.logOwn_pen (a0 : Nat) (a1 : List Byte) : (s.logOwn a0 a1).pen = s.pen := (State.logOwn_frame a0 a1 s).1 .pen rfl
@[simp] theorem State.logOwn_clk (a0 : Nat) (a1 : List Byte) : (s.logOwn a0 a1).clk = s.clk := (State.logOwn_frame a0 a1 s).1 .clk rfl
@[simp] theorem State.logOwn_tw (a0 : Nat) (a1 : List Byte) : (s.logOwn a0 a1).tw = s.tw := (State.logOwn_frame a0 a1 s).1 .tw rfl
@[simp] theorem State.logOwn_thm (a0 : Nat) (a1 : List Byte) : (s.logOwn a0 a1).thm = s.thm := (State.logOwn_frame a0 a1 s).1 .thm rfl
@[simp] theorem State.logOwn_rst (a0 : Nat) (a1 : List Byte) : (s.logOwn a0 a1).rst = s.rst := (State.logOwn_frame a0 a1 s).1 .rst rfl
@[simp] theorem State.logOwn_before (a0 : Nat) (a1 : List Byte) : (s.logOwn a0 a1).before = s.before := (State.logOwn_frame a0 a1 s).1 .before rfl
@[simp] theorem State.logOwn_shadow (a0 : Nat) (a1 : List Byte) : (s.logOwn a0 a1).shadow = s.shadow := (State.logOwn_frame a0 a1 s).1 .shadow rfl
@[simp] theorem State.logOwn_free (a0 : Nat) (a1 : List Byte) : (s.logOwn a0 a1).free = s.free := (State.logOwn_frame a0 a1 s).1 .free rfl
@[simp] theorem State.rsvCheck_pending (a0 : Path) (a1 : Nat) (a2 : Word) : (s.rsvCheck a0 a1 a2).pending = s.pending := (State.rsvCheck_frame a0 a1 a2 s).1 .pending rfl
@[simp] theorem State.rsvCheck_tb (a0 : Path) (a1 : Nat) (a2 : Word) : (s.rsvCheck a0 a1 a2).tb = s.tb := (State.rsvCheck_frame a0 a1 a2 s).1 .tb rfl
@[simp] theorem State.rsvCheck_hb (a0 : Path) (a1 : Nat) (a2 : Word) : (s.rsvCheck a0 a1 a2).hb = s.hb := (State.rsvCheck_frame a0 a1 a2 s).1 .hb rfl
@[simp] theorem State.rsvCheck_felt (a0 : Path) (a1 : Nat) (a2 : Word) : (s.rsvCheck a0 a1 a2).felt = s.felt := (State.rsvCheck_frame a0 a1 a2 s).1 .felt rfl
@[simp] theorem State.rsvCheck_fu (a0 : Path) (a1 : Nat) (a2 : Word) : (s.rsvCheck a0 a1 a2).fu = s.fu := (State.rsvCheck_frame a0 a1 a2 s).1 .fu rfl
@[simp] theorem State.rsvCheck_cal (a0 : Path) (a1 : Nat) (a2 : Word) : (s.rsvCheck a0 a1 a2).cal = s.cal := (State.rsvCheck_frame a0 a1 a2 s).1 .cal rfl
@[simp] theorem State.rsvCheck_fmt (a0 : Path) (a1 : Nat) (a2 : Word) : (s.rsvCheck a0 a1 a2).fmt = s.fmt := (State.rsvCheck_frame a0 a1 a2 s).1 .fmt rfl
@[simp] theorem State.rsvCheck_sts (a0 : Path) (a1 : Nat) (a2 : Word) : (s.rsvCheck a0 a1 a2).sts = s.sts := (State.rsvCheck_frame a0 a1 a2 s).1 .sts rfl
@[simp] theorem State.rsvCheck_scr (a0 : Path) (a1 : Nat) (a2 : Word) : (s.rsvCheck a0 a1 a2).scr = s.scr := (State.rsvCheck_frame a0 a1 a2 s).1 .scr rfl
@[simp] theorem State.rsvCheck_reel (a0 : Path) (a1 : Nat) (a2 : Word) : (s.rsvCheck a0 a1 a2).reel = s.reel := (State.rsvCheck_frame a0 a1 a2 s).1 .reel rfl
@[simp] theorem State.rsvCheck_window (a0 : Path) (a1 : Nat) (a2 : Word) : (s.rsvCheck a0 a1 a2).window = s.window := (State.rsvCheck_frame a0 a1 a2 s).1 .window rfl
@[simp] theorem State.rsvCheck_poison (a0 : Path) (a1 : Nat) (a2 : Word) : (s.rsvCheck a0 a1 a2).poison = s.poison := (State.rsvCheck_frame a0 a1 a2 s).1 .poison rfl
@[simp] theorem State.rsvCheck_dma (a0 : Path) (a1 : Nat) (a2 : Word) : (s.rsvCheck a0 a1 a2).dma = s.dma := (State.rsvCheck_frame a0 a1 a2 s).1 .dma rfl
@[simp] theorem State.rsvCheck_cmd (a0 : Path) (a1 : Nat) (a2 : Word) : (s.rsvCheck a0 a1 a2).cmd = s.cmd := (State.rsvCheck_frame a0 a1 a2 s).1 .cmd rfl
@[simp] theorem State.rsvCheck_wl (a0 : Path) (a1 : Nat) (a2 : Word) : (s.rsvCheck a0 a1 a2).wl = s.wl := (State.rsvCheck_frame a0 a1 a2 s).1 .wl rfl
@[simp] theorem State.rsvCheck_pen (a0 : Path) (a1 : Nat) (a2 : Word) : (s.rsvCheck a0 a1 a2).pen = s.pen := (State.rsvCheck_frame a0 a1 a2 s).1 .pen rfl
@[simp] theorem State.rsvCheck_clk (a0 : Path) (a1 : Nat) (a2 : Word) : (s.rsvCheck a0 a1 a2).clk = s.clk := (State.rsvCheck_frame a0 a1 a2 s).1 .clk rfl
@[simp] theorem State.rsvCheck_tw (a0 : Path) (a1 : Nat) (a2 : Word) : (s.rsvCheck a0 a1 a2).tw = s.tw := (State.rsvCheck_frame a0 a1 a2 s).1 .tw rfl
@[simp] theorem State.rsvCheck_thm (a0 : Path) (a1 : Nat) (a2 : Word) : (s.rsvCheck a0 a1 a2).thm = s.thm := (State.rsvCheck_frame a0 a1 a2 s).1 .thm rfl
@[simp] theorem State.rsvCheck_rst (a0 : Path) (a1 : Nat) (a2 : Word) : (s.rsvCheck a0 a1 a2).rst = s.rst := (State.rsvCheck_frame a0 a1 a2 s).1 .rst rfl
@[simp] theorem State.rsvCheck_before (a0 : Path) (a1 : Nat) (a2 : Word) : (s.rsvCheck a0 a1 a2).before = s.before := (State.rsvCheck_frame a0 a1 a2 s).1 .before rfl
@[simp] theorem State.rsvCheck_shadow (a0 : Path) (a1 : Nat) (a2 : Word) : (s.rsvCheck a0 a1 a2).shadow = s.shadow := (State.rsvCheck_frame a0 a1 a2 s).1 .shadow rfl
@[simp] theorem State.rsvCheck_free (a0 : Path) (a1 : Nat) (a2 : Word) : (s.rsvCheck a0 a1 a2).free = s.free := (State.rsvCheck_frame a0 a1 a2 s).1 .free rfl

end Sys2Proof.Machine
end

