-- ==== Sys2Proof/Laws/State.lean ====
section
/-! SUPPORT. One lemma per field per update of the state: an update changes its own field and nothing else. -/

namespace Sys2Proof.Machine

variable (s : State)

@[simp] theorem State.modTb_pending (h : Timebase → Timebase) : (s.modTb h).pending = s.pending := rfl
@[simp] theorem State.modTb_regs (h : Timebase → Timebase) : (s.modTb h).regs = s.regs := rfl
@[simp] theorem State.modTb_tb (h : Timebase → Timebase) : (s.modTb h).tb = h s.tb := rfl
@[simp] theorem State.modTb_hb (h : Timebase → Timebase) : (s.modTb h).hb = s.hb := rfl
@[simp] theorem State.modTb_felt (h : Timebase → Timebase) : (s.modTb h).felt = s.felt := rfl
@[simp] theorem State.modTb_fu (h : Timebase → Timebase) : (s.modTb h).fu = s.fu := rfl
@[simp] theorem State.modTb_cal (h : Timebase → Timebase) : (s.modTb h).cal = s.cal := rfl
@[simp] theorem State.modTb_fmt (h : Timebase → Timebase) : (s.modTb h).fmt = s.fmt := rfl
@[simp] theorem State.modTb_sts (h : Timebase → Timebase) : (s.modTb h).sts = s.sts := rfl
@[simp] theorem State.modTb_scr (h : Timebase → Timebase) : (s.modTb h).scr = s.scr := rfl
@[simp] theorem State.modTb_reel (h : Timebase → Timebase) : (s.modTb h).reel = s.reel := rfl
@[simp] theorem State.modTb_window (h : Timebase → Timebase) : (s.modTb h).window = s.window := rfl
@[simp] theorem State.modTb_poison (h : Timebase → Timebase) : (s.modTb h).poison = s.poison := rfl
@[simp] theorem State.modTb_link (h : Timebase → Timebase) : (s.modTb h).link = s.link := rfl
@[simp] theorem State.modTb_dma (h : Timebase → Timebase) : (s.modTb h).dma = s.dma := rfl
@[simp] theorem State.modTb_cmd (h : Timebase → Timebase) : (s.modTb h).cmd = s.cmd := rfl
@[simp] theorem State.modTb_wl (h : Timebase → Timebase) : (s.modTb h).wl = s.wl := rfl
@[simp] theorem State.modTb_pen (h : Timebase → Timebase) : (s.modTb h).pen = s.pen := rfl
@[simp] theorem State.modTb_clk (h : Timebase → Timebase) : (s.modTb h).clk = s.clk := rfl
@[simp] theorem State.modTb_tnd (h : Timebase → Timebase) : (s.modTb h).tnd = s.tnd := rfl
@[simp] theorem State.modTb_tw (h : Timebase → Timebase) : (s.modTb h).tw = s.tw := rfl
@[simp] theorem State.modTb_thm (h : Timebase → Timebase) : (s.modTb h).thm = s.thm := rfl
@[simp] theorem State.modTb_rst (h : Timebase → Timebase) : (s.modTb h).rst = s.rst := rfl
@[simp] theorem State.modTb_obs (h : Timebase → Timebase) : (s.modTb h).obs = s.obs := rfl
@[simp] theorem State.modTb_before (h : Timebase → Timebase) : (s.modTb h).before = s.before := rfl
@[simp] theorem State.modTb_shadow (h : Timebase → Timebase) : (s.modTb h).shadow = s.shadow := rfl
@[simp] theorem State.modTb_out (h : Timebase → Timebase) : (s.modTb h).out = s.out := rfl
@[simp] theorem State.modTb_free (h : Timebase → Timebase) : (s.modTb h).free = s.free := rfl
@[simp] theorem State.modHb_pending (h : Headbox → Headbox) : (s.modHb h).pending = s.pending := rfl
@[simp] theorem State.modHb_regs (h : Headbox → Headbox) : (s.modHb h).regs = s.regs := rfl
@[simp] theorem State.modHb_tb (h : Headbox → Headbox) : (s.modHb h).tb = s.tb := rfl
@[simp] theorem State.modHb_hb (h : Headbox → Headbox) : (s.modHb h).hb = h s.hb := rfl
@[simp] theorem State.modHb_felt (h : Headbox → Headbox) : (s.modHb h).felt = s.felt := rfl
@[simp] theorem State.modHb_fu (h : Headbox → Headbox) : (s.modHb h).fu = s.fu := rfl
@[simp] theorem State.modHb_cal (h : Headbox → Headbox) : (s.modHb h).cal = s.cal := rfl
@[simp] theorem State.modHb_fmt (h : Headbox → Headbox) : (s.modHb h).fmt = s.fmt := rfl
@[simp] theorem State.modHb_sts (h : Headbox → Headbox) : (s.modHb h).sts = s.sts := rfl
@[simp] theorem State.modHb_scr (h : Headbox → Headbox) : (s.modHb h).scr = s.scr := rfl
@[simp] theorem State.modHb_reel (h : Headbox → Headbox) : (s.modHb h).reel = s.reel := rfl
@[simp] theorem State.modHb_window (h : Headbox → Headbox) : (s.modHb h).window = s.window := rfl
@[simp] theorem State.modHb_poison (h : Headbox → Headbox) : (s.modHb h).poison = s.poison := rfl
@[simp] theorem State.modHb_link (h : Headbox → Headbox) : (s.modHb h).link = s.link := rfl
@[simp] theorem State.modHb_dma (h : Headbox → Headbox) : (s.modHb h).dma = s.dma := rfl
@[simp] theorem State.modHb_cmd (h : Headbox → Headbox) : (s.modHb h).cmd = s.cmd := rfl
@[simp] theorem State.modHb_wl (h : Headbox → Headbox) : (s.modHb h).wl = s.wl := rfl
@[simp] theorem State.modHb_pen (h : Headbox → Headbox) : (s.modHb h).pen = s.pen := rfl
@[simp] theorem State.modHb_clk (h : Headbox → Headbox) : (s.modHb h).clk = s.clk := rfl
@[simp] theorem State.modHb_tnd (h : Headbox → Headbox) : (s.modHb h).tnd = s.tnd := rfl
@[simp] theorem State.modHb_tw (h : Headbox → Headbox) : (s.modHb h).tw = s.tw := rfl
@[simp] theorem State.modHb_thm (h : Headbox → Headbox) : (s.modHb h).thm = s.thm := rfl
@[simp] theorem State.modHb_rst (h : Headbox → Headbox) : (s.modHb h).rst = s.rst := rfl
@[simp] theorem State.modHb_obs (h : Headbox → Headbox) : (s.modHb h).obs = s.obs := rfl
@[simp] theorem State.modHb_before (h : Headbox → Headbox) : (s.modHb h).before = s.before := rfl
@[simp] theorem State.modHb_shadow (h : Headbox → Headbox) : (s.modHb h).shadow = s.shadow := rfl
@[simp] theorem State.modHb_out (h : Headbox → Headbox) : (s.modHb h).out = s.out := rfl
@[simp] theorem State.modHb_free (h : Headbox → Headbox) : (s.modHb h).free = s.free := rfl
@[simp] theorem State.modFelt_pending (h : Felt → Felt) : (s.modFelt h).pending = s.pending := rfl
@[simp] theorem State.modFelt_regs (h : Felt → Felt) : (s.modFelt h).regs = s.regs := rfl
@[simp] theorem State.modFelt_tb (h : Felt → Felt) : (s.modFelt h).tb = s.tb := rfl
@[simp] theorem State.modFelt_hb (h : Felt → Felt) : (s.modFelt h).hb = s.hb := rfl
@[simp] theorem State.modFelt_felt (h : Felt → Felt) : (s.modFelt h).felt = h s.felt := rfl
@[simp] theorem State.modFelt_fu (h : Felt → Felt) : (s.modFelt h).fu = s.fu := rfl
@[simp] theorem State.modFelt_cal (h : Felt → Felt) : (s.modFelt h).cal = s.cal := rfl
@[simp] theorem State.modFelt_fmt (h : Felt → Felt) : (s.modFelt h).fmt = s.fmt := rfl
@[simp] theorem State.modFelt_sts (h : Felt → Felt) : (s.modFelt h).sts = s.sts := rfl
@[simp] theorem State.modFelt_scr (h : Felt → Felt) : (s.modFelt h).scr = s.scr := rfl
@[simp] theorem State.modFelt_reel (h : Felt → Felt) : (s.modFelt h).reel = s.reel := rfl
@[simp] theorem State.modFelt_window (h : Felt → Felt) : (s.modFelt h).window = s.window := rfl
@[simp] theorem State.modFelt_poison (h : Felt → Felt) : (s.modFelt h).poison = s.poison := rfl
@[simp] theorem State.modFelt_link (h : Felt → Felt) : (s.modFelt h).link = s.link := rfl
@[simp] theorem State.modFelt_dma (h : Felt → Felt) : (s.modFelt h).dma = s.dma := rfl
@[simp] theorem State.modFelt_cmd (h : Felt → Felt) : (s.modFelt h).cmd = s.cmd := rfl
@[simp] theorem State.modFelt_wl (h : Felt → Felt) : (s.modFelt h).wl = s.wl := rfl
@[simp] theorem State.modFelt_pen (h : Felt → Felt) : (s.modFelt h).pen = s.pen := rfl
@[simp] theorem State.modFelt_clk (h : Felt → Felt) : (s.modFelt h).clk = s.clk := rfl
@[simp] theorem State.modFelt_tnd (h : Felt → Felt) : (s.modFelt h).tnd = s.tnd := rfl
@[simp] theorem State.modFelt_tw (h : Felt → Felt) : (s.modFelt h).tw = s.tw := rfl
@[simp] theorem State.modFelt_thm (h : Felt → Felt) : (s.modFelt h).thm = s.thm := rfl
@[simp] theorem State.modFelt_rst (h : Felt → Felt) : (s.modFelt h).rst = s.rst := rfl
@[simp] theorem State.modFelt_obs (h : Felt → Felt) : (s.modFelt h).obs = s.obs := rfl
@[simp] theorem State.modFelt_before (h : Felt → Felt) : (s.modFelt h).before = s.before := rfl
@[simp] theorem State.modFelt_shadow (h : Felt → Felt) : (s.modFelt h).shadow = s.shadow := rfl
@[simp] theorem State.modFelt_out (h : Felt → Felt) : (s.modFelt h).out = s.out := rfl
@[simp] theorem State.modFelt_free (h : Felt → Felt) : (s.modFelt h).free = s.free := rfl
@[simp] theorem State.modFu_pending (h : FurnishSeq → FurnishSeq) : (s.modFu h).pending = s.pending := rfl
@[simp] theorem State.modFu_regs (h : FurnishSeq → FurnishSeq) : (s.modFu h).regs = s.regs := rfl
@[simp] theorem State.modFu_tb (h : FurnishSeq → FurnishSeq) : (s.modFu h).tb = s.tb := rfl
@[simp] theorem State.modFu_hb (h : FurnishSeq → FurnishSeq) : (s.modFu h).hb = s.hb := rfl
@[simp] theorem State.modFu_felt (h : FurnishSeq → FurnishSeq) : (s.modFu h).felt = s.felt := rfl
@[simp] theorem State.modFu_fu (h : FurnishSeq → FurnishSeq) : (s.modFu h).fu = h s.fu := rfl
@[simp] theorem State.modFu_cal (h : FurnishSeq → FurnishSeq) : (s.modFu h).cal = s.cal := rfl
@[simp] theorem State.modFu_fmt (h : FurnishSeq → FurnishSeq) : (s.modFu h).fmt = s.fmt := rfl
@[simp] theorem State.modFu_sts (h : FurnishSeq → FurnishSeq) : (s.modFu h).sts = s.sts := rfl
@[simp] theorem State.modFu_scr (h : FurnishSeq → FurnishSeq) : (s.modFu h).scr = s.scr := rfl
@[simp] theorem State.modFu_reel (h : FurnishSeq → FurnishSeq) : (s.modFu h).reel = s.reel := rfl
@[simp] theorem State.modFu_window (h : FurnishSeq → FurnishSeq) : (s.modFu h).window = s.window := rfl
@[simp] theorem State.modFu_poison (h : FurnishSeq → FurnishSeq) : (s.modFu h).poison = s.poison := rfl
@[simp] theorem State.modFu_link (h : FurnishSeq → FurnishSeq) : (s.modFu h).link = s.link := rfl
@[simp] theorem State.modFu_dma (h : FurnishSeq → FurnishSeq) : (s.modFu h).dma = s.dma := rfl
@[simp] theorem State.modFu_cmd (h : FurnishSeq → FurnishSeq) : (s.modFu h).cmd = s.cmd := rfl
@[simp] theorem State.modFu_wl (h : FurnishSeq → FurnishSeq) : (s.modFu h).wl = s.wl := rfl
@[simp] theorem State.modFu_pen (h : FurnishSeq → FurnishSeq) : (s.modFu h).pen = s.pen := rfl
@[simp] theorem State.modFu_clk (h : FurnishSeq → FurnishSeq) : (s.modFu h).clk = s.clk := rfl
@[simp] theorem State.modFu_tnd (h : FurnishSeq → FurnishSeq) : (s.modFu h).tnd = s.tnd := rfl
@[simp] theorem State.modFu_tw (h : FurnishSeq → FurnishSeq) : (s.modFu h).tw = s.tw := rfl
@[simp] theorem State.modFu_thm (h : FurnishSeq → FurnishSeq) : (s.modFu h).thm = s.thm := rfl
@[simp] theorem State.modFu_rst (h : FurnishSeq → FurnishSeq) : (s.modFu h).rst = s.rst := rfl
@[simp] theorem State.modFu_obs (h : FurnishSeq → FurnishSeq) : (s.modFu h).obs = s.obs := rfl
@[simp] theorem State.modFu_before (h : FurnishSeq → FurnishSeq) : (s.modFu h).before = s.before := rfl
@[simp] theorem State.modFu_shadow (h : FurnishSeq → FurnishSeq) : (s.modFu h).shadow = s.shadow := rfl
@[simp] theorem State.modFu_out (h : FurnishSeq → FurnishSeq) : (s.modFu h).out = s.out := rfl
@[simp] theorem State.modFu_free (h : FurnishSeq → FurnishSeq) : (s.modFu h).free = s.free := rfl
@[simp] theorem State.modCal_pending (h : Calender → Calender) : (s.modCal h).pending = s.pending := rfl
@[simp] theorem State.modCal_regs (h : Calender → Calender) : (s.modCal h).regs = s.regs := rfl
@[simp] theorem State.modCal_tb (h : Calender → Calender) : (s.modCal h).tb = s.tb := rfl
@[simp] theorem State.modCal_hb (h : Calender → Calender) : (s.modCal h).hb = s.hb := rfl
@[simp] theorem State.modCal_felt (h : Calender → Calender) : (s.modCal h).felt = s.felt := rfl
@[simp] theorem State.modCal_fu (h : Calender → Calender) : (s.modCal h).fu = s.fu := rfl
@[simp] theorem State.modCal_cal (h : Calender → Calender) : (s.modCal h).cal = h s.cal := rfl
@[simp] theorem State.modCal_fmt (h : Calender → Calender) : (s.modCal h).fmt = s.fmt := rfl
@[simp] theorem State.modCal_sts (h : Calender → Calender) : (s.modCal h).sts = s.sts := rfl
@[simp] theorem State.modCal_scr (h : Calender → Calender) : (s.modCal h).scr = s.scr := rfl
@[simp] theorem State.modCal_reel (h : Calender → Calender) : (s.modCal h).reel = s.reel := rfl
@[simp] theorem State.modCal_window (h : Calender → Calender) : (s.modCal h).window = s.window := rfl
@[simp] theorem State.modCal_poison (h : Calender → Calender) : (s.modCal h).poison = s.poison := rfl
@[simp] theorem State.modCal_link (h : Calender → Calender) : (s.modCal h).link = s.link := rfl
@[simp] theorem State.modCal_dma (h : Calender → Calender) : (s.modCal h).dma = s.dma := rfl
@[simp] theorem State.modCal_cmd (h : Calender → Calender) : (s.modCal h).cmd = s.cmd := rfl
@[simp] theorem State.modCal_wl (h : Calender → Calender) : (s.modCal h).wl = s.wl := rfl
@[simp] theorem State.modCal_pen (h : Calender → Calender) : (s.modCal h).pen = s.pen := rfl
@[simp] theorem State.modCal_clk (h : Calender → Calender) : (s.modCal h).clk = s.clk := rfl
@[simp] theorem State.modCal_tnd (h : Calender → Calender) : (s.modCal h).tnd = s.tnd := rfl
@[simp] theorem State.modCal_tw (h : Calender → Calender) : (s.modCal h).tw = s.tw := rfl
@[simp] theorem State.modCal_thm (h : Calender → Calender) : (s.modCal h).thm = s.thm := rfl
@[simp] theorem State.modCal_rst (h : Calender → Calender) : (s.modCal h).rst = s.rst := rfl
@[simp] theorem State.modCal_obs (h : Calender → Calender) : (s.modCal h).obs = s.obs := rfl
@[simp] theorem State.modCal_before (h : Calender → Calender) : (s.modCal h).before = s.before := rfl
@[simp] theorem State.modCal_shadow (h : Calender → Calender) : (s.modCal h).shadow = s.shadow := rfl
@[simp] theorem State.modCal_out (h : Calender → Calender) : (s.modCal h).out = s.out := rfl
@[simp] theorem State.modCal_free (h : Calender → Calender) : (s.modCal h).free = s.free := rfl
@[simp] theorem State.modFmt_pending (h : Formatter → Formatter) : (s.modFmt h).pending = s.pending := rfl
@[simp] theorem State.modFmt_regs (h : Formatter → Formatter) : (s.modFmt h).regs = s.regs := rfl
@[simp] theorem State.modFmt_tb (h : Formatter → Formatter) : (s.modFmt h).tb = s.tb := rfl
@[simp] theorem State.modFmt_hb (h : Formatter → Formatter) : (s.modFmt h).hb = s.hb := rfl
@[simp] theorem State.modFmt_felt (h : Formatter → Formatter) : (s.modFmt h).felt = s.felt := rfl
@[simp] theorem State.modFmt_fu (h : Formatter → Formatter) : (s.modFmt h).fu = s.fu := rfl
@[simp] theorem State.modFmt_cal (h : Formatter → Formatter) : (s.modFmt h).cal = s.cal := rfl
@[simp] theorem State.modFmt_fmt (h : Formatter → Formatter) : (s.modFmt h).fmt = h s.fmt := rfl
@[simp] theorem State.modFmt_sts (h : Formatter → Formatter) : (s.modFmt h).sts = s.sts := rfl
@[simp] theorem State.modFmt_scr (h : Formatter → Formatter) : (s.modFmt h).scr = s.scr := rfl
@[simp] theorem State.modFmt_reel (h : Formatter → Formatter) : (s.modFmt h).reel = s.reel := rfl
@[simp] theorem State.modFmt_window (h : Formatter → Formatter) : (s.modFmt h).window = s.window := rfl
@[simp] theorem State.modFmt_poison (h : Formatter → Formatter) : (s.modFmt h).poison = s.poison := rfl
@[simp] theorem State.modFmt_link (h : Formatter → Formatter) : (s.modFmt h).link = s.link := rfl
@[simp] theorem State.modFmt_dma (h : Formatter → Formatter) : (s.modFmt h).dma = s.dma := rfl
@[simp] theorem State.modFmt_cmd (h : Formatter → Formatter) : (s.modFmt h).cmd = s.cmd := rfl
@[simp] theorem State.modFmt_wl (h : Formatter → Formatter) : (s.modFmt h).wl = s.wl := rfl
@[simp] theorem State.modFmt_pen (h : Formatter → Formatter) : (s.modFmt h).pen = s.pen := rfl
@[simp] theorem State.modFmt_clk (h : Formatter → Formatter) : (s.modFmt h).clk = s.clk := rfl
@[simp] theorem State.modFmt_tnd (h : Formatter → Formatter) : (s.modFmt h).tnd = s.tnd := rfl
@[simp] theorem State.modFmt_tw (h : Formatter → Formatter) : (s.modFmt h).tw = s.tw := rfl
@[simp] theorem State.modFmt_thm (h : Formatter → Formatter) : (s.modFmt h).thm = s.thm := rfl
@[simp] theorem State.modFmt_rst (h : Formatter → Formatter) : (s.modFmt h).rst = s.rst := rfl
@[simp] theorem State.modFmt_obs (h : Formatter → Formatter) : (s.modFmt h).obs = s.obs := rfl
@[simp] theorem State.modFmt_before (h : Formatter → Formatter) : (s.modFmt h).before = s.before := rfl
@[simp] theorem State.modFmt_shadow (h : Formatter → Formatter) : (s.modFmt h).shadow = s.shadow := rfl
@[simp] theorem State.modFmt_out (h : Formatter → Formatter) : (s.modFmt h).out = s.out := rfl
@[simp] theorem State.modFmt_free (h : Formatter → Formatter) : (s.modFmt h).free = s.free := rfl
@[simp] theorem State.modSts_pending (h : Stats → Stats) : (s.modSts h).pending = s.pending := rfl
@[simp] theorem State.modSts_regs (h : Stats → Stats) : (s.modSts h).regs = s.regs := rfl
@[simp] theorem State.modSts_tb (h : Stats → Stats) : (s.modSts h).tb = s.tb := rfl
@[simp] theorem State.modSts_hb (h : Stats → Stats) : (s.modSts h).hb = s.hb := rfl
@[simp] theorem State.modSts_felt (h : Stats → Stats) : (s.modSts h).felt = s.felt := rfl
@[simp] theorem State.modSts_fu (h : Stats → Stats) : (s.modSts h).fu = s.fu := rfl
@[simp] theorem State.modSts_cal (h : Stats → Stats) : (s.modSts h).cal = s.cal := rfl
@[simp] theorem State.modSts_fmt (h : Stats → Stats) : (s.modSts h).fmt = s.fmt := rfl
@[simp] theorem State.modSts_sts (h : Stats → Stats) : (s.modSts h).sts = h s.sts := rfl
@[simp] theorem State.modSts_scr (h : Stats → Stats) : (s.modSts h).scr = s.scr := rfl
@[simp] theorem State.modSts_reel (h : Stats → Stats) : (s.modSts h).reel = s.reel := rfl
@[simp] theorem State.modSts_window (h : Stats → Stats) : (s.modSts h).window = s.window := rfl
@[simp] theorem State.modSts_poison (h : Stats → Stats) : (s.modSts h).poison = s.poison := rfl
@[simp] theorem State.modSts_link (h : Stats → Stats) : (s.modSts h).link = s.link := rfl
@[simp] theorem State.modSts_dma (h : Stats → Stats) : (s.modSts h).dma = s.dma := rfl
@[simp] theorem State.modSts_cmd (h : Stats → Stats) : (s.modSts h).cmd = s.cmd := rfl
@[simp] theorem State.modSts_wl (h : Stats → Stats) : (s.modSts h).wl = s.wl := rfl
@[simp] theorem State.modSts_pen (h : Stats → Stats) : (s.modSts h).pen = s.pen := rfl
@[simp] theorem State.modSts_clk (h : Stats → Stats) : (s.modSts h).clk = s.clk := rfl
@[simp] theorem State.modSts_tnd (h : Stats → Stats) : (s.modSts h).tnd = s.tnd := rfl
@[simp] theorem State.modSts_tw (h : Stats → Stats) : (s.modSts h).tw = s.tw := rfl
@[simp] theorem State.modSts_thm (h : Stats → Stats) : (s.modSts h).thm = s.thm := rfl
@[simp] theorem State.modSts_rst (h : Stats → Stats) : (s.modSts h).rst = s.rst := rfl
@[simp] theorem State.modSts_obs (h : Stats → Stats) : (s.modSts h).obs = s.obs := rfl
@[simp] theorem State.modSts_before (h : Stats → Stats) : (s.modSts h).before = s.before := rfl
@[simp] theorem State.modSts_shadow (h : Stats → Stats) : (s.modSts h).shadow = s.shadow := rfl
@[simp] theorem State.modSts_out (h : Stats → Stats) : (s.modSts h).out = s.out := rfl
@[simp] theorem State.modSts_free (h : Stats → Stats) : (s.modSts h).free = s.free := rfl
@[simp] theorem State.modScr_pending (h : Screens → Screens) : (s.modScr h).pending = s.pending := rfl
@[simp] theorem State.modScr_regs (h : Screens → Screens) : (s.modScr h).regs = s.regs := rfl
@[simp] theorem State.modScr_tb (h : Screens → Screens) : (s.modScr h).tb = s.tb := rfl
@[simp] theorem State.modScr_hb (h : Screens → Screens) : (s.modScr h).hb = s.hb := rfl
@[simp] theorem State.modScr_felt (h : Screens → Screens) : (s.modScr h).felt = s.felt := rfl
@[simp] theorem State.modScr_fu (h : Screens → Screens) : (s.modScr h).fu = s.fu := rfl
@[simp] theorem State.modScr_cal (h : Screens → Screens) : (s.modScr h).cal = s.cal := rfl
@[simp] theorem State.modScr_fmt (h : Screens → Screens) : (s.modScr h).fmt = s.fmt := rfl
@[simp] theorem State.modScr_sts (h : Screens → Screens) : (s.modScr h).sts = s.sts := rfl
@[simp] theorem State.modScr_scr (h : Screens → Screens) : (s.modScr h).scr = h s.scr := rfl
@[simp] theorem State.modScr_reel (h : Screens → Screens) : (s.modScr h).reel = s.reel := rfl
@[simp] theorem State.modScr_window (h : Screens → Screens) : (s.modScr h).window = s.window := rfl
@[simp] theorem State.modScr_poison (h : Screens → Screens) : (s.modScr h).poison = s.poison := rfl
@[simp] theorem State.modScr_link (h : Screens → Screens) : (s.modScr h).link = s.link := rfl
@[simp] theorem State.modScr_dma (h : Screens → Screens) : (s.modScr h).dma = s.dma := rfl
@[simp] theorem State.modScr_cmd (h : Screens → Screens) : (s.modScr h).cmd = s.cmd := rfl
@[simp] theorem State.modScr_wl (h : Screens → Screens) : (s.modScr h).wl = s.wl := rfl
@[simp] theorem State.modScr_pen (h : Screens → Screens) : (s.modScr h).pen = s.pen := rfl
@[simp] theorem State.modScr_clk (h : Screens → Screens) : (s.modScr h).clk = s.clk := rfl
@[simp] theorem State.modScr_tnd (h : Screens → Screens) : (s.modScr h).tnd = s.tnd := rfl
@[simp] theorem State.modScr_tw (h : Screens → Screens) : (s.modScr h).tw = s.tw := rfl
@[simp] theorem State.modScr_thm (h : Screens → Screens) : (s.modScr h).thm = s.thm := rfl
@[simp] theorem State.modScr_rst (h : Screens → Screens) : (s.modScr h).rst = s.rst := rfl
@[simp] theorem State.modScr_obs (h : Screens → Screens) : (s.modScr h).obs = s.obs := rfl
@[simp] theorem State.modScr_before (h : Screens → Screens) : (s.modScr h).before = s.before := rfl
@[simp] theorem State.modScr_shadow (h : Screens → Screens) : (s.modScr h).shadow = s.shadow := rfl
@[simp] theorem State.modScr_out (h : Screens → Screens) : (s.modScr h).out = s.out := rfl
@[simp] theorem State.modScr_free (h : Screens → Screens) : (s.modScr h).free = s.free := rfl
@[simp] theorem State.modReel_pending (h : Reel → Reel) : (s.modReel h).pending = s.pending := rfl
@[simp] theorem State.modReel_regs (h : Reel → Reel) : (s.modReel h).regs = s.regs := rfl
@[simp] theorem State.modReel_tb (h : Reel → Reel) : (s.modReel h).tb = s.tb := rfl
@[simp] theorem State.modReel_hb (h : Reel → Reel) : (s.modReel h).hb = s.hb := rfl
@[simp] theorem State.modReel_felt (h : Reel → Reel) : (s.modReel h).felt = s.felt := rfl
@[simp] theorem State.modReel_fu (h : Reel → Reel) : (s.modReel h).fu = s.fu := rfl
@[simp] theorem State.modReel_cal (h : Reel → Reel) : (s.modReel h).cal = s.cal := rfl
@[simp] theorem State.modReel_fmt (h : Reel → Reel) : (s.modReel h).fmt = s.fmt := rfl
@[simp] theorem State.modReel_sts (h : Reel → Reel) : (s.modReel h).sts = s.sts := rfl
@[simp] theorem State.modReel_scr (h : Reel → Reel) : (s.modReel h).scr = s.scr := rfl
@[simp] theorem State.modReel_reel (h : Reel → Reel) : (s.modReel h).reel = h s.reel := rfl
@[simp] theorem State.modReel_window (h : Reel → Reel) : (s.modReel h).window = s.window := rfl
@[simp] theorem State.modReel_poison (h : Reel → Reel) : (s.modReel h).poison = s.poison := rfl
@[simp] theorem State.modReel_link (h : Reel → Reel) : (s.modReel h).link = s.link := rfl
@[simp] theorem State.modReel_dma (h : Reel → Reel) : (s.modReel h).dma = s.dma := rfl
@[simp] theorem State.modReel_cmd (h : Reel → Reel) : (s.modReel h).cmd = s.cmd := rfl
@[simp] theorem State.modReel_wl (h : Reel → Reel) : (s.modReel h).wl = s.wl := rfl
@[simp] theorem State.modReel_pen (h : Reel → Reel) : (s.modReel h).pen = s.pen := rfl
@[simp] theorem State.modReel_clk (h : Reel → Reel) : (s.modReel h).clk = s.clk := rfl
@[simp] theorem State.modReel_tnd (h : Reel → Reel) : (s.modReel h).tnd = s.tnd := rfl
@[simp] theorem State.modReel_tw (h : Reel → Reel) : (s.modReel h).tw = s.tw := rfl
@[simp] theorem State.modReel_thm (h : Reel → Reel) : (s.modReel h).thm = s.thm := rfl
@[simp] theorem State.modReel_rst (h : Reel → Reel) : (s.modReel h).rst = s.rst := rfl
@[simp] theorem State.modReel_obs (h : Reel → Reel) : (s.modReel h).obs = s.obs := rfl
@[simp] theorem State.modReel_before (h : Reel → Reel) : (s.modReel h).before = s.before := rfl
@[simp] theorem State.modReel_shadow (h : Reel → Reel) : (s.modReel h).shadow = s.shadow := rfl
@[simp] theorem State.modReel_out (h : Reel → Reel) : (s.modReel h).out = s.out := rfl
@[simp] theorem State.modReel_free (h : Reel → Reel) : (s.modReel h).free = s.free := rfl
@[simp] theorem State.modLink_pending (h : Link → Link) : (s.modLink h).pending = s.pending := rfl
@[simp] theorem State.modLink_regs (h : Link → Link) : (s.modLink h).regs = s.regs := rfl
@[simp] theorem State.modLink_tb (h : Link → Link) : (s.modLink h).tb = s.tb := rfl
@[simp] theorem State.modLink_hb (h : Link → Link) : (s.modLink h).hb = s.hb := rfl
@[simp] theorem State.modLink_felt (h : Link → Link) : (s.modLink h).felt = s.felt := rfl
@[simp] theorem State.modLink_fu (h : Link → Link) : (s.modLink h).fu = s.fu := rfl
@[simp] theorem State.modLink_cal (h : Link → Link) : (s.modLink h).cal = s.cal := rfl
@[simp] theorem State.modLink_fmt (h : Link → Link) : (s.modLink h).fmt = s.fmt := rfl
@[simp] theorem State.modLink_sts (h : Link → Link) : (s.modLink h).sts = s.sts := rfl
@[simp] theorem State.modLink_scr (h : Link → Link) : (s.modLink h).scr = s.scr := rfl
@[simp] theorem State.modLink_reel (h : Link → Link) : (s.modLink h).reel = s.reel := rfl
@[simp] theorem State.modLink_window (h : Link → Link) : (s.modLink h).window = s.window := rfl
@[simp] theorem State.modLink_poison (h : Link → Link) : (s.modLink h).poison = s.poison := rfl
@[simp] theorem State.modLink_link (h : Link → Link) : (s.modLink h).link = h s.link := rfl
@[simp] theorem State.modLink_dma (h : Link → Link) : (s.modLink h).dma = s.dma := rfl
@[simp] theorem State.modLink_cmd (h : Link → Link) : (s.modLink h).cmd = s.cmd := rfl
@[simp] theorem State.modLink_wl (h : Link → Link) : (s.modLink h).wl = s.wl := rfl
@[simp] theorem State.modLink_pen (h : Link → Link) : (s.modLink h).pen = s.pen := rfl
@[simp] theorem State.modLink_clk (h : Link → Link) : (s.modLink h).clk = s.clk := rfl
@[simp] theorem State.modLink_tnd (h : Link → Link) : (s.modLink h).tnd = s.tnd := rfl
@[simp] theorem State.modLink_tw (h : Link → Link) : (s.modLink h).tw = s.tw := rfl
@[simp] theorem State.modLink_thm (h : Link → Link) : (s.modLink h).thm = s.thm := rfl
@[simp] theorem State.modLink_rst (h : Link → Link) : (s.modLink h).rst = s.rst := rfl
@[simp] theorem State.modLink_obs (h : Link → Link) : (s.modLink h).obs = s.obs := rfl
@[simp] theorem State.modLink_before (h : Link → Link) : (s.modLink h).before = s.before := rfl
@[simp] theorem State.modLink_shadow (h : Link → Link) : (s.modLink h).shadow = s.shadow := rfl
@[simp] theorem State.modLink_out (h : Link → Link) : (s.modLink h).out = s.out := rfl
@[simp] theorem State.modLink_free (h : Link → Link) : (s.modLink h).free = s.free := rfl
@[simp] theorem State.modDma_pending (h : Dma → Dma) : (s.modDma h).pending = s.pending := rfl
@[simp] theorem State.modDma_regs (h : Dma → Dma) : (s.modDma h).regs = s.regs := rfl
@[simp] theorem State.modDma_tb (h : Dma → Dma) : (s.modDma h).tb = s.tb := rfl
@[simp] theorem State.modDma_hb (h : Dma → Dma) : (s.modDma h).hb = s.hb := rfl
@[simp] theorem State.modDma_felt (h : Dma → Dma) : (s.modDma h).felt = s.felt := rfl
@[simp] theorem State.modDma_fu (h : Dma → Dma) : (s.modDma h).fu = s.fu := rfl
@[simp] theorem State.modDma_cal (h : Dma → Dma) : (s.modDma h).cal = s.cal := rfl
@[simp] theorem State.modDma_fmt (h : Dma → Dma) : (s.modDma h).fmt = s.fmt := rfl
@[simp] theorem State.modDma_sts (h : Dma → Dma) : (s.modDma h).sts = s.sts := rfl
@[simp] theorem State.modDma_scr (h : Dma → Dma) : (s.modDma h).scr = s.scr := rfl
@[simp] theorem State.modDma_reel (h : Dma → Dma) : (s.modDma h).reel = s.reel := rfl
@[simp] theorem State.modDma_window (h : Dma → Dma) : (s.modDma h).window = s.window := rfl
@[simp] theorem State.modDma_poison (h : Dma → Dma) : (s.modDma h).poison = s.poison := rfl
@[simp] theorem State.modDma_link (h : Dma → Dma) : (s.modDma h).link = s.link := rfl
@[simp] theorem State.modDma_dma (h : Dma → Dma) : (s.modDma h).dma = h s.dma := rfl
@[simp] theorem State.modDma_cmd (h : Dma → Dma) : (s.modDma h).cmd = s.cmd := rfl
@[simp] theorem State.modDma_wl (h : Dma → Dma) : (s.modDma h).wl = s.wl := rfl
@[simp] theorem State.modDma_pen (h : Dma → Dma) : (s.modDma h).pen = s.pen := rfl
@[simp] theorem State.modDma_clk (h : Dma → Dma) : (s.modDma h).clk = s.clk := rfl
@[simp] theorem State.modDma_tnd (h : Dma → Dma) : (s.modDma h).tnd = s.tnd := rfl
@[simp] theorem State.modDma_tw (h : Dma → Dma) : (s.modDma h).tw = s.tw := rfl
@[simp] theorem State.modDma_thm (h : Dma → Dma) : (s.modDma h).thm = s.thm := rfl
@[simp] theorem State.modDma_rst (h : Dma → Dma) : (s.modDma h).rst = s.rst := rfl
@[simp] theorem State.modDma_obs (h : Dma → Dma) : (s.modDma h).obs = s.obs := rfl
@[simp] theorem State.modDma_before (h : Dma → Dma) : (s.modDma h).before = s.before := rfl
@[simp] theorem State.modDma_shadow (h : Dma → Dma) : (s.modDma h).shadow = s.shadow := rfl
@[simp] theorem State.modDma_out (h : Dma → Dma) : (s.modDma h).out = s.out := rfl
@[simp] theorem State.modDma_free (h : Dma → Dma) : (s.modDma h).free = s.free := rfl
@[simp] theorem State.modCmd_pending (h : Commands → Commands) : (s.modCmd h).pending = s.pending := rfl
@[simp] theorem State.modCmd_regs (h : Commands → Commands) : (s.modCmd h).regs = s.regs := rfl
@[simp] theorem State.modCmd_tb (h : Commands → Commands) : (s.modCmd h).tb = s.tb := rfl
@[simp] theorem State.modCmd_hb (h : Commands → Commands) : (s.modCmd h).hb = s.hb := rfl
@[simp] theorem State.modCmd_felt (h : Commands → Commands) : (s.modCmd h).felt = s.felt := rfl
@[simp] theorem State.modCmd_fu (h : Commands → Commands) : (s.modCmd h).fu = s.fu := rfl
@[simp] theorem State.modCmd_cal (h : Commands → Commands) : (s.modCmd h).cal = s.cal := rfl
@[simp] theorem State.modCmd_fmt (h : Commands → Commands) : (s.modCmd h).fmt = s.fmt := rfl
@[simp] theorem State.modCmd_sts (h : Commands → Commands) : (s.modCmd h).sts = s.sts := rfl
@[simp] theorem State.modCmd_scr (h : Commands → Commands) : (s.modCmd h).scr = s.scr := rfl
@[simp] theorem State.modCmd_reel (h : Commands → Commands) : (s.modCmd h).reel = s.reel := rfl
@[simp] theorem State.modCmd_window (h : Commands → Commands) : (s.modCmd h).window = s.window := rfl
@[simp] theorem State.modCmd_poison (h : Commands → Commands) : (s.modCmd h).poison = s.poison := rfl
@[simp] theorem State.modCmd_link (h : Commands → Commands) : (s.modCmd h).link = s.link := rfl
@[simp] theorem State.modCmd_dma (h : Commands → Commands) : (s.modCmd h).dma = s.dma := rfl
@[simp] theorem State.modCmd_cmd (h : Commands → Commands) : (s.modCmd h).cmd = h s.cmd := rfl
@[simp] theorem State.modCmd_wl (h : Commands → Commands) : (s.modCmd h).wl = s.wl := rfl
@[simp] theorem State.modCmd_pen (h : Commands → Commands) : (s.modCmd h).pen = s.pen := rfl
@[simp] theorem State.modCmd_clk (h : Commands → Commands) : (s.modCmd h).clk = s.clk := rfl
@[simp] theorem State.modCmd_tnd (h : Commands → Commands) : (s.modCmd h).tnd = s.tnd := rfl
@[simp] theorem State.modCmd_tw (h : Commands → Commands) : (s.modCmd h).tw = s.tw := rfl
@[simp] theorem State.modCmd_thm (h : Commands → Commands) : (s.modCmd h).thm = s.thm := rfl
@[simp] theorem State.modCmd_rst (h : Commands → Commands) : (s.modCmd h).rst = s.rst := rfl
@[simp] theorem State.modCmd_obs (h : Commands → Commands) : (s.modCmd h).obs = s.obs := rfl
@[simp] theorem State.modCmd_before (h : Commands → Commands) : (s.modCmd h).before = s.before := rfl
@[simp] theorem State.modCmd_shadow (h : Commands → Commands) : (s.modCmd h).shadow = s.shadow := rfl
@[simp] theorem State.modCmd_out (h : Commands → Commands) : (s.modCmd h).out = s.out := rfl
@[simp] theorem State.modCmd_free (h : Commands → Commands) : (s.modCmd h).free = s.free := rfl
@[simp] theorem State.modWl_pending (h : WebLink → WebLink) : (s.modWl h).pending = s.pending := rfl
@[simp] theorem State.modWl_regs (h : WebLink → WebLink) : (s.modWl h).regs = s.regs := rfl
@[simp] theorem State.modWl_tb (h : WebLink → WebLink) : (s.modWl h).tb = s.tb := rfl
@[simp] theorem State.modWl_hb (h : WebLink → WebLink) : (s.modWl h).hb = s.hb := rfl
@[simp] theorem State.modWl_felt (h : WebLink → WebLink) : (s.modWl h).felt = s.felt := rfl
@[simp] theorem State.modWl_fu (h : WebLink → WebLink) : (s.modWl h).fu = s.fu := rfl
@[simp] theorem State.modWl_cal (h : WebLink → WebLink) : (s.modWl h).cal = s.cal := rfl
@[simp] theorem State.modWl_fmt (h : WebLink → WebLink) : (s.modWl h).fmt = s.fmt := rfl
@[simp] theorem State.modWl_sts (h : WebLink → WebLink) : (s.modWl h).sts = s.sts := rfl
@[simp] theorem State.modWl_scr (h : WebLink → WebLink) : (s.modWl h).scr = s.scr := rfl
@[simp] theorem State.modWl_reel (h : WebLink → WebLink) : (s.modWl h).reel = s.reel := rfl
@[simp] theorem State.modWl_window (h : WebLink → WebLink) : (s.modWl h).window = s.window := rfl
@[simp] theorem State.modWl_poison (h : WebLink → WebLink) : (s.modWl h).poison = s.poison := rfl
@[simp] theorem State.modWl_link (h : WebLink → WebLink) : (s.modWl h).link = s.link := rfl
@[simp] theorem State.modWl_dma (h : WebLink → WebLink) : (s.modWl h).dma = s.dma := rfl
@[simp] theorem State.modWl_cmd (h : WebLink → WebLink) : (s.modWl h).cmd = s.cmd := rfl
@[simp] theorem State.modWl_wl (h : WebLink → WebLink) : (s.modWl h).wl = h s.wl := rfl
@[simp] theorem State.modWl_pen (h : WebLink → WebLink) : (s.modWl h).pen = s.pen := rfl
@[simp] theorem State.modWl_clk (h : WebLink → WebLink) : (s.modWl h).clk = s.clk := rfl
@[simp] theorem State.modWl_tnd (h : WebLink → WebLink) : (s.modWl h).tnd = s.tnd := rfl
@[simp] theorem State.modWl_tw (h : WebLink → WebLink) : (s.modWl h).tw = s.tw := rfl
@[simp] theorem State.modWl_thm (h : WebLink → WebLink) : (s.modWl h).thm = s.thm := rfl
@[simp] theorem State.modWl_rst (h : WebLink → WebLink) : (s.modWl h).rst = s.rst := rfl
@[simp] theorem State.modWl_obs (h : WebLink → WebLink) : (s.modWl h).obs = s.obs := rfl
@[simp] theorem State.modWl_before (h : WebLink → WebLink) : (s.modWl h).before = s.before := rfl
@[simp] theorem State.modWl_shadow (h : WebLink → WebLink) : (s.modWl h).shadow = s.shadow := rfl
@[simp] theorem State.modWl_out (h : WebLink → WebLink) : (s.modWl h).out = s.out := rfl
@[simp] theorem State.modWl_free (h : WebLink → WebLink) : (s.modWl h).free = s.free := rfl
@[simp] theorem State.modPen_pending (h : PinEngines → PinEngines) : (s.modPen h).pending = s.pending := rfl
@[simp] theorem State.modPen_regs (h : PinEngines → PinEngines) : (s.modPen h).regs = s.regs := rfl
@[simp] theorem State.modPen_tb (h : PinEngines → PinEngines) : (s.modPen h).tb = s.tb := rfl
@[simp] theorem State.modPen_hb (h : PinEngines → PinEngines) : (s.modPen h).hb = s.hb := rfl
@[simp] theorem State.modPen_felt (h : PinEngines → PinEngines) : (s.modPen h).felt = s.felt := rfl
@[simp] theorem State.modPen_fu (h : PinEngines → PinEngines) : (s.modPen h).fu = s.fu := rfl
@[simp] theorem State.modPen_cal (h : PinEngines → PinEngines) : (s.modPen h).cal = s.cal := rfl
@[simp] theorem State.modPen_fmt (h : PinEngines → PinEngines) : (s.modPen h).fmt = s.fmt := rfl
@[simp] theorem State.modPen_sts (h : PinEngines → PinEngines) : (s.modPen h).sts = s.sts := rfl
@[simp] theorem State.modPen_scr (h : PinEngines → PinEngines) : (s.modPen h).scr = s.scr := rfl
@[simp] theorem State.modPen_reel (h : PinEngines → PinEngines) : (s.modPen h).reel = s.reel := rfl
@[simp] theorem State.modPen_window (h : PinEngines → PinEngines) : (s.modPen h).window = s.window := rfl
@[simp] theorem State.modPen_poison (h : PinEngines → PinEngines) : (s.modPen h).poison = s.poison := rfl
@[simp] theorem State.modPen_link (h : PinEngines → PinEngines) : (s.modPen h).link = s.link := rfl
@[simp] theorem State.modPen_dma (h : PinEngines → PinEngines) : (s.modPen h).dma = s.dma := rfl
@[simp] theorem State.modPen_cmd (h : PinEngines → PinEngines) : (s.modPen h).cmd = s.cmd := rfl
@[simp] theorem State.modPen_wl (h : PinEngines → PinEngines) : (s.modPen h).wl = s.wl := rfl
@[simp] theorem State.modPen_pen (h : PinEngines → PinEngines) : (s.modPen h).pen = h s.pen := rfl
@[simp] theorem State.modPen_clk (h : PinEngines → PinEngines) : (s.modPen h).clk = s.clk := rfl
@[simp] theorem State.modPen_tnd (h : PinEngines → PinEngines) : (s.modPen h).tnd = s.tnd := rfl
@[simp] theorem State.modPen_tw (h : PinEngines → PinEngines) : (s.modPen h).tw = s.tw := rfl
@[simp] theorem State.modPen_thm (h : PinEngines → PinEngines) : (s.modPen h).thm = s.thm := rfl
@[simp] theorem State.modPen_rst (h : PinEngines → PinEngines) : (s.modPen h).rst = s.rst := rfl
@[simp] theorem State.modPen_obs (h : PinEngines → PinEngines) : (s.modPen h).obs = s.obs := rfl
@[simp] theorem State.modPen_before (h : PinEngines → PinEngines) : (s.modPen h).before = s.before := rfl
@[simp] theorem State.modPen_shadow (h : PinEngines → PinEngines) : (s.modPen h).shadow = s.shadow := rfl
@[simp] theorem State.modPen_out (h : PinEngines → PinEngines) : (s.modPen h).out = s.out := rfl
@[simp] theorem State.modPen_free (h : PinEngines → PinEngines) : (s.modPen h).free = s.free := rfl
@[simp] theorem State.modClk_pending (h : Clocks → Clocks) : (s.modClk h).pending = s.pending := rfl
@[simp] theorem State.modClk_regs (h : Clocks → Clocks) : (s.modClk h).regs = s.regs := rfl
@[simp] theorem State.modClk_tb (h : Clocks → Clocks) : (s.modClk h).tb = s.tb := rfl
@[simp] theorem State.modClk_hb (h : Clocks → Clocks) : (s.modClk h).hb = s.hb := rfl
@[simp] theorem State.modClk_felt (h : Clocks → Clocks) : (s.modClk h).felt = s.felt := rfl
@[simp] theorem State.modClk_fu (h : Clocks → Clocks) : (s.modClk h).fu = s.fu := rfl
@[simp] theorem State.modClk_cal (h : Clocks → Clocks) : (s.modClk h).cal = s.cal := rfl
@[simp] theorem State.modClk_fmt (h : Clocks → Clocks) : (s.modClk h).fmt = s.fmt := rfl
@[simp] theorem State.modClk_sts (h : Clocks → Clocks) : (s.modClk h).sts = s.sts := rfl
@[simp] theorem State.modClk_scr (h : Clocks → Clocks) : (s.modClk h).scr = s.scr := rfl
@[simp] theorem State.modClk_reel (h : Clocks → Clocks) : (s.modClk h).reel = s.reel := rfl
@[simp] theorem State.modClk_window (h : Clocks → Clocks) : (s.modClk h).window = s.window := rfl
@[simp] theorem State.modClk_poison (h : Clocks → Clocks) : (s.modClk h).poison = s.poison := rfl
@[simp] theorem State.modClk_link (h : Clocks → Clocks) : (s.modClk h).link = s.link := rfl
@[simp] theorem State.modClk_dma (h : Clocks → Clocks) : (s.modClk h).dma = s.dma := rfl
@[simp] theorem State.modClk_cmd (h : Clocks → Clocks) : (s.modClk h).cmd = s.cmd := rfl
@[simp] theorem State.modClk_wl (h : Clocks → Clocks) : (s.modClk h).wl = s.wl := rfl
@[simp] theorem State.modClk_pen (h : Clocks → Clocks) : (s.modClk h).pen = s.pen := rfl
@[simp] theorem State.modClk_clk (h : Clocks → Clocks) : (s.modClk h).clk = h s.clk := rfl
@[simp] theorem State.modClk_tnd (h : Clocks → Clocks) : (s.modClk h).tnd = s.tnd := rfl
@[simp] theorem State.modClk_tw (h : Clocks → Clocks) : (s.modClk h).tw = s.tw := rfl
@[simp] theorem State.modClk_thm (h : Clocks → Clocks) : (s.modClk h).thm = s.thm := rfl
@[simp] theorem State.modClk_rst (h : Clocks → Clocks) : (s.modClk h).rst = s.rst := rfl
@[simp] theorem State.modClk_obs (h : Clocks → Clocks) : (s.modClk h).obs = s.obs := rfl
@[simp] theorem State.modClk_before (h : Clocks → Clocks) : (s.modClk h).before = s.before := rfl
@[simp] theorem State.modClk_shadow (h : Clocks → Clocks) : (s.modClk h).shadow = s.shadow := rfl
@[simp] theorem State.modClk_out (h : Clocks → Clocks) : (s.modClk h).out = s.out := rfl
@[simp] theorem State.modClk_free (h : Clocks → Clocks) : (s.modClk h).free = s.free := rfl
@[simp] theorem State.modTnd_pending (h : Tender → Tender) : (s.modTnd h).pending = s.pending := rfl
@[simp] theorem State.modTnd_regs (h : Tender → Tender) : (s.modTnd h).regs = s.regs := rfl
@[simp] theorem State.modTnd_tb (h : Tender → Tender) : (s.modTnd h).tb = s.tb := rfl
@[simp] theorem State.modTnd_hb (h : Tender → Tender) : (s.modTnd h).hb = s.hb := rfl
@[simp] theorem State.modTnd_felt (h : Tender → Tender) : (s.modTnd h).felt = s.felt := rfl
@[simp] theorem State.modTnd_fu (h : Tender → Tender) : (s.modTnd h).fu = s.fu := rfl
@[simp] theorem State.modTnd_cal (h : Tender → Tender) : (s.modTnd h).cal = s.cal := rfl
@[simp] theorem State.modTnd_fmt (h : Tender → Tender) : (s.modTnd h).fmt = s.fmt := rfl
@[simp] theorem State.modTnd_sts (h : Tender → Tender) : (s.modTnd h).sts = s.sts := rfl
@[simp] theorem State.modTnd_scr (h : Tender → Tender) : (s.modTnd h).scr = s.scr := rfl
@[simp] theorem State.modTnd_reel (h : Tender → Tender) : (s.modTnd h).reel = s.reel := rfl
@[simp] theorem State.modTnd_window (h : Tender → Tender) : (s.modTnd h).window = s.window := rfl
@[simp] theorem State.modTnd_poison (h : Tender → Tender) : (s.modTnd h).poison = s.poison := rfl
@[simp] theorem State.modTnd_link (h : Tender → Tender) : (s.modTnd h).link = s.link := rfl
@[simp] theorem State.modTnd_dma (h : Tender → Tender) : (s.modTnd h).dma = s.dma := rfl
@[simp] theorem State.modTnd_cmd (h : Tender → Tender) : (s.modTnd h).cmd = s.cmd := rfl
@[simp] theorem State.modTnd_wl (h : Tender → Tender) : (s.modTnd h).wl = s.wl := rfl
@[simp] theorem State.modTnd_pen (h : Tender → Tender) : (s.modTnd h).pen = s.pen := rfl
@[simp] theorem State.modTnd_clk (h : Tender → Tender) : (s.modTnd h).clk = s.clk := rfl
@[simp] theorem State.modTnd_tnd (h : Tender → Tender) : (s.modTnd h).tnd = h s.tnd := rfl
@[simp] theorem State.modTnd_tw (h : Tender → Tender) : (s.modTnd h).tw = s.tw := rfl
@[simp] theorem State.modTnd_thm (h : Tender → Tender) : (s.modTnd h).thm = s.thm := rfl
@[simp] theorem State.modTnd_rst (h : Tender → Tender) : (s.modTnd h).rst = s.rst := rfl
@[simp] theorem State.modTnd_obs (h : Tender → Tender) : (s.modTnd h).obs = s.obs := rfl
@[simp] theorem State.modTnd_before (h : Tender → Tender) : (s.modTnd h).before = s.before := rfl
@[simp] theorem State.modTnd_shadow (h : Tender → Tender) : (s.modTnd h).shadow = s.shadow := rfl
@[simp] theorem State.modTnd_out (h : Tender → Tender) : (s.modTnd h).out = s.out := rfl
@[simp] theorem State.modTnd_free (h : Tender → Tender) : (s.modTnd h).free = s.free := rfl
@[simp] theorem State.modTw_pending (h : TwoWire → TwoWire) : (s.modTw h).pending = s.pending := rfl
@[simp] theorem State.modTw_regs (h : TwoWire → TwoWire) : (s.modTw h).regs = s.regs := rfl
@[simp] theorem State.modTw_tb (h : TwoWire → TwoWire) : (s.modTw h).tb = s.tb := rfl
@[simp] theorem State.modTw_hb (h : TwoWire → TwoWire) : (s.modTw h).hb = s.hb := rfl
@[simp] theorem State.modTw_felt (h : TwoWire → TwoWire) : (s.modTw h).felt = s.felt := rfl
@[simp] theorem State.modTw_fu (h : TwoWire → TwoWire) : (s.modTw h).fu = s.fu := rfl
@[simp] theorem State.modTw_cal (h : TwoWire → TwoWire) : (s.modTw h).cal = s.cal := rfl
@[simp] theorem State.modTw_fmt (h : TwoWire → TwoWire) : (s.modTw h).fmt = s.fmt := rfl
@[simp] theorem State.modTw_sts (h : TwoWire → TwoWire) : (s.modTw h).sts = s.sts := rfl
@[simp] theorem State.modTw_scr (h : TwoWire → TwoWire) : (s.modTw h).scr = s.scr := rfl
@[simp] theorem State.modTw_reel (h : TwoWire → TwoWire) : (s.modTw h).reel = s.reel := rfl
@[simp] theorem State.modTw_window (h : TwoWire → TwoWire) : (s.modTw h).window = s.window := rfl
@[simp] theorem State.modTw_poison (h : TwoWire → TwoWire) : (s.modTw h).poison = s.poison := rfl
@[simp] theorem State.modTw_link (h : TwoWire → TwoWire) : (s.modTw h).link = s.link := rfl
@[simp] theorem State.modTw_dma (h : TwoWire → TwoWire) : (s.modTw h).dma = s.dma := rfl
@[simp] theorem State.modTw_cmd (h : TwoWire → TwoWire) : (s.modTw h).cmd = s.cmd := rfl
@[simp] theorem State.modTw_wl (h : TwoWire → TwoWire) : (s.modTw h).wl = s.wl := rfl
@[simp] theorem State.modTw_pen (h : TwoWire → TwoWire) : (s.modTw h).pen = s.pen := rfl
@[simp] theorem State.modTw_clk (h : TwoWire → TwoWire) : (s.modTw h).clk = s.clk := rfl
@[simp] theorem State.modTw_tnd (h : TwoWire → TwoWire) : (s.modTw h).tnd = s.tnd := rfl
@[simp] theorem State.modTw_tw (h : TwoWire → TwoWire) : (s.modTw h).tw = h s.tw := rfl
@[simp] theorem State.modTw_thm (h : TwoWire → TwoWire) : (s.modTw h).thm = s.thm := rfl
@[simp] theorem State.modTw_rst (h : TwoWire → TwoWire) : (s.modTw h).rst = s.rst := rfl
@[simp] theorem State.modTw_obs (h : TwoWire → TwoWire) : (s.modTw h).obs = s.obs := rfl
@[simp] theorem State.modTw_before (h : TwoWire → TwoWire) : (s.modTw h).before = s.before := rfl
@[simp] theorem State.modTw_shadow (h : TwoWire → TwoWire) : (s.modTw h).shadow = s.shadow := rfl
@[simp] theorem State.modTw_out (h : TwoWire → TwoWire) : (s.modTw h).out = s.out := rfl
@[simp] theorem State.modTw_free (h : TwoWire → TwoWire) : (s.modTw h).free = s.free := rfl
@[simp] theorem State.modThm_pending (h : Thermal → Thermal) : (s.modThm h).pending = s.pending := rfl
@[simp] theorem State.modThm_regs (h : Thermal → Thermal) : (s.modThm h).regs = s.regs := rfl
@[simp] theorem State.modThm_tb (h : Thermal → Thermal) : (s.modThm h).tb = s.tb := rfl
@[simp] theorem State.modThm_hb (h : Thermal → Thermal) : (s.modThm h).hb = s.hb := rfl
@[simp] theorem State.modThm_felt (h : Thermal → Thermal) : (s.modThm h).felt = s.felt := rfl
@[simp] theorem State.modThm_fu (h : Thermal → Thermal) : (s.modThm h).fu = s.fu := rfl
@[simp] theorem State.modThm_cal (h : Thermal → Thermal) : (s.modThm h).cal = s.cal := rfl
@[simp] theorem State.modThm_fmt (h : Thermal → Thermal) : (s.modThm h).fmt = s.fmt := rfl
@[simp] theorem State.modThm_sts (h : Thermal → Thermal) : (s.modThm h).sts = s.sts := rfl
@[simp] theorem State.modThm_scr (h : Thermal → Thermal) : (s.modThm h).scr = s.scr := rfl
@[simp] theorem State.modThm_reel (h : Thermal → Thermal) : (s.modThm h).reel = s.reel := rfl
@[simp] theorem State.modThm_window (h : Thermal → Thermal) : (s.modThm h).window = s.window := rfl
@[simp] theorem State.modThm_poison (h : Thermal → Thermal) : (s.modThm h).poison = s.poison := rfl
@[simp] theorem State.modThm_link (h : Thermal → Thermal) : (s.modThm h).link = s.link := rfl
@[simp] theorem State.modThm_dma (h : Thermal → Thermal) : (s.modThm h).dma = s.dma := rfl
@[simp] theorem State.modThm_cmd (h : Thermal → Thermal) : (s.modThm h).cmd = s.cmd := rfl
@[simp] theorem State.modThm_wl (h : Thermal → Thermal) : (s.modThm h).wl = s.wl := rfl
@[simp] theorem State.modThm_pen (h : Thermal → Thermal) : (s.modThm h).pen = s.pen := rfl
@[simp] theorem State.modThm_clk (h : Thermal → Thermal) : (s.modThm h).clk = s.clk := rfl
@[simp] theorem State.modThm_tnd (h : Thermal → Thermal) : (s.modThm h).tnd = s.tnd := rfl
@[simp] theorem State.modThm_tw (h : Thermal → Thermal) : (s.modThm h).tw = s.tw := rfl
@[simp] theorem State.modThm_thm (h : Thermal → Thermal) : (s.modThm h).thm = h s.thm := rfl
@[simp] theorem State.modThm_rst (h : Thermal → Thermal) : (s.modThm h).rst = s.rst := rfl
@[simp] theorem State.modThm_obs (h : Thermal → Thermal) : (s.modThm h).obs = s.obs := rfl
@[simp] theorem State.modThm_before (h : Thermal → Thermal) : (s.modThm h).before = s.before := rfl
@[simp] theorem State.modThm_shadow (h : Thermal → Thermal) : (s.modThm h).shadow = s.shadow := rfl
@[simp] theorem State.modThm_out (h : Thermal → Thermal) : (s.modThm h).out = s.out := rfl
@[simp] theorem State.modThm_free (h : Thermal → Thermal) : (s.modThm h).free = s.free := rfl
@[simp] theorem State.modRst_pending (h : ResetState → ResetState) : (s.modRst h).pending = s.pending := rfl
@[simp] theorem State.modRst_regs (h : ResetState → ResetState) : (s.modRst h).regs = s.regs := rfl
@[simp] theorem State.modRst_tb (h : ResetState → ResetState) : (s.modRst h).tb = s.tb := rfl
@[simp] theorem State.modRst_hb (h : ResetState → ResetState) : (s.modRst h).hb = s.hb := rfl
@[simp] theorem State.modRst_felt (h : ResetState → ResetState) : (s.modRst h).felt = s.felt := rfl
@[simp] theorem State.modRst_fu (h : ResetState → ResetState) : (s.modRst h).fu = s.fu := rfl
@[simp] theorem State.modRst_cal (h : ResetState → ResetState) : (s.modRst h).cal = s.cal := rfl
@[simp] theorem State.modRst_fmt (h : ResetState → ResetState) : (s.modRst h).fmt = s.fmt := rfl
@[simp] theorem State.modRst_sts (h : ResetState → ResetState) : (s.modRst h).sts = s.sts := rfl
@[simp] theorem State.modRst_scr (h : ResetState → ResetState) : (s.modRst h).scr = s.scr := rfl
@[simp] theorem State.modRst_reel (h : ResetState → ResetState) : (s.modRst h).reel = s.reel := rfl
@[simp] theorem State.modRst_window (h : ResetState → ResetState) : (s.modRst h).window = s.window := rfl
@[simp] theorem State.modRst_poison (h : ResetState → ResetState) : (s.modRst h).poison = s.poison := rfl
@[simp] theorem State.modRst_link (h : ResetState → ResetState) : (s.modRst h).link = s.link := rfl
@[simp] theorem State.modRst_dma (h : ResetState → ResetState) : (s.modRst h).dma = s.dma := rfl
@[simp] theorem State.modRst_cmd (h : ResetState → ResetState) : (s.modRst h).cmd = s.cmd := rfl
@[simp] theorem State.modRst_wl (h : ResetState → ResetState) : (s.modRst h).wl = s.wl := rfl
@[simp] theorem State.modRst_pen (h : ResetState → ResetState) : (s.modRst h).pen = s.pen := rfl
@[simp] theorem State.modRst_clk (h : ResetState → ResetState) : (s.modRst h).clk = s.clk := rfl
@[simp] theorem State.modRst_tnd (h : ResetState → ResetState) : (s.modRst h).tnd = s.tnd := rfl
@[simp] theorem State.modRst_tw (h : ResetState → ResetState) : (s.modRst h).tw = s.tw := rfl
@[simp] theorem State.modRst_thm (h : ResetState → ResetState) : (s.modRst h).thm = s.thm := rfl
@[simp] theorem State.modRst_rst (h : ResetState → ResetState) : (s.modRst h).rst = h s.rst := rfl
@[simp] theorem State.modRst_obs (h : ResetState → ResetState) : (s.modRst h).obs = s.obs := rfl
@[simp] theorem State.modRst_before (h : ResetState → ResetState) : (s.modRst h).before = s.before := rfl
@[simp] theorem State.modRst_shadow (h : ResetState → ResetState) : (s.modRst h).shadow = s.shadow := rfl
@[simp] theorem State.modRst_out (h : ResetState → ResetState) : (s.modRst h).out = s.out := rfl
@[simp] theorem State.modRst_free (h : ResetState → ResetState) : (s.modRst h).free = s.free := rfl
@[simp] theorem State.modObs_pending (h : Observation → Observation) : (s.modObs h).pending = s.pending := rfl
@[simp] theorem State.modObs_regs (h : Observation → Observation) : (s.modObs h).regs = s.regs := rfl
@[simp] theorem State.modObs_tb (h : Observation → Observation) : (s.modObs h).tb = s.tb := rfl
@[simp] theorem State.modObs_hb (h : Observation → Observation) : (s.modObs h).hb = s.hb := rfl
@[simp] theorem State.modObs_felt (h : Observation → Observation) : (s.modObs h).felt = s.felt := rfl
@[simp] theorem State.modObs_fu (h : Observation → Observation) : (s.modObs h).fu = s.fu := rfl
@[simp] theorem State.modObs_cal (h : Observation → Observation) : (s.modObs h).cal = s.cal := rfl
@[simp] theorem State.modObs_fmt (h : Observation → Observation) : (s.modObs h).fmt = s.fmt := rfl
@[simp] theorem State.modObs_sts (h : Observation → Observation) : (s.modObs h).sts = s.sts := rfl
@[simp] theorem State.modObs_scr (h : Observation → Observation) : (s.modObs h).scr = s.scr := rfl
@[simp] theorem State.modObs_reel (h : Observation → Observation) : (s.modObs h).reel = s.reel := rfl
@[simp] theorem State.modObs_window (h : Observation → Observation) : (s.modObs h).window = s.window := rfl
@[simp] theorem State.modObs_poison (h : Observation → Observation) : (s.modObs h).poison = s.poison := rfl
@[simp] theorem State.modObs_link (h : Observation → Observation) : (s.modObs h).link = s.link := rfl
@[simp] theorem State.modObs_dma (h : Observation → Observation) : (s.modObs h).dma = s.dma := rfl
@[simp] theorem State.modObs_cmd (h : Observation → Observation) : (s.modObs h).cmd = s.cmd := rfl
@[simp] theorem State.modObs_wl (h : Observation → Observation) : (s.modObs h).wl = s.wl := rfl
@[simp] theorem State.modObs_pen (h : Observation → Observation) : (s.modObs h).pen = s.pen := rfl
@[simp] theorem State.modObs_clk (h : Observation → Observation) : (s.modObs h).clk = s.clk := rfl
@[simp] theorem State.modObs_tnd (h : Observation → Observation) : (s.modObs h).tnd = s.tnd := rfl
@[simp] theorem State.modObs_tw (h : Observation → Observation) : (s.modObs h).tw = s.tw := rfl
@[simp] theorem State.modObs_thm (h : Observation → Observation) : (s.modObs h).thm = s.thm := rfl
@[simp] theorem State.modObs_rst (h : Observation → Observation) : (s.modObs h).rst = s.rst := rfl
@[simp] theorem State.modObs_obs (h : Observation → Observation) : (s.modObs h).obs = h s.obs := rfl
@[simp] theorem State.modObs_before (h : Observation → Observation) : (s.modObs h).before = s.before := rfl
@[simp] theorem State.modObs_shadow (h : Observation → Observation) : (s.modObs h).shadow = s.shadow := rfl
@[simp] theorem State.modObs_out (h : Observation → Observation) : (s.modObs h).out = s.out := rfl
@[simp] theorem State.modObs_free (h : Observation → Observation) : (s.modObs h).free = s.free := rfl
@[simp] theorem State.setReg_pending (o : Nat) (v : Word) : (s.setReg o v).pending = s.pending := rfl
@[simp] theorem State.setReg_tb (o : Nat) (v : Word) : (s.setReg o v).tb = s.tb := rfl
@[simp] theorem State.setReg_hb (o : Nat) (v : Word) : (s.setReg o v).hb = s.hb := rfl
@[simp] theorem State.setReg_felt (o : Nat) (v : Word) : (s.setReg o v).felt = s.felt := rfl
@[simp] theorem State.setReg_fu (o : Nat) (v : Word) : (s.setReg o v).fu = s.fu := rfl
@[simp] theorem State.setReg_cal (o : Nat) (v : Word) : (s.setReg o v).cal = s.cal := rfl
@[simp] theorem State.setReg_fmt (o : Nat) (v : Word) : (s.setReg o v).fmt = s.fmt := rfl
@[simp] theorem State.setReg_sts (o : Nat) (v : Word) : (s.setReg o v).sts = s.sts := rfl
@[simp] theorem State.setReg_scr (o : Nat) (v : Word) : (s.setReg o v).scr = s.scr := rfl
@[simp] theorem State.setReg_reel (o : Nat) (v : Word) : (s.setReg o v).reel = s.reel := rfl
@[simp] theorem State.setReg_window (o : Nat) (v : Word) : (s.setReg o v).window = s.window := rfl
@[simp] theorem State.setReg_poison (o : Nat) (v : Word) : (s.setReg o v).poison = s.poison := rfl
@[simp] theorem State.setReg_link (o : Nat) (v : Word) : (s.setReg o v).link = s.link := rfl
@[simp] theorem State.setReg_dma (o : Nat) (v : Word) : (s.setReg o v).dma = s.dma := rfl
@[simp] theorem State.setReg_cmd (o : Nat) (v : Word) : (s.setReg o v).cmd = s.cmd := rfl
@[simp] theorem State.setReg_wl (o : Nat) (v : Word) : (s.setReg o v).wl = s.wl := rfl
@[simp] theorem State.setReg_pen (o : Nat) (v : Word) : (s.setReg o v).pen = s.pen := rfl
@[simp] theorem State.setReg_clk (o : Nat) (v : Word) : (s.setReg o v).clk = s.clk := rfl
@[simp] theorem State.setReg_tnd (o : Nat) (v : Word) : (s.setReg o v).tnd = s.tnd := rfl
@[simp] theorem State.setReg_tw (o : Nat) (v : Word) : (s.setReg o v).tw = s.tw := rfl
@[simp] theorem State.setReg_thm (o : Nat) (v : Word) : (s.setReg o v).thm = s.thm := rfl
@[simp] theorem State.setReg_rst (o : Nat) (v : Word) : (s.setReg o v).rst = s.rst := rfl
@[simp] theorem State.setReg_obs (o : Nat) (v : Word) : (s.setReg o v).obs = s.obs := rfl
@[simp] theorem State.setReg_before (o : Nat) (v : Word) : (s.setReg o v).before = s.before := rfl
@[simp] theorem State.setReg_shadow (o : Nat) (v : Word) : (s.setReg o v).shadow = s.shadow := rfl
@[simp] theorem State.setReg_out (o : Nat) (v : Word) : (s.setReg o v).out = s.out := rfl
@[simp] theorem State.setReg_free (o : Nat) (v : Word) : (s.setReg o v).free = s.free := rfl
@[simp] theorem State.emit_pending (o : Out) : (s.emit o).pending = s.pending := rfl
@[simp] theorem State.emit_regs (o : Out) : (s.emit o).regs = s.regs := rfl
@[simp] theorem State.emit_tb (o : Out) : (s.emit o).tb = s.tb := rfl
@[simp] theorem State.emit_hb (o : Out) : (s.emit o).hb = s.hb := rfl
@[simp] theorem State.emit_felt (o : Out) : (s.emit o).felt = s.felt := rfl
@[simp] theorem State.emit_fu (o : Out) : (s.emit o).fu = s.fu := rfl
@[simp] theorem State.emit_cal (o : Out) : (s.emit o).cal = s.cal := rfl
@[simp] theorem State.emit_fmt (o : Out) : (s.emit o).fmt = s.fmt := rfl
@[simp] theorem State.emit_sts (o : Out) : (s.emit o).sts = s.sts := rfl
@[simp] theorem State.emit_scr (o : Out) : (s.emit o).scr = s.scr := rfl
@[simp] theorem State.emit_reel (o : Out) : (s.emit o).reel = s.reel := rfl
@[simp] theorem State.emit_window (o : Out) : (s.emit o).window = s.window := rfl
@[simp] theorem State.emit_poison (o : Out) : (s.emit o).poison = s.poison := rfl
@[simp] theorem State.emit_link (o : Out) : (s.emit o).link = s.link := rfl
@[simp] theorem State.emit_dma (o : Out) : (s.emit o).dma = s.dma := rfl
@[simp] theorem State.emit_cmd (o : Out) : (s.emit o).cmd = s.cmd := rfl
@[simp] theorem State.emit_wl (o : Out) : (s.emit o).wl = s.wl := rfl
@[simp] theorem State.emit_pen (o : Out) : (s.emit o).pen = s.pen := rfl
@[simp] theorem State.emit_clk (o : Out) : (s.emit o).clk = s.clk := rfl
@[simp] theorem State.emit_tnd (o : Out) : (s.emit o).tnd = s.tnd := rfl
@[simp] theorem State.emit_tw (o : Out) : (s.emit o).tw = s.tw := rfl
@[simp] theorem State.emit_thm (o : Out) : (s.emit o).thm = s.thm := rfl
@[simp] theorem State.emit_rst (o : Out) : (s.emit o).rst = s.rst := rfl
@[simp] theorem State.emit_obs (o : Out) : (s.emit o).obs = s.obs := rfl
@[simp] theorem State.emit_before (o : Out) : (s.emit o).before = s.before := rfl
@[simp] theorem State.emit_shadow (o : Out) : (s.emit o).shadow = s.shadow := rfl
@[simp] theorem State.emit_free (o : Out) : (s.emit o).free = s.free := rfl

end Sys2Proof.Machine
end

