-- ==== Sys2Proof/Laws/Events.lean ====
section
/-! SUPPORT. What the shared operations do to register fields: the field a hardware write, a count or an event names reads
its new value, and every field of another register keeps its own. -/

namespace Sys2Proof.Machine

theorem State.fget_regs {s t : State} (h : t.regs = s.regs) (g : Fld) : t.fget g = s.fget g := by
  unfold State.fget State.reg
  rw [h]

@[simp] theorem State.fget_modTb (h : Timebase → Timebase) (s : State) (g : Fld) : (s.modTb h).fget g = s.fget g := rfl
@[simp] theorem State.fget_modHb (h : Headbox → Headbox) (s : State) (g : Fld) : (s.modHb h).fget g = s.fget g := rfl
@[simp] theorem State.fget_modFelt (h : Felt → Felt) (s : State) (g : Fld) : (s.modFelt h).fget g = s.fget g := rfl
@[simp] theorem State.fget_modReel (h : Reel → Reel) (s : State) (g : Fld) : (s.modReel h).fget g = s.fget g := rfl
@[simp] theorem State.fget_modLink (h : Link → Link) (s : State) (g : Fld) : (s.modLink h).fget g = s.fget g := rfl
@[simp] theorem State.fget_modDma (h : Dma → Dma) (s : State) (g : Fld) : (s.modDma h).fget g = s.fget g := rfl
@[simp] theorem State.fget_modCmd (h : Commands → Commands) (s : State) (g : Fld) : (s.modCmd h).fget g = s.fget g := rfl
@[simp] theorem State.fget_modWl (h : WebLink → WebLink) (s : State) (g : Fld) : (s.modWl h).fget g = s.fget g := rfl
@[simp] theorem State.fget_modPen (h : PinEngines → PinEngines) (s : State) (g : Fld) : (s.modPen h).fget g = s.fget g := rfl
@[simp] theorem State.fget_modClk (h : Clocks → Clocks) (s : State) (g : Fld) : (s.modClk h).fget g = s.fget g := rfl
@[simp] theorem State.fget_modTnd (h : Tender → Tender) (s : State) (g : Fld) : (s.modTnd h).fget g = s.fget g := rfl
@[simp] theorem State.fget_modTw (h : TwoWire → TwoWire) (s : State) (g : Fld) : (s.modTw h).fget g = s.fget g := rfl
@[simp] theorem State.fget_modThm (h : Thermal → Thermal) (s : State) (g : Fld) : (s.modThm h).fget g = s.fget g := rfl
@[simp] theorem State.fget_modRst (h : ResetState → ResetState) (s : State) (g : Fld) : (s.modRst h).fget g = s.fget g := rfl
@[simp] theorem State.fget_emit (o : Out) (s : State) (g : Fld) : (s.emit o).fget g = s.fget g := rfl
@[simp] theorem State.fget_bump (i n : Nat) (s : State) (g : Fld) : (s.bump i n).fget g = s.fget g :=
  State.fget_regs (State.bump_regs s i n) g
@[simp] theorem State.fget_trace (e a : Nat) (d : Word) (s : State) (g : Fld) : (s.trace e a d).fget g = s.fget g :=
  State.fget_regs (State.trace_regs s e a d) g
@[simp] theorem State.fget_msix (v : Nat) (s : State) (g : Fld) : (s.msix v).fget g = s.fget g :=
  State.fget_regs (State.msix_regs s v) g
@[simp] theorem State.fget_queueless {s : State} (g : Fld) : s.flag g = (s.fget g != 0) := rfl

theorem State.fget_count_reg {f g : Fld} (n : Nat) (s : State) (h : g.off ≠ f.off) :
    (s.count f n).fget g = s.fget g := State.fget_fset_reg _ _ h

theorem State.fget_count_same (f : Fld) (n : Nat) (s : State) (h : f.lo + f.n ≤ 32) :
    (s.count f n).fget f = (s.fget f + n) % 2 ^ f.n := State.fget_fset_same f _ _ h

/-! ### Access by a path -/

/-- A write by a path that reaches the registers and may write has its effect. -/
theorem State.access_may {path : Path} {off : Nat} (f : State → State) {s : State} (h : s.mayWrite path off = true) :
    s.access path off f = f s := by
  unfold State.mayWrite at h
  rw [Bool.and_eq_true] at h
  unfold State.access
  rw [if_neg (by simp [h.1]), if_neg]
  rintro ⟨p, a, b⟩
  have h := h.2
  subst p
  simp_all

/-- A path that does not reach the registers writes nothing. -/
theorem State.access_unreached {path : Path} {off : Nat} (f : State → State) {s : State} (h : s.reaches path = false) :
    s.access path off f = s := by
  unfold State.access
  rw [if_pos (by simp [h])]

/-! ### Sticky events -/

@[simp] theorem State.fire_regs (f : Fld) (s : State) : (s.fire f).regs = (s.fset f 1).regs := rfl
@[simp] theorem State.fire_tnd (f : Fld) (s : State) : (s.fire f).tnd = s.tnd := rfl

/-- A register write depends on the registers alone. -/
theorem State.fset_regs_of {s t : State} (h : t.regs = s.regs) (f : Fld) (v : Nat) :
    (t.fset f v).regs = (s.fset f v).regs := by
  unfold State.fset State.setReg State.reg
  simp only [h]

theorem State.raise_rest_regs (f : Fld) (u : State) :
    (if u.flag f then u.fire f
     else
       let s := if f.off = 0x0D0020 then (u.fire f).trace 0x13 f.lo 0 else u.fire f
       match evVector f.off f.lo with
       | some v => if v = 51 ∧ (¬ s.link.up ∨ s.link.l1) then s else s.msix v
       | none => s).regs = (u.fset f 1).regs := by
  split
  · rfl
  · have h : (if f.off = 0x0D0020 then State.trace 0x13 f.lo 0 (u.fire f) else u.fire f).regs = (u.fset f 1).regs := by
      split
      · exact State.trace_regs _ _ _ _
      · rfl
    generalize (if f.off = 0x0D0020 then State.trace 0x13 f.lo 0 (u.fire f) else u.fire f) = w at h ⊢
    dsimp only
    split
    · split
      · exact h
      · exact (State.msix_regs _ _).trans h
    · exact h

/-- What the registers become as an event is raised: its attention bit is set, and its own. -/
theorem State.raise_regs (f : Fld) (s : State) : (s.raise f).regs =
    ((match evAttn f.off f.lo with | some a => s.fset a 1 | none => s).fset f 1).regs := by
  refine (State.raise_rest_regs f _).trans (State.fset_regs_of ?_ f 1)
  cases evAttn f.off f.lo <;> rfl

theorem evAttn_off {off lo : Nat} {a : Fld} (h : evAttn off lo = some a) : a.off = 0x000008 ∧ off ≠ 0x000008 := by
  unfold evAttn at h
  split at h
  · rename_i g; cases h; exact ⟨rfl, by omega⟩
  · split at h
    · rename_i g; cases h; exact ⟨rfl, by omega⟩
    · split at h
      · rename_i g; cases h; exact ⟨rfl, by omega⟩
      · split at h
        · rename_i g; cases h; exact ⟨rfl, by omega⟩
        · cases h

/-- A raised event reads set. -/
theorem State.flag_raise (f : Fld) (s : State) (h : f.lo + f.n ≤ 32) (n : f.n = 1) :
    (s.raise f).fget f = 1 := by
  rw [State.fget_regs (State.raise_regs f s), State.fget_fset_same _ _ _ h]
  simp [n]

/-- An event leaves every field alone but its own register and GLB_ATTN. -/
theorem State.fget_raise {f g : Fld} (s : State) (h : g.off ≠ f.off) (a : g.off ≠ 0x000008) :
    (s.raise f).fget g = s.fget g := by
  rw [State.fget_regs (State.raise_regs f s), State.fget_fset_reg _ _ h]
  split
  · rename_i e
    rw [State.fget_fset_reg _ _ (by rw [(evAttn_off e).1]; exact a)]
  · rfl

/-- The other fields of the event's own register keep their values too. -/
theorem State.fget_raise_bits {f g : Fld} (s : State) (e : g.off = f.off) (a : g.off ≠ 0x000008)
    (h : g.lo + g.n ≤ f.lo ∨ f.lo + f.n ≤ g.lo) : (s.raise f).fget g = s.fget g := by
  rw [State.fget_regs (State.raise_regs f s), State.fget_fset_bits _ _ e h]
  split
  · rename_i k
    rw [State.fget_fset_reg _ _ (by rw [(evAttn_off k).1]; exact a)]
  · rfl

/-! ### Alarms -/

theorem State.post_regs (o : Option Nat) (c : Nat) (d : List Byte) (s : State) :
    (s.post o c d).regs = (s.fset R.glbAttnAlarm 1).regs := by
  unfold State.post
  simp only [State.msix_regs, State.modTnd_regs, State.bump_regs, State.fire_regs]

/-- An alarm leaves every field alone but GLB_ATTN. -/
theorem State.fget_alarmOf {f g : Fld} (l : Nat) (s : State) (a : g.off ≠ 0x000008) :
    (s.alarmOf f l).fget g = s.fget g := by
  unfold State.alarmOf
  rw [State.fget_regs (State.post_regs _ _ _ s), State.fget_fset_reg _ _ a]

/-- A raised alarm event reads set. -/
theorem State.flag_raiseAlarm (f : Fld) (s : State) (h : f.lo + f.n ≤ 32) (n : f.n = 1)
    (a : f.off ≠ 0x000008) : (s.raiseAlarm f).fget f = 1 := by
  unfold State.raiseAlarm
  rw [State.fget_alarmOf _ _ a, State.flag_raise _ _ h n]

theorem State.flag_raiseOnce (f : Fld) (s : State) (h : f.lo + f.n ≤ 32) (n : f.n = 1)
    (a : f.off ≠ 0x000008) : (s.raiseOnce f).fget f = 1 := by
  unfold State.raiseOnce
  split
  · exact State.flag_raise _ _ h n
  · exact State.flag_raiseAlarm _ _ h n a

/-- An alarm joins the list of alarms posted. -/
theorem State.posted_alarmOf (f : Fld) (l : Nat) (s : State) :
    (s.alarmOf f l).tnd.posted.length = s.tnd.posted.length + 1 := by
  unfold State.alarmOf State.post
  simp

end Sys2Proof.Machine
end

