-- ==== Sys2Proof/Laws/PerInstr.lean ====
section
/-! SUPPORT. A family of statements about every command as syntax, one lemma per constructor: the list of parts a command
touches never names the queue nor what reads saw at the last tick, and names the settings only together with the
registers. -/

namespace Sys2Proof.Laws.Touches

set_option Elab.async false

open Sys2Proof.Machine

/-- Neither the queue nor the state of the last tick is a part a command touches, and the settings are a part of the
registers. -/
def Statement (i : Instr) : Prop :=
  Part.pending ∉ touches i ∧ Part.before ∉ touches i ∧ (Part.settings ∈ touches i → Part.regs ∈ touches i)

theorem encoderTransition (enc : Fin 2) (a b : Bool) (held : Nat) :
    Statement (.encoderTransition enc a b held) := by simp [Statement, touches]
theorem zEdge (enc : Fin 2) (held : Nat) : Statement (.zEdge enc held) := by simp [Statement, touches]
theorem standstill : Statement .standstill := by simp [Statement, touches]
theorem coast : Statement .coast := by simp [Statement, touches]
theorem timebaseLost : Statement .timebaseLost := by simp [Statement, touches]
theorem slewEnd : Statement .slewEnd := by simp [Statement, touches]
theorem resyncHoldEnd : Statement .resyncHoldEnd := by simp [Statement, touches]
theorem lineTrigger : Statement .lineTrigger := by simp [Statement, touches]
theorem timeModeTrigger : Statement .timeModeTrigger := by simp [Statement, touches]
theorem externalTrigger : Statement .externalTrigger := by simp [Statement, touches]
theorem heldTrigger : Statement .heldTrigger := by simp [Statement, touches]
theorem preTrigger : Statement .preTrigger := by simp [Statement, touches]
theorem exposureStart : Statement .exposureStart := by simp [Statement, touches]
theorem exposureEnd : Statement .exposureEnd := by simp [Statement, touches]
theorem blockSampleLatch (slice : Fin 38) (codes : List (List (BitVec 12))) :
    Statement (.blockSampleLatch slice codes) := by simp [Statement, touches]
theorem blockSampleDelivery (slice : Fin 38) (block : Fin 32) (fault : DeliveryFault) :
    Statement (.blockSampleDelivery slice block fault) := by simp [Statement, touches]
theorem missedWindow (slice : Fin 38) : Statement (.missedWindow slice) := by simp [Statement, touches]
theorem sliceReferenceFault (slice : Fin 38) : Statement (.sliceReferenceFault slice) := by simp [Statement, touches]
theorem sliceRearm (via : Via) (slice : Fin 38) : Statement (.sliceRearm via slice) := by simp [Statement, touches]
theorem forceFail (via : Via) (slice : Fin 38) : Statement (.forceFail via slice) := by simp [Statement, touches]
theorem adcDroop : Statement .adcDroop := by simp [Statement, touches]
theorem areaRowReadout (codes : List (List (BitVec 12))) (ce : Nat) (ue : List (Nat × Fin 38 × Fin 44)) :
    Statement (.areaRowReadout codes ce ue) := by simp [Statement, touches]
theorem areaSlotEnd : Statement .areaSlotEnd := by simp [Statement, touches]
theorem lineClosure (prod : Fin 3) (seq : Nat) (ce : Nat) (ue : List (Fin 38 × Fin 44)) :
    Statement (.lineClosure prod seq ce ue) := by simp [Statement, touches]
theorem darkStatsTimeout : Statement .darkStatsTimeout := by simp [Statement, touches]
theorem commit (via : Via) (kind : BitVec 2) : Statement (.commit via kind) := by simp [Statement, touches]
theorem cancel (via : Via) : Statement (.cancel via) := by simp [Statement, touches]
theorem commitCheckDone : Statement .commitCheckDone := by simp [Statement, touches]
theorem furnishRelease : Statement .furnishRelease := by simp [Statement, touches]
theorem calenderLineArrival : Statement .calenderLineArrival := by simp [Statement, touches]
theorem partnerAbsent (prod : Fin 4) (seq : Nat) (row : Nat) :
    Statement (.partnerAbsent prod seq row) := by simp [Statement, touches]
theorem guideCopyExpiry : Statement .guideCopyExpiry := by simp [Statement, touches]
theorem laneTake : Statement .laneTake := by simp [Statement, touches]
theorem calenderLineExit (lane : Fin 2) (faults : List CalFault) :
    Statement (.calenderLineExit lane faults) := by simp [Statement, touches]
theorem calenderDeadline (prod : Fin 4) (field : Fin 4) :
    Statement (.calenderDeadline prod field) := by simp [Statement, touches]
theorem outputLine (faults : List OutFault) : Statement (.outputLine faults) := by simp [Statement, touches]
theorem statsPeriodClose : Statement .statsPeriodClose := by simp [Statement, touches]
theorem shiveToken : Statement .shiveToken := by simp [Statement, touches]
theorem relayout (via : Via) : Statement (.relayout via) := by simp [Statement, touches]
theorem cutActivate (same : Bool) : Statement (.cutActivate same) := by simp [Statement, touches]
theorem cutLine (stale : List Nat) (ue : List Nat) (ce : Nat) :
    Statement (.cutLine stale ue ce) := by simp [Statement, touches]
theorem cutRecordWritten (cutId : BitVec 16) : Statement (.cutRecordWritten cutId) := by simp [Statement, touches]
theorem windowRead (addr : Nat) (ce : Nat) (ue : Bool) :
    Statement (.windowRead addr ce ue) := by simp [Statement, touches]
theorem windowWrite (addr : Nat) (data : BitVec 512) (poison : Bool) :
    Statement (.windowWrite addr data poison) := by simp [Statement, touches]
theorem linkUp (cxl : Bool) (working : BitVec 8) (rate : Fin 5) (reversed : Bool) (inverted : BitVec 8) :
    Statement (.linkUp cxl working rate reversed inverted) := by simp [Statement, touches]
theorem linkRetrain (lanes : Fin 4) (rate : Fin 5) :
    Statement (.linkRetrain lanes rate) := by simp [Statement, touches]
theorem dlDown : Statement .dlDown := by simp [Statement, touches]
theorem linkReset : Statement .linkReset := by simp [Statement, touches]
theorem flr : Statement .flr := by simp [Statement, touches]
theorem d3hotEntry : Statement .d3hotEntry := by simp [Statement, touches]
theorem d0Return : Statement .d0Return := by simp [Statement, touches]
theorem l1Entry : Statement .l1Entry := by simp [Statement, touches]
theorem viralIn : Statement .viralIn := by simp [Statement, touches]
theorem viralOut : Statement .viralOut := by simp [Statement, touches]
theorem hdmCommit (ways : Nat) (base size : Nat) (lock same : Bool) :
    Statement (.hdmCommit ways base size lock same) := by simp [Statement, touches]
theorem cacheSnoop (addr : Nat) : Statement (.cacheSnoop addr) := by simp [Statement, touches]
theorem linkHold (via : Via) (hold : Bool) : Statement (.linkHold via hold) := by simp [Statement, touches]
theorem linkPrbsTest (via : Via) (mode : BitVec 2) (rate : BitVec 3) (lock : BitVec 8) (errs : List Nat) :
    Statement (.linkPrbsTest via mode rate lock errs) := by simp [Statement, touches]
theorem segmentIssue (stagingUe : Bool) : Statement (.segmentIssue stagingUe) := by simp [Statement, touches]
theorem bufferTimeout (ch : Fin 16) : Statement (.bufferTimeout ch) := by simp [Statement, touches]
theorem descriptorFetch (ch : Fin 16) (res : FetchResult) (desc : BitVec 256) :
    Statement (.descriptorFetch ch res desc) := by simp [Statement, touches]
theorem translationCompletion (ch : Fin 16) (nth : Nat) (valid write big : Bool) (pa : Nat) :
    Statement (.translationCompletion ch nth valid write big pa) := by simp [Statement, touches]
theorem pageResponse (ch : Fin 16) (nth : Nat) (code : PageCode) :
    Statement (.pageResponse ch nth code) := by simp [Statement, touches]
theorem priTimeout (ch : Fin 16) : Statement (.priTimeout ch) := by simp [Statement, touches]
theorem invalidation (pasid : Option (BitVec 20)) (va : Nat) (size : Nat) :
    Statement (.invalidation pasid va size) := by simp [Statement, touches]
theorem replayRead (ch : Fin 16) (ce : Nat) (ue : List Nat) (tags : List (Nat × BitVec 6)) (same : Bool) :
    Statement (.replayRead ch ce ue tags same) := by simp [Statement, touches]
theorem dtail (ch : Fin 16) (idx : BitVec 13) (same : Bool) :
    Statement (.dtail ch idx same) := by simp [Statement, touches]
theorem chead (ch : Fin 16) (idx : BitVec 13) (same : Bool) :
    Statement (.chead ch idx same) := by simp [Statement, touches]
theorem channelEnable (via : Via) (ch : Fin 16) (ctrl : Word) :
    Statement (.channelEnable via ch ctrl) := by simp [Statement, touches]
theorem channelDisable (via : Via) (ch : Fin 16) : Statement (.channelDisable via ch) := by simp [Statement, touches]
theorem channelStop (via : Via) (ch : Fin 16) : Statement (.channelStop via ch) := by simp [Statement, touches]
theorem sqTail (q : Fin 8) (idx : BitVec 13) (same : Bool) :
    Statement (.sqTail q idx same) := by simp [Statement, touches]
theorem cqHead (q : Fin 8) (idx : BitVec 13) (same : Bool) :
    Statement (.cqHead q idx same) := by simp [Statement, touches]
theorem packetFetch (q : Fin 8) (res : FetchResult) (pkt : BitVec 512) :
    Statement (.packetFetch q res pkt) := by simp [Statement, touches]
theorem commandDispatch (same : Bool) : Statement (.commandDispatch same) := by simp [Statement, touches]
theorem queueEnable (via : Via) (q : Fin 8) (ctrl : Word) :
    Statement (.queueEnable via q ctrl) := by simp [Statement, touches]
theorem queueDisable (via : Via) (q : Fin 8) : Statement (.queueDisable via q) := by simp [Statement, touches]
theorem mailboxGo (via : Via) : Statement (.mailboxGo via) := by simp [Statement, touches]
theorem nop (p : PktRef) : Statement (.nop p) := by simp [Statement, touches]
theorem identify (p : PktRef) : Statement (.identify p) := by simp [Statement, touches]
theorem getState (p : PktRef) : Statement (.getState p) := by simp [Statement, touches]
theorem abort (p : PktRef) (ends : Bool) : Statement (.abort p ends) := by simp [Statement, touches]
theorem warmReset (p : PktRef) : Statement (.warmReset p) := by simp [Statement, touches]
theorem regRead (p : PktRef) (bad : List Nat) (pins : BitVec 24) (same : Bool) :
    Statement (.regRead p bad pins same) := by simp [Statement, touches]
theorem regWrite (p : PktRef) (same : Bool) : Statement (.regWrite p same) := by simp [Statement, touches]
theorem stageWrite (p : PktRef) (same : Bool) : Statement (.stageWrite p same) := by simp [Statement, touches]
theorem furnishCommit (p : PktRef) (same : Bool) : Statement (.furnishCommit p same) := by simp [Statement, touches]
theorem furnishCommitCancel (p : PktRef) : Statement (.furnishCommitCancel p) := by simp [Statement, touches]
theorem furnishRead (p : PktRef) : Statement (.furnishRead p) := by simp [Statement, touches]
theorem stageLoad (p : PktRef) (same : Bool) : Statement (.stageLoad p same) := by simp [Statement, touches]
theorem furnishHist (p : PktRef) : Statement (.furnishHist p) := by simp [Statement, touches]
theorem darkCapture (p : PktRef) : Statement (.darkCapture p) := by simp [Statement, touches]
theorem darkCaptureDone (p : PktRef) (sums : List (Nat × Nat × Nat)) (rest : Nat) :
    Statement (.darkCaptureDone p sums rest) := by simp [Statement, touches]
theorem darkCaptureTimeout (p : PktRef) : Statement (.darkCaptureTimeout p) := by simp [Statement, touches]
theorem darkWrite (p : PktRef) : Statement (.darkWrite p) := by simp [Statement, touches]
theorem darkRead (p : PktRef) : Statement (.darkRead p) := by simp [Statement, touches]
theorem tableWrite (p : PktRef) : Statement (.tableWrite p) := by simp [Statement, touches]
theorem tableRead (p : PktRef) : Statement (.tableRead p) := by simp [Statement, touches]
theorem calStore (p : PktRef) : Statement (.calStore p) := by simp [Statement, touches]
theorem calLoad (p : PktRef) : Statement (.calLoad p) := by simp [Statement, touches]
theorem wlStatus (p : PktRef) : Statement (.wlStatus p) := by simp [Statement, touches]
theorem wlPort (p : PktRef) : Statement (.wlPort p) := by simp [Statement, touches]
theorem wlRole (p : PktRef) : Statement (.wlRole p) := by simp [Statement, touches]
theorem wlEnumerate (p : PktRef) : Statement (.wlEnumerate p) := by simp [Statement, touches]
theorem enumerationDone : Statement .enumerationDone := by simp [Statement, touches]
theorem wlMember (p : PktRef) : Statement (.wlMember p) := by simp [Statement, touches]
theorem wlMessage (p : PktRef) : Statement (.wlMessage p) := by simp [Statement, touches]
theorem peLoad (p : PktRef) (same : Bool) : Statement (.peLoad p same) := by simp [Statement, touches]
theorem peStart (p : PktRef) (same : Bool) : Statement (.peStart p same) := by simp [Statement, touches]
theorem peStop (p : PktRef) (same : Bool) : Statement (.peStop p same) := by simp [Statement, touches]
theorem peStatus (p : PktRef) (pins : BitVec 24) : Statement (.peStatus p pins) := by simp [Statement, touches]
theorem cut (p : PktRef) (same : Bool) : Statement (.cut p same) := by simp [Statement, touches]
theorem cutCancel (p : PktRef) : Statement (.cutCancel p) := by simp [Statement, touches]
theorem reelFreeze (p : PktRef) : Statement (.reelFreeze p) := by simp [Statement, touches]
theorem reelLayout (p : PktRef) : Statement (.reelLayout p) := by simp [Statement, touches]
theorem logRead (p : PktRef) : Statement (.logRead p) := by simp [Statement, touches]
theorem logNote (p : PktRef) : Statement (.logNote p) := by simp [Statement, touches]
theorem fwWrite (p : PktRef) : Statement (.fwWrite p) := by simp [Statement, touches]
theorem fwActivate (p : PktRef) : Statement (.fwActivate p) := by simp [Statement, touches]
theorem fwStatus (p : PktRef) : Statement (.fwStatus p) := by simp [Statement, touches]
theorem thmStatus (p : PktRef) : Statement (.thmStatus p) := by simp [Statement, touches]
theorem thmLimits (p : PktRef) : Statement (.thmLimits p) := by simp [Statement, touches]
theorem powerStatus (p : PktRef) : Statement (.powerStatus p) := by simp [Statement, touches]
theorem obsCounters (p : PktRef) : Statement (.obsCounters p) := by simp [Statement, touches]
theorem obsTrace (p : PktRef) : Statement (.obsTrace p) := by simp [Statement, touches]
theorem registerWrite (via : Via) (off : BitVec 24) (data : BusData) :
    Statement (.registerWrite via off data) := by simp [Statement, touches]
theorem wideLowRead (via : Via) (off : BitVec 24) (size : BusSize) (bad : Bool) (pins : BitVec 24) :
    Statement (.wideLowRead via off size bad pins) := by simp [Statement, touches]
theorem wideHighRead (via : Via) (off : BitVec 24) (size : BusSize) (bad : Bool) (pins : BitVec 24) :
    Statement (.wideHighRead via off size bad pins) := by simp [Statement, touches]
theorem assetWrite (via : Via) (value : Word) : Statement (.assetWrite via value) := by simp [Statement, touches]
theorem portUp (p : Fin 4) (partner : BitVec 16) (partnerPort : BitVec 2) (pol : BitVec 2) (swapped wantsSec : Bool) :
    Statement (.portUp p partner partnerPort pol swapped wantsSec) := by simp [Statement, touches]
theorem portAbsent (p : Fin 4) : Statement (.portAbsent p) := by simp [Statement, touches]
theorem symbolLockLoss (p : Fin 4) (lane : Fin 2) : Statement (.symbolLockLoss p lane) := by simp [Statement, touches]
theorem portDown (p : Fin 4) : Statement (.portDown p) := by simp [Statement, touches]
theorem frameTransmit (p : Fin 4) : Statement (.frameTransmit p) := by simp [Statement, touches]
theorem positionPacket (p : Fin 4) (bytes : BitVec 192) (codeError : Bool) :
    Statement (.positionPacket p bytes codeError) := by simp [Statement, touches]
theorem holdoverExpiry : Statement .holdoverExpiry := by simp [Statement, touches]
theorem secondaryLambdaCheck : Statement .secondaryLambdaCheck := by simp [Statement, touches]
theorem reamMark (p : Fin 4) (chunk : BitVec 432) : Statement (.reamMark p chunk) := by simp [Statement, touches]
theorem echoSend (p : Fin 4) : Statement (.echoSend p) := by simp [Statement, touches]
theorem echoRequest (p : Fin 4) (chunk : BitVec 432) (hold : Nat) :
    Statement (.echoRequest p chunk hold) := by simp [Statement, touches]
theorem echoReply (p : Fin 4) (chunk : BitVec 432) (at16 : Nat) :
    Statement (.echoReply p chunk at16) := by simp [Statement, touches]
theorem enumerationRequest (p : Fin 4) (chunk : BitVec 432) :
    Statement (.enumerationRequest p chunk) := by simp [Statement, touches]
theorem enumerationReply (p : Fin 4) (chunk : BitVec 432) :
    Statement (.enumerationReply p chunk) := by simp [Statement, touches]
theorem messageSegment (p : Fin 4) (chunk : BitVec 432) :
    Statement (.messageSegment p chunk) := by simp [Statement, touches]
theorem seamSegment (p : Fin 4) (chunk : BitVec 432) :
    Statement (.seamSegment p chunk) := by simp [Statement, touches]
theorem seamLost (right : Bool) : Statement (.seamLost right) := by simp [Statement, touches]
theorem retrain (via : Via) (p : Fin 4) : Statement (.retrain via p) := by simp [Statement, touches]
theorem wlPrbsTest (via : Via) (p : Fin 4) (mode : BitVec 2) (lock : BitVec 2) (errs : List Nat) :
    Statement (.wlPrbsTest via p mode lock errs) := by simp [Statement, touches]
theorem rxPop (via : Via) : Statement (.rxPop via) := by simp [Statement, touches]
theorem peNop (e : Fin 8) : Statement (.peNop e) := by simp [Statement, touches]
theorem out (e : Fin 8) : Statement (.out e) := by simp [Statement, touches]
theorem inn (e : Fin 8) (pins : BitVec 24) : Statement (.inn e pins) := by simp [Statement, touches]
theorem pull (e : Fin 8) : Statement (.pull e) := by simp [Statement, touches]
theorem push (e : Fin 8) : Statement (.push e) := by simp [Statement, touches]
theorem set (e : Fin 8) : Statement (.set e) := by simp [Statement, touches]
theorem mov (e : Fin 8) : Statement (.mov e) := by simp [Statement, touches]
theorem wait (e : Fin 8) : Statement (.wait e) := by simp [Statement, touches]
theorem waitMet (e : Fin 8) (pins : BitVec 24) : Statement (.waitMet e pins) := by simp [Statement, touches]
theorem atStamp (e : Fin 8) : Statement (.atStamp e) := by simp [Statement, touches]
theorem stampMet (e : Fin 8) : Statement (.stampMet e) := by simp [Statement, touches]
theorem jmp (e : Fin 8) (pins : BitVec 24) : Statement (.jmp e pins) := by simp [Statement, touches]
theorem flag (e : Fin 8) : Statement (.flag e) := by simp [Statement, touches]
theorem dly (e : Fin 8) : Statement (.dly e) := by simp [Statement, touches]
theorem dlyDone (e : Fin 8) : Statement (.dlyDone e) := by simp [Statement, touches]
theorem peBadOpcode (e : Fin 8) : Statement (.peBadOpcode e) := by simp [Statement, touches]
theorem exposureRecord : Statement .exposureRecord := by simp [Statement, touches]
theorem penOpStart (via : Via) (mask : BitVec 8) : Statement (.penOpStart via mask) := by simp [Statement, touches]
theorem penOpResume (via : Via) (mask : BitVec 8) : Statement (.penOpResume via mask) := by simp [Statement, touches]
theorem penOpClockRestart (via : Via) (mask : BitVec 8) :
    Statement (.penOpClockRestart via mask) := by simp [Statement, touches]
theorem penOpStop (via : Via) (mask : BitVec 8) : Statement (.penOpStop via mask) := by simp [Statement, touches]
theorem penActionTick : Statement .penActionTick := by simp [Statement, touches]
theorem penTxWrite (via : Via) (e : Fin 8) (value : Word) :
    Statement (.penTxWrite via e value) := by simp [Statement, touches]
theorem penRxPop (via : Via) (e : Fin 8) : Statement (.penRxPop via e) := by simp [Statement, touches]
theorem penFlagSet (via : Via) (mask : BitVec 8) : Statement (.penFlagSet via mask) := by simp [Statement, touches]
theorem penFlagClr (via : Via) (mask : BitVec 8) : Statement (.penFlagClr via mask) := by simp [Statement, touches]
theorem penStoreWrite (via : Via) (e : Fin 8) (addr : Fin 32) (value : Word) :
    Statement (.penStoreWrite via e addr value) := by simp [Statement, touches]
theorem referenceLoss (refclk : Bool) : Statement (.referenceLoss refclk) := by simp [Statement, touches]
theorem mdllLockLoss (m : Mdll) : Statement (.mdllLockLoss m) := by simp [Statement, touches]
theorem stableCountDone (m : Mdll) : Statement (.stableCountDone m) := by simp [Statement, touches]
theorem mdllRelock (m : Mdll) (offset16 : Int) : Statement (.mdllRelock m offset16) := by simp [Statement, touches]
theorem tickSlewDone : Statement .tickSlewDone := by simp [Statement, touches]
theorem clockSettingWrite (via : Via) (target : Bool) (value : Word) :
    Statement (.clockSettingWrite via target value) := by simp [Statement, touches]
theorem refclkMeasurement (edges : Bool) (ppm16 : Int) :
    Statement (.refclkMeasurement edges ppm16) := by simp [Statement, touches]
theorem crystalFailure : Statement .crystalFailure := by simp [Statement, touches]
theorem tenderSliceRearm (m : Fin 19) : Statement (.tenderSliceRearm m) := by simp [Statement, touches]
theorem tenderSleep : Statement .tenderSleep := by simp [Statement, touches]
theorem watchdogExpiry : Statement .watchdogExpiry := by simp [Statement, touches]
theorem tenderSramError (hit : Option (Nat × BitVec 256)) :
    Statement (.tenderSramError hit) := by simp [Statement, touches]
theorem tenderRestartDone : Statement .tenderRestartDone := by simp [Statement, touches]
theorem alarmRecord : Statement .alarmRecord := by simp [Statement, touches]
theorem logWrite : Statement .logWrite := by simp [Statement, touches]
theorem logSectorErase : Statement .logSectorErase := by simp [Statement, touches]
theorem nvInhibit (aon same : Bool) : Statement (.nvInhibit aon same) := by simp [Statement, touches]
theorem nvRecovery : Statement .nvRecovery := by simp [Statement, touches]
theorem advance (via : Via) : Statement (.advance via) := by simp [Statement, touches]
theorem hostLossFreeze : Statement .hostLossFreeze := by simp [Statement, touches]
theorem tableReload : Statement .tableReload := by simp [Statement, touches]
theorem twAddress (addr : BitVec 7) (read : Bool) (offset : List Byte) :
    Statement (.twAddress addr read offset) := by simp [Statement, touches]
theorem twWriteAccess (data : Word) (same : Bool) :
    Statement (.twWriteAccess data same) := by simp [Statement, touches]
theorem twReadAccess (slots : Fin 5) (acknowledged bad : Bool) (pins : BitVec 24) (same : Bool) :
    Statement (.twReadAccess slots acknowledged bad pins same) := by simp [Statement, touches]
theorem twStop (leftover : Fin 4) : Statement (.twStop leftover) := by simp [Statement, touches]
theorem twFrameError (ackSlot : Bool) (bytes : Fin 5) :
    Statement (.twFrameError ackSlot bytes) := by simp [Statement, touches]
theorem busStuck : Statement .busStuck := by simp [Statement, touches]
theorem inBandRequest (collision : Bool) : Statement (.inBandRequest collision) := by simp [Statement, touches]
theorem ibrAnswerTimeout : Statement .ibrAnswerTimeout := by simp [Statement, touches]
theorem thermalUpdate (sensors : List Int) (nodePower : List Nat) (rails : List Nat) (parts : List Nat) :
    Statement (.thermalUpdate sensors nodePower rails parts) := by simp [Statement, touches]
theorem criticalClosure : Statement .criticalClosure := by simp [Statement, touches]
theorem criticalDrainEnd : Statement .criticalDrainEnd := by simp [Statement, touches]
theorem thermalTrip (sensors : List Int) : Statement (.thermalTrip sensors) := by simp [Statement, touches]
theorem coreDroop : Statement .coreDroop := by simp [Statement, touches]
theorem railUndervoltage (rail : Fin 14) : Statement (.railUndervoltage rail) := by simp [Statement, touches]
theorem sliceCurrentFault (slice : Fin 38) (readings : List Nat) :
    Statement (.sliceCurrentFault slice readings) := by simp [Statement, touches]
theorem sensRearm (via : Via) : Statement (.sensRearm via) := by simp [Statement, touches]
theorem coldPowerOn (twAddr : BitVec 3) (testStrap : Bool) :
    Statement (.coldPowerOn twAddr testStrap) := by simp [Statement, touches]
theorem resetNAssert : Statement .resetNAssert := by simp [Statement, touches]
theorem warmResetBegin : Statement .warmResetBegin := by simp [Statement, touches]
theorem perstNAssert : Statement .perstNAssert := by simp [Statement, touches]
theorem perstNDeassert : Statement .perstNDeassert := by simp [Statement, touches]
theorem resetRelease (u : StartUp) : Statement (.resetRelease u) := by simp [Statement, touches]
theorem ready (badSlices : BitVec 38) : Statement (.ready badSlices) := by simp [Statement, touches]
theorem symbolLockGain (p : Fin 4) (lane : Fin 2) : Statement (.symbolLockGain p lane) := by simp [Statement, touches]
theorem referenceReturn (refclk : Bool) : Statement (.referenceReturn refclk) := by simp [Statement, touches]
theorem configSpaceWrite (write : ConfigWrite) : Statement (.configSpaceWrite write) := by simp [Statement, touches]
theorem msixVectorUnmask (v : Fin 64) : Statement (.msixVectorUnmask v) := by simp [Statement, touches]
theorem dataInBlockRead (p : PktRef) (res : FetchResult) (data : List Byte) :
    Statement (.dataInBlockRead p res data) := by simp [Statement, touches]
theorem nvWriteStepDone (reads : Bool) : Statement (.nvWriteStepDone reads) := by simp [Statement, touches]
theorem wlMessageTimeout (p : PktRef) : Statement (.wlMessageTimeout p) := by simp [Statement, touches]
theorem absentPortRetry (p : Fin 4) : Statement (.absentPortRetry p) := by simp [Statement, touches]
theorem electricalIdleExit (p : Fin 4) : Statement (.electricalIdleExit p) := by simp [Statement, touches]
theorem railUndervoltageEnd (rail : Fin 14) : Statement (.railUndervoltageEnd rail) := by simp [Statement, touches]
theorem cxlCacheGrant (same : Bool) : Statement (.cxlCacheGrant same) := by simp [Statement, touches]

end Sys2Proof.Laws.Touches
end

