-- ==== Sys2Proof/Laws/Reset.lean ====
section
/-! SUPPORT. The frames of the operations of Machine/Reset.lean: each changes the parts named and no others, and
keeps the stores canonical. -/

namespace Sys2Proof.Machine

theorem above_warmRegs {k : Nat} : ∀ {m : RegMap}, above k m = true → msorted m = true → above k (warmRegs m) = true
  | [], _, _ => rfl
  | (j, w) :: m, h, o => by
    rw [msorted_cons, Bool.and_eq_true] at o
    have g : k < j := of_decide_eq_true h
    have r := above_warmRegs (above_mono o.1 (Nat.le_of_lt g)) o.2
    unfold warmRegs at r ⊢
    rw [List.filterMap_cons]
    dsimp only
    split
    · exact r
    · rename_i b e
      split at e
      · cases e
      · cases e
        exact h

theorem canonical_warmRegs : ∀ {m : RegMap}, canonicalStore resetWord m = true → canonicalStore resetWord (warmRegs m) = true
  | [], _ => rfl
  | (j, w) :: m, h => by
    unfold canonicalStore at h
    rw [Bool.and_eq_true, msorted_cons, Bool.and_eq_true, List.all_cons, Bool.and_eq_true] at h
    have r : canonicalStore resetWord (warmRegs m) = true := canonical_warmRegs (by
      unfold canonicalStore
      rw [h.1.2, h.2.2]
      rfl)
    have a := above_warmRegs h.1.1 h.1.2
    unfold canonicalStore at r ⊢
    unfold warmRegs at r a ⊢
    rw [List.filterMap_cons]
    dsimp only
    split
    · exact r
    · rename_i b e
      split at e
      · cases e
      · rename_i n
        cases e
        rw [Bool.and_eq_true] at r ⊢
        rw [msorted_cons, a, r.1, List.all_cons, r.2]
        exact ⟨rfl, by simpa using n⟩

theorem State.warmState_frame (s : State) : Frame [.regs, .settings, .tb, .hb, .felt, .fu, .cal, .fmt, .sts, .scr, .reel, .link, .dma, .cmd, .wl, .pen, .clk, .tnd, .tw, .thm, .rst, .shadow] s s.warmState :=
  ⟨fun p hp => by cases p <;> first | (cases hp; done) | rfl | exact fun _ _ => rfl, fun c => by
    have h := s.canonical_iff.mp c
    exact (State.canonical_iff _).mpr ⟨canonical_warmRegs h.1, h.2⟩⟩

theorem State.assertWarm_frame : ∀ a0 s, Frame [.regs, .settings, .tb, .hb, .felt, .fu, .cal, .fmt, .sts, .scr, .reel,
  .link, .dma, .cmd, .wl, .pen, .clk, .tnd, .tw, .thm, .rst, .obs, .shadow, .out, .free] s (State.assertWarm a0 s) :=
  by
  intro a0 s
  unfold State.assertWarm
  exact .ite (.refl _ _) (.ite (.ite (.ite (.refl _ _) (.by (State.linkReset_frame _ _) rfl (.each (.iff (.by
    (State.phyDark_frame _) rfl (.by (State.quitAll_frame _) rfl (.by (State.nvAbandon_frame _ _) rfl (.refl _ _))))
    (fun _ => (.by (State.traceLink_frame _ _) rfl (.by (State.modLink_frame _ _) rfl (.refl _ _))))) (fun _ _ => (.by
    (State.setPort_frame _ _ _) rfl (.refl _ _)))))) (.by (State.modRst_frame _ _) rfl (.ite (.refl _ _) (.by
    (State.linkReset_frame _ _) rfl (.each (.iff (.by (State.phyDark_frame _) rfl (.by (State.quitAll_frame _) rfl
    (.by (State.nvAbandon_frame _ _) rfl (.refl _ _)))) (fun _ => (.by (State.traceLink_frame _ _) rfl (.by
    (State.modLink_frame _ _) rfl (.refl _ _))))) (fun _ _ => (.by (State.setPort_frame _ _ _) rfl (.refl _ _))))))))
    (.by (State.modRst_frame _ _) rfl (.by (State.warmState_frame _) rfl (.ite (.refl _ _) (.by (State.linkReset_frame
    _ _) rfl (.each (.iff (.by (State.phyDark_frame _) rfl (.by (State.quitAll_frame _) rfl (.by
    (State.nvAbandon_frame _ _) rfl (.refl _ _)))) (fun _ => (.by (State.traceLink_frame _ _) rfl (.by
    (State.modLink_frame _ _) rfl (.refl _ _))))) (fun _ _ => (.by (State.setPort_frame _ _ _) rfl (.refl _ _)))))))))

theorem State.coldStart_frame : ∀ twAddr strap s, Frame [.regs, .settings, .tb, .hb, .felt, .fu, .cal, .fmt, .sts, .scr, .reel, .window, .poison, .link, .dma, .cmd, .wl, .pen, .clk, .tnd, .tw, .thm, .rst, .obs, .shadow] s (State.coldStart twAddr strap s) := by
  intro a b s
  unfold State.coldStart
  dsimp only
  split
  · exact .by (State.fset_frame _ _ _ (by rfl)) rfl (.by (State.setReg_frame _ _ _ (by rfl)) rfl ⟨fun p hp => by cases p <;> first | (cases hp; done) | rfl | exact fun _ _ => rfl, fun _ => rfl⟩)
  · exact ⟨fun p hp => by cases p <;> first | (cases hp; done) | rfl | exact fun _ _ => rfl, fun _ => rfl⟩

theorem State.perstLow_frame : ∀ s, Frame [.regs, .reel, .link, .dma, .cmd, .tnd, .rst, .obs, .out] s (State.perstLow
  s) := by
  intro s
  unfold State.perstLow
  exact .iff (.by (State.modLink_frame _ _) rfl (.ite (.by (State.linkDown_frame _) rfl (.refl _ _)) (.by
    (State.linkReset_frame _ _) rfl (.refl _ _)))) (fun _ => (.by (State.modRst_frame _ _) rfl (.refl _ _)))

theorem State.bootBank_frame : ∀ a0 a1 s, Frame [.regs, .link, .tnd, .obs, .out] s (State.bootBank a0 a1 s) := by
  intro a0 a1 s
  unfold State.bootBank
  exact .by (State.logOwn_frame _ _ _) rfl (.by (State.loadResident_frame _) rfl (.by (State.modTnd_frame _ _) rfl
    (.refl _ _)))

theorem State.fallBack_frame : ∀ a0 s, Frame [.regs, .reel, .link, .dma, .cmd, .tnd, .obs, .out, .free] s
  (State.fallBack a0 s) := by
  intro a0 s
  unfold State.fallBack
  exact .by (State.logOwn_frame _ _ _) rfl (.by (State.raiseOnce_frame _ _ (by rfl)) rfl (.by (State.bootBank_frame _
    _ _) rfl (.by (State.modTnd_frame _ _) rfl (.by (State.bootRewrite_frame _ _ _ _) rfl (.refl _ _)))))

theorem State.bootPreferred_frame : ∀ s, Frame [.regs, .reel, .link, .dma, .cmd, .tnd, .obs, .out, .free] s
  (State.bootPreferred s) := by
  intro s
  unfold State.bootPreferred
  exact .by (State.bootBank_frame _ _ _) rfl (.by (State.bootRewrite_frame _ _ _ _) rfl (.refl _ _))

theorem State.selectBank_frame : ∀ s, Frame [.regs, .reel, .link, .dma, .cmd, .tnd, .obs, .out, .free] s
  (State.selectBank s) := by
  intro s
  unfold State.selectBank
  exact .ite (.by (State.bootPreferred_frame _) rfl (.by (State.verify_frame _ _) rfl (.refl _ _))) (.ite (.by
    (State.fallBack_frame _ _) rfl (.by (State.verify_frame _ _) rfl (.by (State.verify_frame _ _) rfl (.refl _ _))))
    (.ite (.by (State.bootPreferred_frame _) rfl (.by (State.verify_frame _ _) rfl (.by (State.verify_frame _ _) rfl
    (.refl _ _)))) (.by (State.enterRecovery_frame _ _ _) rfl (.by (State.modTnd_frame _ _) rfl (.by
    (State.bootRewrite_frame _ _ _ _) rfl (.by (State.verify_frame _ _) rfl (.by (State.verify_frame _ _) rfl (.refl _
    _))))))))

theorem State.reportTrip_frame : ∀ s, Frame [.regs, .link, .tnd, .thm, .obs, .out] s (State.reportTrip s) := by
  intro s
  unfold State.reportTrip
  exact .iff (.refl _ _) (fun _ => (.by (State.modThm_frame _ _) rfl (.by (State.raiseAlarm_frame _ _ (by rfl)) rfl
    (.refl _ _))))

theorem State.startClocks_frame : ∀ s, Frame [.regs, .hb, .felt, .link, .wl, .clk, .tnd, .obs, .out] s
  (State.startClocks s) := by
  intro s
  unfold State.startClocks
  exact .each (.iff (.by (State.modClk_frame _ _) rfl (.by (State.modWl_frame _ _) rfl (.refl _ _))) (fun _ => (.by
    (State.loseRef_frame _) rfl (.refl _ _)))) (fun _ _ => (.ite (.refl _ _) (.ite (.by (State.setPort_frame _ _ _)
    rfl (.refl _ _)) (.by (State.train_frame _ _) rfl (.refl _ _)))))

theorem State.startReel_frame : ∀ a0 a1 s, Frame [.regs, .reel, .link, .tnd, .obs, .out] s (State.startReel a0 a1 s)
  := by
  intro a0 a1 s
  unfold State.startReel
  exact .iff (.by (State.modReel_frame _ _) rfl (.refl _ _)) (fun _ => (.by (State.postAlarm_frame _ _ _) rfl (.refl _
    _)))

theorem State.startDark_frame : ∀ a0 a1 s, Frame [.regs, .cal, .link, .tnd, .rst, .obs, .out] s (State.startDark a0 a1
  s) := by
  intro a0 a1 s
  unfold State.startDark
  try dsimp only
  split
  · exact .by (State.postAlarm_frame _ _ _) rfl (.by (State.modRst_frame _ _) rfl (.refl _ _))
  · exact .by (State.onTables_frame _ _ _) rfl (.refl _ _)

theorem State.startRest_frame : ∀ a0 s, Frame [.regs, .hb, .felt, .cal, .reel, .link, .wl, .clk, .tnd, .rst, .obs,
  .out] s (State.startRest a0 s) := by
  intro a0 s
  unfold State.startRest
  exact .by (State.startDark_frame _ _ _) rfl (.by (State.loadSlot_frame _ _) rfl (.iff (.by (State.startReel_frame _
    _ _) rfl (.by (State.modLink_frame _ _) rfl (.by (State.startClocks_frame _) rfl (.refl _ _)))) (fun _ => (.by
    (State.onSlot_frame _ _ _) rfl (.refl _ _)))))

theorem State.release_frame : ∀ a0 s, Frame [.regs, .hb, .felt, .cal, .reel, .link, .dma, .cmd, .wl, .clk, .tnd, .thm,
  .rst, .obs, .out, .free] s (State.release a0 s) := by
  intro a0 s
  unfold State.release
  exact .ite (.refl _ _) (.ite (.by (State.modTnd_frame _ _) rfl (.by (State.keepRecords_frame _) rfl (.by
    (State.modClk_frame _ _) rfl (.by (State.modRst_frame _ _) rfl (.by (State.trace_frame _ _ _ _) rfl (.refl _
    _)))))) (.iff (.by (State.modRst_frame _ _) rfl (.by (State.reportTrip_frame _) rfl (.by (State.selectBank_frame
    _) rfl (.by (State.modTnd_frame _ _) rfl (.by (State.keepRecords_frame _) rfl (.by (State.modClk_frame _ _) rfl
    (.by (State.modRst_frame _ _) rfl (.by (State.trace_frame _ _ _ _) rfl (.refl _ _))))))))) (fun _ => (.by
    (State.startRest_frame _ _) rfl (.refl _ _)))))

theorem State.confirmTrial_frame : ∀ s, Frame [.regs, .reel, .link, .dma, .cmd, .tnd, .obs, .out, .free] s
  (State.confirmTrial s) := by
  intro s
  unfold State.confirmTrial
  exact .iff (.refl _ _) (fun _ => (.by (State.nvBegin_frame _ _ _) rfl (.refl _ _)))

theorem State.slicesReady_frame : ∀ a0 s, Frame [.hb, .rst] s (State.slicesReady a0 s) := by
  intro a0 s
  unfold State.slicesReady
  exact .by (State.modRst_frame _ _) rfl (.by (State.modHb_frame _ _) rfl (.refl _ _))

theorem State.assertReady_frame : ∀ a0 s, Frame [.regs, .tb, .hb, .reel, .link, .dma, .cmd, .wl, .tnd, .rst, .obs,
  .out, .free] s (State.assertReady a0 s) := by
  intro a0 s
  unfold State.assertReady
  exact .ite (.refl _ _) (.by (State.roleNow_frame _) rfl (.by (State.logOwn_frame _ _ _) rfl (.by
    (State.confirmTrial_frame _) rfl (.by (State.slicesReady_frame _ _) rfl (.iff (.by (State.modTb_frame _ _) rfl
    (.by (State.modRst_frame _ _) rfl (.refl _ _))) (fun _ => (.by (State.catchUp_frame _ _) rfl (.refl _ _))))))))

end Sys2Proof.Machine
end

