-- ==== Sys2Proof/Laws/Tick.lean ====
section
/-! SUPPORT. The frames of the operations of Machine/Tick.lean: each changes the parts named and no others, and
keeps the stores canonical. -/

namespace Sys2Proof.Machine

theorem State.tickTime_frame : ∀ s, Frame [.tb] s (State.tickTime s) := by
  intro s
  unfold State.tickTime
  exact .by (State.judgeStill_frame _) rfl (.by (State.modTb_frame _ _) rfl (.by (State.modTb_frame _ _) rfl (.refl _
    _)))

theorem State.recordDrain_frame : ∀ s, Frame [.reel] s (State.recordDrain s) := by
  intro s
  unfold State.recordDrain
  exact .by (State.modReel_frame _ _) rfl (.refl _ _)

theorem State.passTicks_frame : ∀ a0 s, Frame [.tb, .reel, .clk] s (State.passTicks a0 s) := by
  intro a0 s
  unfold State.passTicks
  exact .by (State.modClk_frame _ _) rfl (.times (fun _ => (.by (State.recordDrain_frame _) rfl (.by
    (State.tickTime_frame _) rfl (.refl _ _)))) _ (.by (State.modClk_frame _ _) rfl (.refl _ _)))

theorem State.snap_frame : ∀ s, Frame [.obs, .before] s (State.snap s) := by
  intro s
  unfold State.snap
  exact ⟨fun p hp => by cases p <;> first | (cases hp; done) | rfl | exact fun _ _ => rfl, id⟩

theorem State.traceOut_frame (s : State) : Frame [.obs] s s.traceOut :=
  ⟨fun p hp => by cases p <;> first | (cases hp; done) | rfl | exact fun _ _ => rfl, id⟩

theorem State.tickOnce_frame : ∀ s, Frame [.tb, .reel, .pen, .clk, .tnd, .tw, .obs, .before] s (State.tickOnce s) :=
  by
  intro s
  unfold State.tickOnce
  exact .ite (.refl _ _) (.by (State.snap_frame _) rfl (.by (State.attnSettle_frame _) rfl (.by (State.passTicks_frame
    _ _) rfl (.each (.each (.by (State.traceOut_frame _) rfl (.by (State.noteMet_frame _) rfl (.refl _ _))) (fun _ _
    => (.iff (.refl _ _) (fun _ => (.by (State.bump_frame _ _ _) rfl (.refl _ _)))))) (fun _ _ => (.iff (.refl _ _)
    (fun _ => (.by (State.bump_frame _ _ _) rfl (.refl _ _)))))))))

end Sys2Proof.Machine
end

