-- ==== Sys2Proof/Tests/Slice0.lean ====
section
/-! SUPPORT. The model's own tests: ill-formed commands are refused, single steps give the values of the rules, and
every statement with hypotheses has a witness that meets them. -/

namespace Sys2Proof.Tests

set_option Elab.async false
set_option linter.unusedVariables false

open Sys2Proof.Machine

/-! ### States and packets the tests start from -/

/-- A head that is its own source, READY, with its clocks locked, the link up and the Tender running, at tick
1,000,000. -/
def running : State := { State.reset with
  tb := { tick := 1000000 }
  clk := { core := .locked, mem := .locked, slices := vrep 19 .locked, refOk := true, xtalOk := true }
  rst := { phase := .started, ready := true, wasReady := true }
  link := { up := true, cxl := true, phyOn := true, width := 8, rate := 5 }
  wl := { role := .source, member := .source }
  reel := { trained := true }
  tnd := { up := true } }

/-- A field of the furnish in force at a value. -/
def setting (f : Fld) (v : Nat) (s : State) : State :=
  s.modFu fun u => { u with inForce := { u.inForce with
    regs := regSet u.inForce.regs f.off (setBits (regGet u.inForce.regs f.off) f.lo f.n v) } }

/-- Edges every 200 ticks of a web that moves, the latest one 10,000 ticks ago. -/
def moving : State := running.modTb fun t => { t with tLast := some 990000, intervals := [200, 200], still := false }

/-- Time mode, with a period due. -/
def timed : State := setting R.tbsCtrlTrigSrc 1 running

def ref0 : PktRef := { tw := false, queue := 0, tag := 0 }
def mbox : PktRef := { tw := true, queue := 0, tag := 0 }

/-- A dispatched packet of an opcode, with 40 parameter bytes and its data-in block. -/
def pkt (op par : Nat) (data : List Byte) (cancel : Bool) : Packet :=
  { ref := ref0, stage := .dispatched, data := some data
    bytes := BitVec.ofNat 512
      (op + b2n cancel * 2 ^ 34 + 40 * 2 ^ 48 + data.length * 2 ^ 128 + par % 2 ^ 320 * 2 ^ 192) }

/-- DARK_WRITE of block 31 of bank 1, with all its 16,416 entries. -/
def wholeBlock : Packet :=
  { ref := ref0, stage := .dispatched, data := some (List.replicate 32832 0)
    bytes := BitVec.ofNat 512 (0x0201 + 40 * 2 ^ 48 + 32832 * 2 ^ 128 + (1 + 31 * 2 ^ 8) * 2 ^ 192) }

/-- The running head with one packet. -/
def cmd (p : Packet) : State := running.modCmd fun c => { c with packets := [p] }

theorem started_wholeBlock : (cmd wholeBlock).started ref0 0x0201 false = some wholeBlock := by
  have h : (cmd wholeBlock).packet ref0 = some wholeBlock := by
    simp [State.packet, cmd, State.modCmd, show wholeBlock.ref = ref0 from rfl]
  rw [State.started, h]
  exact if_pos ⟨rfl, by decide +kernel, by decide +kernel, .inr rfl, .inr rfl⟩

theorem halves_length (p : Packet) : p.halves.length = (p.block.length + 2 - 1) / 2 := by
  simp [Packet.halves, chunks]

theorem halves_wholeBlock : wholeBlock.halves.length = 16416 := by
  have h : wholeBlock.block.length = 32832 := List.length_replicate
  rw [halves_length, h]

/-- Queue 2 enabled with a packet to fetch, its channel 1 live and of class 1. -/
def queued : State :=
  State.fset (R.dmaChCtrlClass 1) 1 ((running.onQueue 2 fun q => { q with enabled := true, sqTail := 1 }).onCh 1
    fun c => { c with state := .live })

/-- A layout with 256 MiB of memory window, its decoder committed at host address 4,096. -/
def opened : State :=
    (running.modLink fun l => { l with hdmBase := 4096, hdmSize := 2 ^ 28, hdmCommitted := true }).modReel fun r => { r with memUnits := 1 }

def cut0 : Cut :=
  { id := 1, prod := 0, field := 0, dc := 3, wait := true, wcFrom := 0, wcTo := 100, colFirst := 0, colLast := 9,
    by' := some ref0 }

def entry0 : DirEntry :=
  { seq := 5, wc := 40, prod := 0, field := 0, word0 := 0, hbin := 1, words := 4, ncomp := 1, pixels := 96, held := true }

def buf0 : OpenBuf :=
  { va := 0x10000, len := 4096, id := 7, irq := false, pasid := 0, pv := false, maxUnits := 4, timeout := 0 }

def run1 : DropRun :=
  { cause := 1, units := 65534, first := 0, last := 3, firstWc := 0, lastWc := 0, broke := false }

/-- A slave whose idle secondary, port 1, has left electrical idle at a tick, its eighth measurement due (R324). -/
def spared (at' : Nat) : State :=
  State.fset R.wlkCtrlSecEn 1 (State.fset R.wlkCtrlUpSec 1 ((running.modWl fun w => { w with role := .slave }).onPort 1
    fun q => { q with state := .up, lock := 3, outAt := some at', meas := [0, 0, 0, 0, 0, 0, 0] }))

/-- A stamp met in the step in which it was armed. -/
def metStamp (t : Nat) : Stamp :=
    { isWc := false, target := t, at' := 0, armed := 999999, ahead := true, met := true }

/-- Engine 5 runs an AT with a stamp. -/
def stamped (p : Stamp) : State :=
  running.onEng 5 fun g => { g with state := .running, store := vrep 32 0x50000000, stamp := some p }

def greenLine : Line := { prod := 1, hbin := 1 }

/-- A position packet of 22 zero bytes with its CRC (R318). -/
def position0 : BitVec 192 := BitVec.ofNat 192 (crc16 (List.replicate 22 0) * 2 ^ 176)

/-- One that names head 1 as its source. -/
def position1 : BitVec 192 :=
  BitVec.ofNat 192 (2 ^ 128 + crc16 (leBytes 22 (2 ^ 128)) * 2 ^ 176)

/-- WAIT on flag 0 set (R343). -/
def waitFlag : Word := 0x71000008

/-- The bytes of a number, the most significant first. -/
def beBytes (n v : Nat) : List Byte := (leBytes n v).reverse

/-- An image that passes every check of R380: magic, format 1, length 32, revision 0, zero fields, a payload of erased
bytes with its SHA-384, and a signature made with the private key 1, whose public key is the base point. Digest, key
hash
and signature were computed outside the model. -/
def goodBank : FwBank :=
  { cells := ([0x52, 0x4E, 0x42, 0x52, 1, 0, 0, 0, 0, 0, 0, 0, 0, 0, 0, 0, 32] ++ List.replicate 15 0
      ++ beBytes 48 p384Base.1 ++ beBytes 48 p384Base.2
      ++ beBytes 48 0x53d8721ba229b1daed0a0b9ff5feeb40f0a2abf211fd3263a1f680498eea447cd2970ad5ca0ae5a3515a73e3e72ed411
      ++ beBytes 48 0xaa87ca22be8b05378eb1c71ef320ad746e1d3b628ba79b9859f741e082542a385502f25dbf55296c3a545e3872760ab7
      ++ beBytes 48 0x29641ef186a4049e7d8be8d08f633772e15e1da8d91fb04a7d5b8806431050ebc97486bd549ccd823e69ce3951e4e473
      ++ List.replicate 240 0).zipIdx.map fun (c : Byte × Nat) => (c.2, c.1) }

/-- SHA-384 of its public key. -/
def goodKey : BitVec 384 :=
  0xa19d4db171b582eb8052b0cfe555e17894aa22d1c8a9770950697dd8f796d2fa4bf0a56ad80006b7ea08e1191f814b65

def good (s : State) : State := s.modTnd fun t => { t with banks := vrep 2 goodBank, romKeys := vrep 2 goodKey }

def start0 : StartUp :=
  { crystal := true, reelOk := true, badChan := 0, slot0Crc := true, darkSums := [], darkSum := 0, millis := 20 }

/-! ### Well-formed commands -/

theorem wf_refuses_short_latch : (Instr.blockSampleLatch 0 (List.replicate 31 (List.replicate 432 0))).wf = false :=
    by
  decide +kernel
theorem wf_refuses_short_block : (Instr.blockSampleLatch 0 (List.replicate 32 (List.replicate 431 0))).wf = false :=
    by
  decide +kernel
theorem wf_refuses_empty_area_row : (Instr.areaRowReadout [] 0 []).wf = false := rfl
theorem wf_refuses_narrow_area_row : (Instr.areaRowReadout (List.replicate 32 (List.replicate 96 0)) 0 []).wf =
    false := by
  decide +kernel
theorem wf_refuses_ragged_area_row : (Instr.areaRowReadout (List.replicate 32 (List.replicate 121 0)) 0 []).wf =
    false := by
  decide +kernel
theorem wf_refuses_missing_sensors : (Instr.thermalUpdate [] (List.replicate 47 0) (List.replicate 14 0)
    (List.replicate 10 0)).wf = false := by decide +kernel
theorem wf_refuses_missing_rails : (Instr.thermalUpdate (List.replicate 47 0) (List.replicate 47 0)
    (List.replicate 13 0) (List.replicate 10 0)).wf = false := by decide +kernel
theorem wf_refuses_short_trip : (Instr.thermalTrip (List.replicate 46 0)).wf = false := by decide +kernel
theorem wf_refuses_long_offset : (Instr.twAddress 0x58 false [1, 2, 3, 4]).wf = false := by decide +kernel
theorem wf_takes_latch : (Instr.blockSampleLatch 0 (List.replicate 32 (List.replicate 432 0))).wf = true := by
  decide +kernel
theorem wf_takes_area_row : (Instr.areaRowReadout (List.replicate 32 (List.replicate 120 0)) 0 []).wf = true := by
  decide +kernel
theorem exec_of_ill_formed_faults : exec (.areaRowReadout [] 0 []) running = .fault .illFormed := rfl

/-! ### One step each; the expected values come from the rules cited -/

/-- The state a command leads to. -/
def after (c : Instr) (s : State) : State := match exec c s with | .next t => t | _ => s

/-- R9: a tick passes where no command waits. -/
theorem test_tick_counts : (match step running with | .next t => t.tb.tick | _ => 0) = 1000001 := by decide +kernel
/-- R30: A rises while B is low: a forward edge; ENC_FILT is 2 ticks after reset. -/
theorem test_edge_forward : ((after (.encoderTransition 0 true false 8) running).tb.encs[(0 : Fin 2)]).edges = 1 := by
  decide +kernel
theorem test_edge_backward : ((after (.encoderTransition 0 false true 8) running).tb.encs[(0 : Fin 2)]).edges = -1 :=
    by
  decide +kernel
/-- R30: A and B at once set ENC_ERR. -/
theorem test_edge_error : (after (.encoderTransition 0 true true 8) running).fget R.tbsStatEncErr = 1 := by
  decide +kernel
/-- R32: Z latches W. -/
theorem test_z_latches : (after (.zEdge 0 8) (running.modTb fun t => { t with wf := 0x5000 })).tb.zcap = 5 := by
  decide +kernel
/-- R38, R40: a trigger position reached raises the trigger of the next sequence. -/
theorem test_line_trigger :
    (after .lineTrigger (running.modTb fun t => { t with wf := 0x1000000, nextSeq := 7 })).tb.nextSeq
    = 8 := by decide +kernel
/-- R155: one below full scale encodes to 0x3FE, full scale to 0x3FF, and code 1 stands for 64. -/
theorem test_ply_full_scale : plyEncode 1044480 = 0x3FF := by decide +kernel
theorem test_ply_below_full_scale : plyEncode 1044479 = 0x3FE := by decide +kernel
theorem test_ply_tie : plyEncode 32 = 1 ∧ plyEncode 31 = 0 := by decide +kernel
/-- R98: (acc + 2) / 4, clamped at both ends; the sticky top reads full scale. -/
theorem test_lin20 : lin20 6 = 2 ∧ lin20 (-9) = 0 ∧ lin20 0x7FFFFF = 1044480 := by decide +kernel
/-- R130, R134: a gain of 32,767/16,384 on a Gb column stays below full scale; a saturated column stays at it. -/
theorem test_gb_gain :
    stage1b ((setting R.calCtrlGrgbEn 1 (setting (R.calGbGain 0) 32767 running)).fu.inForce) greenLine
    [9, 9, 1000000, fullScale, 9, 9, fullScale, 9] = [9, 9, fullScale - 1, fullScale, 9, 9, fullScale, 9] := by
  decide +kernel
/-- R318: CRC-16 with polynomial 0x1021 and initial value 0xFFFF, over the ASCII digits 1 to 9. -/
theorem test_crc16 : crc16 [0x31, 0x32, 0x33, 0x34, 0x35, 0x36, 0x37, 0x38, 0x39] = 0x29B1 := by decide +kernel
/-- R309: the attention mask is all ones after reset. -/
theorem test_attention_mask : running.readReg 0x00000C = 0x1F := by decide +kernel
/-- R291: an offset that holds no register reads 0, and a write to it is discarded. -/
theorem test_no_register : after (.registerWrite { path := .tender } 0x7FFFFC (.word 9)) running = running :=
    by decide +kernel
theorem test_scratch :
    (after (.registerWrite { path := .tender } 0x000028 (.word 0xDEADBEEF)) running).readReg 0x000028 = 0xDEADBEEF :=
    by
  decide +kernel
/-- R303: a locked field keeps its value, and the write is a violation. -/
theorem test_locked_field :
    (after (.registerWrite { path := .tender } 0x0B0000 (.word 0)) (State.fset R.glbLockWlk 1 running)).fget
    R.glbLockViol = 1 := by decide +kernel
/-- R306: the two-wire path writes nothing while TW_WR is 0. -/
theorem test_tw_denied :
    (after (.registerWrite { path := .tw } 0x000028 (.word 7)) (State.fset R.glbAccTwWr 0 running)).readReg 0x000028 =
    0 := by
  decide +kernel
/-- R69, R78: FORCE_FAIL fails a slice with cause 0xF. -/
theorem test_force_fail : ((after (.forceFail { path := .tender } 37) running).slice 37).cause = 0xF :=
    by decide +kernel
/-- R110: a commit captures the staging copy. -/
theorem test_commit_captures :
    (after (.commit { path := .tender } 0) (running.modFu fun f => { f with staging := [(0x010020, 7)] })).fu.commits.map
    (·.furnish.regs) = [[(0x010020, 7)]] := by decide +kernel
/-- R148: a lane takes ceil(25 / 24) = 2 clocks for a line of 25 components. -/
theorem test_lane_take : ((after .laneTake (running.modCal fun c => { c with ready :=
    [{ line := { pix := List.replicate 25 100 }, since := 0 }] })).cal.lanes[(0 : Fin 2)]).map (·.stop) = [1000002] :=
      by
  decide +kernel
/-- R200: 16 + 57 units of 256 MiB do not fit the DRAM. -/
theorem test_relayout_too_big :
    (after (.relayout { path := .tender }) (State.fset R.relMemSize 60 (State.fset R.relSaveSize 1
    running))).reel.result = 3 := by decide +kernel
/-- R214: a line of the window reads back byte by byte, the least significant at the lowest address. -/
theorem test_window_write : (after (.windowWrite (4096 + 128) 0x1234 false) opened).windowByte 129 = 0x12 :=
    by decide +kernel
/-- R232: a write that carries poison is stored as poison. -/
theorem test_window_poison : (after (.windowWrite (4096 + 128) 0 true) opened).poison = [2] := by decide +kernel
/-- R236: a link reset disables the queues. -/
theorem test_link_reset : ((after .linkReset queued).queue 2).enabled = false := by decide +kernel
/-- R262: an enabled channel starts with the ring registers as written. -/
theorem test_channel_enable : ((after (.channelEnable { path := .tender } 4 1) running).ch 4).state = .live :=
    by decide +kernel
/-- R276: NOP completes; a step for another opcode changes nothing. -/
theorem test_packet_leaves : (after (.nop ref0) (cmd (pkt 0x0000 0 [] false))).cmd.packets = [] := by decide +kernel
theorem test_reg_write_packet :
    (after (.regWrite ref0 false) (cmd (pkt 0x0006 (0x28 + 7 * 2 ^ 32 + 0xFFFFFFFF * 2 ^ 64) []
    false))).reg 0x000028 = 7 := by decide +kernel
theorem test_wrong_opcode_waits : (after (.identify ref0) (cmd (pkt 0x0000 0 [] false))).cmd.packets =
    [pkt 0x0000 0 [] false] := by decide +kernel
/-- R350: PE_LOAD writes words from an address on. -/
theorem test_pe_load :
    ((after (.peLoad ref0 false) (cmd (pkt 0x0400 (7 + 31 * 2 ^ 8 + 1 * 2 ^ 16) [4, 3, 2, 1] false))).eng
    7).store.toList[31]? = some 0x01020304 := by decide +kernel

/-- Engine 5 at a step that is due, with one word in every store address. -/
def engine (w : Word) : State :=
  running.onEng 5 fun g => { g with state := .running, origin := 1000000, store := vrep 32 w }

/-- R342: NOP goes on to the next address; JMP always goes to its target. -/
theorem test_pe_nop : ((after (.peNop 5) (engine 0)).eng 5).pc = 1 := by decide +kernel
theorem test_pe_jmp : ((after (.jmp 5 0) (engine 0x90000011)).eng 5).pc = 0x11 := by decide +kernel
/-- R342: MOV of zero plus the addend −1 to G1 is all ones; into EMR it takes 32 bits. -/
theorem test_pe_mov : ((after (.mov 5) (engine 0x61BFFFFF)).eng 5).gen 1 = BitVec.allOnes 64 := by decide +kernel
theorem test_pe_mov_emr : ((after (.mov 5) (engine 0x64B00007)).eng 5).emr = 7 := by decide +kernel
/-- R349: a PULL on an empty FIFO stalls and sets UNDER. -/
theorem test_pe_stall : ((after (.pull 5) (engine 0x30000000)).eng 5).state = .stalled := by decide +kernel
theorem test_pe_pull : ((after (.pull 5) ((engine 0x30000000).onEng 5 fun g => { g with tx := [9, 8] })).eng 5).emr =
    9 := by
  decide +kernel
/-- R342: an undefined opcode puts the engine in error. -/
theorem test_pe_bad : ((after (.peBadOpcode 5) (engine 0xF0000000)).eng 5).state = .error := by decide +kernel
/-- R390, R392: address 0x58 with strap 0; three offset bytes load the pointer, the most significant first. -/
theorem test_tw_pointer : (after (.twAddress 0x58 false [0x00, 0x00, 0x28]) running).tw.pointer = 0x000028 := by
  decide +kernel
theorem test_tw_other_address : (after (.twAddress 0x59 false []) running).tw.phase = .idle := by decide +kernel
/-- R405: an undervoltage shows its rail. -/
theorem test_undervoltage : (after (.railUndervoltage 13) running).thm.uv = 0x2000 := by decide +kernel
/-- R420: 120 °C at an unmasked comparator trips the device. -/
theorem test_trip : (after (.thermalTrip (List.replicate 46 0 ++ [1920])) running).thm.trip = true :=
    by decide +kernel
theorem test_no_trip : (after (.thermalTrip (List.replicate 47 1919)) running).thm.trip = false := by decide +kernel
/-- R359: loss of the reference in use puts every MDLL on the crystal. -/
theorem test_reference_loss :
    (after (.referenceLoss true) (State.fset R.clkRefModeSel 1 running)).clk.core ≠ .locked := by
  decide +kernel
/-- FIPS 180-4: SHA-384 of the three bytes "abc". -/
theorem test_sha384 : sha384 [0x61, 0x62, 0x63] =
    0xcb00753f45a35e8bb5a03d699ac65007272c32ab0eded1631a8b605a43ff5bed8086072ba1e7cc2358baeca134c825a7 := by
  decide +kernel
/-- R380: the image passes; one whose VERSION is another than the one signed does not. -/
theorem test_image_checks : goodBank.check (vrep 2 goodKey) 0 0 = 0 := by decide +kernel
theorem test_image_altered :
    FwBank.check { goodBank with cells := mset 0xFF 8 1 goodBank.cells } (vrep 2 goodKey) 0 0 = 5 := by
  decide +kernel
/-- R381, R428: a valid preferred bank boots; with both invalid the Tender is in recovery mode. -/
theorem test_boot_recovery : (after (.resetRelease start0) State.reset).tnd.recovery = true := by decide +kernel
/-- R431: READY. -/
theorem test_ready :
    (after (.ready 0) (running.modRst fun r => { r with ready := false, wasReady := false })).rst.ready = true := by
  decide +kernel
/-- R426: W counts on through a warm reset, and the two-wire pointer is cleared. -/
theorem test_reset_n : (after .resetNAssert (running.modTb fun t => { t with wf := 0x5000 })).tb.wf = 0x5000 ∧
    (after .resetNAssert (running.modTw fun t => { t with pointer := 40 })).tw.pointer = 0 := by decide +kernel

/-- R195: an uncorrectable codeword of result memory sets STS_EVT.ECC_UE. -/
theorem test_result_uncorrectable :
    (after (.wideHighRead { path := .tender } 0xFFFFFC .word true 0) running).fget R.stsEvtEccUe = 1 := by
  decide +kernel
/-- R181 to R183: the sequences and zone sums of result memory are wide values. -/
theorem test_result_wide : wideHigh 0x800008 = some 0x80000C ∧ wideHigh 0x802010 = some 0x802014 ∧
    wideHigh 0xC032F8 = some 0xC032FC ∧ wideHigh 0xC03300 = none ∧ wideHigh 0x800010 = none := by decide +kernel

/-! ### Witnesses

One for each set of hypotheses of the statements of Certificates/Slice0/Obligations.lean, in the order in which they
stand there: `witness_<statement>_<n>` says that some state and operands meet all of them, at a boundary of their
range
where they have one. -/

theorem witness_StepRunsTheFrontCommand_0 : ∃ (c : Instr) (rest : List Instr) (s : State), s.pending = c :: rest :=
  ⟨.standstill, [.coast], { running with pending := [.standstill, .coast] }, by decide +kernel⟩

theorem witness_AnEmptyQueueLetsATickPass_0 : ∃ (s : State), s.pending = [] ∧ s.thm.trip = false :=
  ⟨running, by decide +kernel⟩

theorem witness_AnEmptyQueueLetsATickPass_1 : ∃ (s : State), s.pending = [] ∧ s.thm.trip = true :=
  ⟨running.modThm fun t => { t with trip := true }, by decide +kernel⟩

theorem witness_WhatStopsACommand_0 : ∃ (c : Instr), c.wf = true ∧
    ∀ (codes : List (List (BitVec 12))) (ce : Nat) (ue : List (Nat × Fin 38 × Fin 44)),
      c ≠ Instr.areaRowReadout codes ce ue :=
  ⟨.standstill, ⟨rfl, fun _ _ _ h => Instr.noConfusion h⟩⟩

theorem witness_WhatStopsACommand_1 : ∃ (c : Instr), c.wf = false :=
  ⟨.areaRowReadout [] 0 [], by decide +kernel⟩

theorem witness_StoresStayCanonical_0 : ∃ (s : State) (t : State), s.canonical = true ∧
    step s = Host.Outcome.next t :=
  ⟨running, running.tickOnce, ⟨by decide +kernel, rfl⟩⟩

theorem witness_EachCommandKeepsTheRest_0 : ∃ (c : Instr) (s : State) (t : State), exec c s = Host.Outcome.next t ∧
    (cycled c = false ∨ s.alone = true) :=
  ⟨.standstill, running, running.modTb fun t => { t with still := true }, ⟨rfl, .inl rfl⟩⟩

theorem witness_EachCommandKeepsTheRest_1 : ∃ (c : Instr) (s : State) (t : State), exec c s = Host.Outcome.next t ∧
    cycled c = true :=
  ⟨.mailboxGo { path := .tender }, running, after (.mailboxGo { path := .tender }) running, ⟨rfl, rfl⟩⟩

theorem witness_EncoderEdgesAndStandstill_0 : ∃ (held : Nat) (s : State), held < s.fget R.tbsCtrlEncFilt :=
  ⟨0, running, by decide +kernel⟩

theorem witness_EncoderEdgesAndStandstill_1 : ∃ (enc : Fin 2) (a : Bool) (b : Bool) (held : Nat) (s : State),
    s.fget R.tbsCtrlEncFilt ≤ held ∧ a ≠ s.tb.encs[enc].a ∧ b ≠ s.tb.encs[enc].b :=
  ⟨0, true, true, running.fget R.tbsCtrlEncFilt, running, by decide +kernel⟩

theorem witness_EncoderEdgesAndStandstill_2 : ∃ (enc : Fin 2) (a : Bool) (b : Bool) (held : Nat) (s : State),
    s.fget R.tbsCtrlEncFilt ≤ held ∧ (a ≠ s.tb.encs[enc].a ↔ b = s.tb.encs[enc].b) ∧ s.coreSlow = false :=
  ⟨0, true, false, running.fget R.tbsCtrlEncFilt, running, by decide +kernel⟩

theorem witness_EncoderEdgesAndStandstill_3 : ∃ (enc : Fin 2) (held : Nat) (s : State),
    s.fget R.tbsCtrlEncFilt ≤ held ∧ ↑enc = b2n s.tb.onEnc1 :=
  ⟨0, running.fget R.tbsCtrlEncFilt, running, by decide +kernel⟩

theorem witness_EncoderEdgesAndStandstill_4 : ∃ (s : State), s.slow = true :=
  ⟨running, by decide +kernel⟩

theorem witness_EncoderEdgesAndStandstill_5 : ∃ (s : State), s.slow = false :=
  ⟨moving, by decide +kernel⟩

theorem witness_CoastFailoverAndSlew_0 : ∃ (s : State), s.silent = true ∧ ¬(s.curOn R.tbsCtrlStbyEn = true ∧
    ¬s.tb.onEnc1 = true ∧ s.encRuns true = true) :=
  ⟨moving, by decide +kernel⟩

theorem witness_CoastFailoverAndSlew_1 : ∃ (s : State), s.silent = true ∧ s.curOn R.tbsCtrlStbyEn = true ∧
    s.tb.onEnc1 = false ∧ s.encRuns true = true :=
  ⟨setting R.tbsCtrlStbyEn 1 (setting R.tbsEnc1Scale 0x01000000 (moving.modTb fun t => { t with encs := vrep 2 { last := some 1000000, gap := some 200 } })),
    by decide +kernel⟩

theorem witness_CoastFailoverAndSlew_2 : ∃ (s : State), (s.tb.mode = TrackMode.coasting ∨ s.fedCoast = true ∧
    s.tb.mode ≠ TrackMode.lost) ∧ 0 < s.cur R.tbsCoastMax ∧ s.cur R.tbsCoastMax ≤ s.tb.coastRun :=
  ⟨setting R.tbsCoastMax 5 (running.modTb fun t => { t with mode := .coasting, coastRun := 5 }), by decide +kernel⟩

theorem witness_CoastFailoverAndSlew_3 : ∃ (s : State), s.cur R.tbsCoastMax = 0 :=
  ⟨setting R.tbsCoastMax 0 running, by decide +kernel⟩

theorem witness_CoastFailoverAndSlew_4 : ∃ (s : State), s.tb.mode = TrackMode.slewing ∧ s.tb.slewWeb ≤ 0 :=
  ⟨running.modTb fun t => { t with mode := .slewing }, by decide +kernel⟩

theorem witness_CoastFailoverAndSlew_5 : ∃ (s : State), s.tb.mode = TrackMode.slewing ∧ 0 < s.tb.slewWeb :=
  ⟨running.modTb fun t => { t with mode := .slewing, slewWeb := 1 }, by decide +kernel⟩

theorem witness_CoastFailoverAndSlew_6 : ∃ (s : State), s.tb.mode = TrackMode.holding ∧ 0 ≤ s.tb.slewLeft :=
  ⟨running.modTb fun t => { t with mode := .holding }, by decide +kernel⟩

theorem witness_TriggersRaised_0 : ∃ (s : State), s.wl.member ≠ Member.aligned ∧ s.producing = true ∧
    s.tb.t.ahead s.tb.wf = false ∧ s.rst.ready = true ∧ s.fu.inForce.webMode = true ∧
    s.thm.stop ≠ StopStage.draining ∧ s.triggersStopped = false ∧ State.withinHyst s.tb.t s = false ∧
    s.coreSlow = false ∧ s.freeToTrigger = true :=
  ⟨running.modTb fun t => { t with wf := 0x1000000 }, by decide +kernel⟩

theorem witness_TriggersRaised_1 : ∃ (s : State), s.fu.inForce.trigSrc = 1 ∧ s.triggersOn = true ∧
    s.producing = true ∧ s.timeDue ≤ s.now ∧ s.triggersBarred = false ∧ s.freeToTrigger = true :=
  ⟨timed, by decide +kernel⟩

theorem witness_TriggersRaised_2 : ∃ (s : State) (d : Nat) (rest : List Nat), s.tb.extDue = d :: rest ∧ d ≤ s.now ∧
    s.fu.inForce.trigSrc = 2 ∧ s.triggersOn = true ∧ s.producing = true ∧ s.triggersBarred = false ∧
    s.freeToTrigger = true :=
  ⟨setting R.tbsCtrlTrigSrc 2 (running.modTb fun t => { t with extDue := [1000000]  }), 1000000, [],
    by decide +kernel⟩

theorem witness_TriggersRaised_3 : ∃ (s : State) (d : Nat), s.tb.held = some d ∧ d ≤ s.now ∧ s.triggersOn = true ∧
    s.producing = true ∧ s.triggersBarred = false ∧ s.wl.member ≠ Member.leaving :=
  ⟨running.modTb fun t => { t with held := some 1000000 }, 1000000, by decide +kernel⟩

theorem witness_TriggersRaised_4 : ∃ (s : State) (l : Nat), s.wl.member ≠ Member.aligned ∧ s.producing = true ∧
    s.tb.t.ahead s.tb.wf = false ∧ s.rst.ready = true ∧ s.fu.inForce.webMode = true ∧
    s.thm.stop ≠ StopStage.draining ∧ s.triggersStopped = false ∧ State.withinHyst s.tb.t s = false ∧
    s.coreSlow = false ∧ s.tb.held = none ∧ s.tb.lastTrig = some l ∧ s.now < l + 1000 :=
  ⟨running.modTb fun t => { t with wf := 0x1000000, lastTrig := some 999001 }, 999001, by decide +kernel⟩

theorem witness_TriggersRaised_5 : ∃ (s : State) (d : Nat), s.fu.inForce.trigSrc = 1 ∧ s.triggersOn = true ∧
    s.producing = true ∧ s.timeDue ≤ s.now ∧ s.triggersBarred = false ∧ s.tb.held = some d :=
  ⟨timed.modTb fun t => { t with held := some 1000000 }, 1000000, by decide +kernel⟩

theorem witness_TriggersRaised_6 : ∃ (s : State), s.wl.member ≠ Member.aligned ∧ s.triggersStopped = true ∧
    s.rst.ready = true ∧ s.fu.inForce.webMode = true ∧ s.thm.stop ≠ StopStage.draining :=
  ⟨running.modTb fun t => { t with wf := 0x1000000, mode := .lost }, by decide +kernel⟩

theorem witness_TriggersRaised_7 : ∃ (s : State), s.triggersBarred = true :=
  ⟨running.modTb fun t => { t with mode := .holding }, by decide +kernel⟩

theorem witness_TriggersRaised_8 : ∃ (s : State) (d : Nat), s.tb.held = some d ∧ s.triggersBarred = true ∧
    s.triggersOn = true ∧ s.producing = true :=
  ⟨running.modTb fun t => { t with held := some 1000000, mode := .lost }, 1000000, by decide +kernel⟩

theorem witness_TriggersRaised_9 : ∃ (s : State) (d : Nat) (rest : List Nat), s.tb.extDue = d :: rest ∧ d ≤ s.now ∧
    s.fu.inForce.trigSrc = 2 ∧ s.triggersOn = true ∧ s.producing = true ∧ s.triggersBarred = true :=
  ⟨setting R.tbsCtrlTrigSrc 2 (running.modTb fun t => { t with extDue := [1000000] , mode := .lost }), 1000000, [],
    by decide +kernel⟩

theorem witness_TransferWindowAndExposure_0 : ∃ (s : State), s.preTriggerDue = true :=
  ⟨timed, by decide +kernel⟩

theorem witness_TransferWindowAndExposure_1 : ∃ (s : State) (p : Period), s.fu.inForce.area = false ∧
    s.lastPeriod = some p ∧ p.start = none ∧ s.tb.window = none ∧ p.planned ≤ s.now :=
  ⟨running.modTb fun t => { t with periods := [{ planned := 1000000 }] }, { planned := 1000000 }, by decide +kernel⟩

theorem witness_TransferWindowAndExposure_2 : ∃ (s : State) (p : Period), s.fu.inForce.area = false ∧
    s.lastPeriod = some p ∧ s.hb.exposing = true ∧ p.start.getD 0 + p.tExp ≤ s.now :=
  ⟨(running.modTb fun t => { t with periods := [{ start := some 999000, tExp := 1000 }] }).modHb fun h => { h with exposing := true },
    { start := some 999000, tExp := 1000 }, by decide +kernel⟩

theorem witness_TransferWindowAndExposure_3 : ∃ (s : State) (fr : AreaFrame), s.fu.inForce.area = true ∧
    s.hb.area = some fr ∧ fr.tail = false ∧ fr.tStart = none ∧ fr.tStop = none ∧
    fr.slot + fr.length ≤ s.now + 30 + (s.furnish fr.furnish).areaExpo fr.sub :=
  ⟨setting R.hbxCtrlMode 1 (running.modHb fun h => { h with area := some { slot := 990030 } }), { slot := 990030 },
    by decide +kernel⟩

theorem witness_TransferWindowAndExposure_4 : ∃ (s : State) (fr : AreaFrame) (a : Nat), s.fu.inForce.area = true ∧
    s.hb.area = some fr ∧ fr.tail = false ∧ fr.tStart = some a ∧ fr.tStop = none ∧ fr.slot + fr.length ≤ s.now + 30 :=
  ⟨setting R.hbxCtrlMode 1 (running.modHb fun h => { h with area := some { slot := 990030, tStart := some 995000 } }),
    { slot := 990030, tStart := some 995000 }, 995000, by decide +kernel⟩

theorem witness_AreaSlotsAndSamples_0 : ∃ (codes : List (List (BitVec 12))) (s : State) (fr : AreaFrame)
    (got : SubFrame), wfArea codes = true ∧ s.hb.area = some fr ∧ fr.loaded = some got ∧ fr.readout < 8 ∧
    fr.slot + 1000 * (fr.readout + 2) ≤ s.now ∧
    Option.map List.length codes.head? = some (96 + (s.furnish got.furnish).cols 3) :=
  ⟨List.replicate 32 (List.replicate 96 0 ++ List.replicate (running.fu.inForce.cols 3) 0),
    running.modHb fun t => { t with area := some { slot := 998000, loaded := some {} } },
    { slot := 998000, loaded := some {} }, {}, by decide +kernel⟩

theorem witness_AreaSlotsAndSamples_1 : ∃ (got : SubFrame) (sb : Nat) (row : Nat) (codes : List (BitVec 12))
    (c : Cause) (s : State) (a : Int), a ∈ (s.areaRow got sb row codes (some c)).row.accs :=
  ⟨{}, 0, 0, List.replicate 97 0, .adcDroop, running, 0, by decide +kernel⟩

theorem witness_AreaSlotsAndSamples_2 : ∃ (row : Nat) (slice : Nat) (word : Nat) (s : State) (l : AreaHeld),
    l ∈ s.felt.areaHeld ∧ l.line.row = row ∧ ∃ i, i < l.accs.length ∧
    accWord (24 * l.line.word0 + i) = (slice, word) :=
  ⟨1, 0, 0, running.modFelt fun f => { f with areaHeld := [{ line := { row := 1 }, accs := [5] }] },
    { line := { row := 1 }, accs := [5] }, ⟨by decide +kernel, rfl, 0, by decide +kernel⟩⟩

theorem witness_AreaSlotsAndSamples_3 : ∃ (codes : List (List (BitVec 12))), wfArea codes = false :=
  ⟨[], by decide +kernel⟩

theorem witness_AreaSlotsAndSamples_4 : ∃ (s : State) (fr : AreaFrame) (a : Nat) (b : Nat), s.hb.area = some fr ∧
    fr.slot + fr.length ≤ s.now ∧ fr.tail = false ∧ fr.tStart = some a ∧ fr.tStop = some b ∧
    (fr.sub + 1 < fr.count ∨ fr.next = []) :=
  ⟨running.modHb fun t => { t with area := some { slot := 990000, tStart := some 990030, tStop := some 999970 } },
    { slot := 990000, tStart := some 990030, tStop := some 999970 }, 990030, 999970, by decide +kernel⟩

theorem witness_AreaSlotsAndSamples_5 : ∃ (s : State) (fr : AreaFrame) (seq : Nat) (id : BitVec 16)
    (rest : List (Nat × BitVec 16)), s.hb.area = some fr ∧ fr.slot + fr.length ≤ s.now ∧
    (fr.tail = true ∨ fr.count ≤ fr.sub + 1) ∧ fr.next = (seq, id) :: rest :=
  ⟨running.modHb fun t => { t with area := some { slot := 990000, tail := true, next := [(8, 1), (9, 1)] } },
    { slot := 990000, tail := true, next := [(8, 1), (9, 1)] }, 8, 1, [(9, 1)], by decide +kernel⟩

theorem witness_AreaSlotsAndSamples_6 : ∃ (s : State) (fr : AreaFrame), s.hb.area = some fr ∧
    fr.slot + fr.length ≤ s.now ∧ fr.tail = true ∧ fr.next = [] :=
  ⟨running.modHb fun t => { t with area := some { slot := 990000, tail := true } }, { slot := 990000, tail := true },
    by decide +kernel⟩

theorem witness_AreaSlotsAndSamples_7 : ∃ (s : State) (fr : AreaFrame), s.hb.area = some fr ∧
    s.now < fr.slot + fr.length :=
  ⟨running.modHb fun t => { t with area := some { slot := 990001 } }, { slot := 990001 }, by decide +kernel⟩

theorem witness_AreaSlotsAndSamples_8 : ∃ (i : Fin 38) (codes : List (List (BitVec 12))) (s : State) (q : Period),
    wfLatch codes = true ∧ s.lastPeriod = some q ∧ q.base + 959 ≤ s.now ∧ (s.slice i).latched ≠ some q.seq ∧
    (s.slice i).up = true ∧ s.fu.inForce.area = false :=
  ⟨0, List.replicate 32 (List.replicate 432 0), running.modTb fun t => { t with periods := [{ base := 999041 }] },
    { base := 999041 }, by decide +kernel⟩

theorem witness_AreaSlotsAndSamples_9 : ∃ (codes : List (List (BitVec 12))), wfLatch codes = false :=
  ⟨[], by decide +kernel⟩

theorem witness_AreaSlotsAndSamples_10 : ∃ (i : Fin 38) (b : Fin 32) (s : State) (e : BlockSample),
    List.find? (fun x => decide (x.block = b)) (s.slice i).buf = some e :=
  ⟨0, 3, running.onSlice 0 fun l => { l with buf := [{ period := 7, block := 3, codes := [] }] },
    { period := 7, block := 3, codes := [] }, by decide +kernel⟩

theorem witness_AreaSlotsAndSamples_11 : ∃ (i : Fin 38) (b : Fin 32) (f : DeliveryFault) (s : State),
    List.find? (fun x => decide (x.block = b)) (s.slice i).buf = none ∧
    (f ≠ DeliveryFault.cfgParity ∨ s.tb.periods = []) :=
  ⟨0, 0, .cfgParity, running, ⟨rfl, .inr rfl⟩⟩

theorem witness_AreaSlotsAndSamples_12 : ∃ (i : Fin 38) (b : Fin 32) (s : State) (q : Period),
    List.find? (fun x => decide (x.block = b)) (s.slice i).buf = none ∧ s.lastPeriod = some q ∧
    (s.slice i).missed ≠ some q.seq ∧ (s.slice i).state ≠ SliceState.failed :=
  ⟨37, 0, running.modTb fun t => { t with periods := [{ seq := 7 }] }, { seq := 7 }, by decide +kernel⟩

theorem witness_SliceFailureAndRearm_0 : ∃ (i : Fin 38) (s : State), (s.slice i).state ≠ SliceState.failed :=
  ⟨0, running, by decide +kernel⟩

theorem witness_SliceFailureAndRearm_1 : ∃ (i : Fin 38) (s : State), (s.slice i).state = SliceState.failed :=
  ⟨0, running.onSlice 0 fun l => { l with state := .failed }, by decide +kernel⟩

theorem witness_SliceFailureAndRearm_2 : ∃ (via : Via) (i : Fin 38) (s : State),
    s.mayWrite via.path (131076 + 1024 * ↑i) = true ∧ s.alone = true ∧ (s.slice i).state ≠ SliceState.failed :=
  ⟨{ path := .tender }, 0, running, by decide +kernel⟩

theorem witness_SliceFailureAndRearm_3 : ∃ (via : Via) (i : Fin 38) (s : State),
    s.mayWrite via.path (131076 + 1024 * ↑i) = true ∧ s.alone = true ∧ (s.slice i).state = SliceState.failed ∧
    s.flag (R.hbxSlCtrlForceFail ↑i) = false ∧ s.sliceSlow i = false :=
  ⟨{ path := .tender }, 0, running.onSlice 0 fun l => { l with state := .failed }, by decide +kernel⟩

theorem witness_SliceFailureAndRearm_4 : ∃ (via : Via) (i : Fin 38) (s : State),
    s.flag (R.hbxSlCtrlForceFail ↑i) = true ∧ s.mayWrite via.path (131076 + 1024 * ↑i) = true ∧ s.alone = true :=
  ⟨{ path := .tender }, 0, State.fset (R.hbxSlCtrlForceFail 0) 1 running, by decide +kernel⟩

theorem witness_MissedWindowsAndDroop_0 : ∃ (i : Fin 38) (s : State) (q : Period) (l : BlockSample),
    s.lastPeriod = some q ∧
    (List.filter (fun e => decide (e.period + 1 < q.seq) || decide (e.period < q.seq) && decide (q.base + 959 ≤ s.now)) (s.slice i).buf).getLast? = some l ∧
    (s.slice i).missed ≠ some l.period ∧ (s.slice i).state ≠ SliceState.failed :=
  ⟨0,
    (running.onSlice 0 fun l => { l with buf := [{ period := 7, block := 3, codes := [] }]  }).modTb fun t => { t with periods := [{ seq := 8, base := 999041 }] },
    { seq := 8, base := 999041 }, { period := 7, block := 3, codes := [] }, by decide +kernel⟩

theorem witness_MissedWindowsAndDroop_1 : ∃ (i : Fin 38) (s : State) (q : Period) (l : BlockSample),
    s.lastPeriod = some q ∧
    (List.filter (fun e => decide (e.period + 1 < q.seq) || decide (e.period < q.seq) && decide (q.base + 959 ≤ s.now)) (s.slice i).buf).getLast? = some l ∧
    (s.slice i).missed = some l.period :=
  ⟨0,
    (running.onSlice 0 fun l => { l with buf := [{ period := 7, block := 3, codes := [] }] , missed := some 7 }).modTb fun t => { t with periods := [{ seq := 8, base := 999041 }] },
    { seq := 8, base := 999041 }, { period := 7, block := 3, codes := [] }, by decide +kernel⟩

theorem witness_MissedWindowsAndDroop_2 : ∃ (i : Fin 38) (s : State), (s.slice i).buf = [] :=
  ⟨0, running, by decide +kernel⟩

theorem witness_LinesCloseOntoTheStockStream_0 : ∃ (p : Fin 3) (seq : Nat) (s : State) (l : FeltLine),
    s.openLine (↑p) seq = some l ∧ s.closable l = true ∧ s.itsTurn l = true :=
  ⟨0, 5, running.modFelt fun t => { t with lines := [{ line := { seq := 5 }, closing := true }] },
    { line := { seq := 5 }, closing := true }, by decide +kernel⟩

theorem witness_LinesCloseOntoTheStockStream_1 : ∃ (p : Fin 3) (seq : Nat) (s : State) (l : FeltLine),
    s.openLine (↑p) seq = some l ∧ s.itsTurn l = false :=
  ⟨0, 5,
    running.modFelt fun t => { t with lines := [{ line := { seq := 5 }, closing := true }, { line := { seq := 4 } }] },
    { line := { seq := 5 }, closing := true }, by decide +kernel⟩

theorem witness_LinesCloseOntoTheStockStream_2 : ∃ (p : Fin 3) (seq : Nat) (s : State), s.openLine (↑p) seq = none :=
  ⟨0, 5, running, by decide +kernel⟩

theorem witness_LinesCloseOntoTheStockStream_3 : ∃ (s : State) (ream : Nat) (n : Nat) (means : List Int),
    s.felt.due = some (ream, n, means) ∧ n + 2 ^ s.tb.reamK ≤ s.tb.nextSeq :=
  ⟨(running.modFelt fun t => { t with due := some (0, 4096, []) }).modTb fun t => { t with nextSeq := 8192 }, 0, 4096,
    [], by decide +kernel⟩

theorem witness_CommitsCapturedCheckedAndCancelled_0 : ∃ (via : Via) (s : State), s.mayWrite via.path 516 = true ∧
    s.alone = true :=
  ⟨{ path := .tender }, running, by decide +kernel⟩

theorem witness_CommitsCapturedCheckedAndCancelled_1 : ∃ (via : Via) (s : State) (l : List Commit) (c : Commit),
    s.mayWrite via.path 516 = true ∧ s.alone = true ∧ s.fu.commits = l ++ [c] ∧ c.stage ≠ CommitStage.distributing :=
  ⟨{ path := .tender },
    running.modFu fun f => { f with commits := [{ furnish := {}, kind := .nextLine, x := 0, by' := .register 1, stage := .checking }] },
    [], { furnish := {}, kind := .nextLine, x := 0, by' := .register 1, stage := .checking }, by decide +kernel⟩

theorem witness_CommitsCapturedCheckedAndCancelled_2 : ∃ (via : Via) (s : State) (l : List Commit) (c : Commit),
    s.mayWrite via.path 516 = true ∧ s.alone = true ∧ s.fu.commits = l ++ [c] ∧ c.stage = CommitStage.distributing :=
  ⟨{ path := .tender },
    running.modFu fun f => { f with commits := [{ furnish := {}, kind := .nextLine, x := 0, by' := .register 1, stage := .distributing }] },
    [], { furnish := {}, kind := .nextLine, x := 0, by' := .register 1, stage := .distributing }, by decide +kernel⟩

theorem witness_CommitsCapturedCheckedAndCancelled_3 : ∃ (via : Via) (s : State), s.mayWrite via.path 516 = true ∧
    s.alone = true ∧ s.fu.commits = [] :=
  ⟨{ path := .tender }, running, by decide +kernel⟩

theorem witness_CommitsCapturedCheckedAndCancelled_4 : ∃ (s : State) (i : Nat) (c : Commit) (st : Nat) (det : Nat),
    List.findIdx? (fun x => decide (x.stage = CommitStage.checking)) s.fu.commits = some i ∧
    s.fu.commits[i]? = some c ∧ s.checkFurnish c.furnish (List.take i s.fu.commits) = some (st, det) ∧
    s.tb.raisedRdy = true :=
  ⟨(running.modFu fun f => { f with commits := [{ furnish := {}, kind := .nextLine, x := 0, by' := .register 1, stage := .checking }] }).modTb fun t => { t with raisedRdy := true },
    0, { furnish := {}, kind := .nextLine, x := 0, by' := .register 1, stage := .checking }, 2, 1, by decide +kernel⟩

theorem witness_CommitsCapturedCheckedAndCancelled_5 : ∃ (s : State) (i : Nat) (c : Commit),
    List.findIdx? (fun x => decide (x.stage = CommitStage.checking)) s.fu.commits = some i ∧
    s.fu.commits[i]? = some c ∧ s.checkFurnish c.furnish (List.take i s.fu.commits) = none ∧ s.tb.raisedRdy = true :=
  ⟨(running.modFu fun f => { f with commits := [{ furnish := { id := 1 }, kind := .nextLine, x := 0, by' := .register 1, stage := .checking }] }).modTb fun t => { t with raisedRdy := true },
    0, { furnish := { id := 1 }, kind := .nextLine, x := 0, by' := .register 1, stage := .checking },
    by decide +kernel⟩

theorem witness_CommitsCapturedCheckedAndCancelled_6 : ∃ (s : State) (c : Commit), s.fu.commits = [c] ∧
    c.stage = CommitStage.checking ∧ s.checkFurnish c.furnish [] = none ∧ s.tb.raisedRdy = false :=
  ⟨running.modFu fun f => { f with commits := [{ furnish := { id := 1 }, kind := .nextLine, x := 0, by' := .register 1, stage := .checking }] },
    { furnish := { id := 1 }, kind := .nextLine, x := 0, by' := .register 1, stage := .checking }, by decide +kernel⟩

theorem witness_CommitsCapturedCheckedAndCancelled_7 : ∃ (s : State) (u : Furnish),
    List.find? (fun u => !s.furnishUsed u.id) s.fu.retained.reverse = some u :=
  ⟨running.modFu fun f => { f with retained := [{ id := 7 }] }, { id := 7 }, by decide +kernel⟩

theorem witness_CommitsCapturedCheckedAndCancelled_8 : ∃ (r : PktRef) (s : State) (k : Packet),
    s.started r 257 false = some k :=
  ⟨ref0, cmd (pkt 0x0101 0 [] false), pkt 0x0101 0 [] false, by decide +kernel⟩

theorem witness_CommitsCapturedCheckedAndCancelled_9 : ∃ (r : PktRef) (s : State) (k : Packet) (l : List Commit)
    (c : Commit), s.started r 257 true = some k ∧ s.fu.commits = l ++ [c] ∧ c.stage ≠ CommitStage.distributing :=
  ⟨ref0,
    ((cmd (pkt 0x0101 0 [] true))).modFu fun f => { f with commits := [{ furnish := {}, kind := .nextLine, x := 0, by' := .register 1, stage := .checking }] },
    pkt 0x0101 0 [] true, [], { furnish := {}, kind := .nextLine, x := 0, by' := .register 1, stage := .checking },
    by decide +kernel⟩

theorem witness_CommitsCapturedCheckedAndCancelled_10 : ∃ (r : PktRef) (s : State) (k : Packet) (l : List Commit)
    (c : Commit), s.started r 257 true = some k ∧ s.fu.commits = l ++ [c] ∧ c.stage = CommitStage.distributing :=
  ⟨ref0,
    ((cmd (pkt 0x0101 0 [] true))).modFu fun f => { f with commits := [{ furnish := {}, kind := .nextLine, x := 0, by' := .register 1, stage := .distributing }] },
    pkt 0x0101 0 [] true, [],
    { furnish := {}, kind := .nextLine, x := 0, by' := .register 1, stage := .distributing }, by decide +kernel⟩

theorem witness_CommitsCapturedCheckedAndCancelled_11 : ∃ (r : PktRef) (s : State) (k : Packet),
    s.started r 257 true = some k ∧ s.fu.commits = [] :=
  ⟨ref0, cmd (pkt 0x0101 0 [] true), pkt 0x0101 0 [] true, by decide +kernel⟩

theorem witness_CalenderArrivalAndPairing_0 : ∃ (l : Line) (rest : List StockItem) (s : State),
    s.felt.stock = StockItem.line l :: rest :=
  ⟨{}, [], running.modFelt fun t => { t with stock := [.line {}] }, by decide +kernel⟩

theorem witness_CalenderArrivalAndPairing_1 : ∃ (l : Line) (rest : List StockItem) (s : State),
    s.felt.stock = StockItem.line l :: rest ∧ l.prod ≠ 1 ∧ s.cal.pair = [] ∧ s.cal.ready = [] ∧ s.cal.done = [] :=
  ⟨{ ply10 := true, pix := [1022] }, [],
    running.modFelt fun t => { t with stock := [.line { ply10 := true, pix := [1022] }] }, by decide +kernel⟩

theorem witness_CalenderArrivalAndPairing_2 : ∃ (l : Line) (rest : List StockItem) (s : State),
    s.felt.stock = StockItem.line l :: rest ∧ l.ply10 = false ∧ l.prod = 1 ∧ (s.furnish l.furnish).wants l ≠ [] ∧
    s.highOf 0 ≤ l.seq ∧ s.highOf 2 ≤ l.seq ∧ s.cal.pair = [] ∧ s.cal.ready = [] ∧ s.cal.done = [] :=
  ⟨greenLine, [], running.modFelt fun t => { t with stock := [.line greenLine] },
    ⟨rfl, rfl, rfl, by decide +kernel, Nat.le_of_eq rfl, Nat.le_of_eq rfl, rfl, rfl, rfl⟩⟩

theorem witness_CalenderArrivalAndPairing_3 : ∃ (vc : Nat) (ream : Nat) (means : List Int) (rest : List StockItem)
    (s : State), s.felt.stock = StockItem.dark vc ream means :: rest :=
  ⟨3, 0, [], [], running.modFelt fun t => { t with stock := [.dark 3 0 []] }, by decide +kernel⟩

theorem witness_CalenderArrivalAndPairing_4 : ∃ (s : State), s.felt.stock = [] :=
  ⟨running, by decide +kernel⟩

theorem witness_CalenderLanesAndDeadlines_0 : ∃ (k : Fin 2) (r : ReadyLine) (s : State),
    List.find? s.laneFree [0, 1] = some k ∧ s.choose = some r :=
  ⟨0, { line := { pix := List.replicate 25 100 }, since := 0 },
    running.modCal fun t => { t with ready := [{ line := { pix := List.replicate 25 100 }, since := 0 }] },
    by decide +kernel⟩

theorem witness_CalenderLanesAndDeadlines_1 : ∃ (s : State), s.choose = none ∨ ∀ (k : Fin 2), s.laneFree k = false :=
  ⟨running, by decide +kernel⟩

theorem witness_CalenderLanesAndDeadlines_2 : ∃ (k : Fin 2) (fs : List CalFault) (j : LaneJob) (rest : List LaneJob)
    (s : State), s.cal.lanes[k] = j :: rest ∧ j.stop + 192 ≤ s.now ∧
    ∀ (p g : Fin 4) (n r w : Nat), ¬CalFault.heldUe p g n r w ∈ fs :=
  ⟨0, [.lineCe, .tableCe],
    { line := { pix := List.replicate 24 100 }, entered := 999807, stop := 999808, upto := 24 }, [],
    running.modCal fun t => { t with lanes := vupd (vrep 2 []) 0 fun _ => [{ line := { pix := List.replicate 24 100 }, entered := 999807, stop := 999808, upto := 24 }] },
    ⟨by decide +kernel, by decide +kernel, by simp⟩⟩

theorem witness_CalenderLanesAndDeadlines_3 : ∃ (k : Fin 2) (j : LaneJob) (s : State),
    (s.cal.lanes = vupd (vrep 2 []) k fun x => [j]) ∧ s.cal.pair = [] ∧ s.cal.ready = [] ∧ s.cal.done = [] ∧
    j.stop + 192 ≤ s.now ∧ j.line.prod = 0 ∧ j.line.comps ≤ j.upto ∧ j.droop = false ∧ s.readsBad j.line = false ∧
    (s.furnish j.line.furnish).primary j.line = false ∧ s.guidesKept = false :=
  ⟨0, { line := { pix := List.replicate 24 100 }, entered := 999807, stop := 999808, upto := 24 },
    running.modCal fun t => { t with lanes := vupd (vrep 2 []) 0 fun _ => [{ line := { pix := List.replicate 24 100 }, entered := 999807, stop := 999808, upto := 24 }] },
    by decide +kernel⟩

theorem witness_CalenderLanesAndDeadlines_4 : ∃ (k : Fin 2) (fs : List CalFault) (s : State), s.cal.lanes[k] = [] ∧
    ∀ (p g : Fin 4) (n r w : Nat), ¬CalFault.heldUe p g n r w ∈ fs :=
  ⟨0, [.lineCe, .tableCe], running, ⟨by decide +kernel, by simp⟩⟩

theorem witness_CalenderLanesAndDeadlines_5 : ∃ (k : Fin 2) (fs : List CalFault) (j : LaneJob) (rest : List LaneJob)
    (s : State), s.cal.lanes[k] = j :: rest ∧ s.now < j.stop + 192 ∧
    ∀ (p g : Fin 4) (n r w : Nat), ¬CalFault.heldUe p g n r w ∈ fs :=
  ⟨0, [.lineCe, .tableCe],
    { line := { pix := List.replicate 24 100 }, entered := 999808, stop := 999809, upto := 24 }, [],
    running.modCal fun t => { t with lanes := vupd (vrep 2 []) 0 fun _ => [{ line := { pix := List.replicate 24 100 }, entered := 999808, stop := 999809, upto := 24 }] },
    ⟨by decide +kernel, by decide +kernel, by simp⟩⟩

theorem witness_CalenderLanesAndDeadlines_6 : ∃ (k : Fin 2) (p : Fin 4) (g : Fin 4) (n : Nat) (r : Nat) (j : LaneJob)
    (rest : List LaneJob) (s : State), s.cal.lanes[k] = j :: rest ∧ s.now < j.stop + 192 ∧ j.line.prod = ↑p ∧
    j.line.field = ↑g ∧ j.line.seq = n ∧ j.line.row = r :=
  ⟨0, 0, 0, 0, 0, { line := { pix := List.replicate 24 100 }, entered := 999808, stop := 999809, upto := 24 }, [],
    running.modCal fun t => { t with lanes := vupd (vrep 2 []) 0 fun _ => [{ line := { pix := List.replicate 24 100 }, entered := 999808, stop := 999809, upto := 24 }] },
    by decide +kernel⟩

theorem witness_CalenderLanesAndDeadlines_7 : ∃ (p : Fin 4) (f : Fin 4) (r : ReadyLine) (d : Nat) (s : State),
    s.cal.ready = [r] ∧ s.cal.pair = [] ∧ s.cal.done = [] ∧ s.cal.lanes = vrep 2 [] ∧ r.line.prod = ↑p ∧
    r.line.field = ↑f ∧ r.deadline = some d ∧ d ≤ s.now :=
  ⟨0, 0, { line := { pix := [100] }, since := 0, deadline := some 1000000 }, 1000000,
    running.modCal fun t => { t with ready := [{ line := { pix := [100] }, since := 0, deadline := some 1000000 }] },
    by decide +kernel⟩

theorem witness_CalenderLanesAndDeadlines_8 : ∃ (p : Fin 4) (f : Fin 4) (k : Fin 2) (j : LaneJob) (d : Nat)
    (s : State), s.cal.ready = [] ∧ (s.cal.lanes = vupd (vrep 2 []) k fun x => [j]) ∧ j.line.prod = ↑p ∧
    j.line.field = ↑f ∧ j.deadline = some d ∧ d ≤ s.now ∧ s.now < j.stop :=
  ⟨0, 0, 0,
    { line := { pix := List.replicate 48 100 }, entered := 999999, stop := 1000001, upto := 48, deadline := some 1000000 },
    1000000,
    running.modCal fun t => { t with lanes := vupd (vrep 2 []) 0 fun _ => [{ line := { pix := List.replicate 48 100 }, entered := 999999, stop := 1000001, upto := 48, deadline := some 1000000 }] },
    by decide +kernel⟩

theorem witness_GreenGain_0 : ∃ (u : Furnish) (l : Line) (x : List Nat) (i : Nat) (v : Nat),
    u.on R.calCtrlGrgbEn = true ∧ l.hbin = 1 ∧ l.section = 1 ∧ x[i]? = some v ∧ i % 4 = 2 ∧ v ≠ fullScale :=
  ⟨(setting R.calCtrlGrgbEn 1 running).fu.inForce, greenLine, [0, 0, 5, 0], 2, 5, by decide +kernel⟩

theorem witness_GreenGain_1 : ∃ (u : Furnish) (l : Line) (x : List Nat) (i : Nat) (v : Nat),
    u.on R.calCtrlGrgbEn = true ∧ l.hbin = 1 ∧ l.section = 1 ∧ x[i]? = some v ∧ i % 4 = 2 ∧ v = fullScale :=
  ⟨(setting R.calCtrlGrgbEn 1 running).fu.inForce, greenLine, [0, 0, fullScale, 0], 2, fullScale, by decide +kernel⟩

theorem witness_GreenGain_2 : ∃ (u : Furnish) (l : Line) (x : List Nat) (i : Nat) (v : Nat),
    u.on R.calCtrlGrgbEn = true ∧ l.hbin = 1 ∧ l.section = 1 ∧ x[i]? = some v ∧ i % 4 ≠ 2 :=
  ⟨(setting R.calCtrlGrgbEn 1 running).fu.inForce, greenLine, [0, 0, 5, 6], 3, 6, by decide +kernel⟩

theorem witness_ColourMatrix_0 : ∃ (u : Furnish) (j : Nat) (r : Nat) (g : Nat) (b : Nat) (k : Nat) (y : List Nat),
    u.on R.calCtrlCmEn = true ∧ y[3 * j]? = some r ∧ y[3 * j + 1]? = some g ∧ y[3 * j + 2]? = some b ∧ k < 3 ∧
    (r = fullScale ∨ g = fullScale ∨ b = fullScale) :=
  ⟨(setting R.calCtrlCmEn 1 running).fu.inForce, 0, fullScale, 1, 2, 2, [fullScale, 1, 2], by decide +kernel⟩

theorem witness_ColourMatrix_1 : ∃ (u : Furnish) (j : Nat) (r : Nat) (g : Nat) (b : Nat) (k : Nat) (y : List Nat),
    u.on R.calCtrlCmEn = true ∧ y[3 * j]? = some r ∧ y[3 * j + 1]? = some g ∧ y[3 * j + 2]? = some b ∧ k < 3 ∧
    r ≠ fullScale ∧ g ≠ fullScale ∧ b ≠ fullScale :=
  ⟨(setting R.calCtrlCmEn 1 running).fu.inForce, 0, 0, 1, fullScale - 1, 0, [0, 1, fullScale - 1], by decide +kernel⟩

theorem witness_PlyCode_0 : ∃ (u : Nat) (c : Nat), u < 1044480 ∧ c < 1023 :=
  ⟨1044479, 1022, by decide +kernel⟩

theorem witness_PlyCode_1 : ∃ (u : Nat) (c : Nat), u < 1044480 ∧ c < 1023 ∧
    (fun k : Nat => (64 * (plyValue k : Int) - u).natAbs) (plyEncode u) =
      (fun k : Nat => (64 * (plyValue k : Int) - u).natAbs) c :=
  ⟨32, 0, by decide +kernel⟩

theorem witness_PlyCode_2 : ∃ (u : Nat), u < 1044480 :=
  ⟨8160, by decide +kernel⟩

theorem witness_PlyCode_3 : ∃ (p : Nat) (m : Nat), p < 8 ∧ m < 128 :=
  ⟨7, 127, by decide +kernel⟩

theorem witness_PlyCode_4 : ∃ (c : Nat), c < 1024 :=
  ⟨1023, by decide +kernel⟩

theorem witness_OutputStatisticsAndShives_0 : ∃ (l : Line) (rest : List Line) (s : State), s.fmt.queue = l :: rest :=
  ⟨{}, [], running.modFmt fun t => { t with queue := [{}] }, by decide +kernel⟩

theorem witness_OutputStatisticsAndShives_1 : ∃ (fs : List OutFault) (l : Line) (rest : List Line) (s : State),
    s.fmt.queue = l :: rest ∧ fs.contains OutFault.headerLost = true :=
  ⟨[.headerLost], {}, [], running.modFmt fun t => { t with queue := [{}] }, by decide +kernel⟩

theorem witness_OutputStatisticsAndShives_2 : ∃ (s : State), s.fmt.queue = [] :=
  ⟨running, by decide +kernel⟩

theorem witness_OutputStatisticsAndShives_3 : ∃ (s : State), s.scr.tokenAt + 250 ≤ s.now ∧ s.scr.fifo.length ≤ 256 :=
  ⟨running, by decide +kernel⟩

theorem witness_OutputStatisticsAndShives_4 : ∃ (s : State), s.now < s.scr.tokenAt + 250 :=
  ⟨running.modScr fun t => { t with tokenAt := 999751 }, by decide +kernel⟩

theorem witness_ReelLayoutAndWindow_0 : ∃ (via : Via) (s : State), s.mayWrite via.path 524288 = true ∧
    s.alone = true ∧ s.layoutBusy = false ∧ s.hdmComes = false ∧ s.cutComes = false ∧
    64 * min 64 (s.fget R.relSaveSize) + 256 * s.fget R.relMemSize + 1024 ≤ 16384 :=
  ⟨{ path := .tender }, running, by decide +kernel⟩

theorem witness_ReelLayoutAndWindow_1 : ∃ (via : Via) (s : State), s.mayWrite via.path 524288 = true ∧
    s.alone = true ∧ (s.layoutBusy = true ∨ s.hdmComes = true ∨ s.cutComes = true) :=
  ⟨{ path := .tender }, running.modReel fun t => { t with chunks := 1 }, by decide +kernel⟩

theorem witness_ReelLayoutAndWindow_2 : ∃ (via : Via) (s : State), s.mayWrite via.path 524288 = true ∧
    s.alone = true ∧ s.layoutBusy = false ∧ s.hdmComes = false ∧ s.cutComes = false ∧
    16384 < 64 * min 64 (s.fget R.relSaveSize) + 256 * s.fget R.relMemSize + 1024 :=
  ⟨{ path := .tender }, State.fset R.relMemSize 60 (State.fset R.relSaveSize 1 running), by decide +kernel⟩

theorem witness_ReelLayoutAndWindow_3 : ∃ (addr : Nat) (line : Nat) (s : State), s.windowLine addr = some line ∧
    s.link.viralIn = false ∧ s.link.viralOut = false :=
  ⟨4096 + 64 * 4194303, 4194303, opened, by decide +kernel⟩

theorem witness_ReelLayoutAndWindow_4 : ∃ (addr : Nat) (line : Nat) (s : State), s.windowLine addr = some line ∧
    s.poison.contains line = false :=
  ⟨4096 + 64 * 4194303, 4194303, opened, by decide +kernel⟩

theorem witness_ReelLayoutAndWindow_5 : ∃ (addr : Nat) (line : Nat) (ue : Bool) (s : State),
    s.windowLine addr = some line ∧ (ue = true ∨ s.poison.contains line = true) :=
  ⟨4096 + 64 * 4194303, 4194303, true, opened, by decide +kernel⟩

theorem witness_ReelLayoutAndWindow_6 : ∃ (addr : Nat) (line : Nat) (s : State), s.windowLine addr = some line :=
  ⟨4096 + 64 * 4194303, 4194303, opened, by decide +kernel⟩

theorem witness_ReelLayoutAndWindow_7 : ∃ (addr : Nat) (s : State), s.windowLine addr = none ∧
    s.clk.mem = MdllState.locked :=
  ⟨4096 + 64 * 4194304, opened, by decide +kernel⟩

theorem witness_ReelLayoutAndWindow_8 : ∃ (addr : Nat) (s : State), s.link.hdmBase ≤ addr ∧
    (addr - s.link.hdmBase) % 64 = 0 ∧ s.windowThere ((addr - s.link.hdmBase) / 64) = true ∧
    s.clk.mem ≠ MdllState.locked :=
  ⟨4096, opened.modClk fun c => { c with mem := .relocking }, by decide +kernel⟩

theorem witness_ReelLayoutAndWindow_9 : ∃ (s : State), s.fu.inForce.trigSrc = 1 ∧ s.triggersOn = true ∧
    s.producing = true ∧ s.timeDue ≤ s.now ∧ s.triggersBarred = false ∧ s.freeToTrigger = true :=
  ⟨timed, by decide +kernel⟩

theorem witness_Cuts_0 : ∃ (c : Cut) (s : State), (List.filter (fun x => x.active) s.reel.live).length < 4 ∧
    List.find? (fun x => !x.active) s.reel.live = some c ∧ ∀ (o : Cut), o ∈ s.reel.cuts → o.id = c.id → o = c :=
  ⟨cut0,
    running.modReel fun r => { r with cuts := [{ cut0 with id := 2, active := true }, { cut0 with id := 3, active := true }, { cut0 with id := 4, active := true }, cut0] },
    by decide +kernel⟩

theorem witness_Cuts_1 : ∃ (s : State), 4 ≤ (List.filter (fun x => x.active) s.reel.live).length :=
  ⟨running.modReel fun r => { r with cuts := List.replicate 4 { cut0 with active := true } }, by decide +kernel⟩

theorem witness_Cuts_2 : ∃ (c : Cut) (e : DirEntry) (rest : List DirEntry) (s : State), s.reelOff = false ∧
    s.cutTurn = some c ∧ c.todo = e :: rest ∧ s.reel.dir.contains e = true :=
  ⟨{ cut0 with active := true, todo := [entry0] }, entry0, [],
    running.modReel fun r => { r with dir := [entry0], cuts := [{ cut0 with active := true, todo := [entry0] }] },
    by decide +kernel⟩

theorem witness_Cuts_3 : ∃ (c : Cut) (e : DirEntry) (rest : List DirEntry) (s : State), s.reelOff = false ∧
    s.cutTurn = some c ∧ c.todo = e :: rest ∧ s.reel.dir.contains e = false :=
  ⟨{ cut0 with active := true, todo := [entry0] }, entry0, [],
    running.modReel fun r => { r with cuts := [{ cut0 with active := true, todo := [entry0] }] }, by decide +kernel⟩

theorem witness_Cuts_4 : ∃ (s : State), s.cutTurn = none :=
  ⟨running, by decide +kernel⟩

theorem witness_Cuts_5 : ∃ (id : BitVec 16) (c : Cut) (p : PktRef) (s : State),
    List.find? (fun c => decide (c.id = id) && c.recorded && (c.written || s.dma.chans[c.dc].lostCuts.contains id)) s.reel.cuts = some c ∧
    c.written = true ∧ c.by' = some p :=
  ⟨1, { cut0 with recorded := true, written := true }, ref0,
    running.modReel fun r => { r with cuts := [{ cut0 with recorded := true, written := true }] }, by decide +kernel⟩

theorem witness_Cuts_6 : ∃ (id : BitVec 16) (c : Cut) (p : PktRef) (s : State),
    List.find? (fun c => decide (c.id = id) && c.recorded && (c.written || s.dma.chans[c.dc].lostCuts.contains id)) s.reel.cuts = some c ∧
    c.written = false ∧ c.by' = some p :=
  ⟨1, { cut0 with recorded := true }, ref0,
    (running.modReel fun r => { r with cuts := [{ cut0 with recorded := true }] }).onCh 3 fun c => { c with lostCuts := [1] },
    by decide +kernel⟩

theorem witness_Cuts_7 : ∃ (id : BitVec 16) (s : State),
    (s.reel.cuts.all fun c => decide (c.id ≠ id) || !c.recorded) = true :=
  ⟨1, running, by decide +kernel⟩

theorem witness_LinkUpRetrainAndPower_0 : ∃ (working : BitVec 8) (rev : Bool) (s : State), s.link.up = false ∧
    s.link.phyOn = true ∧ s.link.noRef = false ∧ s.link.perstLow = false ∧ s.flag R.glbLinkCtrlHold = false ∧
    bitOf working (if rev = true then 7 else 0) = true :=
  ⟨1, false, running.modLink fun t => { t with up := false }, by decide +kernel⟩

theorem witness_LinkUpRetrainAndPower_1 : ∃ (working : BitVec 8) (rev : Bool) (s : State),
    s.link.up = true ∨ s.link.phyOn = false ∨ s.link.noRef = true ∨ s.link.perstLow = true ∨
      s.flag R.glbLinkCtrlHold = true ∨ bitOf working (if rev = true then 7 else 0) = false :=
  ⟨0xFF, true, running, by decide +kernel⟩

theorem witness_LinkUpRetrainAndPower_2 : ∃ (s : State), s.link.up = true :=
  ⟨running, by decide +kernel⟩

theorem witness_LinkUpRetrainAndPower_3 : ∃ (s : State), s.link.d3 = true :=
  ⟨running.modLink fun t => { t with d3 := true }, by decide +kernel⟩

theorem witness_LinkUpRetrainAndPower_4 : ∃ (s : State), s.link.up = true ∧ s.link.d3 = false ∧
    (s.dma.chans.toList.all fun x => x.quiet) = true ∧ s.dma.pageReq = [] ∧ s.dma.invs = [] ∧ s.link.waiting = [] ∧
    (s.cmd.packets.all fun x => x.ref.tw) = true ∧
    (s.cmd.queues.toList.all fun q => !q.enabled || q.sqEmpty) = true :=
  ⟨running, by decide +kernel⟩

theorem witness_LinkUpRetrainAndPower_5 : ∃ (s : State), s.link.up = false :=
  ⟨running.modLink fun t => { t with up := false }, by decide +kernel⟩

theorem witness_LinkUpRetrainAndPower_6 : ∃ (s : State), s.link.up = true ∧ s.link.d3 = false :=
  ⟨running, by decide +kernel⟩

theorem witness_LinkLossHoldsTheChannels_0 : ∃ (s : State), s.link.up = true :=
  ⟨running, by decide +kernel⟩

theorem witness_LinkLossHoldsTheChannels_1 : ∃ (s : State), s.link.up = false :=
  ⟨running.modLink fun t => { t with up := false }, by decide +kernel⟩

theorem witness_LinkLossHoldsTheChannels_2 : ∃ (s : State), s.link.up = true ∧ s.link.d3 = false :=
  ⟨running, by decide +kernel⟩

theorem witness_DecoderCacheAndLinkTest_0 : ∃ (s : State), s.link.up = true ∧ s.link.d3 = false ∧ s.link.cxl = true ∧
    s.link.hdmLock = false :=
  ⟨running, by decide +kernel⟩

theorem witness_DecoderCacheAndLinkTest_1 : ∃ (s : State), s.link.hdmLock = true :=
  ⟨running.modLink fun t => { t with hdmLock := true }, by decide +kernel⟩

theorem witness_DecoderCacheAndLinkTest_2 : ∃ (a : Nat) (s : State), s.holdsLine a = true :=
  ⟨64, { running.modLink fun t => { t with waiting := [(0, 64, [], false)] } with pending := [.cxlCacheGrant true] },
    by decide +kernel⟩

theorem witness_DecoderCacheAndLinkTest_3 : ∃ (a : Nat) (s : State), s.holdsLine a = false ∧ s.link.up = true ∧
    s.link.cxl = true :=
  ⟨64, running, by decide +kernel⟩

theorem witness_DecoderCacheAndLinkTest_4 : ∃ (ch : Fin 16) (pa : Nat) (bytes : List Byte) (irq : Bool)
    (rest : List (Fin 16 × Nat × List Byte × Bool)) (s : State), s.link.waiting = (ch, pa, bytes, irq) :: rest ∧
    s.hostUp = true ∧ s.link.cxl = true :=
  ⟨0, 64, [], false, [], running.modLink fun t => { t with waiting := [(0, 64, [], false)] }, by decide +kernel⟩

theorem witness_DecoderCacheAndLinkTest_5 : ∃ (s : State),
    s.link.waiting = [] ∨ s.hostUp = false ∨ s.link.cxl = false :=
  ⟨running, by decide +kernel⟩

theorem witness_DecoderCacheAndLinkTest_6 : ∃ (via : Via) (s : State), s.mayWrite via.path 1028 = true ∧
    s.alone = true :=
  ⟨{ path := .tender }, running, by decide +kernel⟩

theorem witness_DecoderCacheAndLinkTest_7 : ∃ (via : Via) (mode : BitVec 2) (s : State),
    s.mayWrite via.path 1028 = true ∧ s.alone = true ∧ s.flag R.glbLinkCtrlHold = true ∧ s.link.up = false ∧
    mode ≠ 0 :=
  ⟨{ path := .tender }, 1, State.fset R.glbLinkCtrlHold 1 (running.modLink fun l => { l with up := false }),
    by decide +kernel⟩

theorem witness_SegmentsAndDelivery_0 : ∃ (ch : Fin 16) (b : OpenBuf) (u : DUnit) (n : Nat) (pa : Nat) (s : State),
    s.windowed.arbiter = some ch ∧ s.windowed.segment ch = some (u, n, pa) ∧
    (∀ (p : PktRef) (irq : Bool), u.kind ≠ UnitKind.completion p irq) ∧ (s.ch ch).buf = some b ∧
    (s.ch ch).place? = none ∧ (s.ch ch).issued + n < u.size :=
  ⟨3, buf0, { kind := .vline, bytes := List.replicate 600 1 }, 256, 0x10000,
    State.fset (R.dmaChCtrlClass 3) 2 (running.onCh 3 fun c => { c with state := .live, buf := some buf0, staging := [{ kind := .vline, bytes := List.replicate 600 1 }] }),
    ⟨by decide +kernel, by decide +kernel, fun _ _ h => UnitKind.noConfusion h, rfl, by decide +kernel⟩⟩

theorem witness_SegmentsAndDelivery_1 : ∃ (ch : Fin 16) (b : OpenBuf) (u : DUnit) (n : Nat) (pa : Nat) (s : State),
    s.windowed.arbiter = some ch ∧ s.windowed.segment ch = some (u, n, pa) ∧
    (∀ (p : PktRef) (irq : Bool), u.kind ≠ UnitKind.completion p irq) ∧ (s.ch ch).buf = some b ∧
    (s.ch ch).place? = none ∧ u.size ≤ (s.ch ch).issued + n ∧ (s.ch ch).state = ChState.live :=
  ⟨3, buf0, { kind := .vline, bytes := List.replicate 33 1 }, 64, 0x10000,
    State.fset (R.dmaChCtrlClass 3) 2 (running.onCh 3 fun c => { c with state := .live, buf := some buf0, staging := [{ kind := .vline, bytes := List.replicate 33 1 }] }),
    ⟨by decide +kernel, by decide +kernel, fun _ _ h => UnitKind.noConfusion h, rfl, by decide +kernel⟩⟩

theorem witness_SegmentsAndDelivery_2 : ∃ (ch : Fin 16) (id : BitVec 16) (p : CutPlace) (u : DUnit) (n : Nat)
    (pa : Nat) (s : State), s.windowed.arbiter = some ch ∧ s.windowed.segment ch = some (u, n, pa) ∧
    u.kind = UnitKind.cutRecord id ∧ (s.ch ch).place? = some p ∧ (s.ch ch).state = ChState.live :=
  ⟨3, 9, { id := 9, va := 0x40, pasid := none }, { kind := .cutRecord 9, bytes := List.replicate 32 0 }, 32, 0x40,
    State.fset (R.dmaChCtrlClass 3) 2 (running.onCh 3 fun c => { c with state := .live, staging := [{ kind := .cutRecord 9, bytes := List.replicate 32 0 }], places := [{ id := 9, va := 0x40, pasid := none }] }),
    by decide +kernel⟩

theorem witness_SegmentsAndDelivery_3 : ∃ (ch : Fin 16) (p : PktRef) (irq : Bool) (u : DUnit) (n : Nat) (pa : Nat)
    (s : State), s.windowed.arbiter = some ch ∧ s.windowed.segment ch = some (u, n, pa) ∧
    u.kind = UnitKind.completion p irq ∧ (s.ch ch).state = ChState.live :=
  ⟨3, ref0, false, { kind := .completion ref0 false, bytes := List.replicate 16 0 }, 16, 0,
    State.fset (R.dmaChCtrlClass 3) 1 (running.onCh 3 fun c => { c with state := .live, staging := [{ kind := .completion ref0 false, bytes := List.replicate 16 0 }] }),
    by decide +kernel⟩

theorem witness_SegmentsAndDelivery_4 : ∃ (ch : Fin 16) (nt : Notice) (pa : Nat) (s : State),
    s.windowed.arbiter = some ch ∧ s.windowed.noticeReady ch = some (nt, pa) :=
  ⟨3, { status := 0x80 }, 0,
    State.fset (R.dmaChCtrlClass 3) 2 (running.onCh 3 fun c => { c with state := .live, notices := [{ status := 0x80 }] }),
    by decide +kernel⟩

theorem witness_SegmentsAndDelivery_5 : ∃ (ch : Fin 16) (nt : Notice) (pa : Nat) (s : State),
    s.windowed.arbiter = some ch ∧ s.windowed.noticeReady ch = some (nt, pa) ∧ (s.ch ch).state ≠ ChState.disabled :=
  ⟨3, { status := 0x80 }, 0,
    State.fset (R.dmaChCtrlClass 3) 2 (running.onCh 3 fun c => { c with state := .live, notices := [{ status := 0x80 }] }),
    by decide +kernel⟩

theorem witness_SegmentsAndDelivery_6 : ∃ (ch : Fin 16) (u : DUnit) (n : Nat) (pa : Nat) (s : State),
    s.windowed.arbiter = some ch ∧ s.windowed.segment ch = some (u, n, pa) ∧ (s.ch ch).state = ChState.live :=
  ⟨3, { kind := .vline, bytes := List.replicate 600 1 }, 256, 0x10000,
    State.fset (R.dmaChCtrlClass 3) 2 (running.onCh 3 fun c => { c with state := .live, buf := some buf0, staging := [{ kind := .vline, bytes := List.replicate 600 1 }] }),
    by decide +kernel⟩

theorem witness_SegmentsAndDelivery_7 : ∃ (ch : Fin 16) (u : DUnit) (r : DropRun) (s : State),
    s.windowed.arbiter = some ch ∧ s.windowed.judged ch = some u ∧ (s.ch ch).front = some r ∧ r.units < 65535 ∧
    (s.ch ch).state = ChState.live :=
  ⟨3, { kind := .vline, bytes := List.replicate 600 1 }, run1,
    State.fset (R.dmaChCtrlClass 3) 2 (running.onCh 3 fun c => { c with state := .live, buf := some buf0, front := some run1, staging := [{ kind := .vline, bytes := List.replicate 600 1 }] }),
    by decide +kernel⟩

theorem witness_SegmentsAndDelivery_8 : ∃ (s : State), s.windowed.arbiter = none :=
  ⟨running, by decide +kernel⟩

theorem witness_DescriptorsBuffersAndDoorbells_0 : ∃ (ch : Fin 16) (b : OpenBuf) (t : Nat) (s : State),
    (s.ch ch).buf = some b ∧ b.opened = some t ∧ b.timeout ≠ 0 ∧ (s.ch ch).inProgress = false ∧
    t + 1000 * b.timeout ≤ s.now :=
  ⟨0, { buf0 with opened := some 999000, timeout := 1 }, 999000,
    running.onCh 0 fun c => { c with buf := some { buf0 with opened := some 999000, timeout := 1 } },
    by decide +kernel⟩

theorem witness_DescriptorsBuffersAndDoorbells_1 : ∃ (ch : Fin 16) (b : OpenBuf) (s : State), (s.ch ch).buf = some b ∧
    (b.opened = none ∨ b.timeout = 0 ∨ (s.ch ch).inProgress = true ∨ ∃ t, b.opened = some t ∧
    s.now < t + 1000 * b.timeout) :=
  ⟨0, { buf0 with opened := some 999001, timeout := 1 },
    running.onCh 0 fun c => { c with buf := some { buf0 with opened := some 999001, timeout := 1 } },
    ⟨rfl, .inr (.inr (.inr ⟨999001, rfl, by decide +kernel⟩))⟩⟩

theorem witness_DescriptorsBuffersAndDoorbells_2 : ∃ (ch : Fin 16) (d : BitVec 256) (s : State),
    (s.ch ch).enabled = true ∧ (s.ch ch).state ≠ ChState.held ∧ (s.ch ch).buf = none ∧ (s.ch ch).dEmpty = false ∧
    s.hostUp = true ∧ (s.translate (s.ch ch).pasid? (s.ch ch).descVa).isSome = true ∧
    (bitOf d 159 = true → s.link.pasid = true) :=
  ⟨0, 0, running.onCh 0 fun c => { c with state := .live, dTail := 1 }, by decide +kernel⟩

theorem witness_DescriptorsBuffersAndDoorbells_3 : ∃ (ch : Fin 16) (d : BitVec 256) (s : State),
    (s.ch ch).enabled = true ∧ (s.ch ch).state ≠ ChState.held ∧ (s.ch ch).buf = none ∧ (s.ch ch).dEmpty = false ∧
    s.hostUp = true ∧ (s.translate (s.ch ch).pasid? (s.ch ch).descVa).isSome = true ∧ bitOf d 159 = true ∧
    s.link.pasid = false :=
  ⟨0, 1 <<< 159, running.onCh 0 fun c => { c with state := .live, dTail := 1 }, by decide +kernel⟩

theorem witness_DescriptorsBuffersAndDoorbells_4 : ∃ (ch : Fin 16) (r : FetchResult) (s : State),
    (s.ch ch).enabled = true ∧ (s.ch ch).state ≠ ChState.held ∧ (s.ch ch).buf = none ∧ (s.ch ch).dEmpty = false ∧
    s.hostUp = true ∧ (s.translate (s.ch ch).pasid? (s.ch ch).descVa).isSome = true ∧ r ≠ FetchResult.ok :=
  ⟨0, .refused, running.onCh 0 fun c => { c with state := .live, dTail := 1 }, by decide +kernel⟩

theorem witness_DescriptorsBuffersAndDoorbells_5 : ∃ (ch : Fin 16) (s : State),
    (s.ch ch).enabled = false ∨ (s.ch ch).state = ChState.held ∨ (s.ch ch).buf.isSome = true ∨ (s.ch ch).dEmpty =
      true ∨ s.hostUp = false ∨ s.translate (s.ch ch).pasid? (s.ch ch).descVa = none :=
  ⟨0, running, by decide +kernel⟩

theorem witness_DescriptorsBuffersAndDoorbells_6 : ∃ (ch : Fin 16) (s : State), (s.ch ch).state ≠ ChState.disabled :=
  ⟨0, running.onCh 0 fun c => { c with state := .live, dTail := 1 }, by decide +kernel⟩

theorem witness_DescriptorsBuffersAndDoorbells_7 : ∃ (ch : Fin 16) (s : State), (s.ch ch).state = ChState.disabled :=
  ⟨0, running, by decide +kernel⟩

theorem witness_TranslationsAndPageRequests_0 : ∃ (ch : Fin 16) (nth : Nat) (a : Ask) (s : State),
    (s.ch ch).asks[nth]? = some a ∧ a.kind ≠ TransFor.prefetch :=
  ⟨0, 0, { kind := .segment, va := 0x1000 },
    (running.onCh 0 fun c => { c with state := .live, asks := [{ kind := .segment, va := 0x1000 }] }).modLink fun l => { l with ats := true, pri := true },
    by decide +kernel⟩

theorem witness_TranslationsAndPageRequests_1 : ∃ (ch : Fin 16) (nth : Nat) (a : Ask) (s : State),
    (s.ch ch).asks[nth]? = some a ∧ a.kind = TransFor.prefetch :=
  ⟨0, 0, { kind := .prefetch, va := 0x1000 },
    (running.onCh 0 fun c => { c with state := .live, asks := [{ kind := .prefetch, va := 0x1000 }] }).modLink fun l => { l with ats := true, pri := true },
    by decide +kernel⟩

theorem witness_TranslationsAndPageRequests_2 : ∃ (ch : Fin 16) (nth : Nat) (a : Ask) (valid : Bool) (write : Bool)
    (s : State), (s.ch ch).asks[nth]? = some a ∧ (valid = false ∨ write = false) ∧ a.kind ≠ TransFor.prefetch ∧
    s.link.ats = true ∧ (s.ch ch).state ≠ ChState.disabled ∧ s.dma.priFail = false ∧ s.link.pri = true ∧
    s.dma.pageReq.length < 64 :=
  ⟨0, 1, { kind := .segment, va := 0x1000 }, true, false,
    (running.onCh 0 fun c => { c with state := .live, asks := [{ kind := .prefetch, va := 0x2000 }, { kind := .segment, va := 0x1000 }] }).modLink fun l => { l with ats := true, pri := true },
    by decide +kernel⟩

theorem witness_TranslationsAndPageRequests_3 : ∃ (ch : Fin 16) (nth : Nat) (valid : Bool) (s : State),
    (s.ch ch).asks[nth]? = none ∧ ((s.ch ch).asks ≠ [] ∨ valid = true ∨ s.link.ats = true) :=
  ⟨0, 0, true, running, by decide +kernel⟩

theorem witness_TranslationsAndPageRequests_4 : ∃ (ch : Fin 16) (s : State), (s.ch ch).asks = [] ∧
    s.link.ats = false ∧ (s.ch ch).enabled = true ∧ (s.ch ch).state ≠ ChState.held :=
  ⟨0, running.onCh 0 fun c => { c with state := .live }, by decide +kernel⟩

theorem witness_TranslationsAndPageRequests_5 : ∃ (ch : Fin 16) (nth : Nat) (r : PageReq) (s : State),
    (List.filter (fun x => decide (x.ch = ch)) s.dma.pageReq)[nth]? = some r ∧ s.dma.priQ = [] ∧ r.live = true ∧
    (s.ch ch).fault = true ∧ s.hostUp = true ∧ s.link.ats = true :=
  ⟨0, 0, { ch := 0, page := 0x1000, tick := 0 },
    State.fset R.dmaGlbCtrlPriTimeout 1 (((running.onCh 0 fun c => { c with fault := true }).modDma fun d => { d with pageReq := [{ ch := 0, page := 0x1000, tick := 0 }] }).modLink fun l => { l with ats := true }),
    by decide +kernel⟩

theorem witness_TranslationsAndPageRequests_6 : ∃ (ch : Fin 16) (nth : Nat) (r : PageReq) (c : PageCode) (s : State),
    (List.filter (fun x => decide (x.ch = ch)) s.dma.pageReq)[nth]? = some r ∧ s.dma.priQ = [] ∧ r.live = true ∧
    (s.ch ch).fault = true ∧ c ≠ PageCode.success :=
  ⟨0, 0, { ch := 0, page := 0x1000, tick := 0 }, .responseFailure,
    (running.onCh 0 fun c => { c with fault := true }).modDma fun d => { d with pageReq := [{ ch := 0, page := 0x1000, tick := 0 }] },
    by decide +kernel⟩

theorem witness_TranslationsAndPageRequests_7 : ∃ (ch : Fin 16) (nth : Nat) (r : PageReq) (s : State),
    (List.filter (fun x => decide (x.ch = ch)) s.dma.pageReq)[nth]? = some r ∧ s.dma.priQ = [] ∧
    (r.live = false ∨ (s.ch ch).fault = false) :=
  ⟨0, 0, { ch := 0, page := 0x1000, tick := 0 },
    State.fset R.dmaGlbCtrlPriTimeout 1 (((running.onCh 0 fun c => { c with fault := false }).modDma fun d => { d with pageReq := [{ ch := 0, page := 0x1000, tick := 0 }] }).modLink fun l => { l with ats := true }),
    by decide +kernel⟩

theorem witness_TranslationsAndPageRequests_8 : ∃ (ch : Fin 16) (nth : Nat) (s : State),
    (List.filter (fun x => decide (x.ch = ch)) s.dma.pageReq)[nth]? = none :=
  ⟨0, 0, running, by decide +kernel⟩

theorem witness_TranslationsAndPageRequests_9 : ∃ (ch : Fin 16) (r : PageReq) (s : State),
    List.find? (fun r => decide (r.ch = ch ∧
    r.tick + s.fget R.dmaGlbCtrlPriTimeout * 1000000 ≤ s.now)) s.dma.pageReq = some r ∧ s.dma.priQ = [] ∧
    s.fget R.dmaGlbCtrlPriTimeout ≠ 0 ∧ r.live = true :=
  ⟨0, { ch := 0, page := 0x1000, tick := 0 },
    State.fset R.dmaGlbCtrlPriTimeout 1 (((running.onCh 0 fun c => { c with fault := false }).modDma fun d => { d with pageReq := [{ ch := 0, page := 0x1000, tick := 0 }] }).modLink fun l => { l with ats := true }),
    by decide +kernel⟩

theorem witness_TranslationsAndPageRequests_10 : ∃ (ch : Fin 16) (s : State),
    s.fget R.dmaGlbCtrlPriTimeout = 0 ∨
      (s.dma.pageReq.all fun r => decide (r.ch ≠ ch ∨ s.now < r.tick + s.fget R.dmaGlbCtrlPriTimeout * 1000000)) =
      true :=
  ⟨0,
    State.fset R.dmaGlbCtrlPriTimeout 1 (((running.onCh 0 fun c => { c with fault := true }).modDma fun d => { d with pageReq := [{ ch := 0, page := 0x1000, tick := 1 }] }).modLink fun l => { l with ats := true }),
    by decide +kernel⟩

theorem witness_ReplayEnableAndStop_0 : ∃ (ch : Fin 16) (ue : List Nat) (tags : List (Nat × BitVec 6)) (u : DUnit)
    (rest : List SaveItem) (s : State), (s.ch ch).state = ChState.replaying ∧ (s.ch ch).staging = [] ∧
    s.reelOff = false ∧ (s.ch ch).saved = SaveItem.unit u :: rest ∧ u.kind ≠ UnitKind.gone ∧
    (∀ (w : Nat), w ∈ ue → u.size / 32 ≤ w) ∧
    ∀ (w : Nat × BitVec 6), w ∈ tags → w.fst < u.size / 32 → w.snd = (s.ch ch).saveTag w.fst :=
  ⟨0, [1], [], { kind := .vline, bytes := List.replicate 32 1 }, [],
    running.onCh 0 fun c => { c with state := .replaying, saved := [.unit { kind := .vline, bytes := List.replicate 32 1 }] },
    ⟨rfl, rfl, rfl, rfl, fun h => UnitKind.noConfusion h, by decide +kernel, fun _ h => (List.not_mem_nil h).elim⟩⟩

theorem witness_ReplayEnableAndStop_1 : ∃ (ch : Fin 16) (ue : List Nat) (tags : List (Nat × BitVec 6)) (u : DUnit)
    (rest : List SaveItem) (s : State), (s.ch ch).state = ChState.replaying ∧ (s.ch ch).staging = [] ∧
    s.reelOff = false ∧ (s.ch ch).saved = SaveItem.unit u :: rest ∧ u.kind ≠ UnitKind.gone ∧ u.isPlace = false ∧
    ((∃ w, w ∈ ue ∧ w < u.size / 32) ∨ ∃ w, w ∈ tags ∧ w.fst < u.size / 32 ∧ w.snd ≠ (s.ch ch).saveTag w.fst) :=
  ⟨0, [0], [], { kind := .vline, bytes := List.replicate 32 1 }, [],
    running.onCh 0 fun c => { c with state := .replaying, saved := [.unit { kind := .vline, bytes := List.replicate 32 1 }] },
    ⟨rfl, rfl, rfl, rfl, fun h => UnitKind.noConfusion h, rfl, .inl ⟨0, by decide +kernel, by decide +kernel⟩⟩⟩

theorem witness_ReplayEnableAndStop_2 : ∃ (ch : Fin 16) (r : DropRun) (rest : List SaveItem) (s : State),
    (s.ch ch).state = ChState.replaying ∧ (s.ch ch).staging = [] ∧ s.reelOff = false ∧
    (s.ch ch).saved = SaveItem.marker r :: rest :=
  ⟨0, { cause := 1, units := 1, first := 0, last := 0, firstWc := 0, lastWc := 0, broke := false }, [],
    running.onCh 0 fun c => { c with state := .replaying, saved := [.marker { cause := 1, units := 1, first := 0, last := 0, firstWc := 0, lastWc := 0, broke := false }] },
    by decide +kernel⟩

theorem witness_ReplayEnableAndStop_3 : ∃ (ch : Fin 16) (s : State),
    (s.ch ch).state ≠ ChState.replaying ∨ (s.ch ch).staging ≠ [] ∨ s.reelOff = true :=
  ⟨0, running, by decide +kernel⟩

theorem witness_ReplayEnableAndStop_4 : ∃ (via : Via) (ch : Fin 16) (w : Word) (s : State),
    s.mayWrite via.path (589824 + 512 * ↑ch) = true ∧ s.alone = true ∧ bitOf (s.reg (589824 + 512 * ↑ch)) 0 = false ∧
    (s.ch ch).state = ChState.disabled ∧ (s.ch ch).staging = [] ∧ (s.ch ch).saved = [] ∧ bits w 4 3 ≤ 4 ∧
    s.flag (R.dmaChPasidPv ↑ch) = true ∧ s.link.pasid = true ∧ bitOf w 2 = false ∧ s.hostUp = true :=
  ⟨{ path := .tender }, 0, 1, State.fset (R.dmaChPasidPv 0) 1 (running.modLink fun l => { l with pasid := true }),
    by decide +kernel⟩

theorem witness_ReplayEnableAndStop_5 : ∃ (via : Via) (ch : Fin 16) (w : Word) (s : State),
    s.mayWrite via.path (589824 + 512 * ↑ch) = true ∧ s.alone = true ∧ bitOf (s.reg (589824 + 512 * ↑ch)) 0 = false ∧
    (s.ch ch).state = ChState.disabled ∧ (s.ch ch).staging = [] ∧ (s.ch ch).saved = [] ∧ bits w 4 3 ≤ 4 ∧
    s.flag (R.dmaChPasidPv ↑ch) = false ∧ bitOf w 2 = false ∧ s.hostUp = true :=
  ⟨{ path := .tender }, 0, 1, running, by decide +kernel⟩

theorem witness_ReplayEnableAndStop_6 : ∃ (via : Via) (ch : Fin 16) (w : Word) (s : State),
    s.mayWrite via.path (589824 + 512 * ↑ch) = true ∧ s.alone = true ∧ bitOf (s.reg (589824 + 512 * ↑ch)) 0 = false ∧
    (s.ch ch).state = ChState.held ∧ ((s.ch ch).staging ≠ [] ∨ (s.ch ch).saved ≠ []) ∧
    bits (s.reg (589824 + 512 * ↑ch)) 4 3 ≤ 4 ∧ s.flag (R.dmaChPasidPv ↑ch) = false ∧ bitOf w 1 = true ∧
    bitOf w 2 = false ∧ s.hostUp = true :=
  ⟨{ path := .tender }, 0, 3, running.onCh 0 fun c => { c with state := .held, staging := [{ kind := .vline }] },
    by decide +kernel⟩

theorem witness_ReplayEnableAndStop_7 : ∃ (via : Via) (ch : Fin 16) (s : State),
    s.mayWrite via.path (589824 + 512 * ↑ch) = true ∧ s.alone = true ∧ bitOf (s.reg (589824 + 512 * ↑ch)) 0 = true ∧
    (s.ch ch).state ≠ ChState.disabled :=
  ⟨{ path := .tender }, 0, State.setReg 0x090000 1 (running.onCh 0 fun c => { c with state := .live }),
    by decide +kernel⟩

theorem witness_ReplayEnableAndStop_8 : ∃ (via : Via) (ch : Fin 16) (s : State),
    s.mayWrite via.path (589824 + 512 * ↑ch) = true ∧ s.alone = true ∧ (s.ch ch).enabled = true :=
  ⟨{ path := .tender }, 0, State.setReg 0x090000 1 (running.onCh 0 fun c => { c with state := .live }),
    by decide +kernel⟩

theorem witness_QueuesPacketsAndMailbox_0 : ∃ (q : Fin 8) (s : State), (s.queue q).enabled = true :=
  ⟨0, running.onQueue 0 fun q => { q with enabled := true }, by decide +kernel⟩

theorem witness_QueuesPacketsAndMailbox_1 : ∃ (q : Fin 8) (s : State), (s.queue q).enabled = false :=
  ⟨0, running, by decide +kernel⟩

theorem witness_QueuesPacketsAndMailbox_2 : ∃ (q : Fin 8) (w : BitVec 512) (s : State), s.nextQueue = some q ∧
    s.cmd.packets.length < 64 ∧ s.hostUp = true ∧ (s.translate (s.queue q).pasid? (s.queue q).fetchVa).isSome = true ∧
    s.packet { tw := false, queue := q, tag := BitVec.extractLsb' 16 16 w } = none :=
  ⟨2, 0, queued, by decide +kernel⟩

theorem witness_QueuesPacketsAndMailbox_3 : ∃ (q : Fin 8) (w : BitVec 512) (k : Packet) (s : State),
    s.nextQueue = some q ∧ s.cmd.packets.length < 64 ∧ s.hostUp = true ∧
    (s.translate (s.queue q).pasid? (s.queue q).fetchVa).isSome = true ∧
    s.packet { tw := false, queue := q, tag := BitVec.extractLsb' 16 16 w } = some k :=
  ⟨2, 0, { pkt 0x0000 0 [] false with ref := { tw := false, queue := 2, tag := 0 } },
    queued.modCmd fun c => { c with packets := [{ pkt 0x0000 0 [] false with ref := { tw := false, queue := 2, tag := 0 } }] },
    by decide +kernel⟩

theorem witness_QueuesPacketsAndMailbox_4 : ∃ (q : Fin 8) (s : State),
    s.translate (s.queue q).pasid? (s.queue q).fetchVa = none :=
  ⟨2, queued.modLink fun l => { l with ats := true }, by decide +kernel⟩

theorem witness_QueuesPacketsAndMailbox_5 : ∃ (q : Fin 8) (r : FetchResult) (s : State), s.nextQueue = some q ∧
    s.cmd.packets.length < 64 ∧ s.hostUp = true ∧ r ≠ FetchResult.ok :=
  ⟨2, .refused, queued, by decide +kernel⟩

theorem witness_QueuesPacketsAndMailbox_6 : ∃ (q : Fin 8) (s : State),
    s.cmd.packets.length ≥ 64 ∨ s.nextQueue ≠ some q ∨ s.hostUp = false :=
  ⟨2, running, by decide +kernel⟩

theorem witness_QueuesPacketsAndMailbox_7 : ∃ (s : State) (p : Packet),
    List.find? s.mayDispatch s.cmd.packets = some p ∧ s.formatFault p = none :=
  ⟨cmd ({ pkt 0x0000 0 [] false with stage := .fetched }), { pkt 0x0000 0 [] false with stage := .fetched },
    by decide +kernel⟩

theorem witness_QueuesPacketsAndMailbox_8 : ∃ (s : State) (p : Packet) (st : Nat) (det : Nat),
    List.find? s.mayDispatch s.cmd.packets = some p ∧ s.formatFault p = some (st, det) :=
  ⟨cmd ({ pkt 0xFFFF 0 [] false with stage := .fetched }), { pkt 0xFFFF 0 [] false with stage := .fetched }, 1, 0,
    by decide +kernel⟩

theorem witness_QueuesPacketsAndMailbox_9 : ∃ (s : State), List.find? s.mayDispatch s.cmd.packets = none :=
  ⟨running, by decide +kernel⟩

theorem witness_QueuesPacketsAndMailbox_10 : ∃ (r : PktRef) (data : List Byte) (s : State) (p : Packet),
    wfData data = true ∧ s.packet r = some p ∧ r.tw = false ∧ p.stage = PktStage.dispatched ∧ p.data = none ∧
    0 < p.dlen ∧ p.noData = false ∧ s.hostUp = true ∧ s.gap p.pasid p.dva p.dlen = none :=
  ⟨ref0, List.replicate 8 0, cmd ({ pkt 0x0103 0 [1, 2, 3, 4, 5, 6, 7, 8] false with data := none }),
    { pkt 0x0103 0 [1, 2, 3, 4, 5, 6, 7, 8] false with data := none }, by decide +kernel⟩

theorem witness_QueuesPacketsAndMailbox_11 : ∃ (r : PktRef) (data : List Byte) (s : State) (p : Packet),
    wfData data = true ∧ s.packet r = some p ∧ r.tw = false ∧ p.stage = PktStage.dispatched ∧ p.data = none ∧
    0 < p.dlen ∧ p.noData = true :=
  ⟨ref0, List.replicate 8 0, cmd ({ pkt 0x0103 0 [1, 2, 3, 4, 5, 6, 7, 8] false with data := none, noData := true }),
    { pkt 0x0103 0 [1, 2, 3, 4, 5, 6, 7, 8] false with data := none, noData := true }, by decide +kernel⟩

theorem witness_QueuesPacketsAndMailbox_12 : ∃ (r : PktRef) (f : FetchResult) (data : List Byte) (s : State)
    (p : Packet), wfData data = true ∧ s.packet r = some p ∧ r.tw = false ∧ p.stage = PktStage.dispatched ∧
    p.data = none ∧ 0 < p.dlen ∧ p.noData = false ∧ s.hostUp = true ∧ f = FetchResult.refused :=
  ⟨ref0, .refused, List.replicate 8 0, cmd ({ pkt 0x0103 0 [1, 2, 3, 4, 5, 6, 7, 8] false with data := none }),
    { pkt 0x0103 0 [1, 2, 3, 4, 5, 6, 7, 8] false with data := none }, by decide +kernel⟩

theorem witness_QueuesPacketsAndMailbox_13 : ∃ (r : PktRef) (f : FetchResult) (data : List Byte) (s : State)
    (p : Packet), wfData data = true ∧ s.packet r = some p ∧ r.tw = false ∧ p.stage = PktStage.dispatched ∧
    p.data = none ∧ 0 < p.dlen ∧ p.noData = false ∧ s.hostUp = true ∧ f = FetchResult.uncorrectable :=
  ⟨ref0, .uncorrectable, List.replicate 8 0, cmd ({ pkt 0x0103 0 [1, 2, 3, 4, 5, 6, 7, 8] false with data := none }),
    { pkt 0x0103 0 [1, 2, 3, 4, 5, 6, 7, 8] false with data := none }, by decide +kernel⟩

theorem witness_QueuesPacketsAndMailbox_14 : ∃ (data : List Byte), wfData data = false :=
  ⟨List.replicate 65537 0, by decide +kernel⟩

theorem witness_QueuesPacketsAndMailbox_15 : ∃ (via : Via) (q : Fin 8) (s : State),
    s.mayWrite via.path (655360 + 64 * ↑q) = true ∧ s.alone = true ∧ (s.queue q).enabled = false :=
  ⟨{ path := .tender }, 0, running, by decide +kernel⟩

theorem witness_QueuesPacketsAndMailbox_16 : ∃ (via : Via) (q : Fin 8) (s : State),
    s.mayWrite via.path (655360 + 64 * ↑q) = true ∧ s.alone = true ∧ bitOf (s.reg (655360 + 64 * ↑q)) 0 = true :=
  ⟨{ path := .tender }, 0, State.setReg 0x0A0000 1 running, by decide +kernel⟩

theorem witness_QueuesPacketsAndMailbox_17 : ∃ (via : Via) (s : State), s.mayWrite via.path 659520 = true ∧
    s.alone = true ∧ s.cmd.busy = false :=
  ⟨{ path := .tender }, running, by decide +kernel⟩

theorem witness_QueuesPacketsAndMailbox_18 : ∃ (via : Via) (s : State), s.mayWrite via.path 659520 = true ∧
    s.alone = true ∧ s.cmd.busy = true :=
  ⟨{ path := .tender }, running.modCmd fun t => { t with busy := true }, by decide +kernel⟩

theorem witness_CompletionsIdentityAndAbort_0 : ∃ (r : PktRef) (k : Packet) (s : State),
    s.started r 0 false = some k :=
  ⟨ref0, pkt 0x0000 0 [] false, cmd (pkt 0x0000 0 [] false), by decide +kernel⟩

theorem witness_CompletionsIdentityAndAbort_1 : ∃ (r : PktRef) (k : Packet) (s : State),
    s.started r 2 false = some k ∧ r.tw = true :=
  ⟨mbox, { pkt 0x0002 0 [] false with ref := mbox }, cmd ({ pkt 0x0002 0 [] false with ref := mbox }),
    by decide +kernel⟩

theorem witness_CompletionsIdentityAndAbort_2 : ∃ (r : PktRef) (k : Packet) (s : State),
    s.started r 0 false = some k ∧ r.tw = false ∧ k.lost = false ∧ (s.queue r.queue).enabled = true :=
  ⟨ref0, pkt 0x0000 0 [] false, ((cmd (pkt 0x0000 0 [] false))).onQueue 0 fun q => { q with enabled := true },
    by decide +kernel⟩

theorem witness_CompletionsIdentityAndAbort_3 : ∃ (r : PktRef) (k : Packet) (s : State),
    s.started r 0 false = some k ∧ r.tw = false ∧ k.lost = true :=
  ⟨ref0, { pkt 0x0000 0 [] false with lost := true }, cmd ({ pkt 0x0000 0 [] false with lost := true }),
    by decide +kernel⟩

theorem witness_CompletionsIdentityAndAbort_4 : ∃ (r : PktRef) (k : Packet) (s : State),
    s.started r 1 false = some k :=
  ⟨ref0, pkt 0x0001 0 [] false, cmd (pkt 0x0001 0 [] false), by decide +kernel⟩

theorem witness_CompletionsIdentityAndAbort_5 : ∃ (r : PktRef) (k : Packet) (s : State),
    s.started r 2 false = some k :=
  ⟨ref0, pkt 0x0002 0 [] false, cmd (pkt 0x0002 0 [] false), by decide +kernel⟩

theorem witness_CompletionsIdentityAndAbort_6 : ∃ (r : PktRef) (q : PktRef) (k : Packet) (o : Packet) (s : State),
    s.started r 3 false = some k ∧
    q = { tw := k.par 2 1 / 8 % 2 == 1, queue := if k.par 2 1 / 8 % 2 = 1 then 0 else Fin.ofNat 8 (k.par 2 1), tag := BitVec.ofNat 16 (k.par 0 2) } ∧
    s.packet q = some o ∧ Option.any (fun x => x.ref == q) s.cmd.mail = false ∧
    Option.any (fun x => x.fst == q) s.cmd.message = false ∧ o.stage = PktStage.fetched ∧
    Option.any (fun x => x.fst == q) s.cmd.capture = false :=
  ⟨ref0, { ref0 with tag := 5 }, pkt 0x0003 5 [] false,
    { pkt 0x0000 0 [] false with ref := { ref0 with tag := 5 }, stage := .fetched },
    (cmd (pkt 0x0003 5 [] false)).modCmd fun c => { c with packets := c.packets ++ [{ pkt 0x0000 0 [] false with ref := { ref0 with tag := 5 }, stage := .fetched }]  },
    by decide +kernel⟩

theorem witness_CompletionsIdentityAndAbort_7 : ∃ (r : PktRef) (q : PktRef) (ends : Bool) (k : Packet) (o : Packet)
    (s : State), s.started r 3 false = some k ∧
    q = { tw := k.par 2 1 / 8 % 2 == 1, queue := if k.par 2 1 / 8 % 2 = 1 then 0 else Fin.ofNat 8 (k.par 2 1), tag := BitVec.ofNat 16 (k.par 0 2) } ∧
    s.packet q = some o ∧ Option.any (fun x => x.ref == q) s.cmd.mail = false ∧
    Option.any (fun x => x.fst == q) s.cmd.message = false ∧ ends = false ∧ o.op = 512 ∧ o.stage = PktStage.running ∧
    Option.any (fun x => x.fst == q) s.cmd.capture = true :=
  ⟨ref0, { ref0 with tag := 5 }, false, pkt 0x0003 5 [] false,
    { pkt 0x0200 0 [] false with ref := { ref0 with tag := 5 }, stage := .running },
    (cmd (pkt 0x0003 5 [] false)).modCmd fun c => { c with packets := c.packets ++ [{ pkt 0x0200 0 [] false with ref := { ref0 with tag := 5 }, stage := .running }] , capture := some ({ ref0 with tag := 5 }, 1, 0, 4, 0, true) },
    by decide +kernel⟩

theorem witness_CompletionsIdentityAndAbort_8 : ∃ (r : PktRef) (q : PktRef) (ends : Bool) (k : Packet) (o : Packet)
    (s : State), s.started r 3 false = some k ∧
    q = { tw := k.par 2 1 / 8 % 2 == 1, queue := if k.par 2 1 / 8 % 2 = 1 then 0 else Fin.ofNat 8 (k.par 2 1), tag := BitVec.ofNat 16 (k.par 0 2) } ∧
    s.packet q = some o ∧ Option.any (fun x => x.ref == q) s.cmd.mail = false ∧
    Option.any (fun x => x.fst == q) s.cmd.message = false ∧ (endable o.op = false ∨ ends = true) ∧
    o.stage ≠ PktStage.fetched :=
  ⟨ref0, { ref0 with tag := 5 }, false, pkt 0x0003 5 [] false,
    { pkt 0x0000 0 [] false with ref := { ref0 with tag := 5 } },
    (cmd (pkt 0x0003 5 [] false)).modCmd fun c => { c with packets := c.packets ++ [{ pkt 0x0000 0 [] false with ref := { ref0 with tag := 5 } }]  },
    by decide +kernel⟩

theorem witness_CompletionsIdentityAndAbort_9 : ∃ (r : PktRef) (q : PktRef) (k : Packet) (s : State),
    s.started r 3 false = some k ∧
    q = { tw := k.par 2 1 / 8 % 2 == 1, queue := if k.par 2 1 / 8 % 2 = 1 then 0 else Fin.ofNat 8 (k.par 2 1), tag := BitVec.ofNat 16 (k.par 0 2) } ∧
    s.packet q = none ∧ Option.any (fun x => x.ref == q) s.cmd.mail = false :=
  ⟨ref0, { ref0 with tag := 5 }, pkt 0x0003 5 [] false, cmd (pkt 0x0003 5 [] false), by decide +kernel⟩

theorem witness_CompletionsIdentityAndAbort_10 : ∃ (r : PktRef) (k : Packet) (s : State),
    s.started r 4 false = some k ∧ k.par 0 2 ≠ 22354 :=
  ⟨ref0, pkt 0x0004 0x5751 [] false, cmd (pkt 0x0004 0x5751 [] false), by decide +kernel⟩

theorem witness_CompletionsIdentityAndAbort_11 : ∃ (r : PktRef) (k : Packet) (s : State),
    s.started r 4 false = some k ∧ k.par 0 2 = 22354 ∧ s.cmd.packets = [k] ∧ s.cmd.mail = none :=
  ⟨ref0, pkt 0x0004 0x5752 [] false, cmd (pkt 0x0004 0x5752 [] false), by decide +kernel⟩

theorem witness_CompletionsIdentityAndAbort_12 : ∃ (r : PktRef) (k : Packet) (s : State),
    s.started r 4 false = some k ∧ k.par 0 2 = 22354 ∧ s.cmd.packets = [k] ∧ s.cmd.mail = none ∧ r.tw = true :=
  ⟨mbox, { pkt 0x0004 0x5752 [] false with ref := mbox }, cmd ({ pkt 0x0004 0x5752 [] false with ref := mbox }),
    by decide +kernel⟩

theorem witness_CompletionsIdentityAndAbort_13 : ∃ (r : PktRef) (k : Packet) (o : Packet) (s : State),
    s.started r 4 false = some k ∧ k.par 0 2 = 22354 ∧ s.cmd.packets = [k, o] ∧ s.cmd.mail = none ∧ o.ref ≠ r ∧
    o.stage = PktStage.fetched :=
  ⟨ref0, pkt 0x0004 0x5752 [] false, { pkt 0x0000 0 [] false with ref := { ref0 with tag := 5 }, stage := .fetched },
    (cmd (pkt 0x0004 0x5752 [] false)).modCmd fun c => { c with packets := c.packets ++ [{ pkt 0x0000 0 [] false with ref := { ref0 with tag := 5 }, stage := .fetched }]  },
    by decide +kernel⟩

theorem witness_CompletionsIdentityAndAbort_14 : ∃ (r : PktRef) (k : Packet) (o : Packet) (s : State),
    s.started r 4 false = some k ∧ k.par 0 2 = 22354 ∧
    (∀ (p : Packet), p ∈ s.cmd.packets → p.stage ≠ PktStage.fetched) ∧ o ∈ s.cmd.packets ∧ o.ref ≠ r ∧
    s.cmd.mail = none :=
  ⟨ref0, pkt 0x0004 0x5752 [] false, { pkt 0x0000 0 [] false with ref := { ref0 with tag := 5 } },
    (cmd (pkt 0x0004 0x5752 [] false)).modCmd fun c => { c with packets := c.packets ++ [{ pkt 0x0000 0 [] false with ref := { ref0 with tag := 5 } }]  },
    by decide +kernel⟩

theorem witness_RegisterAndStagingOpcodes_0 : ∃ (r : PktRef) (k : Packet) (s : State), s.started r 5 false = some k ∧
    s.alone = true ∧ readable (k.par 0 4) (k.par 4 2) = true :=
  ⟨ref0, pkt 0x0005 (0x28 + 1 * 2 ^ 32) [] false, cmd (pkt 0x0005 (0x28 + 1 * 2 ^ 32) [] false), by decide +kernel⟩

theorem witness_RegisterAndStagingOpcodes_1 : ∃ (r : PktRef) (k : Packet) (s : State), s.alone = true ∧
    s.started r 5 false = some k ∧ readable (k.par 0 4) (k.par 4 2) = false :=
  ⟨ref0, pkt 0x0005 (0x28 + 1025 * 2 ^ 32) [] false, cmd (pkt 0x0005 (0x28 + 1025 * 2 ^ 32) [] false),
    by decide +kernel⟩

theorem witness_RegisterAndStagingOpcodes_2 : ∃ (r : PktRef) (k : Packet) (off : Nat) (w : Word) (s : State),
    s.started r 6 false = some k ∧ s.alone = true ∧ k.entries = [(off, w)] ∧ off ≤ 1114111 :=
  ⟨ref0, pkt 0x0006 (0x28 + 7 * 2 ^ 32 + 0xFFFFFFFF * 2 ^ 64) [] false, 0x28, 7,
    cmd (pkt 0x0006 (0x28 + 7 * 2 ^ 32 + 0xFFFFFFFF * 2 ^ 64) [] false), by decide +kernel⟩

theorem witness_RegisterAndStagingOpcodes_3 : ∃ (r : PktRef) (k : Packet) (off : Nat) (w : Word)
    (rest : List (Nat × Word)) (s : State), s.started r 6 false = some k ∧ s.alone = true ∧
    k.entries = (off, w) :: rest ∧ 1114111 < off :=
  ⟨ref0, pkt 0x0006 (0x110000 + 7 * 2 ^ 32 + 0xFFFFFFFF * 2 ^ 64) [] false, 0x110000, 7, [],
    cmd (pkt 0x0006 (0x110000 + 7 * 2 ^ 32 + 0xFFFFFFFF * 2 ^ 64) [] false), by decide +kernel⟩

theorem witness_RegisterAndStagingOpcodes_4 : ∃ (r : PktRef) (k : Packet) (o1 : Nat) (o2 : Nat) (w1 : Word)
    (w2 : Word) (rest : List (Nat × Word)) (s : State), s.started r 6 false = some k ∧ s.alone = true ∧
    k.entries = (o1, w1) :: (o2, w2) :: rest ∧ o1 ≤ 1114111 ∧ 1114111 < o2 :=
  ⟨ref0, (pkt 0x0006 (0x28 + 7 * 2 ^ 32 + 0x110000 * 2 ^ 64 + 9 * 2 ^ 96 + 0xFFFFFFFF * 2 ^ 128) [] false), 0x28,
    0x110000, 7, 9, [],
    cmd ((pkt 0x0006 (0x28 + 7 * 2 ^ 32 + 0x110000 * 2 ^ 64 + 9 * 2 ^ 96 + 0xFFFFFFFF * 2 ^ 128) [] false)),
    by decide +kernel⟩

theorem witness_RegisterAndStagingOpcodes_5 : ∃ (r : PktRef) (k : Packet) (off : Nat) (w : Word) (s : State),
    s.started r 256 false = some k ∧ s.alone = true ∧ k.entries = [(off, w)] ∧ off ≤ 1114111 ∧ stages off = true ∧
    s.violates off w = false :=
  ⟨ref0, pkt 0x0100 (0x010020 + 7 * 2 ^ 32 + 0xFFFFFFFF * 2 ^ 64) [] false, 0x010020, 7,
    cmd (pkt 0x0100 (0x010020 + 7 * 2 ^ 32 + 0xFFFFFFFF * 2 ^ 64) [] false), by decide +kernel⟩

theorem witness_RegisterAndStagingOpcodes_6 : ∃ (r : PktRef) (k : Packet) (s : State),
    s.started r 256 false = some k ∧ s.alone = true ∧ (k.entries.any fun e => !stages e.fst) = true :=
  ⟨ref0, pkt 0x0100 (0x28 + 7 * 2 ^ 32 + 0xFFFFFFFF * 2 ^ 64) [] false,
    cmd (pkt 0x0100 (0x28 + 7 * 2 ^ 32 + 0xFFFFFFFF * 2 ^ 64) [] false), by decide +kernel⟩

theorem witness_RegisterAndStagingOpcodes_7 : ∃ (r : PktRef) (k : Packet) (off : Nat) (w : Word) (s : State),
    s.started r 259 false = some k ∧ s.alone = true ∧ k.pairs = [(off, w)] ∧ off ≤ 1114111 ∧ stages off = true ∧
    s.violates off w = false :=
  ⟨ref0, pkt 0x0103 0 [0x20, 0, 1, 0, 7, 0, 0, 0] false, 0x010020, 7,
    cmd (pkt 0x0103 0 [0x20, 0, 1, 0, 7, 0, 0, 0] false), by decide +kernel⟩

theorem witness_RegisterAndStagingOpcodes_8 : ∃ (r : PktRef) (k : Packet) (s : State),
    s.started r 259 false = some k ∧ s.alone = true ∧ (k.pairs.any fun e => !stages e.fst) = true :=
  ⟨ref0, pkt 0x0103 0 [0x28, 0, 0, 0, 7, 0, 0, 0] false, cmd (pkt 0x0103 0 [0x28, 0, 0, 0, 7, 0, 0, 0] false),
    by decide +kernel⟩

theorem witness_RegisterAndStagingOpcodes_9 : ∃ (r : PktRef) (k : Packet) (s : State),
    s.started r 258 false = some k ∧ readable (k.par 4 4) (k.par 8 2) = true :=
  ⟨ref0, pkt 0x0102 (0x28 * 2 ^ 32 + 1 * 2 ^ 64) [] false, cmd (pkt 0x0102 (0x28 * 2 ^ 32 + 1 * 2 ^ 64) [] false),
    by decide +kernel⟩

theorem witness_RegisterAndStagingOpcodes_10 : ∃ (r : PktRef) (k : Packet) (s : State),
    s.started r 258 false = some k ∧ readable (k.par 4 4) (k.par 8 2) = false :=
  ⟨ref0, pkt 0x0102 (0xFFFFFC * 2 ^ 32 + 2 * 2 ^ 64) [] false,
    cmd (pkt 0x0102 (0xFFFFFC * 2 ^ 32 + 2 * 2 ^ 64) [] false), by decide +kernel⟩

theorem witness_RegisterAndStagingOpcodes_11 : ∃ (r : PktRef) (k : Packet) (s : State),
    s.started r 260 false = some k :=
  ⟨ref0, pkt 0x0104 0 [] false, cmd (pkt 0x0104 0 [] false), by decide +kernel⟩

theorem witness_RegisterAndStagingOpcodes_12 : ∃ (r : PktRef) (k : Packet) (s : State), s.started r 5 false = some k ∧
    s.alone = true ∧ readable (k.par 0 4) (k.par 4 2) = true ∧ k.par 4 2 = 1 ∧ 8388608 ≤ k.par 0 4 ∧
    wideHigh (k.par 0 4) = none ∧ s.shadowOf Path.tender (k.par 0 4) = none :=
  ⟨ref0, pkt 0x0005 (0xFFFFFC + 1 * 2 ^ 32) [] false, cmd (pkt 0x0005 (0xFFFFFC + 1 * 2 ^ 32) [] false),
    by decide +kernel⟩

theorem witness_DarkTables_0 : ∃ (r : PktRef) (k : Packet) (s : State), s.started r 512 false = some k ∧
    (k.par 1 1 < 4 ∨ 12 < k.par 1 1) :=
  ⟨ref0, pkt 0x0200 (3 * 2 ^ 8) [] false, cmd (pkt 0x0200 (3 * 2 ^ 8) [] false), by decide +kernel⟩

theorem witness_DarkTables_1 : ∃ (r : PktRef) (k : Packet) (b : Fin 2) (s : State), s.started r 512 false = some k ∧
    4 ≤ k.par 1 1 ∧ k.par 1 1 ≤ 12 ∧ b ≠ s.fu.inForce.darkBank ∧ s.darkUsed b = true :=
  ⟨ref0, pkt 0x0200 (4 * 2 ^ 8) [] false, 1,
    ((cmd (pkt 0x0200 (4 * 2 ^ 8) [] false))).modFu fun f => { f with retained := [(setting R.fltCtrlDarkBank 1 running).fu.inForce] },
    by decide +kernel⟩

theorem witness_DarkTables_2 : ∃ (r : PktRef) (k : Packet) (b : Fin 2) (s : State), s.started r 512 false = some k ∧
    4 ≤ k.par 1 1 ∧ k.par 1 1 ≤ 12 ∧ b ≠ s.fu.inForce.darkBank ∧ s.darkUsed b = false :=
  ⟨ref0, pkt 0x0200 (12 * 2 ^ 8) [] false, 1, cmd (pkt 0x0200 (12 * 2 ^ 8) [] false), by decide +kernel⟩

theorem witness_DarkTables_3 : ∃ (r : PktRef) (sums : List (Nat × Nat × Nat)) (b : Fin 2) (tab : Nat) (n : Nat)
    (at' : Nat) (s : State), s.capturing r = some (↑b, tab, n, at') ∧ s.triggered at' = true ∧ s.darkUsed b = false ∧
    sums = [] :=
  ⟨ref0, [], 1, 0, 4, 999000,
    (running.modCmd fun c => { c with capture := some (ref0, 1, 0, 4, 999000, true) }).modTb fun t => { t with lastTrig := some 999001 },
    by decide +kernel⟩

theorem witness_DarkTables_4 : ∃ (r : PktRef) (b : Fin 2) (tab : Nat) (n : Nat) (at' : Nat) (s : State),
    s.capturing r = some (↑b, tab, n, at') ∧ s.triggered at' = false :=
  ⟨ref0, 1, 0, 4, 999000,
    (running.modCmd fun c => { c with capture := some (ref0, 1, 0, 4, 999000, true) }).modTb fun t => { t with lastTrig := some 998999 },
    by decide +kernel⟩

theorem witness_DarkTables_5 : ∃ (r : PktRef) (b : Fin 2) (tab : Nat) (n : Nat) (at' : Nat) (s : State),
    s.capturing r = some (↑b, tab, n, at') ∧ s.triggered at' = true ∧ s.darkUsed b = true :=
  ⟨ref0, 1, 0, 4, 999000,
    ((running.modCmd fun c => { c with capture := some (ref0, 1, 0, 4, 999000, true) }).modTb fun t => { t with lastTrig := some 999001 }).modFu fun f => { f with retained := [(setting R.fltCtrlDarkBank 1 running).fu.inForce] },
    by decide +kernel⟩

theorem witness_DarkTables_6 : ∃ (r : PktRef) (b : Nat) (tab : Nat) (n : Nat) (at' : Nat) (s : State),
    s.capturing r = some (b, tab, n, at') ∧ s.triggered at' = false ∧ at' + 1000000000 ≤ s.now :=
  ⟨ref0, 1, 0, 4, 0,
    (running.modCmd fun c => { c with capture := some (ref0, 1, 0, 4, 0, true) }).modTb fun t => { t with tick := 1000000000 },
    by decide +kernel⟩

theorem witness_DarkTables_7 : ∃ (r : PktRef) (b : Nat) (tab : Nat) (n : Nat) (at' : Nat) (s : State),
    s.capturing r = some (b, tab, n, at') ∧ (s.triggered at' = true ∨ s.now < at' + 1000000000) :=
  ⟨ref0, 1, 0, 4, 999000, running.modCmd fun c => { c with capture := some (ref0, 1, 0, 4, 999000, true) },
    by decide +kernel⟩

theorem witness_DarkTables_8 : ∃ (r : PktRef) (k : Packet) (b : Fin 2) (area : Bool) (s : State),
    s.started r 513 false = some k ∧ (b = if k.par 0 1 % 2 = 1 then 1 else 0) ∧ area = (k.par 0 1 / 2 % 2 == 1) ∧
    k.par 1 1 < 32 ∧ s.darkUsed b = false ∧ k.halves.length = 16416 :=
  ⟨ref0, wholeBlock, 1, false, cmd wholeBlock,
    ⟨started_wholeBlock, by decide +kernel, by decide +kernel, by decide +kernel, by decide +kernel,
      halves_wholeBlock⟩⟩

theorem witness_DarkTables_9 : ∃ (r : PktRef) (k : Packet) (s : State), s.started r 513 false = some k ∧
    31 < k.par 1 1 :=
  ⟨ref0, pkt 0x0201 (1 + 32 * 2 ^ 8) [] false, cmd (pkt 0x0201 (1 + 32 * 2 ^ 8) [] false), by decide +kernel⟩

theorem witness_DarkTables_10 : ∃ (r : PktRef) (k : Packet) (s : State), s.started r 513 false = some k ∧
    k.par 1 1 < 32 ∧ s.darkUsed (if k.par 0 1 % 2 = 1 then 1 else 0) = true :=
  ⟨ref0, pkt 0x0201 (1 + 31 * 2 ^ 8) [] false,
    (cmd (pkt 0x0201 (1 + 31 * 2 ^ 8) [] false)).modFu fun f => { f with retained := [(setting R.fltCtrlDarkBank 1 running).fu.inForce] },
    by decide +kernel⟩

theorem witness_DarkTables_11 : ∃ (r : PktRef) (k : Packet) (b : Fin 2) (s : State), s.started r 514 false = some k ∧
    (b = if k.par 0 1 % 2 = 1 then 1 else 0) ∧ k.par 1 1 < 32 ∧ k.par 4 2 ≠ 0 ∧ k.par 2 2 + k.par 4 2 ≤ 16416 ∧
    tooLong r (2 * k.par 4 2) = false :=
  ⟨ref0, pkt 0x0202 (1 + 31 * 2 ^ 8 + 16415 * 2 ^ 16 + 1 * 2 ^ 32) [] false, 1,
    cmd (pkt 0x0202 (1 + 31 * 2 ^ 8 + 16415 * 2 ^ 16 + 1 * 2 ^ 32) [] false), by decide +kernel⟩

theorem witness_CalenderTablesAndSlots_0 : ∃ (r : PktRef) (k : Packet) (s : State), s.started r 515 false = some k ∧
    (k.table.kind = 3 ∨ k.table.size < k.table.first + (chunks k.table.width k.block).length) :=
  ⟨ref0, pkt 0x0203 (1 + 3 * 2 ^ 1) [] false, cmd (pkt 0x0203 (1 + 3 * 2 ^ 1) [] false), by decide +kernel⟩

theorem witness_CalenderTablesAndSlots_1 : ∃ (r : PktRef) (k : Packet) (s : State), s.started r 515 false = some k ∧
    k.table.kind ≠ 3 ∧ k.table.first + (chunks k.table.width k.block).length ≤ k.table.size ∧
    s.tablesUsed k.table.bank = true :=
  ⟨ref0, pkt 0x0203 0 [1, 0] false, cmd (pkt 0x0203 0 [1, 0] false), by decide +kernel⟩

theorem witness_CalenderTablesAndSlots_2 : ∃ (r : PktRef) (k : Packet) (s : State), s.started r 515 false = some k ∧
    k.table.kind = 1 ∧ k.table.first + (chunks k.table.width k.block).length ≤ k.table.size ∧
    s.tablesUsed k.table.bank = false :=
  ⟨ref0, pkt 0x0203 (1 + 1 * 2 ^ 1 + 16319 * 2 ^ 16) [1, 0] false,
    cmd (pkt 0x0203 (1 + 1 * 2 ^ 1 + 16319 * 2 ^ 16) [1, 0] false), by decide +kernel⟩

theorem witness_CalenderTablesAndSlots_3 : ∃ (r : PktRef) (k : Packet) (s : State), s.started r 516 false = some k ∧
    k.table.kind ≠ 3 ∧ k.table.first + k.par 4 2 ≤ k.table.size ∧ tooLong r (k.table.width * k.par 4 2) = false :=
  ⟨ref0, pkt 0x0204 (1 + 16319 * 2 ^ 16 + 1 * 2 ^ 32) [] false,
    cmd (pkt 0x0204 (1 + 16319 * 2 ^ 16 + 1 * 2 ^ 32) [] false), by decide +kernel⟩

theorem witness_CalenderTablesAndSlots_4 : ∃ (r : PktRef) (k : Packet) (s : State), s.started r 516 false = some k ∧
    (k.table.kind = 3 ∨ k.table.size < k.table.first + k.par 4 2) :=
  ⟨ref0, pkt 0x0204 (3 * 2 ^ 1) [] false, cmd (pkt 0x0204 (3 * 2 ^ 1) [] false), by decide +kernel⟩

theorem witness_CalenderTablesAndSlots_5 : ∃ (r : PktRef) (k : Packet) (b : Fin 2) (s : State),
    s.started r 517 false = some k ∧ (b = if k.par 0 1 % 2 = 1 then 1 else 0) ∧ s.nvShut = false :=
  ⟨ref0, pkt 0x0205 1 [] false, 1, cmd (pkt 0x0205 1 [] false), by decide +kernel⟩

theorem witness_CalenderTablesAndSlots_6 : ∃ (r : PktRef) (k : Packet) (s : State), s.started r 517 false = some k ∧
    s.nvShut = true :=
  ⟨ref0, pkt 0x0205 1 [] false, ((cmd (pkt 0x0205 1 [] false))).modTnd fun t => { t with inhibit := true },
    by decide +kernel⟩

theorem witness_CalenderTablesAndSlots_7 : ∃ (r : PktRef) (k : Packet) (b : Fin 2) (s : State),
    s.started r 518 false = some k ∧ (b = if k.par 0 1 % 2 = 1 then 1 else 0) ∧ s.tablesUsed b = false ∧
    s.darkUsed b = false ∧ s.tnd.slots[b].crcOk = true :=
  ⟨ref0, pkt 0x0206 1 [] false, 1, cmd (pkt 0x0206 1 [] false), by decide +kernel⟩

theorem witness_CalenderTablesAndSlots_8 : ∃ (r : PktRef) (k : Packet) (b : Fin 2) (s : State),
    s.started r 518 false = some k ∧ (b = if k.par 0 1 % 2 = 1 then 1 else 0) ∧
    (s.tablesUsed b = true ∨ s.darkUsed b = true) :=
  ⟨ref0, pkt 0x0206 0 [] false, 0, cmd (pkt 0x0206 0 [] false), by decide +kernel⟩

theorem witness_CalenderTablesAndSlots_9 : ∃ (r : PktRef) (k : Packet) (b : Fin 2) (s : State),
    s.started r 518 false = some k ∧ (b = if k.par 0 1 % 2 = 1 then 1 else 0) ∧ s.tablesUsed b = false ∧
    s.darkUsed b = false ∧ s.tnd.slots[b].crcOk = false :=
  ⟨ref0, pkt 0x0206 1 [] false, 1, ((cmd (pkt 0x0206 1 [] false))).onSlot 1 fun c => { c with crcOk := false },
    by decide +kernel⟩

theorem witness_WebLinkOpcodes_0 : ∃ (r : PktRef) (k : Packet) (s : State), s.started r 768 false = some k :=
  ⟨ref0, pkt 0x0300 0 [] false, cmd (pkt 0x0300 0 [] false), by decide +kernel⟩

theorem witness_WebLinkOpcodes_1 : ∃ (r : PktRef) (k : Packet) (q : Fin 4) (s : State),
    s.started r 769 false = some k ∧ q = Fin.ofNat 4 (k.par 0 1) ∧ 6 < k.par 1 1 :=
  ⟨ref0, pkt 0x0301 (3 + 7 * 2 ^ 8) [] false, 3, cmd (pkt 0x0301 (3 + 7 * 2 ^ 8) [] false), by decide +kernel⟩

theorem witness_WebLinkOpcodes_2 : ∃ (r : PktRef) (k : Packet) (q : Fin 4) (s : State),
    s.started r 769 false = some k ∧ q = Fin.ofNat 4 (k.par 0 1) ∧ 3 ≤ k.par 1 1 ∧ k.par 1 1 ≤ 5 ∧ s.onLink = true ∧
    q = s.upPort :=
  ⟨ref0, pkt 0x0301 (4 * 2 ^ 8) [] false, 0,
    ((cmd (pkt 0x0301 (4 * 2 ^ 8) [] false))).modWl fun w => { w with role := .slave }, by decide +kernel⟩

theorem witness_WebLinkOpcodes_3 : ∃ (r : PktRef) (k : Packet) (q : Fin 4) (s : State),
    s.started r 769 false = some k ∧ q = Fin.ofNat 4 (k.par 0 1) ∧ k.par 1 1 ≤ 6 ∧
    (k.par 1 1 < 3 ∨ k.par 1 1 = 6 ∨ s.onLink = false ∨ q ≠ s.upPort) :=
  ⟨ref0, pkt 0x0301 (3 + 6 * 2 ^ 8) [] false, 3, cmd (pkt 0x0301 (3 + 6 * 2 ^ 8) [] false), by decide +kernel⟩

theorem witness_WebLinkOpcodes_4 : ∃ (r : PktRef) (k : Packet) (s : State), s.started r 770 false = some k ∧
    2 < k.par 0 1 :=
  ⟨ref0, pkt 0x0302 3 [] false, cmd (pkt 0x0302 3 [] false), by decide +kernel⟩

theorem witness_WebLinkOpcodes_5 : ∃ (r : PktRef) (k : Packet) (w : Word) (s : State),
    s.started r 770 false = some k ∧ k.par 0 1 ≤ 2 ∧ w = setBits (s.reg 720896) 0 2 (k.par 0 1) ∧
    s.violates 720896 w = false :=
  ⟨ref0, pkt 0x0302 2 [] false, setBits (running.reg 720896) 0 2 2, cmd (pkt 0x0302 2 [] false), by decide +kernel⟩

theorem witness_WebLinkOpcodes_6 : ∃ (r : PktRef) (k : Packet) (s : State), s.started r 770 false = some k ∧
    k.par 0 1 ≤ 2 ∧ s.violates 720896 (setBits (s.reg 720896) 0 2 (k.par 0 1)) = true :=
  ⟨ref0, pkt 0x0302 2 [] false, State.fset R.glbLockWlk 1 (cmd (pkt 0x0302 2 [] false)), by decide +kernel⟩

theorem witness_WebLinkOpcodes_7 : ∃ (r : PktRef) (k : Packet) (w : Word) (s : State),
    s.started r 772 false = some k ∧ w = setBits (s.reg 720896) 7 1 (1 - k.par 0 1 % 2) ∧
    s.violates 720896 w = false :=
  ⟨ref0, pkt 0x0304 1 [] false, setBits (running.reg 720896) 7 1 0, cmd (pkt 0x0304 1 [] false), by decide +kernel⟩

theorem witness_WebLinkOpcodes_8 : ∃ (r : PktRef) (k : Packet) (s : State), s.started r 771 false = some k ∧
    s.onLink = true :=
  ⟨ref0, pkt 0x0303 0 [] false, ((cmd (pkt 0x0303 0 [] false))).modWl fun w => { w with role := .slave },
    by decide +kernel⟩

theorem witness_WebLinkOpcodes_9 : ∃ (r : PktRef) (k : Packet) (s : State), s.started r 771 false = some k ∧
    s.onLink = false :=
  ⟨ref0, pkt 0x0303 0 [] false, cmd (pkt 0x0303 0 [] false), by decide +kernel⟩

theorem witness_WebLinkOpcodes_10 : ∃ (r : PktRef) (at' : Nat) (s : State), s.cmd.enum = some (r, at') ∧
    s.now < at' + 10000000 :=
  ⟨ref0, 990000, running.modCmd fun t => { t with enum := some (ref0, 990000) }, by decide +kernel⟩

theorem witness_WebLinkOpcodes_11 : ∃ (r : PktRef) (at' : Nat) (s : State), s.cmd.enum = some (r, at') ∧
    at' + 10000000 ≤ s.now :=
  ⟨ref0, 0, (running.modCmd fun c => { c with enum := some (ref0, 0) }).modTb fun t => { t with tick := 10000000 },
    by decide +kernel⟩

theorem witness_WebLinkOpcodes_12 : ∃ (s : State), s.cmd.enum = none :=
  ⟨running, by decide +kernel⟩

theorem witness_WebLinkOpcodes_13 : ∃ (r : PktRef) (k : Packet) (s : State), s.started r 773 false = some k ∧
    s.positionPorts = [] :=
  ⟨ref0, pkt 0x0305 0 [] false, cmd (pkt 0x0305 0 [] false), by decide +kernel⟩

theorem witness_WebLinkOpcodes_14 : ∃ (r : PktRef) (k : Packet) (s : State), s.started r 773 false = some k ∧
    s.positionPorts ≠ [] :=
  ⟨ref0, pkt 0x0305 0 [] false,
    State.fset R.wlkCtrlDownEn 2 ((cmd (pkt 0x0305 0 [] false)).onPort 1 fun q => { q with state := .up }),
    by decide +kernel⟩

theorem witness_WebLinkOpcodes_15 : ∃ (r : PktRef) (at' : Nat) (s : State), s.cmd.message = some (r, at') ∧
    s.positionPorts = [] ∧ at' + 10000000 ≤ s.now :=
  ⟨ref0, 0, (running.modCmd fun c => { c with message := some (ref0, 0) }).modTb fun t => { t with tick := 10000000 },
    by decide +kernel⟩

theorem witness_WebLinkOpcodes_16 : ∃ (r : PktRef) (at' : Nat) (s : State), s.cmd.message = some (r, at') ∧
    s.positionPorts = [] ∧ s.now < at' + 10000000 :=
  ⟨ref0, 1, (running.modCmd fun c => { c with message := some (ref0, 1) }).modTb fun t => { t with tick := 10000000 },
    by decide +kernel⟩

theorem witness_WebLinkOpcodes_17 : ∃ (r : PktRef) (k : Packet) (at' : Nat) (s : State),
    s.cmd.message = some (r, at') ∧ s.positionPorts ≠ [] ∧ s.packet r = some k :=
  ⟨ref0, pkt 0x0305 0 [] false, 0,
    State.fset R.wlkCtrlDownEn 2 (((cmd (pkt 0x0305 0 [] false)).onPort 1 fun q => { q with state := .up }).modCmd fun c => { c with message := some (ref0, 0) }),
    by decide +kernel⟩

theorem witness_EngineCutAndReelOpcodes_0 : ∃ (r : PktRef) (same : Bool) (k : Packet) (e : Fin 8) (s : State),
    s.started r 1024 false = some k ∧ s.alone = true ∧ e = Fin.ofNat 8 (k.par 0 1) ∧ k.par 2 1 ≠ 0 ∧
    k.par 1 1 % 32 + k.par 2 1 ≤ 32 ∧ k.block.length = 4 * k.par 2 1 ∧ State.storeOpen same s e = true :=
  ⟨ref0, false, pkt 0x0400 (7 + 31 * 2 ^ 8 + 1 * 2 ^ 16) [1, 2, 3, 4] false, 7,
    cmd (pkt 0x0400 (7 + 31 * 2 ^ 8 + 1 * 2 ^ 16) [1, 2, 3, 4] false), by decide +kernel⟩

theorem witness_EngineCutAndReelOpcodes_1 : ∃ (r : PktRef) (same : Bool) (k : Packet) (e : Fin 8) (s : State),
    s.started r 1024 false = some k ∧ s.alone = true ∧ e = Fin.ofNat 8 (k.par 0 1) ∧ k.par 2 1 ≠ 0 ∧
    k.par 1 1 % 32 + k.par 2 1 ≤ 32 ∧ State.storeOpen same s e = false :=
  ⟨ref0, false, pkt 0x0400 (7 + 31 * 2 ^ 8 + 1 * 2 ^ 16) [1, 2, 3, 4] false, 7,
    ((cmd (pkt 0x0400 (7 + 31 * 2 ^ 8 + 1 * 2 ^ 16) [1, 2, 3, 4] false))).onEng 7 fun g => { g with state := .running },
    by decide +kernel⟩

theorem witness_EngineCutAndReelOpcodes_2 : ∃ (r : PktRef) (k : Packet) (s : State), s.started r 1024 false = some k ∧
    s.alone = true ∧ (k.par 2 1 = 0 ∨ 32 < k.par 1 1 % 32 + k.par 2 1) :=
  ⟨ref0, pkt 0x0400 (7 + 31 * 2 ^ 8 + 2 * 2 ^ 16) [] false, cmd (pkt 0x0400 (7 + 31 * 2 ^ 8 + 2 * 2 ^ 16) [] false),
    by decide +kernel⟩

theorem witness_EngineCutAndReelOpcodes_3 : ∃ (r : PktRef) (k : Packet) (s : State), s.started r 1025 false = some k ∧
    s.alone = true :=
  ⟨ref0, pkt 0x0401 0 [] false, cmd (pkt 0x0401 0 [] false), by decide +kernel⟩

theorem witness_EngineCutAndReelOpcodes_4 : ∃ (r : PktRef) (k : Packet) (s : State), s.started r 1026 false = some k ∧
    s.alone = true :=
  ⟨ref0, pkt 0x0402 0 [] false, cmd (pkt 0x0402 0 [] false), by decide +kernel⟩

theorem witness_EngineCutAndReelOpcodes_5 : ∃ (r : PktRef) (k : Packet) (s : State),
    s.started r 1027 false = some k :=
  ⟨ref0, pkt 0x0403 0 [] false, cmd (pkt 0x0403 0 [] false), by decide +kernel⟩

theorem witness_EngineCutAndReelOpcodes_6 : ∃ (r : PktRef) (k : Packet) (s : State), s.started r 1280 false = some k ∧
    WC.ahead (BitVec.ofNat 48 (k.par 10 6)) (BitVec.ofNat 48 (k.par 4 6)) = false :=
  ⟨ref0, pkt 0x0500 (8 * 2 ^ 32 + 8 * 2 ^ 80) [] false, cmd (pkt 0x0500 (8 * 2 ^ 32 + 8 * 2 ^ 80) [] false),
    by decide +kernel⟩

theorem witness_EngineCutAndReelOpcodes_7 : ∃ (r : PktRef) (k : Packet) (s : State), s.started r 1280 false = some k ∧
    WC.ahead (BitVec.ofNat 48 (k.par 10 6)) (BitVec.ofNat 48 (k.par 4 6)) = true ∧
    (k.par 18 2 % 16384 < k.par 16 2 % 16384 ∨ 16415 < k.par 18 2 % 16384) :=
  ⟨ref0, pkt 0x0500 (1 + 3 * 2 ^ 20 + 8 * 2 ^ 32 + 9 * 2 ^ 80 + 5 * 2 ^ 128 + 4 * 2 ^ 144) [] false,
    cmd (pkt 0x0500 (1 + 3 * 2 ^ 20 + 8 * 2 ^ 32 + 9 * 2 ^ 80 + 5 * 2 ^ 128 + 4 * 2 ^ 144) [] false),
    by decide +kernel⟩

theorem witness_EngineCutAndReelOpcodes_8 : ∃ (r : PktRef) (k : Packet) (s : State), s.started r 1280 false = some k ∧
    WC.ahead (BitVec.ofNat 48 (k.par 10 6)) (BitVec.ofNat 48 (k.par 4 6)) = true ∧
    k.par 16 2 % 16384 ≤ k.par 18 2 % 16384 ∧ s.chClass (k.par 2 1 / 16 % 16) = 4 ∧ k.par 18 2 % 16384 ≤ 16415 ∧
    8 ≤ s.reel.live.length :=
  ⟨ref0, pkt 0x0500 (1 + 3 * 2 ^ 20 + 8 * 2 ^ 32 + 9 * 2 ^ 80 + 5 * 2 ^ 128 + 16415 * 2 ^ 144) [] false,
    State.fset (R.dmaChCtrlClass 3) 4 ((cmd (pkt 0x0500 (1 + 3 * 2 ^ 20 + 8 * 2 ^ 32 + 9 * 2 ^ 80 + 5 * 2 ^ 128 + 16415 * 2 ^ 144) [] false)).modReel fun r => { r with cuts := List.replicate 8 cut0 }),
    by decide +kernel⟩

theorem witness_EngineCutAndReelOpcodes_9 : ∃ (r : PktRef) (k : Packet) (s : State), s.started r 1280 false = some k ∧
    WC.ahead (BitVec.ofNat 48 (k.par 10 6)) (BitVec.ofNat 48 (k.par 4 6)) = true ∧
    k.par 16 2 % 16384 ≤ k.par 18 2 % 16384 ∧ s.chClass (k.par 2 1 / 16 % 16) ≠ 4 ∧ k.par 18 2 % 16384 ≤ 16415 :=
  ⟨ref0, pkt 0x0500 (1 + 3 * 2 ^ 20 + 8 * 2 ^ 32 + 9 * 2 ^ 80 + 5 * 2 ^ 128 + 16415 * 2 ^ 144) [] false,
    cmd (pkt 0x0500 (1 + 3 * 2 ^ 20 + 8 * 2 ^ 32 + 9 * 2 ^ 80 + 5 * 2 ^ 128 + 16415 * 2 ^ 144) [] false),
    by decide +kernel⟩

theorem witness_EngineCutAndReelOpcodes_10 : ∃ (r : PktRef) (k : Packet) (s : State),
    s.started r 1280 false = some k ∧ WC.ahead (BitVec.ofNat 48 (k.par 10 6)) (BitVec.ofNat 48 (k.par 4 6)) = true ∧
    k.par 16 2 % 16384 ≤ k.par 18 2 % 16384 ∧ s.chClass (k.par 2 1 / 16 % 16) = 4 ∧ k.par 18 2 % 16384 ≤ 16415 ∧
    s.reel.live.length < 8 :=
  ⟨ref0, pkt 0x0500 (1 + 3 * 2 ^ 20 + 8 * 2 ^ 32 + 9 * 2 ^ 80 + 5 * 2 ^ 128 + 16415 * 2 ^ 144) [] false,
    State.fset (R.dmaChCtrlClass 3) 4 (cmd (pkt 0x0500 (1 + 3 * 2 ^ 20 + 8 * 2 ^ 32 + 9 * 2 ^ 80 + 5 * 2 ^ 128 + 16415 * 2 ^ 144) [] false)),
    by decide +kernel⟩

theorem witness_EngineCutAndReelOpcodes_11 : ∃ (r : PktRef) (k : Packet) (s : State), s.started r 1280 true = some k ∧
    List.find? (fun x => decide (x.id = BitVec.ofNat 16 (k.par 0 2))) s.reel.live = none :=
  ⟨ref0, pkt 0x0500 1 [] true, cmd (pkt 0x0500 1 [] true), by decide +kernel⟩

theorem witness_EngineCutAndReelOpcodes_12 : ∃ (r : PktRef) (k : Packet) (c : Cut) (s : State),
    s.started r 1280 true = some k ∧
    List.find? (fun x => decide (x.id = BitVec.ofNat 16 (k.par 0 2))) s.reel.live = some c :=
  ⟨ref0, pkt 0x0500 1 [] true, cut0, (cmd (pkt 0x0500 1 [] true)).modReel fun r => { r with cuts := [cut0] },
    by decide +kernel⟩

theorem witness_EngineCutAndReelOpcodes_13 : ∃ (r : PktRef) (k : Packet) (s : State),
    s.started r 1281 false = some k :=
  ⟨ref0, pkt 0x0501 0 [] false, cmd (pkt 0x0501 0 [] false), by decide +kernel⟩

theorem witness_EngineCutAndReelOpcodes_14 : ∃ (r : PktRef) (k : Packet) (s : State),
    s.started r 1282 false = some k ∧ (s.layoutBusy = true ∨ s.hdmComes = true ∨ s.cutComes = true) :=
  ⟨ref0, pkt 0x0502 0 [] false, ((cmd (pkt 0x0502 0 [] false))).modReel fun r => { r with chunks := 1 },
    by decide +kernel⟩

theorem witness_EngineCutAndReelOpcodes_15 : ∃ (r : PktRef) (k : Packet) (s : State),
    s.started r 1282 false = some k ∧ s.layoutBusy = false ∧ s.hdmComes = false ∧ s.cutComes = false ∧
    64 * min 64 (k.par 0 1 % 128) + 256 * (k.par 1 1 % 64) + 1024 ≤ 16384 :=
  ⟨ref0, pkt 0x0502 (56 * 2 ^ 8 + 16) [] false, cmd (pkt 0x0502 (56 * 2 ^ 8 + 16) [] false), by decide +kernel⟩

theorem witness_EngineCutAndReelOpcodes_16 : ∃ (r : PktRef) (k : Packet) (s : State),
    s.started r 1282 false = some k ∧ s.layoutBusy = false ∧ s.hdmComes = false ∧ s.cutComes = false ∧
    16384 < 64 * min 64 (k.par 0 1 % 128) + 256 * (k.par 1 1 % 64) + 1024 :=
  ⟨ref0, pkt 0x0502 (57 * 2 ^ 8 + 64) [] false, cmd (pkt 0x0502 (57 * 2 ^ 8 + 64) [] false), by decide +kernel⟩

theorem witness_LogAndFirmwareOpcodes_0 : ∃ (r : PktRef) (k : Packet) (s : State), s.started r 1536 false = some k ∧
    k.par 4 4 = 0 :=
  ⟨ref0, pkt 0x0600 0 [] false, cmd (pkt 0x0600 0 [] false), by decide +kernel⟩

theorem witness_LogAndFirmwareOpcodes_1 : ∃ (r : PktRef) (k : Packet) (s : State), s.started r 1536 false = some k ∧
    k.par 4 4 ≠ 0 ∧ tooLong r (k.par 4 4) = true :=
  ⟨ref0, pkt 0x0600 (65537 * 2 ^ 32) [] false, cmd (pkt 0x0600 (65537 * 2 ^ 32) [] false), by decide +kernel⟩

theorem witness_LogAndFirmwareOpcodes_2 : ∃ (r : PktRef) (k : Packet) (s : State), s.started r 1536 false = some k ∧
    k.par 4 4 ≠ 0 ∧ tooLong r (k.par 4 4) = false :=
  ⟨ref0, pkt 0x0600 (65536 * 2 ^ 32) [] false, cmd (pkt 0x0600 (65536 * 2 ^ 32) [] false), by decide +kernel⟩

theorem witness_LogAndFirmwareOpcodes_3 : ∃ (r : PktRef) (k : Packet) (s : State), s.started r 1537 false = some k ∧
    s.nvShut = true :=
  ⟨ref0, pkt 0x0601 0 [] false, ((cmd (pkt 0x0601 0 [] false))).modTnd fun t => { t with inhibit := true },
    by decide +kernel⟩

theorem witness_LogAndFirmwareOpcodes_4 : ∃ (r : PktRef) (k : Packet) (s : State), s.started r 1537 false = some k ∧
    s.nvShut = false ∧ s.tnd.queue.length ≤ 1020 ∧ (s.tnd.notes.any fun x => x.fst == r) = false :=
  ⟨ref0, pkt 0x0601 0 [] false, cmd (pkt 0x0601 0 [] false), by decide +kernel⟩

theorem witness_LogAndFirmwareOpcodes_5 : ∃ (r : PktRef) (k : Packet) (b : Fin 2) (s : State),
    s.started r 1538 false = some k ∧ (b = if k.par 0 1 % 2 = 1 then 1 else 0) ∧ s.tnd.recovery = false ∧
    b = if s.tnd.bank = true then 1 else 0 :=
  ⟨ref0, pkt 0x0602 0 [1] false, 0, cmd (pkt 0x0602 0 [1] false), by decide +kernel⟩

theorem witness_LogAndFirmwareOpcodes_6 : ∃ (r : PktRef) (k : Packet) (b : Fin 2) (s : State),
    s.started r 1538 false = some k ∧ (b = if k.par 0 1 % 2 = 1 then 1 else 0) ∧
    (s.tnd.recovery = true ∨ b ≠ if s.tnd.bank = true then 1 else 0) ∧ k.par 4 4 % 32 ≠ 0 :=
  ⟨ref0, pkt 0x0602 (1 + 31 * 2 ^ 32) [1] false, 1,
    ((cmd (pkt 0x0602 (1 + 31 * 2 ^ 32) [1] false))).modTnd fun t => { t with recovery := true }, by decide +kernel⟩

theorem witness_LogAndFirmwareOpcodes_7 : ∃ (r : PktRef) (k : Packet) (b : Fin 2) (s : State),
    s.started r 1538 false = some k ∧ (b = if k.par 0 1 % 2 = 1 then 1 else 0) ∧
    (s.tnd.recovery = true ∨ b ≠ if s.tnd.bank = true then 1 else 0) ∧ k.par 4 4 % 32 = 0 ∧
    11534336 < k.par 4 4 + k.dlen :=
  ⟨ref0, pkt 0x0602 (1 + 11534336 * 2 ^ 32) [1] false, 1,
    ((cmd (pkt 0x0602 (1 + 11534336 * 2 ^ 32) [1] false))).modTnd fun t => { t with recovery := true },
    by decide +kernel⟩

theorem witness_LogAndFirmwareOpcodes_8 : ∃ (r : PktRef) (k : Packet) (b : Fin 2) (s : State),
    s.started r 1538 false = some k ∧ (b = if k.par 0 1 % 2 = 1 then 1 else 0) ∧
    (s.tnd.recovery = true ∨ b ≠ if s.tnd.bank = true then 1 else 0) ∧ k.par 4 4 % 32 = 0 ∧
    k.par 4 4 + k.dlen ≤ 11534336 ∧ ((∃ x, (s.fw b).must = some x ∧ k.par 4 4 ≠ x) ∨ (s.fw b).must = none ∧
    k.par 4 4 % 4096 ≠ 0 ∧ k.par 4 4 ≠ (s.fw b).next) :=
  ⟨ref0, pkt 0x0602 (1 + 4064 * 2 ^ 32) (List.replicate 32 0) false, 1,
    cmd (pkt 0x0602 (1 + 4064 * 2 ^ 32) (List.replicate 32 0) false),
    ⟨by decide +kernel, by decide +kernel, by decide +kernel, by decide +kernel, by decide +kernel,
      .inr (by decide +kernel)⟩⟩

theorem witness_LogAndFirmwareOpcodes_9 : ∃ (r : PktRef) (k : Packet) (b : Fin 2) (s : State),
    s.started r 1538 false = some k ∧ (b = if k.par 0 1 % 2 = 1 then 1 else 0) ∧
    (s.tnd.recovery = true ∨ b ≠ if s.tnd.bank = true then 1 else 0) ∧ k.par 4 4 % 4096 = 0 ∧
    k.par 4 4 + k.dlen ≤ 11534336 ∧ (s.fw b).must = none ∧ s.nvShut = false ∧ s.tnd.jobs = [] :=
  ⟨ref0, pkt 0x0602 (1 + 4096 * 2 ^ 32) (List.replicate 32 0) false, 1,
    ((cmd (pkt 0x0602 (1 + 4096 * 2 ^ 32) (List.replicate 32 0) false))).modTnd fun t => { t with recovery := true },
    by decide +kernel⟩

theorem witness_LogAndFirmwareOpcodes_10 : ∃ (r : PktRef) (k : Packet) (s : State), s.started r 1539 false = some k ∧
    s.flag R.mgtFwCtrlActEn = false :=
  ⟨ref0, pkt 0x0603 1 [] false, State.fset R.mgtFwCtrlActEn 0 (cmd (pkt 0x0603 1 [] false)), by decide +kernel⟩

theorem witness_LogAndFirmwareOpcodes_11 : ∃ (r : PktRef) (k : Packet) (b : Fin 2) (s : State),
    s.started r 1539 false = some k ∧ (b = if k.par 0 1 % 2 = 1 then 1 else 0) ∧ s.flag R.mgtFwCtrlActEn = true ∧
    s.nvShut = false ∧ (State.verify b s).fst ≠ 0 :=
  ⟨ref0, pkt 0x0603 1 [] false, 1, State.fset R.mgtFwCtrlActEn 1 (cmd (pkt 0x0603 1 [] false)), by decide +kernel⟩

theorem witness_LogAndFirmwareOpcodes_12 : ∃ (r : PktRef) (k : Packet) (b : Fin 2) (s : State),
    s.started r 1539 false = some k ∧ (b = if k.par 0 1 % 2 = 1 then 1 else 0) ∧ s.flag R.mgtFwCtrlActEn = true ∧
    s.nvShut = false ∧ (State.verify b s).fst = 0 :=
  ⟨ref0, pkt 0x0603 1 [] false, 1, good (State.fset R.mgtFwCtrlActEn 1 (cmd (pkt 0x0603 1 [] false))),
    by decide +kernel⟩

theorem witness_LogAndFirmwareOpcodes_13 : ∃ (r : PktRef) (k : Packet) (s : State), s.started r 1539 false = some k ∧
    s.flag R.mgtFwCtrlActEn = true ∧ s.nvShut = true :=
  ⟨ref0, pkt 0x0603 1 [] false,
    (State.fset R.mgtFwCtrlActEn 1 (cmd (pkt 0x0603 1 [] false))).modTnd fun t => { t with inhibit := true },
    by decide +kernel⟩

theorem witness_LogAndFirmwareOpcodes_14 : ∃ (r : PktRef) (k : Packet) (s : State), s.started r 1540 false = some k :=
  ⟨ref0, pkt 0x0604 0 [] false, cmd (pkt 0x0604 0 [] false), by decide +kernel⟩

theorem witness_StatusAndObservationOpcodes_0 : ∃ (r : PktRef) (k : Packet) (s : State),
    s.started r 1792 false = some k :=
  ⟨ref0, pkt 0x0700 0 [] false, cmd (pkt 0x0700 0 [] false), by decide +kernel⟩

theorem witness_StatusAndObservationOpcodes_1 : ∃ (r : PktRef) (k : Packet) (s : State),
    s.started r 1793 false = some k ∧ (k.par 0 1 < 80 ∨ 105 < k.par 0 1 ∨ k.par 1 1 < 1 ∨ 64 < k.par 1 1) :=
  ⟨ref0, pkt 0x0701 (79 + 1 * 2 ^ 8) [] false, cmd (pkt 0x0701 (79 + 1 * 2 ^ 8) [] false), by decide +kernel⟩

theorem witness_StatusAndObservationOpcodes_2 : ∃ (r : PktRef) (k : Packet) (w : Word) (s : State),
    s.started r 1793 false = some k ∧ 80 ≤ k.par 0 1 ∧ k.par 0 1 ≤ 105 ∧ 1 ≤ k.par 1 1 ∧ k.par 1 1 ≤ 64 ∧
    w = setBits (setBits (s.reg 917504) 0 8 (k.par 0 1)) 8 7 (k.par 1 1) :=
  ⟨ref0, pkt 0x0701 (105 + 64 * 2 ^ 8) [] false, setBits (setBits (running.reg 917504) 0 8 105) 8 7 64,
    cmd (pkt 0x0701 (105 + 64 * 2 ^ 8) [] false), by decide +kernel⟩

theorem witness_StatusAndObservationOpcodes_3 : ∃ (r : PktRef) (k : Packet) (s : State),
    s.started r 1794 false = some k :=
  ⟨ref0, pkt 0x0702 0 [] false, cmd (pkt 0x0702 0 [] false), by decide +kernel⟩

theorem witness_StatusAndObservationOpcodes_4 : ∃ (r : PktRef) (k : Packet) (s : State),
    s.started r 2048 false = some k ∧ (255 < k.par 0 2 ∨ k.par 2 2 = 0 ∨ 256 < k.par 0 2 + k.par 2 2) :=
  ⟨ref0, pkt 0x0800 (255 + 2 * 2 ^ 16) [] false, cmd (pkt 0x0800 (255 + 2 * 2 ^ 16) [] false), by decide +kernel⟩

theorem witness_StatusAndObservationOpcodes_5 : ∃ (r : PktRef) (k : Packet) (s : State),
    s.started r 2048 false = some k ∧ k.par 0 2 ≤ 255 ∧ k.par 2 2 ≠ 0 ∧ k.par 0 2 + k.par 2 2 ≤ 256 :=
  ⟨ref0, pkt 0x0800 (255 + 1 * 2 ^ 16) [] false, cmd (pkt 0x0800 (255 + 1 * 2 ^ 16) [] false), by decide +kernel⟩

theorem witness_StatusAndObservationOpcodes_6 : ∃ (r : PktRef) (k : Packet) (s : State),
    s.started r 2049 false = some k ∧ (k.par 4 4 = 0 ∨ 4096 < k.par 4 4) :=
  ⟨ref0, pkt 0x0801 (4097 * 2 ^ 32) [] false, cmd (pkt 0x0801 (4097 * 2 ^ 32) [] false), by decide +kernel⟩

theorem witness_StatusAndObservationOpcodes_7 : ∃ (r : PktRef) (k : Packet) (s : State),
    s.started r 2049 false = some k ∧ k.par 4 4 ≠ 0 ∧ k.par 4 4 ≤ 4096 ∧ tooLong r (16 * k.par 4 4) = true :=
  ⟨mbox, { pkt 0x0801 (257 * 2 ^ 32) [] false with ref := mbox },
    cmd ({ pkt 0x0801 (257 * 2 ^ 32) [] false with ref := mbox }), by decide +kernel⟩

theorem witness_StatusAndObservationOpcodes_8 : ∃ (r : PktRef) (k : Packet) (s : State),
    s.started r 2049 false = some k ∧ k.par 4 4 ≠ 0 ∧ k.par 4 4 ≤ 4096 ∧ tooLong r (16 * k.par 4 4) = false :=
  ⟨ref0, pkt 0x0801 (4096 * 2 ^ 32) [] false, cmd (pkt 0x0801 (4096 * 2 ^ 32) [] false), by decide +kernel⟩

theorem witness_TenderSleepsRestartsAndLogs_0 : ∃ (s : State), s.tnd.up = true ∧ s.tnd.asleep = false ∧
    s.fget R.mgtCtrlSleepIdle ≠ 0 ∧ s.tenderIdle = true ∧
    s.tnd.idleFrom + 1000000 * s.fget R.mgtCtrlSleepIdle ≤ s.now :=
  ⟨State.fset R.mgtCtrlSleepIdle 1 running, by decide +kernel⟩

theorem witness_TenderSleepsRestartsAndLogs_1 : ∃ (s : State), s.tenderIdle = false :=
  ⟨running.modTnd fun t => { t with posted := [{ code := 0, data := [], sev := 0, tick := 0 }] }, by decide +kernel⟩

theorem witness_TenderSleepsRestartsAndLogs_2 : ∃ (s : State), s.tnd.up = true :=
  ⟨running, by decide +kernel⟩

theorem witness_TenderSleepsRestartsAndLogs_3 : ∃ (s : State), s.tnd.up = false :=
  ⟨running.modTnd fun t => { t with up := false }, by decide +kernel⟩

theorem witness_TenderSleepsRestartsAndLogs_4 : ∃ (cause : Nat) (s : State), s.tnd.restart = some cause :=
  ⟨1, running.modTnd fun t => { t with restart := some 1 }, by decide +kernel⟩

theorem witness_TenderSleepsRestartsAndLogs_5 : ∃ (s : State), s.tnd.restart = none :=
  ⟨running, by decide +kernel⟩

theorem witness_TenderSleepsRestartsAndLogs_6 : ∃ (a : Posted) (rest : List Posted) (s : State),
    s.tnd.posted = a :: rest ∧ s.tnd.up = true ∧ s.tnd.asleep = false ∧ s.flag R.mgtCtrlAlarmEn = false ∧
    s.tnd.queue.length < 1024 :=
  ⟨{ code := 0, data := [], sev := 0, tick := 0 }, [],
    State.fset R.mgtCtrlAlarmEn 0 (running.modTnd fun t => { t with posted := [{ code := 0, data := [], sev := 0, tick := 0 }] }),
    by decide +kernel⟩

theorem witness_TenderSleepsRestartsAndLogs_7 : ∃ (a : Posted) (rest : List Posted) (s : State),
    s.tnd.posted = a :: rest ∧ s.tnd.up = true ∧ s.tnd.asleep = false ∧ s.flag R.mgtCtrlAlarmEn = true ∧
    a.hand = true ∧ s.chClass ↑(Fin.ofNat 16 (s.fget R.mgtCtrlAlarmDc)) = 0 ∧ s.flag R.wlkCtrlAlarmUp = false ∧
    s.tnd.queue.length < 1024 :=
  ⟨{ code := 0, data := [], sev := 0, tick := 0, hand := true }, [],
    State.fset R.wlkCtrlAlarmUp 0 (State.fset R.mgtCtrlAlarmDc 15 (State.fset (R.dmaChCtrlClass 15) 0 (State.fset R.mgtCtrlAlarmEn 1 (running.modTnd fun t => { t with posted := [{ code := 0, data := [], sev := 0, tick := 0, hand := true }] })))),
    by decide +kernel⟩

theorem witness_TenderSleepsRestartsAndLogs_8 : ∃ (s : State),
    s.tnd.posted = [] ∨ s.tnd.up = false ∨ s.tnd.asleep = true :=
  ⟨running, by decide +kernel⟩

theorem witness_TenderSleepsRestartsAndLogs_9 : ∃ (r : BitVec 256) (rest : List (BitVec 256)) (s : State),
    s.tnd.queue = r :: rest ∧ s.tnd.up = true ∧ s.tnd.inhibit = false ∧ (s.tnd.head % 128 ≠ 0 ∨ s.tnd.erased ≠ 0) :=
  ⟨0, [], running.modTnd fun t => { t with queue := [0], head := 1, erased := 0 }, by decide +kernel⟩

theorem witness_TenderSleepsRestartsAndLogs_10 : ∃ (s : State),
    s.tnd.inhibit = true ∨ s.tnd.queue = [] ∨ s.tnd.up = false ∨ s.tnd.head % 128 = 0 ∧ s.tnd.erased = 0 :=
  ⟨running.modTnd fun t => { t with queue := [0], head := 128, erased := 0 }, by decide +kernel⟩

theorem witness_TenderSleepsRestartsAndLogs_11 : ∃ (s : State), s.tnd.up = true ∧ s.tnd.inhibit = false ∧
    s.tnd.erased < if s.tnd.head % 128 = 0 then 9 else 8 :=
  ⟨running.modTnd fun t => { t with erased := 8, head := 128 }, by decide +kernel⟩

theorem witness_TenderSleepsRestartsAndLogs_12 : ∃ (s : State), s.tnd.up = true ∧ s.tnd.inhibit = false ∧
    (if s.tnd.head % 128 = 0 then 9 else 8) ≤ s.tnd.erased :=
  ⟨running.modTnd fun t => { t with erased := 8, head := 1 }, by decide +kernel⟩

theorem witness_TenderSleepsRestartsAndLogs_13 : ∃ (at' : Nat) (s : State), s.tnd.lostAt = some at' ∧
    s.tnd.up = true ∧ s.flag R.mgtCtrlHostlossFreeze = true ∧ s.fget R.mgtHostTimeout ≠ 0 ∧ s.link.up = false ∧
    at' + 1000000000 * s.fget R.mgtHostTimeout ≤ s.now :=
  ⟨0,
    State.fset R.mgtHostTimeout 1 (State.fset R.mgtCtrlHostlossFreeze 1 (((running.modLink fun l => { l with up := false }).modTnd fun t => { t with lostAt := some 0 }).modTb fun t => { t with tick := 1000000000 })),
    by decide +kernel⟩

theorem witness_NonVolatileWrites_0 : ∃ (s : State), s.tnd.inhibit = false ∧ s.tnd.jobs = [] :=
  ⟨running, by decide +kernel⟩

theorem witness_NonVolatileWrites_1 : ∃ (aon : Bool) (j : NvJob) (p : PktRef) (s : State), s.tnd.inhibit = false ∧
    s.tnd.jobs = [j] ∧ j.kind.packet = some p ∧ (aon = true ∨ s.fget R.mgtHoldup < 200 ∨ ∃ w ws, j.work = w :: ws ∧
    w.erases = true) :=
  ⟨false, { kind := .fwWrite ref0 1 0 32, work := [.fwProgram 1 0 [0]] }, ref0,
    State.fset R.mgtHoldup 199 (running.modTnd fun t => { t with jobs := [{ kind := .fwWrite ref0 1 0 32, work := [.fwProgram 1 0 [0]] }] }),
    ⟨by decide +kernel, by decide +kernel, by decide +kernel, .inr (.inl (by decide +kernel))⟩⟩

theorem witness_NonVolatileWrites_2 : ∃ (aon : Bool) (c : Bool) (w : NvWork) (ws : List NvWork) (s : State),
    s.tnd.inhibit = false ∧ s.tnd.jobs = [{ kind := NvKind.boot c, work := w :: ws }] ∧ aon = true :=
  ⟨true, true, .bootErase, [.bootProgram true false false 3],
    running.modTnd fun t => { t with jobs := [{ kind := .boot true, work := [.bootErase, .bootProgram true false false 3] }] },
    by decide +kernel⟩

theorem witness_NonVolatileWrites_3 : ∃ (s : State), s.tnd.inhibit = true :=
  ⟨running.modTnd fun t => { t with inhibit := true }, by decide +kernel⟩

theorem witness_NonVolatileWrites_4 : ∃ (s : State), s.tnd.inhibit = false :=
  ⟨running, by decide +kernel⟩

theorem witness_NonVolatileWrites_5 : ∃ (j : NvJob) (w : NvWork) (ws : List NvWork) (rest : List NvJob) (s : State),
    s.tnd.jobs = j :: rest ∧ j.work = w :: ws ∧ w.after ws ≠ [] ∧ s.tnd.inhibit = false ∧ s.tnd.up = true :=
  ⟨{ kind := .boot true, work := [.bootErase, .bootProgram true false false 3] }, .bootErase,
    [.bootProgram true false false 3], [],
    running.modTnd fun t => { t with jobs := [{ kind := .boot true, work := [.bootErase, .bootProgram true false false 3] }] },
    by decide +kernel⟩

theorem witness_NonVolatileWrites_6 : ∃ (p : PktRef) (b : Fin 2) (off : Nat) (len : Nat) (bytes : List Byte)
    (s : State), s.tnd.jobs = [{ kind := NvKind.fwWrite p b off len, work := [NvWork.fwProgram b off bytes] }] ∧
    s.tnd.inhibit = false ∧ s.tnd.up = true :=
  ⟨ref0, 1, 0, 32, [0],
    running.modTnd fun t => { t with jobs := [{ kind := .fwWrite ref0 1 0 32, work := [.fwProgram 1 0 [0]] }] },
    by decide +kernel⟩

theorem witness_NonVolatileWrites_7 : ∃ (s : State), s.tnd.inhibit = true ∨ s.tnd.up = false ∨ s.tnd.jobs = [] :=
  ⟨running, by decide +kernel⟩

theorem witness_NonVolatileWrites_8 : ∃ (via : Via) (s : State), s.mayWrite via.path 983296 = true ∧ s.alone = true ∧
    s.flag R.mgtFwCtrlAdvEn = true ∧ s.tnd.trial = false ∧ s.tnd.recovery = false ∧ s.tnd.up = true ∧
    s.nvShut = false ∧ s.tnd.fuses < min 64 (s.fw (if s.tnd.bank = true then 1 else 0)).rollback :=
  ⟨{ path := .tender },
    State.fset R.mgtFwCtrlAdvEn 1 (running.modTnd fun t => { t with banks := vrep 2 { cells := [(12, 1)] } }),
    by decide +kernel⟩

theorem witness_NonVolatileWrites_9 : ∃ (via : Via) (s : State), s.mayWrite via.path 983296 = true ∧ s.alone = true ∧
    s.tnd.up = true ∧ (s.flag R.mgtFwCtrlAdvEn = false ∨ s.tnd.trial = true ∨ s.tnd.recovery = true) :=
  ⟨{ path := .tender }, running, by decide +kernel⟩

theorem witness_NonVolatileWrites_10 : ∃ (via : Via) (s : State), s.mayWrite via.path 983296 = true ∧ s.alone = true ∧
    s.tnd.up = false :=
  ⟨{ path := .cxl }, running.modTnd fun t => { t with up := false }, by decide +kernel⟩

theorem witness_NonVolatileWrites_11 : ∃ (b : Fin 2) (rest : List (Fin 2 ⊕ BitVec 16)) (s : State), s.tnd.up = true ∧
    s.tnd.reload = Sum.inl b :: rest ∧ s.cal.banks[b].fromSlot = true ∧ s.tnd.slots[b].crcOk = true :=
  ⟨1, [],
    (running.modTnd fun t => { t with reload := [.inl 1] }).modCal fun c => { c with banks := vrep 2 { fromSlot := true } },
    by decide +kernel⟩

theorem witness_NonVolatileWrites_12 : ∃ (b : Fin 2) (rest : List (Fin 2 ⊕ BitVec 16)) (s : State), s.tnd.up = true ∧
    s.tnd.reload = Sum.inl b :: rest ∧ (s.cal.banks[b].fromSlot = false ∨ s.tnd.slots[b].crcOk = false) :=
  ⟨1, [], running.modTnd fun t => { t with reload := [.inl 1] }, by decide +kernel⟩

theorem witness_NonVolatileWrites_13 : ∃ (s : State), s.tnd.reload = [] :=
  ⟨running, by decide +kernel⟩

theorem witness_NonVolatileWrites_14 : ∃ (id : BitVec 16) (rest : List (Fin 2 ⊕ BitVec 16)) (s : State),
    s.tnd.up = true ∧ s.tnd.reload = Sum.inr id :: rest :=
  ⟨7, [], running.modTnd fun t => { t with reload := [.inr 7] }, by decide +kernel⟩

theorem witness_PortsAndTheirCommands_0 : ∃ (p : Fin 4) (s : State), (s.port p).state = PortState.training :=
  ⟨2, running.onPort 2 fun q => { q with state := .training }, by decide +kernel⟩

theorem witness_PortsAndTheirCommands_1 : ∃ (p : Fin 4) (s : State), (s.port p).state ≠ PortState.training :=
  ⟨2, running, by decide +kernel⟩

theorem witness_PortsAndTheirCommands_2 : ∃ (p : Fin 4) (s : State), (s.port p).state = PortState.absent ∧
    (s.port p).trainAt + 10000000 ≤ s.now ∧ s.clk.xtalOk = true :=
  ⟨2,
    (running.onPort 2 fun q => { q with state := .absent, trainAt := 0 }).modTb fun t => { t with tick := 10000000 },
    by decide +kernel⟩

theorem witness_PortsAndTheirCommands_3 : ∃ (p : Fin 4) (s : State), (s.port p).state = PortState.absent ∧
    s.clk.xtalOk = false :=
  ⟨2, (running.onPort 2 fun q => { q with state := .absent }).modClk fun c => { c with xtalOk := false },
    by decide +kernel⟩

theorem witness_PortsAndTheirCommands_4 : ∃ (p : Fin 4) (s : State),
    (s.port p).state ≠ PortState.absent ∨ s.now < (s.port p).trainAt + 10000000 :=
  ⟨2,
    (running.onPort 2 fun q => { q with state := .absent, trainAt := 1 }).modTb fun t => { t with tick := 10000000 },
    by decide +kernel⟩

theorem witness_PortsAndTheirCommands_5 : ∃ (p : Fin 4) (lane : Fin 2) (s : State), (s.port p).state = PortState.up ∧
    ((s.port p).partnerSec = false ∨ (s.port p).lock &&& ~~~((1 : BitVec 2) <<< (lane : Nat)) ≠ 0) ∧
    (s.secPort = none ∨ s.wl.onSec = true ∨ p ≠ s.upPort) :=
  ⟨2, 0, running.onPort 2 fun q => { q with state := .up, partnerSec := true, lock := 3 },
    ⟨rfl, .inr (by decide +kernel), .inl rfl⟩⟩

theorem witness_PortsAndTheirCommands_6 : ∃ (p : Fin 4) (q : Fin 4) (s : State), (s.port p).state = PortState.up ∧
    (s.port p).partnerSec = false ∧ s.secPort = some q ∧ s.wl.onSec = false ∧ p = s.upPort ∧
    (s.port q).state = PortState.idle :=
  ⟨0, 1,
    State.fset R.wlkCtrlSecEn 1 (State.fset R.wlkCtrlUpSec 1 (((running.modWl fun w => { w with role := .slave }).onPort 0 fun q => { q with state := .up }).onPort 1 fun q => { q with state := .idle })),
    by decide +kernel⟩

theorem witness_PortsAndTheirCommands_7 : ∃ (p : Fin 4) (s : State), (s.port p).state ≠ PortState.up :=
  ⟨2, running, by decide +kernel⟩

theorem witness_PortsAndTheirCommands_8 : ∃ (p : Fin 4) (lane : Fin 2) (s : State), (s.port p).state = PortState.up ∧
    (s.port p).partnerSec = true ∧ (s.port p).lock &&& ~~~((1 : BitVec 2) <<< (lane : Nat)) = 0 :=
  ⟨2, 1, running.onPort 2 fun q => { q with state := .up, partnerSec := true, lock := 2 }, by decide +kernel⟩

theorem witness_PortsAndTheirCommands_9 : ∃ (p : Fin 4) (at' : Nat) (s : State), (s.port p).state = PortState.up ∧
    (s.port p).lossAt = some at' ∧ s.now < at' + 2000 :=
  ⟨2, 998001, running.onPort 2 fun q => { q with state := .up, lossAt := some 998001 }, by decide +kernel⟩

theorem witness_PortsAndTheirCommands_10 : ∃ (p : Fin 4) (at' : Nat) (s : State), (s.port p).state = PortState.up ∧
    (s.port p).lossAt = some at' ∧ at' + 2000 ≤ s.now :=
  ⟨2, 998000, running.onPort 2 fun q => { q with state := .up, lossAt := some 998000 }, by decide +kernel⟩

theorem witness_PortsAndTheirCommands_11 : ∃ (p : Fin 4) (s : State), (s.port p).state = PortState.idle :=
  ⟨2, running.onPort 2 fun q => { q with state := .idle }, by decide +kernel⟩

theorem witness_PortsAndTheirCommands_12 : ∃ (q : Fin 4) (s : State), s.secPort = some q ∧
    (s.port q).state = PortState.idle ∧ s.wl.onSec = false ∧
    Option.all (fun a => decide (a + 1000000000 ≤ s.now)) (s.port q).outAt = true :=
  ⟨1,
    State.fset R.wlkCtrlSecEn 1 (State.fset R.wlkCtrlUpSec 1 ((running.modWl fun w => { w with role := .slave }).onPort 1 fun q => { q with state := .idle })),
    by decide +kernel⟩

theorem witness_PortsAndTheirCommands_13 : ∃ (q : Fin 4) (s : State), s.secPort = some q ∧
    (s.port q).state = PortState.idle ∧ s.wl.onSec = false ∧
    Option.all (fun a => decide (a + 1000000000 ≤ s.now)) (s.port q).outAt = false :=
  ⟨1,
    State.fset R.wlkCtrlSecEn 1 (State.fset R.wlkCtrlUpSec 1 ((running.modWl fun w => { w with role := .slave }).onPort 1 fun q => { q with state := .idle, outAt := some 1 })),
    by decide +kernel⟩

theorem witness_PortsAndTheirCommands_14 : ∃ (via : Via) (p : Fin 4) (s : State),
    s.mayWrite via.path (721152 + 64 * ↑p) = true ∧ s.alone = true ∧ bitOf (s.reg (721152 + 64 * ↑p)) 0 = true ∧
    bits (s.reg (721152 + 64 * ↑p)) 2 2 = 0 ∧ s.clk.xtalOk = true :=
  ⟨{ path := .tender }, 2, State.setReg 721280 1 running, by decide +kernel⟩

theorem witness_PortsAndTheirCommands_15 : ∃ (via : Via) (p : Fin 4) (mode : BitVec 2) (s : State),
    s.mayWrite via.path (721152 + 64 * ↑p) = true ∧ s.alone = true ∧ bitOf (s.reg (721152 + 64 * ↑p)) 0 = true ∧
    mode ≠ 0 ∧ (s.onLink && p == s.upPort) = false :=
  ⟨{ path := .tender }, 2, 1, State.setReg 721280 1 running, by decide +kernel⟩

theorem witness_PortsAndTheirCommands_16 : ∃ (via : Via) (s : State), s.mayWrite via.path 725060 = true ∧
    s.alone = true :=
  ⟨{ path := .tender }, running, by decide +kernel⟩

theorem witness_FramesAndLatency_0 : ∃ (p : Fin 4) (s : State), (s.port p).state = PortState.up ∧
    State.checkOver p s = false ∧ s.wl.hops ≤ 16 :=
  ⟨2, running.onPort 2 fun q => { q with state := .up }, by decide +kernel⟩

theorem witness_FramesAndLatency_1 : ∃ (p : Fin 4) (s : State), (s.port p).state = PortState.up ∧
    State.checkOver p s = false ∧ 16 < s.wl.hops :=
  ⟨2, (running.onPort 2 fun q => { q with state := .up }).modWl fun w => { w with hops := 17 }, by decide +kernel⟩

theorem witness_FramesAndLatency_2 : ∃ (p : Fin 4) (s : State), (s.port p).state = PortState.up ∧
    State.checkOver p s = true :=
  ⟨1, spared 980000, by decide +kernel⟩

theorem witness_FramesAndLatency_3 : ∃ (p : Fin 4) (s : State), (s.port p).state ≠ PortState.up :=
  ⟨2, running, by decide +kernel⟩

theorem witness_FramesAndLatency_4 : ∃ (p : Fin 4) (s : State), (s.port p).state = PortState.up ∧
    ((s.port p).echoDue = true ∨ 16 ≤ (s.port p).frames) :=
  ⟨2, running.onPort 2 fun q => { q with state := .up, frames := 16 }, by decide +kernel⟩

theorem witness_FramesAndLatency_5 : ∃ (p : Fin 4) (s : State),
    (s.port p).state ≠ PortState.up ∨ (s.port p).echoDue = false ∧ (s.port p).frames < 16 :=
  ⟨2, running.onPort 2 fun q => { q with state := .up, frames := 15 }, by decide +kernel⟩

theorem witness_FramesAndLatency_6 : ∃ (p : Fin 4) (c : BitVec 432) (s : State), s.carries p = true ∧
    chunkGood c = true ∧ chunkType c = 2 :=
  ⟨2, chunkOf [2], running.onPort 2 fun q => { q with state := .up, lock := 3 }, by decide +kernel⟩

theorem witness_FramesAndLatency_7 : ∃ (p : Fin 4) (c : BitVec 432) (s : State), s.carries p = true ∧
    chunkGood c = false :=
  ⟨2, 0, running.onPort 2 fun q => { q with state := .up, lock := 3 }, by decide +kernel⟩

theorem witness_FramesAndLatency_8 : ∃ (p : Fin 4) (c : BitVec 432) (at16 : Nat) (s : State), s.carries p = true ∧
    chunkGood c = true ∧ chunkType c = 3 ∧
    ((Port.measure (roundHalfUp (↑at16 - ↑(bits c 16 64) - ↑(bits c 80 64)) 2).toNat (s.port p)).fresh && (Port.measure (roundHalfUp (↑at16 - ↑(bits c 16 64) - ↑(bits c 80 64)) 2).toNat (s.port p)).lamOk && State.spare p s && ((s.port p).outAt.isNone || State.checkOver p s)) = false :=
  ⟨1, chunkOf [3], 0, spared 980001, by decide +kernel⟩

theorem witness_FramesAndLatency_9 : ∃ (p : Fin 4) (c : BitVec 432) (at16 : Nat) (s : State), s.carries p = true ∧
    chunkGood c = true ∧ chunkType c = 3 ∧
    ((Port.measure (roundHalfUp (↑at16 - ↑(bits c 16 64) - ↑(bits c 80 64)) 2).toNat (s.port p)).fresh && (Port.measure (roundHalfUp (↑at16 - ↑(bits c 16 64) - ↑(bits c 80 64)) 2).toNat (s.port p)).lamOk && State.spare p s && ((s.port p).outAt.isNone || State.checkOver p s)) = true :=
  ⟨1, chunkOf [3], 0, spared 980000, by decide +kernel⟩

theorem witness_FramesAndLatency_10 : ∃ (p : Fin 4) (c : BitVec 432) (at16 : Nat) (s : State), s.carries p = true ∧
    chunkGood c = true ∧ chunkType c = 3 ∧
    (Port.measure (roundHalfUp (↑at16 - ↑(bits c 16 64) - ↑(bits c 80 64)) 2).toNat (s.port p)).lamOk = false ∧
    ↑p = s.fget R.wlkCtrlUpPri :=
  ⟨0, chunkOf [3], 0, running.onPort 0 fun q => { q with state := .up, lock := 3 }, by decide +kernel⟩

theorem witness_PositionHoldoverAndMarks_0 : ∃ (p : Fin 4) (b : BitVec 192) (s : State), s.carries p = true ∧
    crc16 (List.take 22 (leBytes 24 b.toNat)) = bits b 176 16 ∧ s.onLink = true ∧ s.wl.failing = none ∧ p = s.upPort ∧
    (s.wl.sourceOk = true → BitVec.extractLsb' 128 16 b = s.wl.source) :=
  ⟨0, position0,
    running.modWl fun w => { w with role := .slave, member := .member, ports := vrep 4 { state := .up, lock := 3 } },
    by decide +kernel⟩

theorem witness_PositionHoldoverAndMarks_1 : ∃ (p : Fin 4) (s : State), s.carries p = true :=
  ⟨0,
    running.modWl fun w => { w with role := .slave, member := .member, ports := vrep 4 { state := .up, lock := 3 } },
    by decide +kernel⟩

theorem witness_PositionHoldoverAndMarks_2 : ∃ (p : Fin 4) (b : BitVec 192) (s : State), s.carries p = true ∧
    crc16 (List.take 22 (leBytes 24 b.toNat)) = bits b 176 16 ∧ s.onLink = false ∧
    (bits b 128 16 ≠ s.fget R.wlkHeadId ∨ bits b 160 5 = 0) :=
  ⟨2, position1, running.onPort 2 fun q => { q with state := .up, lock := 3 }, by decide +kernel⟩

theorem witness_PositionHoldoverAndMarks_3 : ∃ (p : Fin 4) (b : BitVec 192) (s : State), s.carries p = true ∧
    s.onLink = true ∧ s.wl.failing ≠ some ↑p ∧ p = s.upPort ∧ s.wl.sourceOk = true ∧
    BitVec.extractLsb' 128 16 b ≠ s.wl.source :=
  ⟨0, position1,
    (running.modWl fun w => { w with role := .slave, member := .member, ports := vrep 4 { state := .up, lock := 3 } }).modWl fun w => { w with sourceOk := true },
    by decide +kernel⟩

theorem witness_PositionHoldoverAndMarks_4 : ∃ (p : Fin 4) (s : State), s.carries p = false :=
  ⟨0, running, by decide +kernel⟩

theorem witness_PositionHoldoverAndMarks_5 : ∃ (s : State), s.onLink = true ∧ s.wl.member = Member.member ∧
    s.holdoverPast = true ∧ s.tb.mode = TrackMode.tracking :=
  ⟨running.modWl fun w => { w with role := .slave, member := .member, lastPkt := some 0 }, by decide +kernel⟩

theorem witness_PositionHoldoverAndMarks_6 : ∃ (s : State), s.holdoverPast = false :=
  ⟨running, by decide +kernel⟩

theorem witness_PositionHoldoverAndMarks_7 : ∃ (p : Fin 4) (c : BitVec 432) (s : State), s.carries p = true ∧
    chunkGood c = true ∧ chunkType c = 1 ∧ s.onLink = true ∧ p = s.upPort ∧
    Option.any (fun m => decide (m.seq = bits c 16 48)) s.wl.mark = false ∧ s.producing = false :=
  ⟨0, chunkOf [1],
    running.modWl fun w => { w with role := .slave, member := .fed, ports := vrep 4 { state := .up, lock := 3 } },
    by decide +kernel⟩

theorem witness_PositionHoldoverAndMarks_8 : ∃ (p : Fin 4) (c : BitVec 432) (s : State), s.carries p = true ∧
    chunkGood c = true ∧ chunkType c = 1 ∧ Option.any (fun m => decide (m.seq = bits c 16 48)) s.wl.mark = true :=
  ⟨2, chunkOf [1],
    (running.onPort 2 fun q => { q with state := .up, lock := 3 }).modWl fun w => { w with mark := some { k := 0, seq := 0, t := 0, ream := 0 } },
    by decide +kernel⟩

theorem witness_PositionHoldoverAndMarks_9 : ∃ (p : Fin 4) (c : BitVec 432) (s : State), s.carries p = true ∧
    chunkGood c = true ∧ chunkType c = 1 ∧ s.onLink = true ∧ p = s.upPort ∧
    Option.any (fun m => decide (m.seq = bits c 16 48)) s.wl.mark = false ∧ s.producing = true ∧
    s.tb.nextSeq ≤ bits c 16 48 :=
  ⟨0, chunkOf [1],
    running.modWl fun w => { w with role := .slave, member := .member, ports := vrep 4 { state := .up, lock := 3 } },
    by decide +kernel⟩

theorem witness_PositionHoldoverAndMarks_10 : ∃ (p : Fin 4) (c : BitVec 432) (s : State), s.carries p = true ∧
    chunkGood c = true ∧ chunkType c = 1 ∧ s.onLink = false :=
  ⟨2, chunkOf [1], running.onPort 2 fun q => { q with state := .up, lock := 3 }, by decide +kernel⟩

theorem witness_EnumerationMessagesAndSeams_0 : ∃ (p : Fin 4) (c : BitVec 432) (s : State), s.carries p = true ∧
    chunkGood c = true ∧ chunkType c = 4 ∧ s.onLink = true ∧ p = s.upPort ∧ s.wl.member ≠ Member.unfed :=
  ⟨0, chunkOf [4],
    running.modWl fun w => { w with role := .slave, member := .member, ports := vrep 4 { state := .up, lock := 3 } },
    by decide +kernel⟩

theorem witness_EnumerationMessagesAndSeams_1 : ∃ (p : Fin 4) (c : BitVec 432) (s : State), s.carries p = true ∧
    chunkGood c = true ∧ chunkType c = 5 ∧ s.onLink = false ∧ s.downPorts.contains p = true ∧
    s.cmd.enum.isSome = true :=
  ⟨2, chunkOf [5],
    State.fset R.wlkCtrlDownEn 4 ((running.onPort 2 fun q => { q with state := .up, lock := 3 }).modCmd fun c => { c with enum := some (ref0, 0) }),
    by decide +kernel⟩

theorem witness_EnumerationMessagesAndSeams_2 : ∃ (p : Fin 4) (c : BitVec 432) (s : State), s.carries p = true ∧
    chunkGood c = true ∧ chunkType c = 5 ∧ s.onLink = true ∧ s.downPorts.contains p = true ∧
    (s.port s.upPort).state = PortState.up :=
  ⟨2, chunkOf [5],
    State.fset R.wlkCtrlDownEn 4 (running.modWl fun w => { w with role := .slave, member := .member, ports := vrep 4 { state := .up, lock := 3 } }),
    by decide +kernel⟩

theorem witness_EnumerationMessagesAndSeams_3 : ∃ (p : Fin 4) (c : BitVec 432) (s : State), s.carries p = true ∧
    chunkGood c = true ∧ chunkType c = 6 ∧ s.positionPorts.contains p = true ∧
    (bits c 16 16 = s.fget R.wlkHeadId ∨ bits c 16 16 = 65535) ∧ bits c 56 8 % 2 = 0 ∧ bits c 64 8 ≤ 32 ∧
    s.flag R.mgtCtrlLogRemote = false ∧ s.wl.fifo.length < 16 :=
  ⟨2, chunkOf [6, 0, 0xFF, 0xFF, 0, 0, 0, 0, 32],
    State.fset R.mgtCtrlLogRemote 0 (State.fset R.wlkCtrlDownEn 4 (running.modWl fun w => { w with role := .slave, member := .member, ports := vrep 4 { state := .up, lock := 3 } })),
    by decide +kernel⟩

theorem witness_EnumerationMessagesAndSeams_4 : ∃ (p : Fin 4) (c : BitVec 432) (s : State), s.carries p = true ∧
    chunkGood c = true ∧ chunkType c = 6 ∧ s.positionPorts.contains p = true ∧
    (bits c 16 16 = s.fget R.wlkHeadId ∨ bits c 16 16 = 65535) ∧ bits c 56 8 % 2 = 0 ∧ bits c 64 8 ≤ 32 ∧
    s.flag R.mgtCtrlLogRemote = false ∧ 16 ≤ s.wl.fifo.length :=
  ⟨2, chunkOf [6, 0, 0, 0, 0, 0, 0, 0, 32],
    (State.fset R.mgtCtrlLogRemote 0 (State.fset R.wlkCtrlDownEn 4 (running.modWl fun w => { w with role := .slave, member := .member, ports := vrep 4 { state := .up, lock := 3 } }))).modWl fun w => { w with fifo := List.replicate 16 { src := 0, bcast := false, data := [] } },
    by decide +kernel⟩

theorem witness_EnumerationMessagesAndSeams_5 : ∃ (p : Fin 4) (c : BitVec 432) (d : List Byte) (s : State),
    s.carries p = true ∧ chunkGood c = true ∧ chunkType c = 6 ∧ s.positionPorts.contains p = true ∧
    (bits c 16 16 = s.fget R.wlkHeadId ∨ bits c 16 16 = 65535) ∧ bits c 56 8 % 2 = 1 ∧
    s.flag R.mgtCtrlLogRemote = false ∧ s.wl.fifo.length < 16 ∧
    s.wl.parts = [{ src := BitVec.extractLsb' 32 16 c, num := BitVec.extractLsb' 48 8 c, data := d }] :=
  ⟨2, chunkOf [6, 0, 0, 0, 0, 0, 9, 1, 32], [1],
    (State.fset R.mgtCtrlLogRemote 0 (State.fset R.wlkCtrlDownEn 4 (running.modWl fun w => { w with role := .slave, member := .member, ports := vrep 4 { state := .up, lock := 3 } }))).modWl fun w => { w with parts := [{ src := 0, num := 9, data := [1] }] },
    by decide +kernel⟩

theorem witness_EnumerationMessagesAndSeams_6 : ∃ (p : Fin 4) (c : BitVec 432) (s : State), s.carries p = true ∧
    chunkGood c = true ∧ chunkType c = 6 ∧ s.positionPorts.contains p = true ∧ bits c 16 16 ≠ s.fget R.wlkHeadId ∧
    bits c 16 16 ≠ 65535 :=
  ⟨2, chunkOf [6, 0, 1],
    State.fset R.mgtCtrlLogRemote 0 (State.fset R.wlkCtrlDownEn 4 (running.modWl fun w => { w with role := .slave, member := .member, ports := vrep 4 { state := .up, lock := 3 } })),
    by decide +kernel⟩

theorem witness_EnumerationMessagesAndSeams_7 : ∃ (p : Fin 4) (c : BitVec 432) (right : Bool) (s : State),
    s.carries p = true ∧ chunkGood c = true ∧ chunkType c = 7 ∧
    ↑p = s.cur (if right = true then R.wlkSeamPortR else R.wlkSeamPortL) ∧
    ↑p ≠ s.cur (if right = true then R.wlkSeamPortL else R.wlkSeamPortR) ∧ s.seamSide right = true ∧
    s.seamDue right ≤ bits c 16 48 ∧ s.wl.seams = [] ∧ bits c 64 8 < 128 :=
  ⟨2, chunkOf [7, 0, 0, 0, 0, 0, 0, 0, 127], false,
    setting R.wlkSeamRxEn 1 (setting R.wlkSeamRxSides 3 (setting R.wlkSeamFields 15 (setting R.wlkSeamPortR 3 (setting R.wlkSeamPortL 2 (running.modWl fun w => { w with role := .slave, member := .member, ports := vrep 4 { state := .up, lock := 3 } }))))),
    by decide +kernel⟩

theorem witness_EnumerationMessagesAndSeams_8 : ∃ (right : Bool) (e : Nat) (s : State), s.seamSide right = true ∧
    s.seamAwaited right = some e ∧ e + 512 < s.tb.nextSeq :=
  ⟨true, 0,
    setting R.wlkSeamRxEn 1 (setting R.wlkSeamRxSides 3 (setting R.wlkSeamFields 15 (setting R.wlkSeamPortR 3 (setting R.wlkSeamPortL 2 (running.modTb fun t => { t with nextSeq := 513 }))))),
    by decide +kernel⟩

theorem witness_EnumerationMessagesAndSeams_9 : ∃ (right : Bool) (s : State),
    s.seamSide right = false ∨ s.seamAwaited right = none :=
  ⟨false, running, by decide +kernel⟩

theorem witness_EnumerationMessagesAndSeams_10 : ∃ (s : State), s.producing = false :=
  ⟨running.modWl fun w => { w with member := .fed }, by decide +kernel⟩

theorem witness_EngineDataInstructions_0 : ∃ (e : Fin 8) (s : State), s.alone = true ∧ s.stepDue e = true ∧
    opOf (s.eng e).word = 0 :=
  ⟨5, running.onEng 5 fun g => { g with state := .running, origin := 1000000, store := vrep 32 0 }, by decide +kernel⟩

theorem witness_EngineDataInstructions_1 : ∃ (e : Fin 8) (s : State), s.stepDue e = false :=
  ⟨5, running, by decide +kernel⟩

theorem witness_EngineDataInstructions_2 : ∃ (e : Fin 8) (w : Word) (s : State), s.alone = true ∧ s.stepDue e = true ∧
    (s.eng e).word = w ∧ opOf w = 6 :=
  ⟨5, 0x60000000,
    running.onEng 5 fun g => { g with state := .running, origin := 1000000, store := vrep 32 0x60000000 },
    by decide +kernel⟩

theorem witness_EngineDataInstructions_3 : ∃ (e : Fin 8) (w : Word) (s : State), s.alone = true ∧ s.stepDue e = true ∧
    (s.eng e).word = w ∧ opOf w = 2 ∧ bits w 16 5 = 1 :=
  ⟨5, 0x20010000,
    running.onEng 5 fun g => { g with state := .running, origin := 1000000, store := vrep 32 0x20010000 },
    by decide +kernel⟩

theorem witness_EngineDataInstructions_4 : ∃ (e : Fin 8) (w : Word) (s : State), s.alone = true ∧ s.stepDue e = true ∧
    (s.eng e).word = w ∧ opOf w = 9 :=
  ⟨5, 0x90000000,
    running.onEng 5 fun g => { g with state := .running, origin := 1000000, store := vrep 32 0x90000000 },
    by decide +kernel⟩

theorem witness_EngineDataInstructions_5 : ∃ (e : Fin 8) (w : Word) (s : State), s.alone = true ∧ s.stepDue e = true ∧
    (s.eng e).word = w ∧ opOf w = 9 ∧ bits w 24 4 = 0 :=
  ⟨5, 0x90000000,
    running.onEng 5 fun g => { g with state := .running, origin := 1000000, store := vrep 32 0x90000000 },
    by decide +kernel⟩

theorem witness_EngineDataInstructions_6 : ∃ (e : Fin 8) (w : Word) (s : State), s.alone = true ∧ s.stepDue e = true ∧
    (s.eng e).word = w ∧ opOf w = 11 :=
  ⟨5, 0xB0000000,
    running.onEng 5 fun g => { g with state := .running, origin := 1000000, store := vrep 32 0xB0000000 },
    by decide +kernel⟩

theorem witness_EngineDataInstructions_7 : ∃ (e : Fin 8) (s : State), (s.eng e).state = EngState.waiting ∧
    (s.eng e).held = false ∧ opOf (s.eng e).cur = 11 ∧ (s.eng e).dlyFrom + (s.eng e).dly * (s.eng e).len ≤ s.now :=
  ⟨5,
    running.onEng 5 fun g => { g with state := .waiting, origin := 1000000, cur := 0xB0000000, dly := 0, dlyFrom := 1000000 },
    by decide +kernel⟩

theorem witness_EngineDataInstructions_8 : ∃ (e : Fin 8) (s : State), (s.eng e).state = EngState.waiting ∧
    (s.eng e).held = false ∧ opOf (s.eng e).cur = 11 ∧ s.now < (s.eng e).dlyFrom + (s.eng e).dly * (s.eng e).len :=
  ⟨5,
    running.onEng 5 fun g => { g with state := .waiting, origin := 1000000, cur := 0xB0000000, dly := 1, dlyFrom := 1000000 },
    by decide +kernel⟩

theorem witness_EnginePinsAndStamps_0 : ∃ (e : Fin 8) (w : Word) (n : Nat) (s : State), s.alone = true ∧
    s.stepDue e = true ∧ (s.eng e).word = w ∧ opOf w = 1 ∧ (n = if bits w 16 5 = 0 then 32 else bits w 16 5) ∧
    (s.eng e).stamp = none ∧ s.outCnt e = 1 ∧ s.owner (s.winPin e 0) = some e :=
  ⟨5, 0x10000000, 32,
    State.fset (R.penPinsOutCnt 5) 1 (running.onEng 5 fun g => { g with state := .running, origin := 1000000, store := vrep 32 0x10000000 }),
    by decide +kernel⟩

theorem witness_EnginePinsAndStamps_1 : ∃ (e : Fin 8) (w : Word) (s : State), s.alone = true ∧ s.stepDue e = true ∧
    (s.eng e).word = w ∧ opOf w = 5 ∧ (s.eng e).stamp = none ∧ s.outCnt e = 1 ∧ s.owner (s.winPin e 0) = some e :=
  ⟨5, 0x50000000,
    State.fset (R.penPinsOutCnt 5) 1 (running.onEng 5 fun g => { g with state := .running, origin := 1000000, store := vrep 32 0x50000000 }),
    by decide +kernel⟩

theorem witness_EnginePinsAndStamps_2 : ∃ (e : Fin 8) (w : Word) (s : State), s.alone = true ∧ s.stepDue e = true ∧
    (s.eng e).word = w ∧ opOf w = 5 ∧ (s.eng e).stamp = none ∧ s.outCnt e = 1 ∧ s.owner (s.winPin e 0) ≠ some e :=
  ⟨5, 0x50000000,
    State.fset (R.penPinsOutCnt 1) 1 ((State.fset (R.penPinsOutCnt 5) 1 (running.onEng 5 fun g => { g with state := .running, origin := 1000000, store := vrep 32 0x50000000 })).onEng 1 fun g => { g with state := .running }),
    by decide +kernel⟩

theorem witness_EnginePinsAndStamps_3 : ∃ (e : Fin 8) (w : Word) (s : State), s.alone = true ∧ s.stepDue e = true ∧
    (s.eng e).word = w ∧ opOf w = 8 :=
  ⟨5, 0x80000000,
    running.onEng 5 fun g => { g with state := .running, origin := 1000000, store := vrep 32 0x80000000 },
    by decide +kernel⟩

theorem witness_EnginePinsAndStamps_4 : ∃ (e : Fin 8) (w : Word) (p : Stamp) (s : State), s.alone = true ∧
    s.stepDue e = true ∧ (s.eng e).word = w ∧ opOf w = 5 ∧ (s.eng e).stamp = some p ∧ s.passed p = false ∧
    s.reached p = false ∧ p.met = false :=
  ⟨5, 0x50000000, { isWc := false, target := 1000001, at' := 0, armed := 999000, ahead := true },
    running.onEng 5 fun g => { g with state := .running, origin := 1000000, store := vrep 32 0x50000000, stamp := some { isWc := false, target := 1000001, at' := 0, armed := 999000, ahead := true } },
    by decide +kernel⟩

theorem witness_EnginePinsAndStamps_5 : ∃ (e : Fin 8) (p : Stamp) (s : State), (s.eng e).stamp = some p ∧
    (s.eng e).held = true ∧ s.reached p = true :=
  ⟨5, { isWc := false, target := 1000000, at' := 0, armed := 999000, ahead := true },
    running.onEng 5 fun g => { g with held := true, stamp := some { isWc := false, target := 1000000, at' := 0, armed := 999000, ahead := true } },
    by decide +kernel⟩

theorem witness_EnginePinsAndStamps_6 : ∃ (e : Fin 8) (p : Stamp) (s : State), (s.eng e).stamp = some p ∧
    (s.eng e).held = true ∧ s.reached p = false :=
  ⟨5, { isWc := false, target := 1000001, at' := 0, armed := 999000, ahead := true },
    running.onEng 5 fun g => { g with held := true, stamp := some { isWc := false, target := 1000001, at' := 0, armed := 999000, ahead := true } },
    by decide +kernel⟩

theorem witness_EnginePinsAndStamps_7 : ∃ (e : Fin 8) (s : State), (s.eng e).stamp = none ∨ (s.eng e).held = false :=
  ⟨5, running, by decide +kernel⟩

theorem witness_EnginePinsAndStamps_8 : ∃ (e : Fin 8) (w : Word) (p : Stamp) (s : State), s.alone = true ∧
    s.stepDue e = true ∧ (s.eng e).word = w ∧ opOf w = 5 ∧ (s.eng e).stamp = some p ∧ s.passed p = true ∧
    Stamp.inArming (s.eng e) p = false :=
  ⟨5, 0x50000000, { isWc := false, target := 999999, at' := 0, armed := 999000, ahead := true },
    running.onEng 5 fun g => { g with state := .running, origin := 1000000, store := vrep 32 0x50000000, stamp := some { isWc := false, target := 999999, at' := 0, armed := 999000, ahead := true } },
    by decide +kernel⟩

theorem witness_EnginePinsAndStamps_9 : ∃ (e : Fin 8) (w : Word) (p : Stamp) (s : State), s.alone = true ∧
    s.stepDue e = true ∧ (s.eng e).word = w ∧ opOf w = 5 ∧ (s.eng e).stamp = some p ∧
    Stamp.inArming (s.eng e) p = true ∧ p.met = true ∧ s.outCnt e = 0 :=
  ⟨5, 0x50000000, metStamp 999999, stamped (metStamp 999999), by decide +kernel⟩

theorem witness_EnginePinsAndStamps_10 : ∃ (e : Fin 8) (w : Word) (p : Stamp) (s : State), s.alone = true ∧
    s.stepDue e = true ∧ (s.eng e).word = w ∧ opOf w = 5 ∧ (s.eng e).stamp = some p ∧ p.met = true ∧
    s.passed p = false :=
  ⟨5, 0x50000000, metStamp 1000001, stamped (metStamp 1000001), by decide +kernel⟩

theorem witness_EngineWaitsFifosAndFlags_0 : ∃ (e : Fin 8) (w : Word) (s : State), s.alone = true ∧
    s.stepDue e = true ∧ (s.eng e).word = w ∧ opOf w = 7 :=
  ⟨5, 0x70000000,
    running.onEng 5 fun g => { g with state := .running, origin := 1000000, store := vrep 32 0x70000000 },
    by decide +kernel⟩

theorem witness_EngineWaitsFifosAndFlags_1 : ∃ (e : Fin 8) (pins : BitVec 24) (s : State),
    (s.eng e).state = EngState.waiting ∧ (s.eng e).held = false ∧ opOf (s.eng e).cur = 7 ∧ s.stepStarts e = true ∧
    (State.samplePins pins s).waitTrue e = true :=
  ⟨5, 0,
    (running.onEng 5 fun g => { g with state := .waiting, origin := 1000000, cur := waitFlag }).modPen fun p => { p with flags := 1 },
    by decide +kernel⟩

theorem witness_EngineWaitsFifosAndFlags_2 : ∃ (e : Fin 8) (pins : BitVec 24) (s : State),
    (s.eng e).state = EngState.waiting ∧ (s.eng e).held = false ∧ opOf (s.eng e).cur = 7 ∧ s.stepStarts e = true ∧
    (State.samplePins pins s).waitTrue e = false :=
  ⟨5, 0, running.onEng 5 fun g => { g with state := .waiting, origin := 1000000, cur := waitFlag }, by decide +kernel⟩

theorem witness_EngineWaitsFifosAndFlags_3 : ∃ (e : Fin 8) (w : Word) (v : Word) (rest : List Word) (s : State),
    s.alone = true ∧ s.stepDue e = true ∧ (s.eng e).word = w ∧ opOf w = 3 ∧ (s.eng e).tx = v :: rest ∧
    fifoCode w = none :=
  ⟨5, 0x30000000, 9, [],
    running.onEng 5 fun g => { g with state := .running, origin := 1000000, store := vrep 32 0x30000000, tx := [9] },
    by decide +kernel⟩

theorem witness_EngineWaitsFifosAndFlags_4 : ∃ (e : Fin 8) (w : Word) (s : State), s.alone = true ∧
    s.stepDue e = true ∧ (s.eng e).word = w ∧ opOf w = 3 ∧ (s.eng e).tx = [] ∧ s.flag (R.penCtrlNostall ↑e) = false :=
  ⟨5, 0x30000000,
    running.onEng 5 fun g => { g with state := .running, origin := 1000000, store := vrep 32 0x30000000 },
    by decide +kernel⟩

theorem witness_EngineWaitsFifosAndFlags_5 : ∃ (e : Fin 8) (w : Word) (s : State), s.alone = true ∧
    s.stepDue e = true ∧ (s.eng e).word = w ∧ opOf w = 3 ∧ (s.eng e).tx = [] ∧ s.flag (R.penCtrlNostall ↑e) = true ∧
    fifoCode w = none :=
  ⟨5, 0x30000000,
    State.fset (R.penCtrlNostall 5) 1 (running.onEng 5 fun g => { g with state := .running, origin := 1000000, store := vrep 32 0x30000000 }),
    by decide +kernel⟩

theorem witness_EngineWaitsFifosAndFlags_6 : ∃ (e : Fin 8) (w : Word) (s : State), s.alone = true ∧
    s.stepDue e = true ∧ (s.eng e).word = w ∧ opOf w = 4 ∧ (s.eng e).rx.length < 4 ∧ fifoCode w = none :=
  ⟨5, 0x40000000,
    running.onEng 5 fun g => { g with state := .running, origin := 1000000, store := vrep 32 0x40000000, rx := [1, 2, 3] },
    by decide +kernel⟩

theorem witness_EngineWaitsFifosAndFlags_7 : ∃ (e : Fin 8) (w : Word) (s : State), s.alone = true ∧
    s.stepDue e = true ∧ (s.eng e).word = w ∧ opOf w = 4 ∧ 4 ≤ (s.eng e).rx.length ∧
    s.flag (R.penCtrlNostall ↑e) = false :=
  ⟨5, 0x40000000,
    running.onEng 5 fun g => { g with state := .running, origin := 1000000, store := vrep 32 0x40000000, rx := [1, 2, 3, 4] },
    by decide +kernel⟩

theorem witness_EngineWaitsFifosAndFlags_8 : ∃ (e : Fin 8) (w : Word) (s : State), s.alone = true ∧
    s.stepDue e = true ∧ (s.eng e).word = w ∧ opOf w = 10 ∧ bits w 24 4 = 0 :=
  ⟨5, 0xA0000000,
    running.onEng 5 fun g => { g with state := .running, origin := 1000000, store := vrep 32 0xA0000000 },
    by decide +kernel⟩

theorem witness_EngineWaitsFifosAndFlags_9 : ∃ (e : Fin 8) (w : Word) (s : State), s.alone = true ∧
    s.stepDue e = true ∧ (s.eng e).word = w ∧ opOf w = 10 ∧ bits w 24 4 = 1 ∧ s.pen.setAt ≠ s.now :=
  ⟨5, 0xA1000000,
    running.onEng 5 fun g => { g with state := .running, origin := 1000000, store := vrep 32 0xA1000000 },
    by decide +kernel⟩

theorem witness_EngineWaitsFifosAndFlags_10 : ∃ (e : Fin 8) (w : Word) (s : State), s.alone = true ∧
    s.stepDue e = true ∧ (s.eng e).word = w ∧ opOf w = 10 ∧ bits w 24 4 = 2 ∧ s.fu.inForce.trigSrc = 2 ∧
    s.cur R.tbsCtrlExtPe = ↑e :=
  ⟨5, 0xA2000000,
    setting R.tbsCtrlExtPe 5 (setting R.tbsCtrlTrigSrc 2 (running.onEng 5 fun g => { g with state := .running, origin := 1000000, store := vrep 32 0xA2000000 })),
    by decide +kernel⟩

theorem witness_EngineWaitsFifosAndFlags_11 : ∃ (e : Fin 8) (w : Word) (s : State), s.alone = true ∧
    s.stepDue e = true ∧ (s.eng e).word = w ∧ opOf w = 10 ∧ bits w 24 4 = 2 ∧
    (s.fu.inForce.trigSrc ≠ 2 ∨ s.cur R.tbsCtrlExtPe ≠ ↑e) :=
  ⟨5, 0xA2000000,
    running.onEng 5 fun g => { g with state := .running, origin := 1000000, store := vrep 32 0xA2000000 },
    by decide +kernel⟩

theorem witness_EngineWaitsFifosAndFlags_12 : ∃ (e : Fin 8) (w : Word) (s : State), s.alone = true ∧
    s.stepDue e = true ∧ (s.eng e).word = w ∧ opOf w = 10 ∧ bits w 24 4 = 3 :=
  ⟨5, 0xA3000000,
    running.onEng 5 fun g => { g with state := .running, origin := 1000000, store := vrep 32 0xA3000000 },
    by decide +kernel⟩

theorem witness_EngineWaitsFifosAndFlags_13 : ∃ (e : Fin 8) (s : State), s.alone = true ∧ s.stepDue e = true ∧
    12 ≤ opOf (s.eng e).word :=
  ⟨5, running.onEng 5 fun g => { g with state := .running, origin := 1000000, store := vrep 32 0xC0000000 },
    by decide +kernel⟩

theorem witness_EngineWaitsFifosAndFlags_14 : ∃ (p : Period) (s : State), s.fu.inForce.area = false ∧
    s.lastPeriod = some p ∧ p.trig + 2 ≤ s.now ∧ Option.any (fun x => x.seq == p.seq) s.pen.record = false :=
  ⟨{ trig := 999998 }, running.modTb fun t => { t with periods := [{ trig := 999998 }] }, by decide +kernel⟩

theorem witness_EngineWaitsFifosAndFlags_15 : ∃ (fr : AreaFrame) (s : State), s.fu.inForce.area = true ∧
    s.hb.area = some fr ∧ fr.tail = false ∧ fr.slot ≤ s.now ∧
    Option.any (fun r => r.seq == fr.seq && r.field == fr.sub) s.pen.record = false :=
  ⟨{ seq := 3, slot := 1000000 },
    setting R.hbxCtrlMode 1 (running.modHb fun h => { h with area := some { seq := 3, slot := 1000000 } }),
    by decide +kernel⟩

theorem witness_EngineControlRegisters_0 : ∃ (via : Via) (s : State), s.mayWrite via.path 786432 = true ∧
    s.alone = true :=
  ⟨{ path := .tender }, running, by decide +kernel⟩

theorem witness_EngineControlRegisters_1 : ∃ (m : BitVec 8) (d : Nat) (s : State), s.pen.action = [(m, 0, d)] ∧
    d ≤ s.now :=
  ⟨1, 1000000, running.modPen fun t => { t with action := [(1, 0, 1000000)] }, by decide +kernel⟩

theorem witness_EngineControlRegisters_2 : ∃ (m : BitVec 8) (d : Nat) (s : State), s.pen.action = [(m, 3, d)] ∧
    d ≤ s.now :=
  ⟨1, 1000000, running.modPen fun t => { t with action := [(1, 3, 1000000)] }, by decide +kernel⟩

theorem witness_EngineControlRegisters_3 : ∃ (m : BitVec 8) (d : Nat) (s : State), s.pen.action = [(m, 1, d)] ∧
    d ≤ s.now :=
  ⟨1, 1000000, running.modPen fun t => { t with action := [(1, 1, 1000000)] }, by decide +kernel⟩

theorem witness_EngineControlRegisters_4 : ∃ (m : BitVec 8) (d : Nat) (s : State), s.pen.action = [(m, 2, d)] ∧
    d ≤ s.now :=
  ⟨1, 1000000, running.modPen fun t => { t with action := [(1, 2, 1000000)] }, by decide +kernel⟩

theorem witness_EngineControlRegisters_5 : ∃ (m : BitVec 8) (op : BitVec 2) (d : Nat) (s : State),
    s.pen.action = [(m, op, d)] ∧ s.now < d :=
  ⟨1, 2, 1000001, running.modPen fun t => { t with action := [(1, 2, 1000001)] }, by decide +kernel⟩

theorem witness_EngineControlRegisters_6 : ∃ (via : Via) (e : Fin 8) (s : State),
    s.mayWrite via.path (786704 + 64 * ↑e) = true ∧ s.alone = true ∧ (s.eng e).state ≠ EngState.stalled ∧
    (s.eng e).tx.length < 4 :=
  ⟨{ path := .tender }, 5, running.onEng 5 fun g => { g with tx := [1, 2, 3] }, by decide +kernel⟩

theorem witness_EngineControlRegisters_7 : ∃ (via : Via) (e : Fin 8) (s : State),
    s.mayWrite via.path (786704 + 64 * ↑e) = true ∧ s.alone = true ∧ (s.eng e).state ≠ EngState.stalled ∧
    4 ≤ (s.eng e).tx.length :=
  ⟨{ path := .tender }, 5, running.onEng 5 fun g => { g with tx := [1, 2, 3, 4] }, by decide +kernel⟩

theorem witness_EngineControlRegisters_8 : ∃ (via : Via) (e : Fin 8) (s : State),
    s.mayWrite via.path (786704 + 64 * ↑e) = true ∧ s.alone = true ∧ (s.eng e).state = EngState.stalled ∧
    opOf (s.eng e).cur = 3 ∧ fifoCode (s.eng e).cur = none ∧ (s.eng e).tx = [] :=
  ⟨{ path := .tender }, 5, running.onEng 5 fun g => { g with state := .stalled, cur := 0x30000000 },
    by decide +kernel⟩

theorem witness_EngineControlRegisters_9 : ∃ (via : Via) (e : Fin 8) (s : State),
    s.mayWrite via.path (786712 + 64 * ↑e) = true ∧ s.alone = true ∧ (s.eng e).state = EngState.stalled ∧
    opOf (s.eng e).cur = 4 ∧ fifoCode (s.eng e).cur = none ∧ (s.eng e).rx.length = 4 :=
  ⟨{ path := .tender }, 5,
    running.onEng 5 fun g => { g with state := .stalled, cur := 0x40000000, rx := [1, 2, 3, 4] }, by decide +kernel⟩

theorem witness_EngineControlRegisters_10 : ∃ (via : Via) (e : Fin 8) (s : State),
    s.mayWrite via.path (786712 + 64 * ↑e) = true ∧ s.alone = true ∧ (s.eng e).state ≠ EngState.stalled :=
  ⟨{ path := .tender }, 5, running, by decide +kernel⟩

theorem witness_EngineControlRegisters_11 : ∃ (via : Via) (s : State), s.mayWrite via.path 786440 = true ∧
    s.alone = true :=
  ⟨{ path := .tender }, running, by decide +kernel⟩

theorem witness_EngineControlRegisters_12 : ∃ (via : Via) (e : Fin 8) (a : Fin 32) (s : State),
    s.mayWrite via.path (790528 + 128 * ↑e + 4 * ↑a) = true ∧ s.alone = true ∧ State.storeOpen via.same s e = true :=
  ⟨{ path := .tender }, 5, 31, running, by decide +kernel⟩

theorem witness_EngineControlRegisters_13 : ∃ (via : Via) (e : Fin 8) (a : Fin 32) (s : State),
    s.mayWrite via.path (790528 + 128 * ↑e + 4 * ↑a) = true ∧ s.alone = true ∧ State.storeOpen via.same s e = false :=
  ⟨{ path := .tender }, 5, 31, running.onEng 5 fun g => { g with state := .running }, by decide +kernel⟩

theorem witness_ReferencesLostAndReturned_0 : ∃ (s : State), s.clk.refOk = true ∧ s.flag R.clkRefModeSel = true :=
  ⟨State.fset R.clkRefModeSel 1 (running.modClk fun c => { c with ppm := 0 }), by decide +kernel⟩

theorem witness_ReferencesLostAndReturned_1 : ∃ (s : State), s.clk.xtalOk = true ∧ s.flag R.clkRefModeSel = false :=
  ⟨State.fset R.clkRefModeSel 0 (running.modClk fun c => { c with ppm := 0 }), by decide +kernel⟩

theorem witness_ReferencesLostAndReturned_2 : ∃ (s : State), s.clk.refOk = false ∨ s.flag R.clkRefModeSel = false :=
  ⟨State.fset R.clkRefModeSel 0 (running.modClk fun c => { c with ppm := 0 }), by decide +kernel⟩

theorem witness_ReferencesLostAndReturned_3 : ∃ (s : State), s.clk.xtalOk = true ∧ s.flag R.clkRefModeSel = true :=
  ⟨State.fset R.clkRefModeSel 1 (running.modClk fun c => { c with ppm := 0 }), by decide +kernel⟩

theorem witness_ReferencesLostAndReturned_4 : ∃ (s : State), s.clk.xtalOk = false :=
  ⟨State.fset R.clkRefModeSel 1 (running.modClk fun c => { c with xtalOk := false }), by decide +kernel⟩

theorem witness_ReferencesLostAndReturned_5 : ∃ (r : Bool) (m : Mdll) (s : State), s.flag R.clkRefModeSel = r ∧
    s.mdll m = MdllState.bypassRef ∧ s.clk.counting = false ∧ (r = false ∨ s.clk.inRange = true) :=
  ⟨true, .core, State.fset R.clkRefModeSel 1 (running.modClk fun c => { c with core := .bypassRef }),
    by decide +kernel⟩

theorem witness_ReferencesLostAndReturned_6 : ∃ (r : Bool) (s : State), s.flag R.clkRefModeSel = !r :=
  ⟨true, State.fset R.clkRefModeSel 0 (running.modClk fun c => { c with ppm := 0 }), by decide +kernel⟩

theorem witness_ReferencesLostAndReturned_7 : ∃ (s : State), s.clk.inRange = false :=
  ⟨running.modClk fun c => { c with refOk := false, ppm := 4801 }, by decide +kernel⟩

theorem witness_ReferencesLostAndReturned_8 : ∃ (m : Mdll) (s : State), s.mdll m = MdllState.bypassRef ∧
    s.clk.counting = true ∧ s.refPresent = true :=
  ⟨.slice 18,
    State.fset R.clkRefModeSel 1 (running.modClk fun c => { c with slices := vrep 19 .bypassRef, counting := true }),
    by decide +kernel⟩

theorem witness_ReferencesLostAndReturned_9 : ∃ (m : Mdll) (s : State),
    s.mdll m ≠ MdllState.bypassRef ∨ s.clk.counting = false ∨ s.refPresent = false :=
  ⟨.core, running, by decide +kernel⟩

theorem witness_ReferencesLostAndReturned_10 : ∃ (s : State), s.flag R.clkRefModeSel = false :=
  ⟨State.fset R.clkRefModeSel 0 (running.modClk fun c => { c with ppm := 0 }), by decide +kernel⟩

theorem witness_ReferencesLostAndReturned_11 : ∃ (s : State), s.flag R.clkRefModeSel = true ∧ s.clk.refOk = true :=
  ⟨State.fset R.clkRefModeSel 1 (running.modClk fun c => { c with ppm := 0 }), by decide +kernel⟩

theorem witness_LockLossAndRelock_0 : ∃ (m : Mdll) (s : State), s.mdll m = MdllState.locked ∧ s.refPresent = true :=
  ⟨.core, running, by decide +kernel⟩

theorem witness_LockLossAndRelock_1 : ∃ (i : Fin 19) (s : State), s.mdll (Mdll.slice i) = MdllState.locked ∧
    s.refPresent = true :=
  ⟨18, running, by decide +kernel⟩

theorem witness_LockLossAndRelock_2 : ∃ (m : Mdll) (s : State), s.mdll m ≠ MdllState.locked ∨ s.refPresent = false :=
  ⟨.memory, running.modClk fun t => { t with mem := .bypassRef }, by decide +kernel⟩

theorem witness_LockLossAndRelock_3 : ∃ (m : Mdll) (s : State),
    (s.mdll m = MdllState.relocking ∨ s.mdll m = MdllState.bypassLock) ∧ s.refPresent = true :=
  ⟨.core, running.modClk fun t => { t with core := .bypassLock }, by decide +kernel⟩

theorem witness_LockLossAndRelock_4 : ∃ (m : Mdll) (s : State),
    s.mdll m = MdllState.locked ∨ s.mdll m = MdllState.bypassRef ∨ s.refPresent = false :=
  ⟨.memory, running, by decide +kernel⟩

theorem witness_LockLossAndRelock_5 : ∃ (d : Int) (s : State), s.mdll Mdll.core = MdllState.relocking ∧
    s.refPresent = true ∧ d ≠ 0 ∧ -80 ≤ d ∧ d < 80 :=
  ⟨-80, running.modClk fun t => { t with core := .relocking }, by decide +kernel⟩

theorem witness_LockLossAndRelock_6 : ∃ (s : State), s.mdll Mdll.core = MdllState.relocking ∧ s.refPresent = true :=
  ⟨running.modClk fun c => { c with core := .relocking }, by decide +kernel⟩

theorem witness_LockLossAndRelock_7 : ∃ (s : State), s.clk.resid = 0 :=
  ⟨running, by decide +kernel⟩

theorem witness_LockLossAndRelock_8 : ∃ (s : State), s.clk.resid ≠ 0 :=
  ⟨running.modClk fun t => { t with resid := 1 }, by decide +kernel⟩

theorem witness_LockLossAndRelock_9 : ∃ (via : Via) (v : Word) (s : State), s.mayWrite via.path 851972 = true ∧
    s.alone = true ∧ bitOf (s.reg 20) 5 = false ∧ s.refPresent = true ∧ bitOf v 0 ≠ bitOf (s.reg 851972) 0 :=
  ⟨{ path := .tender }, running.reg 0x0D0004 ^^^ 1, running, by decide +kernel⟩

theorem witness_LockLossAndRelock_10 : ∃ (via : Via) (v : Word) (s : State), s.mayWrite via.path 851968 = true ∧
    s.alone = true ∧ bitOf (s.reg 20) 5 = false ∧ s.clk.refOk = true ∧ s.clk.xtalOk = true ∧
    bitOf v 0 ≠ bitOf (s.reg 851968) 0 :=
  ⟨{ path := .tender }, running.reg 0x0D0000 ^^^ 1, running, by decide +kernel⟩

theorem witness_LockLossAndRelock_11 : ∃ (via : Via) (v : Word) (s : State), s.mayWrite via.path 851968 = true ∧
    s.alone = true ∧ bitOf (s.reg 20) 5 = false ∧ s.clk.refOk = false ∧ bitOf (s.reg 851968) 0 = false ∧
    bitOf v 0 = true :=
  ⟨{ path := .tender }, 1, running.modClk fun c => { c with refOk := false }, by decide +kernel⟩

theorem witness_LockLossAndRelock_12 : ∃ (i : Fin 19) (s : State), s.clk.rearm.contains ↑i = true ∧ s.tnd.up = true ∧
    s.tnd.asleep = false :=
  ⟨18, running.modClk fun t => { t with rearm := [18] }, by decide +kernel⟩

theorem witness_LockLossAndRelock_13 : ∃ (i : Fin 19) (s : State),
    s.clk.rearm.contains ↑i = false ∨ s.tnd.up = false ∨ s.tnd.asleep = true :=
  ⟨18, running, by decide +kernel⟩

theorem witness_TwoWireAddressing_0 : ∃ (a : BitVec 7) (o : List Byte) (s : State), o.length ≤ 3 ∧
    a.toNat ≠ 88 + s.tw.strap.toNat :=
  ⟨89, [1, 2, 3], running, by decide +kernel⟩

theorem witness_TwoWireAddressing_1 : ∃ (a : BitVec 7) (s : State), a.toNat = 88 + s.tw.strap.toNat ∧
    s.rst.phase ≠ RstPhase.inReset ∧ s.tnd.asleep = false ∧
    Option.all (fun w => decide (w + 50000 ≤ s.now)) s.tw.wakeAt = true :=
  ⟨88, running.modTw fun t => { t with wakeAt := some 950000 }, by decide +kernel⟩

theorem witness_TwoWireAddressing_2 : ∃ (a : BitVec 7) (o : List Byte) (s : State), o.length < 3 ∧
    a.toNat = 88 + s.tw.strap.toNat ∧ s.rst.phase ≠ RstPhase.inReset ∧ s.tnd.asleep = false ∧
    Option.all (fun w => decide (w + 50000 ≤ s.now)) s.tw.wakeAt = true :=
  ⟨88, [1, 2], running, by decide +kernel⟩

theorem witness_TwoWireAddressing_3 : ∃ (a : BitVec 7) (o : List Byte) (s : State), o.length ≤ 3 ∧
    a.toNat = 88 + s.tw.strap.toNat ∧ s.rst.phase ≠ RstPhase.inReset ∧ s.tnd.asleep = true :=
  ⟨88, [1, 2, 3], running.modTnd fun t => { t with asleep := true }, by decide +kernel⟩

theorem witness_TwoWireAddressing_4 : ∃ (a : BitVec 7) (o : List Byte) (w : Nat) (s : State), o.length ≤ 3 ∧
    a.toNat = 88 + s.tw.strap.toNat ∧ s.rst.phase ≠ RstPhase.inReset ∧ s.tnd.asleep = false ∧ s.tw.wakeAt = some w ∧
    s.now < w + 50000 :=
  ⟨88, [1, 2, 3], 950001, running.modTw fun t => { t with wakeAt := some 950001 }, by decide +kernel⟩

theorem witness_TwoWireAddressing_5 : ∃ (o : List Byte), 3 < o.length :=
  ⟨[1, 2, 3, 4], by decide +kernel⟩

theorem witness_TwoWireAccessesAndFaults_0 : ∃ (s : State), s.alone = true ∧ s.tw.phase = TwPhase.write ∧
    s.rst.phase ≠ RstPhase.inReset ∧ s.tw.pointer = 40 ∧ s.flag R.glbAccTwWr = true :=
  ⟨running.modTw fun t => { t with phase := .write, pointer := 40 }, by decide +kernel⟩

theorem witness_TwoWireAccessesAndFaults_1 : ∃ (s : State), s.alone = true ∧ s.tw.phase = TwPhase.write ∧
    s.rst.phase ≠ RstPhase.inReset ∧ 8388608 ≤ s.tw.pointer.toNat ∧ s.flag R.glbAccTwWr = true :=
  ⟨running.modTw fun t => { t with phase := .write, pointer := 0x800000 }, by decide +kernel⟩

theorem witness_TwoWireAccessesAndFaults_2 : ∃ (s : State), s.alone = true ∧ s.tw.phase = TwPhase.write ∧
    s.rst.phase ≠ RstPhase.inReset ∧ twFree s.tw.pointer.toNat = false ∧ s.flag R.glbAccTwWr = false :=
  ⟨State.fset R.glbAccTwWr 0 (running.modTw fun t => { t with phase := .write, pointer := 40 }), by decide +kernel⟩

theorem witness_TwoWireAccessesAndFaults_3 : ∃ (s : State), s.alone = true ∧ s.tw.phase = TwPhase.idle :=
  ⟨running, by decide +kernel⟩

theorem witness_TwoWireAccessesAndFaults_4 : ∃ (s : State), s.alone = true ∧ s.tw.phase = TwPhase.read ∧
    s.rst.phase ≠ RstPhase.inReset :=
  ⟨running.modTw fun t => { t with phase := .read }, by decide +kernel⟩

theorem witness_TwoWireAccessesAndFaults_5 : ∃ (at' : Nat) (s : State), s.alone = true ∧ s.tw.phase = TwPhase.read ∧
    s.rst.phase ≠ RstPhase.inReset ∧ s.tw.pointer = 8 ∧ s.tw.release = some at' ∧
    s.now ≤ at' + 100000 * max 1 (s.fget R.cmdTwCfgIbrWait) :=
  ⟨1000000, running.modTw fun t => { t with phase := .read, pointer := 8, release := some 1000000 },
    by decide +kernel⟩

theorem witness_TwoWireAccessesAndFaults_6 : ∃ (n : Fin 4) (s : State), s.rst.phase ≠ RstPhase.inReset ∧
    s.tw.phase = TwPhase.write ∧ ↑n ≠ 0 :=
  ⟨3, running.modTw fun t => { t with phase := .write, pointer := 40 }, by decide +kernel⟩

theorem witness_TwoWireAccessesAndFaults_7 : ∃ (n : Fin 4) (s : State), s.rst.phase ≠ RstPhase.inReset ∧
    (s.tw.phase ≠ TwPhase.write ∨ ↑n = 0) :=
  ⟨0, running, ⟨by decide +kernel, .inr rfl⟩⟩

theorem witness_TwoWireAccessesAndFaults_8 : ∃ (s : State), s.rst.phase ≠ RstPhase.inReset :=
  ⟨running.modTw fun t => { t with phase := .write, pointer := 40 }, by decide +kernel⟩

theorem witness_TwoWireAccessesAndFaults_9 : ∃ (s : State), s.tw.phase ≠ TwPhase.idle :=
  ⟨running.modTw fun t => { t with phase := .write, pointer := 40 }, by decide +kernel⟩

theorem witness_TwoWireAccessesAndFaults_10 : ∃ (s : State), s.tw.phase = TwPhase.idle :=
  ⟨running, by decide +kernel⟩

theorem witness_TwoWireAccessesAndFaults_11 : ∃ (s : State), s.rst.phase = RstPhase.inReset :=
  ⟨State.reset, by decide +kernel⟩

theorem witness_TwoWireAccessesAndFaults_12 : ∃ (s : State), s.alone = true ∧ s.tw.phase = TwPhase.read ∧
    s.rst.phase ≠ RstPhase.inReset ∧ 8388608 ≤ s.tw.pointer.toNat ∧ wideHigh s.tw.pointer.toNat = none ∧
    s.shadowOf Path.tw s.tw.pointer.toNat = none :=
  ⟨running.modTw fun t => { t with phase := .read, pointer := 0x800000 }, by decide +kernel⟩

theorem witness_RequestsForAttention_0 : ∃ (s : State), s.rst.phase ≠ RstPhase.inReset ∧ s.tw.wanted = true ∧
    s.tw.attn = false ∧ s.tw.phase = TwPhase.idle ∧ s.masked ≠ 0 ∧ s.tw.seen = s.masked ∧
    s.flag R.cmdTwCfgIbrEn = true ∧ s.tw.busAt + 50000 ≤ s.now :=
  ⟨State.fset R.cmdTwCfgIbrEn 1 (State.setReg 0x000008 1 (running.modTw fun t => { t with seen := 1, wanted := true, busAt := 950000 })),
    by decide +kernel⟩

theorem witness_RequestsForAttention_1 : ∃ (s : State), s.tw.attn = true :=
  ⟨running.modTw fun t => { t with attn := true }, by decide +kernel⟩

theorem witness_RequestsForAttention_2 : ∃ (at' : Nat) (s : State), s.tw.release = some at' ∧ s.tw.attn = false ∧
    s.masked ≠ 0 ∧ s.tw.seen = s.masked ∧ s.flag R.cmdTwCfgIbrEn = true ∧
    at' + 100000 * max 1 (s.fget R.cmdTwCfgIbrWait) < s.now ∧ s.tw.tries < max 1 (s.fget R.cmdTwCfgIbrRetry) :=
  ⟨0,
    State.fset R.cmdTwCfgIbrEn 1 (State.setReg 0x000008 1 ((running.modTw fun t => { t with seen := 1, release := some 0, tries := 0 }).modTb fun t => { t with tick := 30000000 })),
    by decide +kernel⟩

theorem witness_RequestsForAttention_3 : ∃ (at' : Nat) (s : State), s.tw.release = some at' ∧ s.tw.attn = false ∧
    s.masked ≠ 0 ∧ s.tw.seen = s.masked ∧ s.flag R.cmdTwCfgIbrEn = true ∧
    at' + 100000 * max 1 (s.fget R.cmdTwCfgIbrWait) < s.now ∧ max 1 (s.fget R.cmdTwCfgIbrRetry) ≤ s.tw.tries :=
  ⟨0,
    State.fset R.cmdTwCfgIbrEn 1 (State.setReg 0x000008 1 ((running.modTw fun t => { t with seen := 1, release := some 0, tries := 7 }).modTb fun t => { t with tick := 30000000 })),
    by decide +kernel⟩

theorem witness_RequestsForAttention_4 : ∃ (s : State), s.flag R.cmdTwCfgIbrEn = false ∧ s.masked ≠ 0 :=
  ⟨State.fset R.cmdTwCfgIbrEn 0 (State.setReg 0x000008 1 (running.modTw fun t => { t with seen := 1, attn := false })),
    by decide +kernel⟩

theorem witness_RegisterAccesses_0 : ∃ (via : Via) (s : State), s.mayWrite via.path 40 = true ∧ s.alone = true :=
  ⟨{ path := .tender }, running, by decide +kernel⟩

theorem witness_RegisterAccesses_1 : ∃ (i : Instr) (a : Access) (s : State), s.accessOf i = some a ∧
    s.cmd.served.contains i = false :=
  ⟨.mailboxGo { path := .tender }, (running.accessOf (.mailboxGo { path := .tender })).get (by decide +kernel),
    running, ⟨by simp, by decide +kernel⟩⟩

theorem witness_RegisterAccesses_2 : ∃ (i : Instr) (u : State) (s : State), (u.accessOf i).isSome = true ∧
    s.cmd.served.contains i = true :=
  ⟨.mailboxGo { path := .cxl, same := true }, running,
    running.modCmd fun c => { c with served := [.mailboxGo { path := .cxl, same := true }] }, by decide +kernel⟩

theorem witness_RegisterAccesses_3 : ∃ (v : Word) (s : State), s.tw.phase = TwPhase.write ∧
    s.rst.phase ≠ RstPhase.inReset ∧ s.tw.pointer = 40 ∧ s.flag R.glbAccTwWr = true ∧ s.reaches Path.cxl = true ∧
    s.cmd.served = [] ∧ s.pending = [Instr.registerWrite { path := Path.cxl, same := true } 40 (BusData.word v)] :=
  ⟨9,
    { running.modTw fun t => { t with phase := .write, pointer := 40 } with pending := [.registerWrite { path := .cxl, same := true } 40 (.word 9)] },
    by decide +kernel⟩

theorem witness_RegisterAccesses_4 : ∃ (v : Word) (s : State), s.rst.phase ≠ RstPhase.inReset ∧
    s.reaches Path.cxl = true ∧ s.cmd.served = [] ∧
    s.pending = [Instr.registerWrite { path := Path.cxl, same := true } 40 (BusData.word v)] ∧
    s.shadowOf Path.tw 40 = none :=
  ⟨9, { running with pending := [.registerWrite { path := .cxl, same := true } 40 (.word 9)] }, by decide +kernel⟩

theorem witness_RegisterAccesses_5 : ∃ (via : Via) (s : State), s.mayWrite via.path 24 = true ∧ s.alone = true :=
  ⟨{ path := .tender }, running, by decide +kernel⟩

theorem witness_RegisterAccesses_6 : ∃ (via : Via) (s : State), s.mayWrite via.path 256 = true ∧ s.alone = true :=
  ⟨{ path := .tender }, running, by decide +kernel⟩

theorem witness_RegisterAccesses_7 : ∃ (via : Via) (o : BitVec 24) (s : State), s.mayWrite via.path o.toNat = true ∧
    s.alone = true ∧ o.toNat % 4 = 0 ∧ (regAt o.toNat = none ∨ 8388608 ≤ o.toNat) :=
  ⟨{ path := .tender }, 0xFFFFFC, running, by decide +kernel⟩

theorem witness_RegisterAccesses_8 : ∃ (via : Via) (s : State), s.alone = true ∧ s.reaches via.path = false :=
  ⟨{ path := .cxl }, running.modLink fun t => { t with up := false }, by decide +kernel⟩

theorem witness_RegisterAccesses_9 : ∃ (o : BitVec 24) (s : State), s.alone = true ∧ s.rst.phase ≠ RstPhase.inReset ∧
    s.flag R.glbAccTwWr = false ∧ twFree o.toNat = false ∧ o.toNat % 4 = 0 :=
  ⟨0x28, State.fset R.glbAccTwWr 0 running, by decide +kernel⟩

theorem witness_RegisterAccesses_10 : ∃ (via : Via) (o : BitVec 24) (low : Word) (s : State) (t : State),
    s.alone = true ∧ t.alone = true ∧ o.toNat % 8 = 0 ∧
    exec (Instr.registerWrite via o (BusData.word low)) s = Host.Outcome.next t :=
  ⟨{ path := .tender }, 0x28, 9, running, after (.registerWrite { path := .tender } 0x28 (.word 9)) running,
    ⟨by decide +kernel, by decide +kernel, by decide +kernel, rfl⟩⟩

theorem witness_RegisterAccesses_11 : ∃ (via : Via) (o : BitVec 24) (bad : Bool) (pins : BitVec 24) (s : State)
    (t : State), s.alone = true ∧ t.alone = true ∧ o.toNat % 8 = 0 ∧
    exec (Instr.wideLowRead via o BusSize.word bad pins) s = Host.Outcome.next t :=
  ⟨{ path := .tender }, 0x28, false, 0, running, after (.wideLowRead { path := .tender } 0x28 .word false 0) running,
    ⟨by decide +kernel, by decide +kernel, by decide +kernel, rfl⟩⟩

theorem witness_RegisterAccesses_12 : ∃ (o : BitVec 24) (v : Word) (high : Word) (d : BusData) (s : State),
    s.alone = true ∧ s.reaches Path.cxl = true ∧
    (d = BusData.other ∨ d = BusData.other2 ∨ (d = BusData.word v ∨ d = BusData.word2 v) ∧
    o.toNat % 4 ≠ 0 ∨ (d = BusData.pair v high ∨ d = BusData.pair2 v high) ∧ o.toNat % 8 ≠ 0) :=
  ⟨0x2C, 1, 2, .pair 1 2, running, by decide +kernel⟩

theorem witness_RegisterAccesses_13 : ∃ (o : BitVec 24) (size : BusSize) (s : State), s.alone = true ∧
    s.reaches Path.cxl = true ∧ (size = BusSize.other ∨ size = BusSize.word ∧ o.toNat % 4 ≠ 0 ∨ size = BusSize.pair ∧
    o.toNat % 8 ≠ 0) :=
  ⟨0x2A, .word, running, by decide +kernel⟩

theorem witness_RegisterAccesses_14 : ∃ (q : Fin 8) (o : BitVec 24) (s : State), s.alone = true ∧
    s.reaches Path.cxl = true ∧ o.toNat = 32 * ↑q :=
  ⟨7, 224, running, by decide +kernel⟩

theorem witness_RegisterAccesses_15 : ∃ (ch : Fin 16) (o : BitVec 24) (s : State), s.alone = true ∧
    s.reaches Path.cxl = true ∧ o.toNat = 32768 + 32 * ↑ch :=
  ⟨15, 0x81E0, running, by decide +kernel⟩

theorem witness_RegisterAccesses_16 : ∃ (i : Fin 64) (o : BitVec 24) (s : State), s.alone = true ∧
    s.reaches Path.cxl = true ∧ o.toNat = 65536 + 16 * ↑i + 8 :=
  ⟨63, 0x0103F8, running, by decide +kernel⟩

theorem witness_RegisterAccesses_17 : ∃ (i : Fin 64) (o : BitVec 24) (v : Word) (s : State), s.alone = true ∧
    s.reaches Path.cxl = true ∧ o.toNat = 65536 + 16 * ↑i + 12 ∧ bitOf v 0 = true :=
  ⟨63, 0x0103FC, 1, running, by decide +kernel⟩

theorem witness_RegisterAccesses_18 : ∃ (o : BitVec 24) (s : State), s.alone = true ∧ s.reaches Path.cxl = true ∧
    o.toNat = 98304 :=
  ⟨0x18000, running, by decide +kernel⟩

theorem witness_RegisterAccesses_19 : ∃ (via : Via) (o : BitVec 24) (bad : Bool) (h : Nat) (s : State),
    s.alone = true ∧ s.reaches via.path = true ∧ o.toNat % 4 = 0 ∧ wideHigh o.toNat = some h ∧
    (bad = false ∨ o.toNat < 8388608) :=
  ⟨{ path := .tender }, 0x000208, false, 0x00020C, running, by decide +kernel⟩

theorem witness_RegisterAccesses_20 : ∃ (via : Via) (o : BitVec 24) (v : Word) (s : State), s.alone = true ∧
    s.reaches via.path = true ∧ o.toNat % 4 = 0 ∧ wideHigh o.toNat = none ∧ s.shadowOf via.path o.toNat = some v :=
  ⟨{ path := .tender }, 0x00020C, 9, { running with shadow := [(.tender, 0x00020C, 9)] }, by decide +kernel⟩

theorem witness_RegisterAccesses_21 : ∃ (via : Via) (o : BitVec 24) (bad : Bool) (s : State), s.alone = true ∧
    s.reaches via.path = true ∧ o.toNat % 4 = 0 ∧ wideHigh o.toNat = none ∧ s.shadowOf via.path o.toNat = none ∧
    (bad = false ∨ o.toNat < 8388608) :=
  ⟨{ path := .tender }, 0x28, false, running, by decide +kernel⟩

theorem witness_RegisterAccesses_22 : ∃ (via : Via) (o : BitVec 24) (h : Nat) (s : State), s.alone = true ∧
    s.reaches via.path = true ∧ o.toNat % 4 = 0 ∧ wideHigh o.toNat = some h ∧ 8388608 ≤ o.toNat :=
  ⟨{ path := .tender }, 0x8032F8, 0x8032FC, running, by decide +kernel⟩

theorem witness_RegisterAccesses_23 : ∃ (via : Via) (o : BitVec 24) (s : State), s.alone = true ∧
    s.reaches via.path = true ∧ o.toNat % 4 = 0 ∧ wideHigh o.toNat = none ∧ s.shadowOf via.path o.toNat = none ∧
    8388608 ≤ o.toNat :=
  ⟨{ path := .tender }, 0xFFFFFC, running, by decide +kernel⟩

theorem witness_LocksAndTheAsset_0 : ∃ (via : Via) (v : Word) (s : State), s.mayWrite via.path 32 = true ∧
    s.alone = true ∧ s.flag R.glbLockAcc = true ∧ bitOf v 0 ≠ s.flag R.glbAccTwWr :=
  ⟨{ path := .tender }, 0, State.fset R.glbAccTwWr 1 (State.fset R.glbLockAcc 1 running), by decide +kernel⟩

theorem witness_LocksAndTheAsset_1 : ∃ (via : Via) (s : State), s.mayWrite via.path 32 = true ∧ s.alone = true ∧
    s.flag R.glbLockAcc = false :=
  ⟨{ path := .tender }, running, by decide +kernel⟩

theorem witness_LocksAndTheAsset_2 : ∃ (via : Via) (s : State), s.mayWrite via.path 20 = true ∧ s.alone = true :=
  ⟨{ path := .tender }, running, by decide +kernel⟩

theorem witness_LocksAndTheAsset_3 : ∃ (via : Via) (s : State), s.mayWrite via.path 36 = true ∧ s.alone = true ∧
    s.flag R.glbLockAssetSpent = false ∧ s.nvShut = false :=
  ⟨{ path := .tender }, running, by decide +kernel⟩

theorem witness_LocksAndTheAsset_4 : ∃ (via : Via) (s : State), s.mayWrite via.path 36 = true ∧ s.alone = true ∧
    s.flag R.glbLockAssetSpent = false ∧ s.nvShut = true :=
  ⟨{ path := .tender }, running.modTnd fun t => { t with inhibit := true }, by decide +kernel⟩

theorem witness_LocksAndTheAsset_5 : ∃ (via : Via) (s : State), s.mayWrite via.path 36 = true ∧ s.alone = true ∧
    s.flag R.glbLockAssetSpent = true :=
  ⟨{ path := .tender }, State.fset R.glbLockAssetSpent 1 running, by decide +kernel⟩

theorem witness_LocksAndTheAsset_6 : ∃ (w : Word) (s : State), s.mayWrite Path.tender 36 = true ∧
    s.reaches Path.cxl = true ∧ s.flag R.glbLockAssetSpent = false ∧ s.cmd.served = [] ∧
    s.pending = [Instr.assetWrite { path := Path.cxl, same := true } w] ∧ s.tnd.inhibit = false :=
  ⟨7, { running with pending := [.assetWrite { path := .cxl, same := true } 7] }, by decide +kernel⟩

theorem witness_ThermalUpdatesAndTheStop_0 : ∃ (sensors : List Int) (np : List Nat) (rails : List Nat)
    (parts : List Nat), wfThermal sensors np rails parts = true :=
  ⟨List.replicate 47 400, List.replicate 47 0, List.replicate 14 0, List.replicate 10 0, by decide +kernel⟩

theorem witness_ThermalUpdatesAndTheStop_1 : ∃ (sensors : List Int) (np : List Nat) (rails : List Nat)
    (parts : List Nat) (s : State), wfThermal sensors np rails parts = true ∧ s.thm.stop = StopStage.none ∧
    s.thm.safe = false ∧ s.rst.phase ≠ RstPhase.inReset :=
  ⟨List.replicate 47 400, List.replicate 47 0, List.replicate 14 0, List.replicate 10 0, running, by decide +kernel⟩

theorem witness_ThermalUpdatesAndTheStop_2 : ∃ (sensors : List Int) (np : List Nat) (rails : List Nat)
    (parts : List Nat), wfThermal sensors np rails parts = false :=
  ⟨[], [], [], [], by decide +kernel⟩

theorem witness_ThermalUpdatesAndTheStop_3 : ∃ (via : Via) (s : State), s.mayWrite via.path 917516 = true ∧
    s.alone = true :=
  ⟨{ path := .tender }, running, by decide +kernel⟩

theorem witness_ThermalUpdatesAndTheStop_4 : ∃ (via : Via) (i : Fin 47) (s : State),
    s.mayWrite via.path 917516 = true ∧ s.alone = true ∧ s.thm.hold = none ∧ s.thm.hotNode = ↑i :=
  ⟨{ path := .tender }, 0, running, by decide +kernel⟩

theorem witness_ThermalUpdatesAndTheStop_5 : ∃ (s : State), s.thm.stop = StopStage.closing ∧ (s.felt.lines = [] ∧
    s.felt.areaHeld = [] ∨ s.thm.stopAt + 300000 ≤ s.now) :=
  ⟨running.modThm fun t => { t with stop := .closing }, by decide +kernel⟩

theorem witness_ThermalUpdatesAndTheStop_6 : ∃ (s : State),
    s.thm.stop ≠ StopStage.closing ∨ (s.felt.lines ≠ [] ∨ s.felt.areaHeld ≠ []) ∧ s.now < s.thm.stopAt + 300000 :=
  ⟨(running.modThm fun t => { t with stop := .closing, stopAt := 700001 }).modFelt fun f => { f with lines := [{ line := {} }] },
    by decide +kernel⟩

theorem witness_ThermalUpdatesAndTheStop_7 : ∃ (s : State), s.thm.stop = StopStage.draining ∧ s.thm.safe = false ∧
    (s.drained = true ∨ s.thm.stopAt + 10000000 ≤ s.now) :=
  ⟨running.modThm fun t => { t with stop := .draining }, by decide +kernel⟩

theorem witness_ThermalUpdatesAndTheStop_8 : ∃ (s : State),
    s.thm.stop ≠ StopStage.draining ∨ s.thm.safe = true ∨ s.drained = false ∧ s.now < s.thm.stopAt + 10000000 :=
  ⟨running, by decide +kernel⟩

theorem witness_TripDroopSuppliesAndCrystal_0 : ∃ (sensors : List Int) (i : Fin 47) (s : State), sensors.length = 47 ∧
    1920 ≤ sensors[↑i]?.getD 0 ∧ (s.node i).failed = false ∧ s.thm.trip = false :=
  ⟨List.replicate 46 0 ++ [1920], 46, running, by decide +kernel⟩

theorem witness_TripDroopSuppliesAndCrystal_1 : ∃ (sensors : List Int) (s : State), sensors.length = 47 ∧
    ∀ (i : Fin 47), sensors[↑i]?.getD 0 < 1920 ∨ (s.node i).failed = true :=
  ⟨List.replicate 47 1919, running, ⟨rfl, by decide +kernel⟩⟩

theorem witness_TripDroopSuppliesAndCrystal_2 : ∃ (sensors : List Int), sensors.length ≠ 47 :=
  ⟨[], by decide +kernel⟩

theorem witness_TripDroopSuppliesAndCrystal_3 : ∃ (r : Fin 14) (s : State), bitOf s.thm.uv ↑r = false :=
  ⟨13, running, by decide +kernel⟩

theorem witness_TripDroopSuppliesAndCrystal_4 : ∃ (r : Fin 14) (s : State), bitOf s.thm.uv ↑r = true :=
  ⟨13, running.modThm fun t => { t with uv := 0x2000 }, by decide +kernel⟩

theorem witness_TripDroopSuppliesAndCrystal_5 : ∃ (i : Fin 38) (readings : List Nat) (s : State),
    (s.slice i).state ≠ SliceState.failed ∧ readings ≠ [] ∧
    ∀ (ma : Nat), ma ∈ readings → s.fget R.thmIslHi < ma ∨ ma < s.fget R.thmIslLo ∧
    ((s.slice i).state = SliceState.active ∨ (s.slice i).state = SliceState.rejoining) :=
  ⟨37, [0], State.fset R.thmIslLo 1 (running.onSlice 37 fun l => { l with state := .active }), by decide +kernel⟩

theorem witness_TripDroopSuppliesAndCrystal_6 : ∃ (i : Fin 38) (readings : List Nat) (ma : Nat) (s : State),
    (s.slice i).state = SliceState.failed ∨ ma ∈ readings ∧ ma ≤ s.fget R.thmIslHi ∧
    (s.fget R.thmIslLo ≤ ma ∨ (s.slice i).state = SliceState.idle) :=
  ⟨37, [0], 0, running.onSlice 37 fun l => { l with state := .idle },
    .inr ⟨by decide +kernel, by decide +kernel, .inr (by decide +kernel)⟩⟩

theorem witness_TripDroopSuppliesAndCrystal_7 : ∃ (s : State), s.clk.xtalOk = true :=
  ⟨running, by decide +kernel⟩

theorem witness_TripDroopSuppliesAndCrystal_8 : ∃ (s : State), s.clk.xtalOk = false :=
  ⟨running.modClk fun t => { t with xtalOk := false }, by decide +kernel⟩

theorem witness_WhatAResetKeeps_0 : ∃ (s : State), s.tnd.asset = none :=
  ⟨running, by decide +kernel⟩

theorem witness_WhatAResetKeeps_1 : ∃ (v : Word) (s : State), s.tnd.asset = some v :=
  ⟨9, running.modTnd fun t => { t with asset := some 9 }, by decide +kernel⟩

theorem witness_WhatAResetKeeps_2 : ∃ (s : State), s.canonical = true ∧ s.thm.trip = false ∧ s.rst.stuck = false ∧
    s.rst.phase ≠ RstPhase.inReset :=
  ⟨running, by decide +kernel⟩

theorem witness_WhatAResetKeeps_3 : ∃ (s : State), s.thm.trip = false ∧ s.rst.stuck = false ∧
    s.rst.phase ≠ RstPhase.inReset ∧ s.cmd.warmDue.isSome = true :=
  ⟨running.modCmd fun t => { t with warmDue := some 0 }, by decide +kernel⟩

theorem witness_WhatAResetKeeps_4 : ∃ (s : State), s.thm.trip = false ∧ s.rst.stuck = false ∧
    s.rst.phase = RstPhase.inReset :=
  ⟨State.reset, by decide +kernel⟩

theorem witness_WhatAResetKeeps_5 : ∃ (s : State), s.thm.trip = true ∨ s.rst.stuck = true :=
  ⟨running.modThm fun t => { t with trip := true }, by decide +kernel⟩

theorem witness_WhatAResetKeeps_6 : ∃ (s : State), s.cmd.warmDue = none :=
  ⟨running, by decide +kernel⟩

theorem witness_WhatAResetKeeps_7 : ∃ (s : State), s.rst.phase ≠ RstPhase.inReset :=
  ⟨running, by decide +kernel⟩

theorem witness_StartUpAndReady_0 : ∃ (u : StartUp) (s : State), s.rst.phase = RstPhase.inReset ∧ s.thm.trip = false ∧
    s.rst.stuck = false ∧ u.crystal = true ∧ s.tnd.recovery = false ∧ (s.tnd.boot.trial && s.tnd.boot.tried) = false ∧
    (s.fw (pickBank s.tnd.boot.pref)).check s.tnd.romKeys s.tnd.revoked s.tnd.fuses = 0 :=
  ⟨start0, good State.reset, by decide +kernel⟩

theorem witness_StartUpAndReady_1 : ∃ (u : StartUp) (s : State), s.rst.phase = RstPhase.inReset ∧ s.thm.trip = false ∧
    s.rst.stuck = false ∧ u.crystal = true ∧
    ((s.tnd.boot.trial && s.tnd.boot.tried) = true ∨ (s.fw (pickBank s.tnd.boot.pref)).check s.tnd.romKeys s.tnd.revoked s.tnd.fuses ≠ 0) ∧
    (s.fw (pickBank !s.tnd.boot.pref)).check s.tnd.romKeys s.tnd.revoked s.tnd.fuses = 0 :=
  ⟨start0, (good State.reset).modTnd fun t => { t with boots := vrep 2 (some { trial := true, tried := true }) },
    by decide +kernel⟩

theorem witness_StartUpAndReady_2 : ∃ (u : StartUp) (s : State), s.rst.phase = RstPhase.inReset ∧ s.thm.trip = false ∧
    s.rst.stuck = false ∧ u.crystal = true ∧ (s.fw 0).check s.tnd.romKeys s.tnd.revoked s.tnd.fuses ≠ 0 ∧
    (s.fw 1).check s.tnd.romKeys s.tnd.revoked s.tnd.fuses ≠ 0 :=
  ⟨start0, State.reset, by decide +kernel⟩

theorem witness_StartUpAndReady_3 : ∃ (u : StartUp) (s : State), s.rst.phase = RstPhase.inReset ∧ s.thm.trip = false ∧
    s.rst.stuck = false ∧ u.crystal = false :=
  ⟨{ start0 with crystal := false }, State.reset, by decide +kernel⟩

theorem witness_StartUpAndReady_4 : ∃ (s : State),
    s.rst.phase ≠ RstPhase.inReset ∨ s.thm.trip = true ∨ s.rst.stuck = true :=
  ⟨running, by decide +kernel⟩

theorem witness_StartUpAndReady_5 : ∃ (s : State), s.rst.phase = RstPhase.started ∧ s.rst.wasReady = false ∧
    s.tnd.recovery = false ∧ s.clk.xtalOk = true ∧ s.thm.safe = false ∧ s.thm.stop = StopStage.none ∧
    s.thm.tHot < s.thmStart - s.thmHyst :=
  ⟨running.modRst fun t => { t with wasReady := false }, by decide +kernel⟩

theorem witness_StartUpAndReady_6 : ∃ (s : State),
    s.tnd.recovery = true ∨ s.rst.wasReady = true ∨ s.rst.phase ≠ RstPhase.started ∨ s.clk.xtalOk = false ∨
      s.thm.safe = true ∨ s.thm.stop ≠ StopStage.none ∨ s.thmStart - s.thmHyst ≤ s.thm.tHot :=
  ⟨running, by decide +kernel⟩

end Sys2Proof.Tests
end

section
/-! What a command changes: each command that runs leads to its next state through operations whose frames stand under
Laws/, so its own frame is put together from theirs. -/

namespace Sys2Proof.Machine

/-! ### The frame of each command -/

/-- A command that runs to `u` changes what leads to `u`. -/
theorem Frame.next {ps : List Part} {s u t : State} (e : (.next u : Answer) = .next t) (k : Frame ps s u) :
    Frame ps s t := by
  cases e
  exact k

/-- A command that runs only where its operands are well-formed. -/
theorem Frame.guarded {ps : List Part} {s u t : State} {w : Bool} {r : Fault}
    (e : (if w = true then .next u else .fault r : Answer) = .next t) (k : Frame ps s u) : Frame ps s t := by
  split at e
  · exact .next e k
  · cases e

/-- The same, as commands spell it that test for ill-formed operands first. -/
theorem Frame.unless {ps : List Part} {s u t : State} {w : Bool} {r : Fault}
    (e : (if (!w) = true then .fault r else .next u : Answer) = .next t) (k : Frame ps s u) : Frame ps s t := by
  split at e
  · cases e
  · exact .next e k

/-- A command of a packet changes what its opcode changes once the packet has started. -/
theorem Frame.packet {ps : List Part} {r : PktRef} {op : Nat} {c : Bool} {f : Packet → State → State} {s t : State}
    (e : (.next (s.pelquel r op c f) : Answer) = .next t) (k : ∀ p v, Frame ps v (f p v)) : Frame ps s t :=
  .next e (.pelquel (.refl _ _) k rfl)

/-! ### Commands of several steps or branches -/

theorem execExternalTrigger_frame {s t : State} (e : execExternalTrigger s = .next t) :
    Frame (touches .externalTrigger) s t := by
  refine .next e ?_
  split
  · refine .ite (.refl ..) (.ite (.ite ?_ ?_) ?_)
    · exact .by (State.skipOne_frame ..) rfl (.mono (State.modTb_frame ..) rfl)
    · exact .by (State.crossing_frame ..) rfl (.mono (State.modTb_frame ..) rfl)
    · exact .mono (State.modTb_frame ..) rfl
  · exact .refl ..

theorem execHeldTrigger_frame {s t : State} (e : execHeldTrigger s = .next t) : Frame (touches .heldTrigger) s t := by
  refine .next e ?_
  split
  · refine .ite (.refl ..) (.ite (.ite (.refl ..) ?_) ?_)
    · exact .mono (State.triggerOrLeave_frame ..) rfl
    · exact .mono (State.modTb_frame ..) rfl
  · exact .refl ..

theorem execDarkStatsTimeout_frame {s t : State} (e : execDarkStatsTimeout s = .next t) :
    Frame (touches .darkStatsTimeout) s t := by
  refine .next e ?_
  split
  · exact .ite (.mono (State.sendDark_frame ..) rfl) (.refl ..)
  · exact .refl ..

theorem execAreaRowReadout_frame {codes : List (List (BitVec 12))} {ce : Nat} {ue : List (Nat × Fin 38 × Fin 44)}
    {s t : State} (e : execAreaRowReadout codes ce ue s = .next t) :
    Frame (touches (.areaRowReadout codes ce ue)) s t := by
  unfold execAreaRowReadout at e
  split at e
  · cases e
  split at e
  · split at e
    · split at e
      · exact .next e (.refl ..)
      split at e
      · exact .next e (.mono (State.readRows_frame ..) rfl)
      · cases e
    · exact .next e (.refl ..)
  · exact .next e (.refl ..)

/-- The steps of a thermal update, the latest first. -/
theorem execThermalUpdate_frame {sensors : List Int} {nodePower rails parts : List Nat} {s t : State}
    (e : execThermalUpdate sensors nodePower rails parts s = .next t) :
    Frame (touches (.thermalUpdate sensors nodePower rails parts)) s t := by
  refine .unless e (.iff ?_ fun _ => .mono (State.criticalStop_frame ..) rfl)
  refine .iff (.iff ?_ fun _ => .mono (State.bump_frame ..) rfl) fun _ => .mono (State.bump_frame ..) rfl
  refine .by (State.levelStep_frame ..) rfl (.by (State.rateOfRise_frame ..) rfl ?_)
  refine .by (State.holdCheck_frame ..) rfl ?_
  refine .by (State.modThm_frame ..) rfl (.by (State.modThm_frame ..) rfl (.by (State.crossCheck_frame ..) rfl ?_))
  refine .by (State.rangeCheck_frame ..) rfl (.by (State.modThm_frame ..) rfl (.by (State.modThm_frame ..) rfl ?_))
  exact .mono (State.takePower_frame ..) rfl

/-! ### All commands -/

/-- A command that does not count in its core cycle changes only the parts listed for it, and keeps the stores
canonical. -/
theorem exec_frame_of_not_cycled {c : Instr} {s t : State} (h : cycled c = false) (e : exec c s = .next t) :
    Frame (touches c) s t := by
  cases c
  -- the timebase and its triggers
  case encoderTransition => exact .next e (.mono (State.transition_frame ..) rfl)
  case zEdge => exact .next e (.mono (State.zEdge_frame ..) rfl)
  case standstill => exact .next e (.ite (.mono (State.judgeStill_frame ..) rfl) (.refl ..))
  case coast => exact .next e (.mono (State.coast_frame ..) rfl)
  case timebaseLost => exact .next e (.ite (.mono (State.lose_frame ..) rfl) (.refl ..))
  case slewEnd => exact .next e (.ite (.by (State.trace_frame ..) rfl (.mono (State.modTb_frame ..) rfl)) (.refl ..))
  case resyncHoldEnd => exact .next e (.ite (.mono (State.modTb_frame ..) rfl) (.refl ..))
  case lineTrigger => exact .next e (.mono (State.lineTrigger_frame ..) rfl)
  case timeModeTrigger => exact .next e (.ite (.mono (State.crossing_frame ..) rfl) (.refl ..))
  case externalTrigger => exact execExternalTrigger_frame e
  case heldTrigger => exact execHeldTrigger_frame e
  case preTrigger => exact .next e (.ite (.mono (State.preTrigger_frame ..) rfl) (.refl ..))
  case exposureStart => exact .next e (.mono (State.exposureStart_frame ..) rfl)
  case exposureEnd => exact .next e (.mono (State.exposureEnd_frame ..) rfl)
  -- the headbox and the felt
  case blockSampleLatch => exact .guarded e (.mono (State.latch_frame ..) rfl)
  case blockSampleDelivery => exact .next e (.mono (State.deliver_frame ..) rfl)
  case missedWindow => exact .next e (.mono (State.missedWindow_frame ..) rfl)
  case sliceReferenceFault => exact .next e (.mono (State.failSlice_frame ..) rfl)
  case adcDroop => exact .next e (.mono (State.adcDroop_frame ..) rfl)
  case areaRowReadout => exact execAreaRowReadout_frame e
  case areaSlotEnd => exact .next e (.mono (State.slotEnd_frame ..) rfl)
  case lineClosure => exact .next e (.mono (State.closure_frame ..) rfl)
  case darkStatsTimeout => exact execDarkStatsTimeout_frame e
  -- the furnish and the calender
  case commitCheckDone => exact .next e (.by (State.endStreams_frame ..) rfl (.mono (State.checkDone_frame ..) rfl))
  case furnishRelease =>
    exact .next e (.by (State.endStreams_frame ..) rfl (.by (State.dropGuides_frame ..) rfl (.mono
      (State.releaseFurnish_frame ..) rfl)))
  case calenderLineArrival => exact .next e (.mono (State.lineArrives_frame ..) rfl)
  case partnerAbsent => exact .next e (.mono (State.partnerAbsent_frame ..) rfl)
  case guideCopyExpiry => exact .next e (.by (State.calSettle_frame ..) rfl (.mono (State.modCal_frame ..) rfl))
  case laneTake => exact .next e (.mono (State.laneTake_frame ..) rfl)
  case calenderLineExit => exact .next e (.by (State.laneExit_frame ..) rfl (.mono (State.heldFaults_frame ..) rfl))
  case calenderDeadline => exact .next e (.mono (State.missDeadline_frame ..) rfl)
  -- outputs and statistics
  case outputLine => exact .next e (.mono (State.outputLine_frame ..) rfl)
  case statsPeriodClose =>
    exact .next e (.by (State.endScreens_frame ..) rfl (.by (State.closePeriods_frame ..) rfl (.mono
      (State.closePeriods_frame ..) rfl)))
  case shiveToken => exact .next e (.mono (State.shiveToken_frame ..) rfl)
  -- cuts and the memory window
  case cutActivate => exact .next e (.mono (State.activateCut_frame ..) rfl)
  case cutLine => exact .next e (.mono (State.cutLine_frame ..) rfl)
  case cutRecordWritten => exact .next e (.mono (State.cutWritten_frame ..) rfl)
  case windowRead => exact .next e (.mono (State.readWindow_frame ..) rfl)
  case windowWrite => exact .next e (.mono (State.writeWindow_frame ..) rfl)
  -- the CXL link
  case linkUp => exact .next e (.mono (State.linkUp_frame ..) rfl)
  case linkRetrain => exact .next e (.mono (State.retrainLink_frame ..) rfl)
  case dlDown => exact .next e (.mono (State.linkDown_frame ..) rfl)
  case linkReset => exact .next e (.mono (State.linkReset_frame ..) rfl)
  case flr => exact .next e (.iff (.refl ..) fun _ => .mono (State.linkReset_frame ..) rfl)
  case d3hotEntry => exact .next e (.mono (State.enterD3_frame ..) rfl)
  case d0Return => exact .next e (.mono (State.returnD0_frame ..) rfl)
  case l1Entry => exact .next e (.mono (State.enterL1_frame ..) rfl)
  case viralIn => exact .next e (.mono (State.viralFromHost_frame ..) rfl)
  case viralOut => exact .next e (.mono (State.viralOwn_frame ..) rfl)
  case hdmCommit => exact .next e (.mono (State.commitHdm_frame ..) rfl)
  case cacheSnoop => exact .next e (.mono (State.snoop_frame ..) rfl)
  -- channels and queues
  case segmentIssue => exact .next e (.mono (State.segmentIssue_frame ..) rfl)
  case bufferTimeout => exact .next e (.mono (State.bufTimeout_frame ..) rfl)
  case descriptorFetch => exact .next e (.mono (State.fetchDescriptor_frame ..) rfl)
  case translationCompletion => exact .next e (.mono (State.translated_frame ..) rfl)
  case pageResponse => exact .next e (.mono (State.pageAnswer_frame ..) rfl)
  case priTimeout => exact .next e (.mono (State.priExpired_frame ..) rfl)
  case invalidation => exact .next e (.mono (State.invalidate_frame ..) rfl)
  case replayRead => exact .next e (.mono (State.replay_frame ..) rfl)
  case dtail => exact .next e (.mono (State.ringTail_frame ..) rfl)
  case chead => exact .next e (.mono (State.ringHead_frame ..) rfl)
  case sqTail => exact .next e (.mono (State.sqDoorbell_frame ..) rfl)
  case cqHead => exact .next e (.mono (State.cqDoorbell_frame ..) rfl)
  case packetFetch => exact .next e (.mono (State.fetchPacket_frame ..) rfl)
  case commandDispatch => exact .next e (.mono (State.dispatch_frame ..) rfl)
  -- the opcodes of packets
  case nop | getState => exact .packet e fun _ _ => .mono (State.done_frame ..) rfl
  case identify | furnishHist | wlStatus | fwStatus | thmStatus | powerStatus =>
    exact .packet e fun _ _ => .mono (State.complete_frame ..) rfl
  case abort => exact .packet e fun _ _ => .mono (State.abort_frame ..) rfl
  case warmReset => exact .packet e fun _ _ => .mono (State.warmReset_frame ..) rfl
  case furnishCommit =>
    exact .packet e fun _ _ => .by (State.capture_frame ..) rfl (.by (State.accept_frame ..) rfl (.by
      (State.bump_frame ..) rfl (.mono (State.count_frame _ _ _ (by rfl)) rfl)))
  case furnishCommitCancel =>
    exact .packet e fun _ _ => .by (State.done_frame ..) rfl (.mono (State.cancelCommit_frame ..) rfl)
  case furnishRead => exact .packet e fun _ _ => .mono (State.furnishRead_frame ..) rfl
  case darkCapture => exact .packet e fun _ _ => .mono (State.darkCapture_frame ..) rfl
  case darkCaptureDone => exact .next e (.mono (State.captureDone_frame ..) rfl)
  case darkCaptureTimeout => exact .next e (.mono (State.captureLate_frame ..) rfl)
  case darkWrite => exact .packet e fun _ _ => .mono (State.darkWrite_frame ..) rfl
  case darkRead => exact .packet e fun _ _ => .mono (State.darkRead_frame ..) rfl
  case tableWrite => exact .packet e fun _ _ => .mono (State.tableWrite_frame ..) rfl
  case tableRead => exact .packet e fun _ _ => .mono (State.tableRead_frame ..) rfl
  case calStore => exact .packet e fun _ _ => .mono (State.calStore_frame ..) rfl
  case calLoad => exact .packet e fun _ _ => .mono (State.calLoad_frame ..) rfl
  case wlPort => exact .packet e fun _ _ => .mono (State.wlPort_frame ..) rfl
  case wlRole => exact .packet e fun _ _ => .mono (State.wlRole_frame ..) rfl
  case wlEnumerate => exact .packet e fun _ _ => .mono (State.wlEnumerate_frame ..) rfl
  case enumerationDone => exact .next e (.mono (State.enumDone_frame ..) rfl)
  case wlMember => exact .packet e fun _ _ => .mono (State.wlMember_frame ..) rfl
  case wlMessage => exact .packet e fun _ _ => .mono (State.wlMessage_frame ..) rfl
  case peStatus => exact .packet e fun _ _ => .mono (State.peStatus_frame ..) rfl
  case cut => exact .packet e fun _ _ => .mono (State.cut_frame ..) rfl
  case cutCancel => exact .packet e fun _ _ => .mono (State.cutCancel_frame ..) rfl
  case reelFreeze =>
    exact .packet e fun _ _ => .by (State.done_frame ..) rfl (.mono (State.fset_frame _ _ _ (by rfl)) rfl)
  case reelLayout => exact .packet e fun _ _ => .mono (State.reelLayout_frame ..) rfl
  case logRead => exact .packet e fun _ _ => .mono (State.logRead_frame ..) rfl
  case logNote => exact .packet e fun _ _ => .mono (State.logNote_frame ..) rfl
  case fwWrite => exact .packet e fun _ _ => .mono (State.fwWrite_frame ..) rfl
  case fwActivate => exact .packet e fun _ _ => .mono (State.fwActivate_frame ..) rfl
  case thmLimits => exact .packet e fun _ _ => .mono (State.thmLimits_frame ..) rfl
  case obsCounters => exact .packet e fun _ _ => .mono (State.obsCounters_frame ..) rfl
  case obsTrace => exact .packet e fun _ _ => .mono (State.obsTrace_frame ..) rfl
  -- the web link
  case portUp => exact .next e (.mono (State.portUp_frame ..) rfl)
  case portAbsent => exact .next e (.mono (State.portAbsent_frame ..) rfl)
  case symbolLockLoss => exact .next e (.mono (State.lockLoss_frame ..) rfl)
  case portDown => exact .next e (.mono (State.portDown_frame ..) rfl)
  case frameTransmit => exact .next e (.mono (State.sendFrame_frame ..) rfl)
  case positionPacket => exact .next e (.mono (State.packetIn_frame ..) rfl)
  case holdoverExpiry => exact .next e (.mono (State.holdoverExpire_frame ..) rfl)
  case secondaryLambdaCheck => exact .next e (.mono (State.secCheck_frame ..) rfl)
  case reamMark => exact .next e (.rxChunk (.refl ..) (fun _ => .mono (State.markIn_frame ..) rfl) rfl)
  case echoSend => exact .next e (.mono (State.sendEcho_frame ..) rfl)
  case echoRequest => exact .next e (.rxChunk (.refl ..) (fun _ => .mono (State.sendChunk_frame ..) rfl) rfl)
  case echoReply => exact .next e (.rxChunk (.refl ..) (fun _ => .mono (State.echoBack_frame ..) rfl) rfl)
  case enumerationRequest => exact .next e (.rxChunk (.refl ..) (fun _ => .mono (State.enumRequest_frame ..) rfl) rfl)
  case enumerationReply => exact .next e (.rxChunk (.refl ..) (fun _ => .mono (State.enumReply_frame ..) rfl) rfl)
  case messageSegment => exact .next e (.rxChunk (.refl ..) (fun _ => .mono (State.segmentIn_frame ..) rfl) rfl)
  case seamSegment => exact .next e (.rxChunk (.refl ..) (fun _ => .mono (State.seamIn_frame ..) rfl) rfl)
  case seamLost => exact .next e (.mono (State.seamMiss_frame ..) rfl)
  -- the pin engines
  case waitMet => exact .next e (.by (State.waitMet_frame ..) rfl (.mono (State.samplePins_frame ..) rfl))
  case stampMet => exact .next e (.mono (State.stampMet_frame ..) rfl)
  case dlyDone => exact .next e (.mono (State.delayDone_frame ..) rfl)
  case exposureRecord => exact .next e (.mono (State.exposureRecord_frame ..) rfl)
  case penActionTick => exact .next e (.mono (State.actionTick_frame ..) rfl)
  -- the clocks
  case referenceLoss =>
    exact .next e (.ite (.mono (State.refclkStops_frame ..) rfl) (.mono (State.crystalFails_frame ..) rfl))
  case mdllLockLoss => exact .next e (.mono (State.lockLost_frame ..) rfl)
  case stableCountDone => exact .next e (.mono (State.stableDone_frame ..) rfl)
  case mdllRelock => exact .next e (.mono (State.relocked_frame ..) rfl)
  case tickSlewDone => exact .next e (.mono (State.slewDone_frame ..) rfl)
  case refclkMeasurement => exact .next e (.mono (State.measureRef_frame ..) rfl)
  case crystalFailure => exact .next e (.mono (State.crystalFails_frame ..) rfl)
  case tenderSliceRearm => exact .next e (.mono (State.tenderRearm_frame ..) rfl)
  -- the Tender and its store
  case tenderSleep => exact .next e (.mono (State.tenderSleeps_frame ..) rfl)
  case watchdogExpiry => exact .next e (.mono (State.tenderRestart_frame ..) rfl)
  case tenderSramError =>
    exact .next e (.ite (.by (State.tenderRestart_frame ..) rfl (.mono (State.sramHit_frame ..) rfl)) (.refl ..))
  case tenderRestartDone => exact .next e (.mono (State.restartDone_frame ..) rfl)
  case alarmRecord => exact .next e (.mono (State.alarmRecord_frame ..) rfl)
  case logWrite => exact .next e (.mono (State.logWrite_frame ..) rfl)
  case logSectorErase => exact .next e (.mono (State.logErase_frame ..) rfl)
  case nvInhibit => exact .next e (.mono (State.inhibitNv_frame ..) rfl)
  case nvRecovery => exact .next e (.mono (State.recoverNv_frame ..) rfl)
  case hostLossFreeze => exact .next e (.mono (State.hostLoss_frame ..) rfl)
  case tableReload => exact .next e (.mono (State.tableReload_frame ..) rfl)
  -- the two-wire port
  case twAddress => exact .guarded e (.by (State.attnSettle_frame ..) rfl (.mono (State.twStart_frame ..) rfl))
  case twStop => exact .next e (.mono (State.twStop_frame ..) rfl)
  case twFrameError => exact .next e (.mono (State.twFrameError_frame ..) rfl)
  case busStuck => exact .next e (.mono (State.twStuck_frame ..) rfl)
  case inBandRequest => exact .next e (.by (State.inBand_frame ..) rfl (.mono (State.attnSettle_frame ..) rfl))
  case ibrAnswerTimeout => exact .next e (.by (State.ibrTimeout_frame ..) rfl (.mono (State.attnSettle_frame ..) rfl))
  -- temperature and supplies
  case thermalUpdate => exact execThermalUpdate_frame e
  case criticalClosure => exact .next e (.iff (.refl ..) fun _ => .mono (State.beginDrain_frame ..) rfl)
  case criticalDrainEnd =>
    exact .next e (.ite (.by (State.safeState_frame ..) rfl (.each (.refl ..) fun _ _ => .iff (.refl ..) fun _ =>
      .mono (State.holdCh_frame ..) rfl)) (.refl ..))
  case thermalTrip => exact .unless e (.iff (.refl ..) fun _ => .mono (State.trip_frame ..) rfl)
  case coreDroop => exact .next e (.mono (State.coreDroop_frame ..) rfl)
  case railUndervoltage =>
    exact .next e (.ite (.refl ..) (.by (State.raiseAlarm_frame _ _ (by rfl)) rfl (.mono (State.modThm_frame ..)
      rfl)))
  case sliceCurrentFault =>
    exact .next e (.ite (.by (State.raiseAlarm_frame _ _ (by rfl)) rfl (.mono (State.failSlice_frame ..) rfl)) (.refl
      ..))
  -- resets
  case coldPowerOn => exact .next e (.mono (State.coldStart_frame ..) rfl)
  case resetNAssert => exact .next e (.mono (State.assertWarm_frame ..) rfl)
  case warmResetBegin => exact .next e (.iff (.refl ..) fun _ => .mono (State.assertWarm_frame ..) rfl)
  case perstNAssert => exact .next e (.mono (State.perstLow_frame ..) rfl)
  case perstNDeassert => exact .next e (.mono (State.modLink_frame ..) rfl)
  case resetRelease => exact .next e (.mono (State.release_frame ..) rfl)
  case ready => exact .next e (.mono (State.assertReady_frame ..) rfl)
  -- what follows from an earlier command
  case symbolLockGain => exact .next e (.mono (State.lockGain_frame ..) rfl)
  case referenceReturn => exact .next e (.mono (State.referenceReturns_frame ..) rfl)
  case configSpaceWrite => exact .next e (.mono (State.configWrite_frame ..) rfl)
  case msixVectorUnmask => exact .next e (.mono (State.unmask_frame ..) rfl)
  case dataInBlockRead => exact .guarded e (.mono (State.dataIn_frame ..) rfl)
  case nvWriteStepDone => exact .next e (.mono (State.nvStep_frame ..) rfl)
  case wlMessageTimeout => exact .next e (.mono (State.messageTimeout_frame ..) rfl)
  case absentPortRetry => exact .next e (.mono (State.portRetry_frame ..) rfl)
  case electricalIdleExit => exact .next e (.mono (State.idleExit_frame ..) rfl)
  case railUndervoltageEnd => exact .next e (.mono (State.modThm_frame ..) rfl)
  case cxlCacheGrant => exact .next e (.mono (State.cacheGrant_frame ..) rfl)
  -- the commands that count in one core cycle
  all_goals cases h

/-- A step of a pin engine changes what its instruction changes. -/
theorem Frame.step {ps : List Part} {n : Fin 8} {op : Nat} {f : Word → State → State} {s : State}
    (k : ∀ w v, Frame ps v (f w v)) : Frame ps s (s.penExec n op f) :=
  .penExec (.refl _ _) k rfl

/-- A command that counts in its core cycle is an access of a path, or a step of an engine after the accesses that go
before it (R292, R350). -/
theorem exec_cycled {c : Instr} (h : cycled c = true) (s : State) :
    exec c s = .next (s.byPath c) ∨
      ∃ e op f, exec c s = .next (s.byStep e op f) ∧ ∀ u, Frame (touches c) u (f u) := by
  cases c
  -- the accesses of the paths
  case sliceRearm | forceFail | commit | cancel | relayout | linkHold | linkPrbsTest | channelEnable
    | channelDisable | channelStop | queueEnable | queueDisable | mailboxGo | regRead | regWrite
    | stageWrite | stageLoad | peLoad | peStart | peStop | registerWrite | wideLowRead | wideHighRead
    | assetWrite | retrain | wlPrbsTest | rxPop | penOpStart | penOpResume | penOpClockRestart | penOpStop
    | penTxWrite | penRxPop | penFlagSet | penFlagClr | penStoreWrite | clockSettingWrite | advance
    | twWriteAccess | twReadAccess | sensRearm => exact .inl rfl
  -- the steps of the pin engines
  case pull | push => exact .inr ⟨_, _, _, rfl, fun _ => .mono (State.fifoOp_frame ..) rfl⟩
  case peBadOpcode => exact .inr ⟨_, _, _, rfl, fun _ => .mono (State.badOpcode_frame ..) rfl⟩
  case peNop => exact .inr ⟨_, _, _, rfl, fun _ => .step fun _ _ => .mono (State.nextStep_frame ..) rfl⟩
  case out | set => exact .inr ⟨_, _, _, rfl, fun _ => .step fun _ _ => .mono (State.pinAction_frame ..) rfl⟩
  case mov => exact .inr ⟨_, _, _, rfl, fun _ => .step fun _ _ => .mono (State.move_frame ..) rfl⟩
  case wait => exact .inr ⟨_, _, _, rfl, fun _ => .step fun _ _ => .mono (State.beginWait_frame ..) rfl⟩
  case atStamp => exact .inr ⟨_, _, _, rfl, fun _ => .step fun _ _ => .mono (State.armStamp_frame ..) rfl⟩
  case flag => exact .inr ⟨_, _, _, rfl, fun _ => .step fun _ _ => .mono (State.flagOp_frame ..) rfl⟩
  case dly => exact .inr ⟨_, _, _, rfl, fun _ => .step fun _ _ => .mono (State.delay_frame ..) rfl⟩
  case inn =>
    exact .inr ⟨_, _, _, rfl, fun _ => .step fun _ _ =>
      .by (State.shiftIn_frame ..) rfl (.mono (State.samplePins_frame ..) rfl)⟩
  case jmp =>
    exact .inr ⟨_, _, _, rfl, fun _ => .step fun _ _ =>
      .by (State.jump_frame ..) rfl (.mono (State.samplePins_frame ..) rfl)⟩
  -- the other commands do not count
  all_goals cases h

theorem within_append (ps qs : List Part) : within ps (ps ++ qs) = true ∧ within qs (ps ++ qs) = true := by
  simp +contextual [within]

/-- Alone in its core cycle, such a command too changes only the parts listed for it. -/
theorem exec_frame_of_alone {c : Instr} {s t : State} (h : cycled c = true) (a : s.alone = true)
    (e : exec c s = .next t) : Frame (touches c) s t := by
  rcases exec_cycled h s with k | ⟨n, op, f, k, fr⟩
  · exact .next (k.symm.trans e) (State.byPath_own a c)
  · refine .next (k.symm.trans e) ?_
    rw [State.byStep_alone a]
    exact fr s

/-- What goes before it in its core cycle changes no more than accesses may. -/
theorem exec_frame_of_cycled {c : Instr} {s t : State} (h : cycled c = true) (e : exec c s = .next t) :
    Frame (touches c ++ accessTouches) s t := by
  obtain ⟨own, before⟩ := within_append (touches c) accessTouches
  rcases exec_cycled h s with k | ⟨n, op, f, k, fr⟩
  · exact .next (k.symm.trans e) (.mono (State.byPath_frame c s) before)
  · exact .next (k.symm.trans e) (.by (fr _) own (.mono (State.serveFirst_frame ..) before))

/-- Settles O6: each operation that a command is made of changes only its own parts (the frames of Laws/), so the
command changes only theirs; with others in its core cycle, what accesses may change joins them. -/
theorem eachCommandKeepsTheRest : Obligations.EachCommandKeepsTheRest := by
  intro c s t e
  refine ⟨fun h => ?_, fun h => (exec_frame_of_cycled h e).1⟩
  cases hc : cycled c with
  | false => exact (exec_frame_of_not_cycled hc e).1
  | true => exact (exec_frame_of_alone hc (h.resolve_left (by simp [hc])) e).1

end Sys2Proof.Machine
end

section
/-! What one core cycle does on an empty queue: the ticks it counts, and how each of them drains the reel's write
buffer (R9, R215, R363, R364). -/

namespace Sys2Proof.Machine

/-! ### One tick of the timebase -/

@[simp] theorem Timebase.moveBy_tick (r : Int) (t : Timebase) : (t.moveBy r).tick = t.tick := by
  unfold Timebase.moveBy
  split <;> rfl

@[simp] theorem State.judgeStill_tick (s : State) : s.judgeStill.tb.tick = s.tb.tick := by
  unfold State.judgeStill State.endStill
  split
  · rfl
  · split <;> rfl

theorem State.tickTime_tick (s : State) : s.tickTime.tb.tick = s.tb.tick + 1 := by
  simp [State.tickTime]

theorem State.tickTime_reel (s : State) : s.tickTime.reel = s.reel := s.tickTime_frame.1 .reel rfl

theorem State.tickTime_clk (s : State) : s.tickTime.clk = s.clk := s.tickTime_frame.1 .clk rfl

theorem State.tickTime_regs (s : State) : s.tickTime.regs = s.regs := s.tickTime_frame.1 .regs rfl

theorem State.tickTime_dma (s : State) : s.tickTime.dma = s.dma := s.tickTime_frame.1 .dma rfl

/-! ### The drain of the write buffer (R215, R364) -/

theorem State.memShare_congr {s t : State} (m : t.clk.mem = s.clk.mem) (r : t.regs = s.regs) :
    t.memShare = s.memShare := by
  unfold State.memShare State.reg
  rw [m, r]

theorem State.memShare_unlocked {s : State} (h : s.clk.mem ≠ .locked) : s.memShare = 0 := if_pos h

/-- A replay read or a cut read waits. -/
def State.readsWait (s : State) : Bool :=
  s.replayWaits || s.reel.cuts.any fun c => c.active && !c.todo.isEmpty

theorem State.readsWait_iff (s : State) :
    s.readsWait = true ↔ s.replayWaits = true ∨ ∃ c, c ∈ s.reel.cuts ∧ c.active = true ∧ c.todo ≠ [] := by
  simp [State.readsWait]

theorem State.readsWait_congr {s t : State} (d : t.dma = s.dma) (r : t.reel = s.reel) :
    t.readsWait = s.readsWait := by
  unfold State.readsWait State.replayWaits
  rw [d, r]

/-- What recording takes first of the bandwidth of the tick `now` at the full memory target. -/
def Reel.firstShare (now : Nat) (r : Reel) : Nat :=
  min r.occ (min 88 (192000 - ((r.drains.filter fun e => decide (now < e.1 + 4000)).map (·.2)).sum))

/-- What the tick `now` leaves in the write buffer at the full memory target. -/
def Reel.occAfter (now : Nat) (reads : Bool) (r : Reel) : Nat :=
  let first := r.firstShare now
  r.occ - (first + if reads then 0 else min (r.occ - first) (88 - first - min r.debt (88 - first)))

theorem State.recordDrain_unlocked {s : State} (h : s.memShare = 0) : s.recordDrain.reel.occ = s.reel.occ := by
  simp [State.recordDrain, h]

theorem State.recordDrain_full {s : State} (h : s.memShare = 32) :
    s.recordDrain.reel.occ = s.reel.occAfter s.now s.readsWait := by
  simp only [State.recordDrain, State.modReel_reel, h]
  rfl

/-! ### The ticks of a cycle -/

/-- A property that an operation keeps is kept by its repetition. -/
theorem State.times_keeps {p : State → Prop} {f : State → State} (k : ∀ u, p u → p (f u)) :
    ∀ (n : Nat) {s : State}, p s → p (s.times f n)
  | 0, _, h => h
  | n + 1, _, h => State.times_keeps k n (k _ h)

theorem State.passTicks_tick (n : Nat) (s : State) : (s.passTicks n).tb.tick = s.tb.tick + BitVec.ofNat 64 n := by
  have ticks (n : Nat) (u : State) :
      (u.times (fun s => s.tickTime.recordDrain) n).tb.tick = u.tb.tick + BitVec.ofNat 64 n := by
    induction n generalizing u with
    | zero => simp [State.times]
    | succ n ih =>
      have one : u.tickTime.recordDrain.tb.tick = u.tb.tick + 1 := u.tickTime_tick
      rw [State.times, ih, one, BitVec.add_assoc, BitVec.add_comm 1, BitVec.ofNat_add]
      rfl
  exact ticks n _

/-- While the memory clock is off lock nothing leaves the write buffer. -/
theorem State.passTicks_unlocked {s : State} (n : Nat) (h : s.clk.mem ≠ .locked) :
    (s.passTicks n).reel.occ = s.reel.occ := by
  have keeps (u : State) (k : u.clk.mem ≠ .locked ∧ u.reel.occ = s.reel.occ) :
      u.tickTime.recordDrain.clk.mem ≠ .locked ∧ u.tickTime.recordDrain.reel.occ = s.reel.occ := by
    obtain ⟨m, o⟩ := k
    have clk : u.tickTime.recordDrain.clk = u.clk := u.tickTime_clk
    have off : u.tickTime.memShare = 0 := State.memShare_unlocked (by rwa [State.tickTime_clk])
    exact ⟨by rwa [clk], by rw [State.recordDrain_unlocked off, State.tickTime_reel, o]⟩
  have start : (s.modClk fun c => { c with slip := c.taken, cycle := n }).clk.mem ≠ .locked := h
  exact (State.times_keeps keeps n ⟨start, rfl⟩).2

/-- A single tick, from a state that differs in its clocks' slip alone. -/
theorem State.passTicks_one (s : State) : ∃ c : Clocks, c.mem = s.clk.mem ∧
    (s.passTicks 1).reel = (s.modClk fun _ => c).tickTime.recordDrain.reel :=
  ⟨{ s.clk with slip := s.clk.taken, cycle := 1 }, rfl, rfl⟩

theorem State.passTicks_full {s : State} (h : s.memShare = 32) :
    (s.passTicks 1).reel.occ = s.reel.occAfter (s.tb.tick + 1).toNat s.readsWait := by
  obtain ⟨c, mem, reel⟩ := s.passTicks_one
  generalize hu : (s.modClk fun _ => c) = u at reel
  have same : u.reel = s.reel ∧ u.dma = s.dma ∧ u.regs = s.regs ∧ u.tb = s.tb ∧ u.clk.mem = s.clk.mem := by
    rw [← hu]
    exact ⟨rfl, rfl, rfl, rfl, mem⟩
  obtain ⟨ureel, udma, uregs, utb, umem⟩ := same
  have share : u.tickTime.memShare = 32 :=
    (State.memShare_congr (by rw [State.tickTime_clk, umem]) (u.tickTime_regs.trans uregs)).trans h
  have now : u.tickTime.now = (s.tb.tick + 1).toNat := by rw [State.now, State.tickTime_tick, utb]
  have waits := State.readsWait_congr (u.tickTime_dma.trans udma) (u.tickTime_reel.trans ureel)
  rw [reel, State.recordDrain_full share, waits, State.tickTime_reel, ureel, now]

/-! ### The cycle -/

/-- What passes before the ticks of a cycle: stamps are met and the counters count. -/
def State.counted (s : State) : State :=
  let u := s.noteMet.traceOut
  let u := u.each u.clockCounts fun c s => s.iff c.2 (·.bump c.1 1)
  u.each u.tickCounts fun c v => v.iff c.2 (·.bump c.1 s.cycleTicks)

theorem State.counted_frame (s : State) : Frame [.pen, .obs] s s.counted := by
  have count (l : List (Nat × Bool)) (n : Nat) {u : State} (h : Frame [.pen, .obs] s u) :
      Frame [.pen, .obs] s (u.each l fun c s => s.iff c.2 (·.bump c.1 n)) :=
    .each h fun _ _ => .iff (.refl _ _) fun _ => .mono (State.bump_frame ..) rfl
  exact count _ _ (count _ _ (.by (State.traceOut_frame _) rfl (.mono (State.noteMet_frame _) rfl)))

theorem State.tickOnce_eq {s : State} (h : s.thm.trip = false) :
    s.tickOnce = (s.counted.passTicks s.cycleTicks).attnSettle.snap := by
  unfold State.tickOnce
  rw [h]
  rfl

theorem State.tickOnce_tick {s : State} (h : s.thm.trip = false) :
    s.tickOnce.tb.tick = s.tb.tick + BitVec.ofNat 64 s.cycleTicks := by
  have settle : (s.counted.passTicks s.cycleTicks).attnSettle.tb = (s.counted.passTicks s.cycleTicks).tb :=
    (State.attnSettle_frame _).1 .tb rfl
  have count : s.counted.tb = s.tb := s.counted_frame.1 .tb rfl
  calc s.tickOnce.tb.tick
      = (s.counted.passTicks s.cycleTicks).attnSettle.tb.tick := by rw [State.tickOnce_eq h]; rfl
    _ = s.tb.tick + BitVec.ofNat 64 s.cycleTicks := by rw [settle, State.passTicks_tick, count]

/-- Only its ticks touch the reel in a cycle. -/
theorem State.tickOnce_reel {s : State} (h : s.thm.trip = false) :
    s.tickOnce.reel = (s.counted.passTicks s.cycleTicks).reel := by
  rw [State.tickOnce_eq h]
  exact (State.attnSettle_frame _).1 .reel rfl

theorem State.tickOnce_unlocked {s : State} (h : s.thm.trip = false) (m : s.clk.mem ≠ .locked) :
    s.tickOnce.reel.occ = s.reel.occ := by
  have clk : s.counted.clk = s.clk := s.counted_frame.1 .clk rfl
  have reel : s.counted.reel = s.reel := s.counted_frame.1 .reel rfl
  rw [State.tickOnce_reel h, State.passTicks_unlocked _ (by rwa [clk]), reel]

theorem State.tickOnce_full {s : State} (h : s.thm.trip = false) (one : s.cycleTicks = 1) (full : s.memShare = 32) :
    s.tickOnce.reel.occ = s.reel.occAfter (s.tb.tick + 1).toNat s.readsWait := by
  obtain ⟨count, -⟩ := s.counted_frame
  have clk : s.counted.clk = s.clk := count .clk rfl
  have reel : s.counted.reel = s.reel := count .reel rfl
  have tb : s.counted.tb = s.tb := count .tb rfl
  have share : s.counted.memShare = 32 := (State.memShare_congr (by rw [clk]) (count .regs rfl)).trans full
  rw [State.tickOnce_reel h, one, State.passTicks_full share, State.readsWait_congr (count .dma rfl) reel, reel, tb]

/-- With a read waiting the tick gives recording its first share alone. -/
theorem Reel.occAfter_reads (now : Nat) (r : Reel) : r.occAfter now true = r.occ - r.firstShare now := rfl

/-- With no read waiting the rest of the bandwidth goes to the buffer too, less what save-all and cuts owe. -/
theorem Reel.occAfter_free (now : Nat) (r : Reel) : r.occAfter now false =
    r.occ - r.firstShare now - (88 - r.firstShare now - min r.debt (88 - r.firstShare now)) := by
  simp only [Reel.occAfter, Bool.false_eq_true, if_false]
  omega

theorem step_of_idle {s : State} (h : s.pending = []) : step s = .next s.tickOnce := by
  unfold step
  rw [h]

/-- Settles O2: with no command waiting the step is one core cycle; its ticks drain the write buffer, one after the
other, and what else the cycle does leaves the reel, the registers and the memory clock alone. -/
theorem anEmptyQueueLetsATickPass : Obligations.AnEmptyQueueLetsATickPass := by
  refine ⟨fun s idle on => ⟨_, step_of_idle idle, State.tickOnce_tick on, s.tickOnce_frame.1.mono rfl, ?_, ?_, ?_,
    State.tickOnce_unlocked on, fun one full => ⟨fun free => ?_, fun reads => ?_⟩⟩, fun s idle off => ?_⟩
  · rw [State.tickOnce_eq on]; rfl
  · rw [State.tickOnce_eq on]; rfl
  · rw [State.tickOnce_eq on]; rfl
  · rw [← State.readsWait_iff, Bool.not_eq_true] at free
    rw [State.tickOnce_full on one full, free]
    exact Reel.occAfter_free _ _
  · rw [← State.readsWait_iff] at reads
    rw [State.tickOnce_full on one full, reads]
    rfl
  · rw [step_of_idle idle]
    simp [State.tickOnce, off]

end Sys2Proof.Machine
end

section
/-! What stands against the statement on register accesses: a read of a GLB register goes through the copy of the PHY's
mirror while the PHY refreshes none (`State.linkCopy`), whichever register it is. -/

namespace Sys2Proof.Machine

/-- The link is up, the PHY refreshes no mirror, and the copy it keeps names GLB_SCRATCH, 0x000028, with the value 1; a
write of 0 to that register by the host waits in this core cycle. -/
def staleScratch : State := { State.reset with
  link := { up := true, copy := [(0x000028, 1)] }
  rst := { phase := .started }
  pending := [.registerWrite { path := .cxl, same := true } 0x000028 (.word 0)] }

/-- The read of GLB_SCRATCH by the two-wire port. -/
def readScratch : Instr := .wideHighRead { path := .tw } 0x000028 .word false 0

/-- What a command has sent out. -/
def sentBy : Answer → List Out
  | .next t => t.out
  | _ => []

/-- The register holds the 0 written, and the copy's 1 is read. -/
theorem sentBy_readScratch : sentBy (exec readScratch staleScratch) = [.read .tw 0x000028 1] := by
  decide +kernel

/-- Refutes O55: the clause on CXL before the two-wire port (R292) speaks of every state, and so of one whose copy of
the PHY's mirror names GLB_SCRATCH. There the host's write of 0 goes first, and the two-wire port reads the copy's 1.
The copies that the model itself takes (`State.linkMirror`) do not name that register: the clause lacks a hypothesis
that says so. -/
theorem not_registerAccesses : ¬ Obligations.RegisterAccesses := by
  unfold Obligations.RegisterAccesses
  rintro ⟨-, -, -, -, readAfterWrite, -⟩
  obtain ⟨t, run, -, out⟩ := readAfterWrite 0 false false 0 staleScratch (by decide) (by decide) rfl rfl (by decide)
  have read := sentBy_readScratch
  have run : exec readScratch staleScratch = .next t := run
  rw [run] at read
  have read : t.out = [.read .tw 0x000028 1] := read
  rw [out] at read
  exact absurd read (by decide)

end Sys2Proof.Machine
end

section
/-! The state after reset, part by part. -/

namespace Sys2Proof.Machine

/-- The register store of the reset state lists nothing: each register reads as its map gives. -/
theorem State.reset_reg (off : Nat) : State.reset.reg off = resetWord off := rfl

theorem State.reset_fget (f : Fld) : State.reset.fget f = bits (resetWord f.off) f.lo f.n := rfl

theorem State.reset_flag (f : Fld) : State.reset.flag f = (bits (resetWord f.off) f.lo f.n != 0) := rfl

/-- Settles O5: the stores of the reset state are empty, its registers read as their maps give, and every other part is
at its default. -/
theorem resetState : Obligations.ResetState := by
  refine ⟨rfl, rfl, rfl, rfl, rfl, rfl, rfl, rfl, rfl, rfl, rfl, rfl, ?channels, ?queues, ?slices, ?attnEn, ?twWr,
    ?start, ?crit, ?retry, State.reset_reg⟩
  case channels => decide
  case queues => decide
  case slices => decide
  case attnEn =>
    rw [State.reset_reg]
    decide
  case twWr =>
    rw [State.reset_flag]
    decide
  case start | crit | retry =>
    rw [State.reset_fget]
    decide

end Sys2Proof.Machine
end

section
/-! Coasting line periods (R43): what marking a line period changes, and what becomes of the latest period and of the
exposure that runs, in line mode and in area mode. -/

namespace Sys2Proof.Machine

/-! ### Changes of the records of line periods alone -/

/-- In the timebase two states differ in the records of the line periods alone. -/
def RecordsOnly (s t : State) : Prop := ∃ l, t.tb = { s.tb with periods := l }

theorem RecordsOnly.of_tb {s t : State} (h : t.tb = s.tb) : RecordsOnly s t := ⟨s.tb.periods, h⟩

theorem RecordsOnly.refl (s : State) : RecordsOnly s s := .of_tb rfl

/-- Two changes, the later one first. -/
theorem RecordsOnly.by {s t u : State} (k : RecordsOnly u t) (h : RecordsOnly s u) : RecordsOnly s t := by
  obtain ⟨l, k⟩ := k
  obtain ⟨_, h⟩ := h
  exact ⟨l, by rw [k, h]⟩

theorem RecordsOnly.ite {s t u : State} {c : Prop} {_d : Decidable c} (h : RecordsOnly s t) (k : RecordsOnly s u) :
    RecordsOnly s (if c then t else u) := by
  split
  · exact h
  · exact k

theorem RecordsOnly.each {α : Type} {f : α → State → State} (k : ∀ a u, RecordsOnly u (f a u)) (l : List α) :
    ∀ s, RecordsOnly s (s.each l f) := by
  unfold State.each
  induction l with
  | nil => exact .refl
  | cons a l ih => exact fun s => .by (ih _) (k a s)

theorem RecordsOnly.nextSeq {s t : State} (h : RecordsOnly s t) : t.tb.nextSeq = s.tb.nextSeq := by
  obtain ⟨_, h⟩ := h
  rw [h]

/-! ### A line period is marked -/

/-- A period's record once line period `n` is marked as a coasting one. -/
def Period.marked (n : Nat) (p : Period) : Period := if p.seq = n then { p with coast := true } else p

theorem Period.marked_own (p : Period) : p.marked p.seq = { p with coast := true } := if_pos rfl

theorem Period.coast_of_marked {n : Nat} {p : Period} (h : (p.marked n).seq = n) : (p.marked n).coast = true := by
  unfold Period.marked at *
  split at h
  · rw [if_pos ‹_›]
  · contradiction

/-- A period that is not of that sequence, or that coasts already, stays as it is. -/
theorem Period.marked_of_not {n : Nat} {p : Period} (h : ¬ (p.seq = n ∧ p.coast = false)) : p.marked n = p := by
  unfold Period.marked
  split
  · have c : p.coast = true := by simpa [‹p.seq = n›] using h
    rw [← c]
  · rfl

/-- Marking a line period changes the records of that sequence and nothing else of the timebase. -/
theorem State.markCoast_tb (n : Nat) (s : State) :
    (s.markCoast n).tb = { s.tb with periods := s.tb.periods.map (·.marked n) } := by
  unfold State.markCoast
  split
  · exact State.bump_tb ..
  · rename_i none
    have keep (p : Period) (mem : p ∈ s.tb.periods) : p.marked n = p :=
      Period.marked_of_not fun ⟨seq, coast⟩ => none (List.any_eq_true.mpr ⟨p, mem, by simp [seq, coast]⟩)
    have same : s.tb.periods.map (·.marked n) = s.tb.periods := (List.map_congr_left keep).trans (List.map_id _)
    rw [same]

theorem State.markCoast_records (n : Nat) (s : State) : RecordsOnly s (s.markCoast n) := ⟨_, s.markCoast_tb n⟩

theorem State.markCoast_hb (n : Nat) (s : State) : (s.markCoast n).hb = s.hb := (s.markCoast_frame n).1 .hb rfl

/-- The line periods of that sequence are coasting ones then. -/
theorem State.coast_of_markCoast {n : Nat} {s : State} {p : Period} (mem : p ∈ (s.markCoast n).tb.periods)
    (h : p.seq = n) : p.coast = true := by
  rw [State.markCoast_tb] at mem
  obtain ⟨q, -, rfl⟩ := List.mem_map.mp mem
  exact Period.coast_of_marked h

/-! ### The latest period -/

theorem State.lastPeriod_eq {s : State} {p : Period} (h : s.lastPeriod = some p) : ∃ r, s.tb.periods = p :: r := by
  unfold State.lastPeriod at h
  exact List.head?_eq_some_iff.mp h

theorem State.lastPeriod_congr {s t : State} (h : t.tb = s.tb) : t.lastPeriod = s.lastPeriod := by
  unfold State.lastPeriod
  rw [h]

theorem State.lastPeriod_markCoast {s : State} {p : Period} (h : s.lastPeriod = some p) :
    (s.markCoast p.seq).lastPeriod = some { p with coast := true } := by
  obtain ⟨r, e⟩ := State.lastPeriod_eq h
  rw [State.lastPeriod, State.markCoast_tb, e, ← p.marked_own]
  rfl

theorem State.lastPeriod_onPeriod (g : Period → Period) (s : State) :
    (s.onPeriod g).lastPeriod = s.lastPeriod.map g := by
  unfold State.lastPeriod State.onPeriod
  rw [State.modTb_tb]
  cases s.tb.periods <;> rfl

/-- The latest period becomes a coasting one where the timebase coasts now. -/
theorem State.lastPeriod_coastPeriod {s : State} {p : Period} (h : s.lastPeriod = some p) :
    s.coastPeriod.lastPeriod = some { p with coast := p.coast || s.coastingNow } := by
  unfold State.coastPeriod State.iff
  rw [h]
  dsimp only
  split
  · rename_i c
    rw [State.lastPeriod_markCoast h, c, Bool.or_true]
  · rename_i c
    rw [h, Bool.eq_false_iff.mpr c, Bool.or_false]

/-! ### The exposure that runs -/

theorem State.coastExposure_of_not {s : State} (h : s.coastingNow = false) : s.coastExposure = s := by
  unfold State.coastExposure
  rw [h]
  rfl

theorem State.coastExposure_records (s : State) : RecordsOnly s s.coastExposure := by
  unfold State.coastExposure
  refine .ite (.refl s) ?_
  split
  · exact .ite (.by (State.markCoast_records ..) (.of_tb rfl)) (.refl s)
  · split
    · exact .ite (State.markCoast_records ..) (.refl s)
    · exact .refl s

/-- In line mode the line period whose exposure runs is marked. -/
theorem State.coastExposure_line {s : State} {p : Period} (h : s.coastingNow = true) (line : s.hb.area = none)
    (last : s.lastPeriod = some p) (start : p.start.isSome = true) (stop : p.stop = none) :
    s.coastExposure = s.markCoast p.seq := by
  obtain ⟨r, e⟩ := State.lastPeriod_eq last
  simp [State.coastExposure, h, line, e, start, stop]

/-- In area mode the sub-frame whose exposure runs is marked, and the line period of its frame's trigger. -/
theorem State.coastExposure_area {s : State} {fr : AreaFrame} (h : s.coastingNow = true) (area : s.hb.area = some fr)
    (start : fr.tStart.isSome = true) (stop : fr.tStop = none) :
    s.coastExposure = (s.modHb fun h => { h with area := some { fr with coast := true } }).markCoast fr.seq := by
  simp [State.coastExposure, h, area, start, stop]

/-- The exposure of a sub-frame is a coasting one where the timebase coasts now. -/
theorem State.coastExposure_hb {s : State} {fr : AreaFrame} (area : s.hb.area = some fr)
    (start : fr.tStart.isSome = true) (stop : fr.tStop = none) :
    s.coastExposure.hb = { s.hb with area := some { fr with coast := fr.coast || s.coastingNow } } := by
  cases c : s.coastingNow with
  | true =>
    rw [State.coastExposure_area c area start stop, State.markCoast_hb, State.modHb_hb, Bool.or_true]
  | false =>
    rw [State.coastExposure_of_not c, Bool.or_false, ← area]

theorem State.coast_of_coastExposure {s : State} {fr : AreaFrame} (h : s.coastingNow = true)
    (area : s.hb.area = some fr) (start : fr.tStart.isSome = true) (stop : fr.tStop = none) {p : Period}
    (mem : p ∈ s.coastExposure.tb.periods) (seq : p.seq = fr.seq) : p.coast = true := by
  rw [State.coastExposure_area h area start stop] at mem
  exact State.coast_of_markCoast mem seq

end Sys2Proof.Machine
end

section
/-! The timebase: encoder edges, Z and standstill (R30 to R36), coasting, failover and loss (R46, R47), and the end of
a slew or a hold (R48). -/

namespace Sys2Proof.Machine

/-- A command whose next state is known by an equation. -/
theorem Does.of_eq {c : Instr} {s t u : State} {p : State → Prop} (e : exec c s = .next u) (h : u = t) (k : p t) :
    Does c s p := ⟨u, e, h ▸ k⟩

/-! ### One element of a vector -/

theorem vupd_same {α : Type} {n : Nat} (v : Vector α n) (i : Fin n) (f : α → α) : (vupd v i f)[i] = f v[i] :=
  Vector.getElem_set_self _

theorem vupd_other {α : Type} {n : Nat} (v : Vector α n) {i j : Fin n} (f : α → α) (h : i ≠ j) :
    (vupd v i f)[j] = v[j] :=
  Vector.getElem_set_ne _ j.isLt (Fin.val_ne_of_ne h)

/-! ### What edges and reference events leave alone -/

/-- Neither W nor the Z capture nor the encoders' levels and counts differ between two states. -/
def AxisKept (s t : State) : Prop := t.tb.wf = s.tb.wf ∧ t.tb.zcap = s.tb.zcap ∧ t.tb.encs = s.tb.encs

theorem AxisKept.of_tb {s t : State} (h : t.tb = s.tb) : AxisKept s t := by
  unfold AxisKept
  simp [h]

theorem AxisKept.refl (s : State) : AxisKept s s := .of_tb rfl

/-- Two changes, the later one first. -/
theorem AxisKept.by {s t u : State} (k : AxisKept u t) (h : AxisKept s u) : AxisKept s t := by
  obtain ⟨wf, z, encs⟩ := k
  obtain ⟨wf', z', encs'⟩ := h
  exact ⟨wf.trans wf', z.trans z', encs.trans encs'⟩

theorem AxisKept.ite {s t u : State} {c : Prop} {_d : Decidable c} (h : AxisKept s t) (k : AxisKept s u) :
    AxisKept s (if c then t else u) := by
  split
  · exact h
  · exact k

theorem AxisKept.unless {s t u : State} {c : Prop} {_d : Decidable c} (n : ¬ c) (k : AxisKept s u) :
    AxisKept s (if c then t else u) := by
  rwa [if_neg n]

/-- What the timebase does after a reference event with discontinuity `d` (R48). -/
def State.modeAfter (d : Int) (s : State) : TrackMode :=
  if d = 0 then .tracking
  else if -s.slewLimit ≤ d ∧ d ≤ s.slewLimit then .slewing
  else if 0 < d then .resyncFwd else .resyncHold

theorem State.reference_tb (d : Int) (marked : Bool) (s : State) :
    (s.reference d marked).tb =
      { s.tb with slewD := sat31 (floorDiv d 4096), refTick := some s.now, coastRun := 0, slewLeft := d,
                  slewWeb := (2 ^ s.tb.reamK * s.fu.inForce.pitch : Nat), mode := s.modeAfter d } := by
  unfold State.reference
  dsimp only
  rw [apply_ite State.tb, State.trace_tb, ite_self]
  rfl

theorem State.reference_axis (d : Int) (marked : Bool) (s : State) : AxisKept s (s.reference d marked) := by
  unfold AxisKept
  rw [State.reference_tb]
  exact ⟨rfl, rfl, rfl⟩

theorem State.edgesReturn_axis (s : State) : AxisKept s s.edgesReturn := by
  unfold State.edgesReturn
  exact .ite ⟨rfl, rfl, rfl⟩ (.by (State.reference_axis ..) ⟨rfl, rfl, rfl⟩)

theorem State.forwardEdge_axis (s : State) : AxisKept s s.forwardEdge := by
  unfold State.forwardEdge
  exact .ite s.edgesReturn_axis (.ite ⟨rfl, rfl, rfl⟩ (.ite ⟨rfl, rfl, rfl⟩ ⟨rfl, rfl, rfl⟩))

theorem State.backwardEdge_axis (s : State) : AxisKept s s.backwardEdge := by
  unfold State.backwardEdge
  exact .ite s.edgesReturn_axis (.ite (.by (.of_tb ((State.alarmOf_tb ..).trans (State.raise_tb ..))) ⟨rfl, rfl, rfl⟩)
    ⟨rfl, rfl, rfl⟩)

theorem State.judgeStill_axis (s : State) : AxisKept s s.judgeStill := by
  unfold State.judgeStill State.endStill
  exact .ite ⟨rfl, rfl, rfl⟩ (.ite ⟨rfl, rfl, rfl⟩ (.refl s))

theorem State.switchEncoder_axis (enc1 : Bool) (s : State) : AxisKept s (s.switchEncoder enc1) := by
  unfold State.switchEncoder
  exact .ite (.by (State.reference_axis ..) ⟨rfl, rfl, rfl⟩) ⟨rfl, rfl, rfl⟩

/-! ### A transition of the levels (R30) -/

/-- One edge in the sense of the quadrature code, which ENC_INV may invert. -/
def State.edgeStep (enc : Fin 2) (a b : Bool) (s : State) : Int :=
  if quadForward s.tb.encs[enc].a s.tb.encs[enc].b a b != s.curOn R.tbsCtrlEncInv then 1 else -1

/-- An encoder notes its new levels and one edge. -/
def State.edgeNoted (enc : Fin 2) (a b : Bool) (s : State) : State :=
  s.modTb fun t => { t with encs := vupd t.encs enc (·.stamp s.now (s.edgeStep enc a b) a b) }

theorem State.edgeNoted_enc (enc : Fin 2) (a b : Bool) (s : State) :
    (s.edgeNoted enc a b).tb.encs[enc] = s.tb.encs[enc].stamp s.now (s.edgeStep enc a b) a b := vupd_same ..

theorem State.transition_short {enc : Fin 2} {a b : Bool} {held : Nat} {s : State}
    (h : held < s.fget R.tbsCtrlEncFilt) : s.transition enc a b held = s := if_pos (.inl h)

section
variable {enc : Fin 2} {a b : Bool} {held : Nat} {s : State}

/-- A level that has changed and is held long enough leaves its trace. -/
theorem State.not_swallowed (h : s.fget R.tbsCtrlEncFilt ≤ held)
    (change : a = s.tb.encs[enc].a → b ≠ s.tb.encs[enc].b) :
    ¬ (held < s.fget R.tbsCtrlEncFilt ∨ (a = s.tb.encs[enc].a ∧ b = s.tb.encs[enc].b)) := by
  rintro (short | ⟨ha, hb⟩)
  · omega
  · exact change ha hb

/-- A transition of both levels is an encoder error: the levels are noted, and no edge. -/
theorem State.transition_both (h : s.fget R.tbsCtrlEncFilt ≤ held) (ha : a ≠ s.tb.encs[enc].a)
    (hb : b ≠ s.tb.encs[enc].b) :
    s.transition enc a b held =
      (s.modTb fun t => { t with encs := vupd t.encs enc fun e => { e with a := a, b := b } }).raise
        R.tbsStatEncErr :=
  (if_neg (State.not_swallowed h fun k => absurd k ha)).trans (if_pos ⟨ha, hb⟩)

/-- Any other transition notes one edge; what follows from the edge moves neither W nor an encoder. -/
theorem State.transition_single (h : s.fget R.tbsCtrlEncFilt ≤ held)
    (one : a ≠ s.tb.encs[enc].a ↔ b = s.tb.encs[enc].b) (fast : s.coreSlow = false) :
    AxisKept (s.edgeNoted enc a b) (s.transition enc a b held) := by
  unfold State.transition
  have counted (c f : Bool) (n : Nat) (u : State) : AxisKept u (if c then u.bump n 1 else u.iff f (·.bump 3 1)) :=
    .ite (.of_tb (State.bump_tb ..)) (.ite (.of_tb (State.bump_tb ..)) (.refl u))
  exact .unless (State.not_swallowed h fun ha hb => one.mpr hb ha) (.unless (fun k => k.2 (one.mp k.1))
    (.unless (by simp [fast]) (.ite (.by (State.judgeStill_axis _) (.by ⟨rfl, rfl, rfl⟩
      (.ite (.by (State.forwardEdge_axis _) (counted ..)) (.by (State.backwardEdge_axis _) (counted ..)))))
      (counted ..))))

end

/-! ### Z and standstill (R32, R36) -/

theorem State.zEdge_short {enc : Fin 2} {held : Nat} {s : State} (h : held < s.fget R.tbsCtrlEncFilt) :
    s.zEdge enc held = s := if_pos (.inl h)

/-- A Z edge of the active encoder latches the web count; the reference event that it may be moves neither W nor an
encoder. -/
theorem State.zEdge_latches {enc : Fin 2} {held : Nat} {s : State} (h : s.fget R.tbsCtrlEncFilt ≤ held)
    (active : enc.val = b2n s.tb.onEnc1) :
    AxisKept (s.modTb fun t => { t with zcap := s.wc }) (s.zEdge enc held) := by
  unfold State.zEdge
  refine .unless (by omega) ?_
  dsimp only
  have latched : AxisKept (s.modTb fun t => { t with zcap := s.wc })
      ((s.modTb fun t => { t with zcap := s.wc, zSeen := t.zSeen || t.mode == .tracking }).bump 6 1) :=
    .by (.of_tb (State.bump_tb ..)) ⟨rfl, rfl, rfl⟩
  split
  · exact .by (State.reference_axis ..) latched
  · exact latched

theorem State.judgeStill_slow {s : State} (h : s.slow = true) :
    s.judgeStill = s.modTb fun t => { t with still := true } := if_pos h

/-- Settles O7: each case of a transition has its lemma; edges, Z and the reference event leave W alone. -/
theorem encoderEdgesAndStandstill : Obligations.EncoderEdgesAndStandstill := by
  refine ⟨fun enc a b held s => ⟨fun short => ?short, fun long ha hb => ?both, fun long one fast => ?single⟩,
    fun enc held s long active => ?z, fun enc held s short => ?shortZ, fun s slow => ?still, fun s fast => ?moves⟩
  case short => exact congrArg Host.Outcome.next (State.transition_short short)
  case both =>
    refine .of_eq rfl (State.transition_both long ha hb) ⟨State.flag_raise _ _ (by decide) rfl, ?_⟩
    rw [State.raise_tb, State.modTb_tb, vupd_same]
    exact ⟨rfl, rfl, rfl⟩
  case single =>
    obtain ⟨wf, -, encs⟩ := State.transition_single long one fast
    have noted := State.edgeNoted_enc enc a b s
    rw [← encs] at noted
    exact ⟨_, rfl, congrArg Encoder.a noted, congrArg Encoder.b noted, wf, congrArg Encoder.edges noted⟩
  case z =>
    obtain ⟨wf, z, encs⟩ := State.zEdge_latches long active
    exact ⟨_, rfl, z, wf, encs⟩
  case shortZ => exact congrArg Host.Outcome.next (State.zEdge_short short)
  case still => exact congrArg Host.Outcome.next ((if_pos slow).trans (State.judgeStill_slow slow))
  case moves => exact congrArg Host.Outcome.next (if_neg (by simp [fast]))

/-! ### Announced events -/

/-- An event is raised, posts its alarm and is traced. -/
def State.announced (f : Fld) (event : Nat) (data : Word) (s : State) : State :=
  ((s.raise f).alarmOf f 0).trace event 0 data

section
variable (f : Fld) (event : Nat) (data : Word) (s : State)

@[simp] theorem State.announced_tb : (s.announced f event data).tb = s.tb := by simp [State.announced]

@[simp] theorem State.announced_hb : (s.announced f event data).hb = s.hb := by simp [State.announced]

theorem State.announced_posted : (s.announced f event data).tnd.posted.length = s.tnd.posted.length + 1 := by
  rw [State.announced, State.trace_tnd, State.posted_alarmOf, State.raise_tnd]

theorem State.fget_announced (h : f.lo + f.n ≤ 32) (n : f.n = 1) (a : f.off ≠ 0x000008) :
    (s.announced f event data).fget f = 1 := by
  rw [State.announced, State.fget_trace]
  exact State.flag_raiseAlarm f s h n a

end

/-! ### Coasting and failover (R46) -/

/-- The timebase coasts from now on at a rate. -/
def State.coastStarted (rate : Nat) (s : State) : State :=
  s.modTb fun t =>
    { t with mode := .coasting, rate := rate, tAdv := none, coastRun := if s.fedCoast then t.coastRun else 0,
             slewLeft := 0, slewWeb := 0, zLast := if t.zSeen then some t.zcap else none }

/-- The coast begins, the exposure that runs is judged, and the event is announced. -/
theorem State.beginCoast_eq (rate : Nat) (s : State) :
    ∃ data, s.beginCoast rate = (s.coastStarted rate).coastExposure.announced R.tbsStatCoastSeen 0x0A data := ⟨_, rfl⟩

theorem State.coastingNow_coastStarted {rate : Nat} {s : State} (web : s.fu.inForce.webMode = true) :
    (s.coastStarted rate).coastingNow = true := by
  simp [State.coastingNow, State.coastStarted, web]

theorem State.coast_of_silent {s : State} (h : s.silent = true)
    (no : ¬ (s.curOn R.tbsCtrlStbyEn = true ∧ ¬ s.tb.onEnc1 = true ∧ s.encRuns true = true)) :
    s.coast = s.beginCoast s.pRate := by
  unfold State.coast
  rw [h]
  exact if_neg no

theorem State.coast_of_standby {s : State} (h : s.silent = true) (en : s.curOn R.tbsCtrlStbyEn = true)
    (first : s.tb.onEnc1 = false) (runs : s.encRuns true = true) :
    s.coast = (s.switchEncoder true).raise R.tbsStatFailover := by
  have fails : s.curOn R.tbsCtrlStbyEn = true ∧ ¬ s.tb.onEnc1 = true ∧ s.encRuns true = true :=
    ⟨en, by simp [first], runs⟩
  unfold State.coast
  rw [h]
  exact if_pos fails

/-- The change of the active encoder, after which an awaited reference event is met. -/
theorem State.switchEncoder_eq (enc1 : Bool) (s : State) :
    ∃ u, s.switchEncoder enc1 = (if s.tb.mode = .returning then u.reference 0 true else u) ∧ u.tb.onEnc1 = enc1 ∧
      u.tb.intervals = [] ∧ u.tb.mode = s.tb.mode := ⟨_, rfl, rfl, rfl, rfl⟩

/-- The new encoder is active without intervals of its own; an awaited reference event ends in tracking. -/
theorem State.switchEncoder_tb (enc1 : Bool) (s : State) :
    (s.switchEncoder enc1).tb.onEnc1 = enc1 ∧ (s.switchEncoder enc1).tb.intervals = [] ∧
      (s.switchEncoder enc1).tb.mode = if s.tb.mode = .returning then .tracking else s.tb.mode := by
  obtain ⟨u, eq, active, none, mode⟩ := s.switchEncoder_eq enc1
  rw [eq]
  split
  · rw [State.reference_tb]
    exact ⟨active, none, rfl⟩
  · exact ⟨active, none, mode⟩

/-! ### Loss (R47) -/

theorem State.lose_eq (s : State) : ∃ (u : State) (data : Word), s.lose = u.announced R.tbsStatLostSeen 0x0D data ∧
    u.tb = { s.tb with mode := .lost, rate := 0, fresh := false } := by
  refine ⟨_, _, rfl, ?_⟩
  split
  · exact State.raise_tb ..
  · rfl

/-- Settles O8: the coast, the failover and the loss each announce themselves after the change they make; the marking
of the exposure that runs changes records of line periods alone. -/
theorem coastFailoverAndSlew : Obligations.CoastFailoverAndSlew := by
  refine ⟨fun s silent no => ?coast, fun s silent en first runs => ?failover, fun s coasts limited past => ?lost,
    fun s never => ?never, fun s slews done => ?slewed, fun s slews left => ?slews, fun s holds up => ?held⟩
  case coast =>
    obtain ⟨data, begun⟩ := s.beginCoast_eq s.pRate
    refine .of_eq rfl ((State.coast_of_silent silent no).trans begun) ?_
    obtain ⟨l, tb⟩ := (s.coastStarted s.pRate).coastExposure_records
    have posted := (s.coastStarted s.pRate).coastExposure_frame.1 .tnd rfl
    rw [State.announced_tb, State.announced_hb, State.announced_posted, State.lastPeriod_congr (State.announced_tb ..),
      tb, posted]
    refine ⟨rfl, rfl, rfl, State.fget_announced _ _ _ _ (by decide) rfl (by decide), rfl, ?_, ?_⟩
    · intro p rest web line periods start stop
      have last : (s.coastStarted s.pRate).lastPeriod = some p := congrArg List.head? periods
      rw [State.coastExposure_line (State.coastingNow_coastStarted web) line last start stop,
        State.lastPeriod_markCoast last]
      simp
    · intro fr web area start stop
      have frame : (s.coastStarted s.pRate).hb.area = some fr := area
      rw [State.coastExposure_hb frame start stop, State.coastingNow_coastStarted web, Bool.or_true]
  case failover =>
    obtain ⟨active, none, mode⟩ := s.switchEncoder_tb true
    obtain ⟨wf, -, -⟩ := s.switchEncoder_axis true
    refine .of_eq rfl (State.coast_of_standby silent en first runs) ?_
    rw [State.raise_tb]
    exact ⟨active, wf, none, mode, State.flag_raise _ _ (by decide) rfl⟩
  case lost =>
    obtain ⟨u, data, lost, tb⟩ := s.lose_eq
    refine .of_eq rfl ((if_pos ⟨coasts, Nat.ne_of_gt limited, past⟩).trans lost) ?_
    rw [State.announced_tb, tb]
    exact ⟨rfl, rfl, rfl, State.fget_announced _ _ _ _ (by decide) rfl (by decide)⟩
  case never => exact congrArg Host.Outcome.next (if_neg fun ⟨_, limited, _⟩ => limited never)
  case slewed => exact .of_eq rfl (if_pos ⟨slews, done⟩) (State.trace_tb ..)
  case slews => exact congrArg Host.Outcome.next (if_neg fun ⟨_, done⟩ => by omega)
  case held => exact congrArg Host.Outcome.next (if_pos ⟨holds, up⟩)

end Sys2Proof.Machine
end

section
/-! The line period: the transfer window and the exposures of line mode and of area mode (R42, R55, R59, R60, R74). -/

namespace Sys2Proof.Machine

/-! ### The exposure of the latest period -/

theorem State.coastPeriod_hb (s : State) : s.coastPeriod.hb = s.hb := s.coastPeriod_frame.1 .hb rfl

theorem State.beginExposure_hb (s : State) : s.beginExposure.hb = { s.hb with exposing := true } := by
  simp [State.beginExposure, State.onPeriod, State.coastPeriod_hb]

theorem State.finishExposure_hb (s : State) : s.finishExposure.hb = { s.hb with exposing := false } := by
  simp [State.finishExposure, State.onPeriod, State.coastPeriod_hb]

/-- The latest period, a coasting one where the timebase coasts now, records the tick and W of its exposure's start. -/
theorem State.lastPeriod_beginExposure {s : State} {p : Period} (h : s.lastPeriod = some p) :
    s.beginExposure.lastPeriod =
      some { p with coast := p.coast || s.coastingNow, start := some s.now, wStart := s.tb.wf } := by
  unfold State.beginExposure
  rw [State.lastPeriod_congr (State.modHb_tb ..), State.lastPeriod_onPeriod, State.lastPeriod_coastPeriod h]
  rfl

theorem State.lastPeriod_finishExposure {s : State} {p : Period} (h : s.lastPeriod = some p) :
    s.finishExposure.lastPeriod =
      some { p with coast := p.coast || s.coastingNow, stop := some s.now, wStop := s.tb.wf } := by
  unfold State.finishExposure
  rw [State.lastPeriod_congr (State.modHb_tb ..), State.lastPeriod_onPeriod, State.lastPeriod_coastPeriod h]
  rfl

theorem State.coastPeriod_records (s : State) : RecordsOnly s s.coastPeriod := by
  unfold State.coastPeriod
  split
  · exact .ite (State.markCoast_records ..) (.refl s)
  · exact .refl s

theorem State.beginExposure_records (s : State) : RecordsOnly s s.beginExposure := .by ⟨_, rfl⟩ s.coastPeriod_records

theorem State.finishExposure_records (s : State) : RecordsOnly s s.finishExposure := .by ⟨_, rfl⟩ s.coastPeriod_records

theorem State.exposureStart_line {s : State} {p : Period} (line : s.fu.inForce.area = false)
    (last : s.lastPeriod = some p) (start : p.start = none) (window : s.tb.window = none) (due : p.planned ≤ s.now) :
    s.exposureStart = s.beginExposure := by
  simp [State.exposureStart, line, last, start, window, Nat.not_lt.mpr due]

theorem State.exposureEnd_line {s : State} {p : Period} (line : s.fu.inForce.area = false)
    (last : s.lastPeriod = some p) (runs : s.hb.exposing = true) (due : p.start.getD 0 + p.tExp ≤ s.now) :
    s.exposureEnd = s.finishExposure := by
  simp [State.exposureEnd, line, last, runs, due]

/-! ### The exposure of a sub-frame -/

/-- The exposure of the slot of a frame starts now. -/
def State.frameStarted (fr : AreaFrame) (s : State) : State :=
  s.modHb fun h => { h with area := some { fr with tStart := some s.now, wStart := s.tb.wf }, exposing := true }

theorem State.coastingNow_frameStarted (fr : AreaFrame) (s : State) :
    (s.frameStarted fr).coastingNow = s.coastingNow := rfl

section
variable {s : State} {fr : AreaFrame} (area : s.fu.inForce.area = true) (frame : s.hb.area = some fr)
  (slot : fr.tail = false)
include area frame slot

theorem State.exposureStart_area (start : fr.tStart = none)
    (due : fr.slot + fr.length ≤ s.now + 30 + (s.furnish fr.furnish).areaExpo fr.sub) :
    s.exposureStart = (s.frameStarted fr).coastExposure := by
  simp [State.exposureStart, State.frameStarted, area, frame, slot, start, Nat.not_lt.mpr due]

theorem State.exposureEnd_area {a : Nat} (stop : fr.tStop = none) (start : fr.tStart = some a)
    (due : fr.slot + fr.length ≤ s.now + 30) :
    s.exposureEnd = s.coastExposure.modHb fun h =>
      { h with area := h.area.map fun fr => { fr with tStop := some s.now, wStop := s.tb.wf }, exposing := false } := by
  simp [State.exposureEnd, area, frame, slot, start, stop, Nat.not_lt.mpr due]

end

/-! ### The pre-trigger (R59) -/

/-- The pre-trigger opens the window once the exposures of the period are closed. -/
theorem State.preTrigger_opens (s : State) : ∃ u, RecordsOnly s u ∧
    s.preTrigger = u.modTb fun t => { t with window := some s.now, droopNext := false } := by
  refine ⟨_, ?_, rfl⟩
  refine .by (.of_tb rfl) (.ite (.refl s) (.by (.of_tb rfl) (.ite s.finishExposure_records ?_)))
  split
  · exact .ite (.by (State.finishExposure_records _) s.beginExposure_records) (.refl s)
  · exact .refl s

theorem State.preTrigger_nextSeq (s : State) : s.preTrigger.tb.nextSeq = s.tb.nextSeq := by
  obtain ⟨u, records, opens⟩ := s.preTrigger_opens
  rw [opens]
  exact records.nextSeq

theorem State.preTrigger_window (s : State) : s.preTrigger.tb.window = some s.now := rfl

/-- In line mode the pre-trigger shifts the packets by one row and ends an exposure that runs. -/
theorem State.preTrigger_line {s : State} (line : s.fu.inForce.area = false) :
    s.preTrigger.hb.shifts = s.hb.shifts + 1 ∧ s.preTrigger.hb.exposing = false := by
  cases runs : s.hb.exposing with
  | true => simp [State.preTrigger, line, runs, State.finishExposure_hb]
  | false =>
    cases last : s.lastPeriod with
    | none => simp [State.preTrigger, line, runs, last]
    | some p =>
      cases start : p.start with
      | none => simp [State.preTrigger, line, runs, last, start, State.beginExposure_hb, State.finishExposure_hb]
      | some a => simp [State.preTrigger, line, runs, last, start]

theorem State.preTrigger_area {s : State} (area : s.fu.inForce.area = true) :
    s.preTrigger.hb.shifts = s.hb.shifts := by
  simp [State.preTrigger, area]

/-- Settles O10: each command begins or ends the exposure of the latest period or of the frame's slot, whose record
takes the tick and W, and becomes a coasting one where the timebase coasts now. -/
theorem transferWindowAndExposure : Obligations.TransferWindowAndExposure := by
  refine ⟨fun s due => ?window, fun s p line last start window due => ?start, fun s p line last runs due => ?stop,
    fun s fr area frame slot start stop due => ?startArea, fun s fr a area frame slot start stop due => ?stopArea⟩
  case window =>
    refine .of_eq rfl (if_pos due) ⟨s.preTrigger_window, ?_, fun line _ => (State.preTrigger_line line).2⟩
    cases mode : s.fu.inForce.area with
    | true => exact State.preTrigger_area mode
    | false => exact (State.preTrigger_line mode).1
  case start =>
    refine .of_eq rfl (State.exposureStart_line line last start window due) ?_
    rw [State.beginExposure_hb, State.lastPeriod_beginExposure last]
    simp
  case stop =>
    refine .of_eq rfl (State.exposureEnd_line line last runs due) ?_
    rw [State.finishExposure_hb, State.lastPeriod_finishExposure last]
    simp
  case startArea =>
    refine .of_eq rfl (State.exposureStart_area area frame slot start due)
      ⟨?_, fun coasts p mem => ?_, fun still => ?_⟩
    · exact State.coastExposure_hb (s := s.frameStarted fr) rfl rfl stop
    · exact State.coast_of_coastExposure (s := s.frameStarted fr) coasts rfl rfl stop mem
    · rw [State.coastExposure_of_not ((s.coastingNow_frameStarted fr).trans still)]
      rfl
  case stopArea =>
    have runs : fr.tStart.isSome = true := by rw [start]; rfl
    refine .of_eq rfl (State.exposureEnd_area area frame slot stop start due)
      ⟨?_, fun coasts p mem => ?_, fun still => ?_⟩
    · rw [State.modHb_hb, State.coastExposure_hb frame runs stop]
      rfl
    · exact State.coast_of_coastExposure coasts frame runs stop mem
    · rw [State.coastExposure_of_not still]
      rfl

end Sys2Proof.Machine
end

section
/-! Line triggers (R37 to R40, R44, R431): a raised trigger takes the next line sequence, and the slices that failed
their start-up check fail with it; what is held, skipped or waits. -/

namespace Sys2Proof.Machine

/-! ### A slice fails (R69) -/

/-- A slice that has failed already stays as it is; any other stops its converters and loses what it held. -/
theorem State.failSlice_slices (i : Fin 38) (cause : BitVec 4) (s : State) : (s.failSlice i cause).hb.slices =
    if (s.slice i).state = .failed then s.hb.slices
    else vupd s.hb.slices i fun sl => { sl with state := .failed, cause := cause, buf := [] } := by
  unfold State.failSlice
  split
  · rfl
  · simp only [State.trace_hb, State.alarmOf_hb, State.raise_hb]
    rfl

theorem State.failSlice_fails (i : Fin 38) (cause : BitVec 4) (s : State) :
    ((s.failSlice i cause).slice i).state = .failed := by
  rw [State.slice, State.failSlice_slices]
  split
  · assumption
  · rw [vupd_same]

/-- A failure heals no slice. -/
theorem State.failSlice_keeps {i j : Fin 38} (cause : BitVec 4) {s : State} (h : (s.slice j).state = .failed) :
    ((s.failSlice i cause).slice j).state = .failed := by
  by_cases e : i = j
  · rw [e]
    exact s.failSlice_fails j cause
  · rw [State.slice, State.failSlice_slices]
    split
    · exact h
    · rw [vupd_other _ _ e]
      exact h

/-- Once the slices of a list have failed in turn, each of them is failed. -/
theorem State.each_failSlice {due : List (Fin 38 × BitVec 4)} {s : State} {j : Fin 38}
    (h : (s.slice j).state = .failed ∨ ∃ c, (j, c) ∈ due) :
    ((s.each due fun e s => s.failSlice e.1 e.2).slice j).state = .failed := by
  unfold State.each
  induction due generalizing s with
  | nil => simpa using h
  | cons e due ih =>
    refine ih ?_
    rcases h with failed | ⟨c, mem⟩
    · exact .inl (State.failSlice_keeps _ failed)
    · rcases List.mem_cons.mp mem with rfl | mem
      · exact .inl (s.failSlice_fails j c)
      · exact .inr ⟨c, mem⟩

/-- R431: the slices due fail. -/
theorem State.failLate_fails {s : State} {e : Fin 38 × BitVec 4} (h : e ∈ s.rst.failDue) :
    (s.failLate.slice e.1).state = .failed := State.each_failSlice (.inr ⟨e.2, h⟩)

theorem State.failLate_rst (s : State) : s.failLate.rst = { s.rst with failDue := [] } := by
  have frame : Frame [.regs, .hb, .felt, .link, .tnd, .obs, .out]
      (s.modRst fun r => { r with failDue := [] }) s.failLate :=
    .each (.refl ..) fun _ _ => State.failSlice_frame ..
  exact frame.1 .rst rfl

/-! ### The stages of a trigger -/

/-- Trigger `n` up to the opening of its line period: the furnish that applies to it, the ream boundary it may be, and
the series of positions. -/
def State.beforePeriod (n : Nat) (pos : Pos) (join : Bool) (s : State) : State :=
  let ream := s.isReam n
  let s := (s.passUnplaced n).dropShells n
  let old := s.fu.inForce
  let s := (s.applyFurnish n ream).endStreams.latchSeen
  let u := s.fu.inForce
  let s := s.modTb fun t =>
    { t with t := if old.webMode && t.t == pos.move old.pitch then pos.move u.pitch else t.t,
             coastRun := if t.mode = .coasting ∨ s.fedCoast then t.coastRun + 1 else t.coastRun }
  let s := (s.furnishChange old n).iff ream (·.reamBoundary n pos join)
  (s.iff (u.webMode && !old.webMode) (·.catchUp false)).ceilStep

/-- Trigger `n` is counted in its line period. -/
def State.countTrigger (n : Nat) (s : State) : State :=
  ((s.coastPeriod.bump 0 1).modPen fun p => { p with trigs := p.trigs + 1 }).modThm fun t =>
    { t with droopFrom := t.droopFrom.filter (n < · + 2) }

/-- Trigger `n` is counted, lines are born, and slices wake and idle. -/
def State.fillPeriod (n : Nat) (s : State) : State := ((s.countTrigger n).births n).wakeAndIdle n

/-- What follows trigger `n` under the furnish `u`: its area frame, the next furnish, and the ream mark. -/
def State.afterPeriod (n : Nat) (u : Furnish) (made : Bool) (s : State) : State :=
  let s := s.iff (u.area && made) (·.frameTrigger n)
  let s := s.distribute (if u.webMode then s.tb.t.wc else s.wc) (s.isReam (n + 1))
  s.iff (s.wl.role == .source && (n + 32) % 2 ^ s.tb.reamK == 0) fun s =>
    let t := s.tb.t.move (31 * u.pitch : Nat)
    s.sendMark { k := s.reamKAt t.wc, seq := n + 32, t := t, ream := s.tb.ream + 1 }

/-- A trigger takes the next line sequence and opens its line period. -/
theorem State.raiseTrigger_eq (pos : Pos) (early join : Bool) (s : State) : ∃ (u : Furnish) (made : Bool),
    s.raiseTrigger pos early join =
      let s := s.iff s.tb.window.isNone (·.preTrigger)
      let n := s.tb.nextSeq
      (((s.beforePeriod n pos join).openPeriod n early).fillPeriod n).failLate.afterPeriod n u made :=
  ⟨_, _, rfl⟩

/-! ### What the stages keep -/

theorem State.beforePeriod_rst (n : Nat) (pos : Pos) (join : Bool) (s : State) :
    (s.beforePeriod n pos join).rst = s.rst := by
  have frame : Frame [.regs, .tb, .hb, .felt, .fu, .cal, .scr, .reel, .link, .dma, .cmd, .wl, .pen, .tnd, .obs, .out,
      .free] s (s.beforePeriod n pos join) := by
    unfold State.beforePeriod
    refine .by (State.ceilStep_frame _) rfl (.iff (.iff ?_ fun _ => .mono (State.reamBoundary_frame ..) rfl)
      fun _ => .mono (State.catchUp_frame ..) rfl)
    refine .by (State.furnishChange_frame ..) rfl (.by (State.modTb_frame ..) rfl ?_)
    refine .by (State.latchSeen_frame _) rfl (.by (State.endStreams_frame _) rfl ?_)
    exact .by (State.applyFurnish_frame ..) rfl (.by (State.dropShells_frame ..) rfl
      (.mono (State.passUnplaced_frame ..) rfl))
  exact frame.1 .rst rfl

theorem State.bornDisabled_records (p : Nat) (q : Period) (s : State) : RecordsOnly s (s.bornDisabled p q) :=
  .by (.of_tb ((State.markLines_frame ..).1 .tb rfl)) ⟨_, rfl⟩

theorem State.births_records (n : Nat) (s : State) : RecordsOnly s (s.births n) := by
  unfold State.births
  refine .ite (.refl s) (.each (fun p u => .ite (.refl u) ?_) _ s)
  split
  · exact .refl u
  · exact .ite (.refl u) (.ite (.of_tb ((State.openIn_frame ..).1 .tb rfl)) (State.bornDisabled_records ..))

theorem State.wakeAndIdle_tb (n : Nat) (s : State) : (s.wakeAndIdle n).tb = s.tb := (s.wakeAndIdle_frame n).1 .tb rfl

theorem State.countTrigger_records (n : Nat) (s : State) : RecordsOnly s (s.countTrigger n) := by
  have same : (s.countTrigger n).tb = s.coastPeriod.tb := by
    rw [State.countTrigger, State.modThm_tb, State.modPen_tb, State.bump_tb]
  exact .by (.of_tb same) s.coastPeriod_records

theorem State.fillPeriod_records (n : Nat) (s : State) : RecordsOnly s (s.fillPeriod n) :=
  .by (.of_tb (State.wakeAndIdle_tb ..)) (.by (State.births_records ..) (s.countTrigger_records n))

theorem State.fillPeriod_rst (n : Nat) (s : State) : (s.fillPeriod n).rst = s.rst := by
  have frame : Frame [.tb, .hb, .felt, .pen, .thm, .obs] s (s.fillPeriod n) :=
    .by (State.wakeAndIdle_frame ..) rfl (.by (State.births_frame ..) rfl (.by (State.modThm_frame ..) rfl
      (.by (State.modPen_frame ..) rfl (.by (State.bump_frame ..) rfl (.mono (State.coastPeriod_frame _) rfl)))))
  exact frame.1 .rst rfl

theorem State.frameTrigger_slices (n : Nat) (s : State) : (s.frameTrigger n).hb.slices = s.hb.slices := by
  unfold State.frameTrigger
  dsimp only
  split
  · rfl
  · split
    · split <;> rfl
    · rw [State.count_hb, State.raise_hb]

/-- What follows the line period changes neither the timebase nor the start-up checks, nor a slice. -/
theorem State.afterPeriod_keeps (n : Nat) (u : Furnish) (made : Bool) (s : State) :
    (s.afterPeriod n u made).tb = s.tb ∧ (s.afterPeriod n u made).rst = s.rst ∧
      (s.afterPeriod n u made).hb.slices = s.hb.slices := by
  have frame : Frame [.regs, .hb, .link, .obs, .out] s (s.iff (u.area && made) (·.frameTrigger n)) :=
    .iff (.refl ..) fun v => v.frameTrigger_frame n
  have rest : Frame [.fu, .wl] (s.iff (u.area && made) (·.frameTrigger n)) (s.afterPeriod n u made) := by
    unfold State.afterPeriod
    exact .iff (.by (State.distribute_frame ..) rfl (.refl ..)) fun _ => .mono (State.sendMark_frame ..) rfl
  refine ⟨(rest.1 .tb rfl).trans (frame.1 .tb rfl), (rest.1 .rst rfl).trans (frame.1 .rst rfl), ?_⟩
  rw [rest.1 .hb rfl, State.iff]
  split
  · exact s.frameTrigger_slices n
  · rfl

/-! ### A trigger is raised -/

/-- Trigger `n` has taken its line sequence, and the slices that were due to fail with it have failed. -/
def Triggered (n : Nat) (due : List (Fin 38 × BitVec 4)) (t : State) : Prop :=
  t.tb.nextSeq = n + 1 ∧ t.rst.failDue = [] ∧ ∀ e, e ∈ due → (t.slice e.1).state = .failed

/-- All of this happens from the opening of the line period on. -/
theorem State.openPeriod_triggered (n : Nat) (early made : Bool) (u : Furnish) (s : State) :
    Triggered n s.rst.failDue (((s.openPeriod n early).fillPeriod n).failLate.afterPeriod n u made) := by
  let f := (s.openPeriod n early).fillPeriod n
  have due : f.rst = s.rst := State.fillPeriod_rst ..
  obtain ⟨tb, rst, slices⟩ := f.failLate.afterPeriod_keeps n u made
  refine ⟨?_, ?_, fun e mem => ?_⟩
  · rw [tb, f.failLate_frame.1 .tb rfl, (State.fillPeriod_records ..).nextSeq]
    rfl
  · rw [rst, f.failLate_rst]
  · rw [State.slice, slices]
    exact f.failLate_fails (by rwa [due])

theorem State.raiseTrigger_triggered (pos : Pos) (early join : Bool) (s : State) :
    Triggered s.tb.nextSeq s.rst.failDue (s.raiseTrigger pos early join) := by
  obtain ⟨u, made, eq⟩ := s.raiseTrigger_eq pos early join
  have ready : (s.iff s.tb.window.isNone (·.preTrigger)).tb.nextSeq = s.tb.nextSeq ∧
      (s.iff s.tb.window.isNone (·.preTrigger)).rst = s.rst := by
    unfold State.iff
    split
    · exact ⟨s.preTrigger_nextSeq, s.preTrigger_frame.1 .rst rfl⟩
    · exact ⟨rfl, rfl⟩
  obtain ⟨seq, rst⟩ := ready
  rw [eq]
  dsimp only
  have opened := State.openPeriod_triggered s.tb.nextSeq early made u
    ((s.iff s.tb.window.isNone (·.preTrigger)).beforePeriod s.tb.nextSeq pos join)
  rw [State.beforePeriod_rst, rst] at opened
  rw [seq]
  exact opened

/-! ### When a trigger is raised (R37 to R39) -/

theorem State.triggerOrLeave_raises {s : State} (h : s.wl.member ≠ .leaving) (pos : Pos) (early : Bool) :
    s.triggerOrLeave pos early = s.raiseTrigger pos early false := if_neg fun leaves => h leaves.1

/-- With no trigger held and the latest one 1,000 ticks ago, what falls due raises a trigger. -/
theorem State.crossing_free {s : State} (h : s.freeToTrigger = true) (pos : Pos) :
    s.crossing pos = s.raiseTrigger pos false false := by
  simp only [State.freeToTrigger, Bool.and_eq_true, bne_iff_ne, Option.isNone_iff_eq_none] at h
  obtain ⟨⟨held, last⟩, stays⟩ := h
  have raises := State.triggerOrLeave_raises stays pos false
  unfold State.crossing
  rw [if_neg (by simp [held])]
  split
  · rename_i l e
    have past : l + 1000 ≤ s.now := by simpa [e] using last
    rw [if_neg (Nat.not_lt.mpr past), raises]
  · exact raises

/-- Within 1,000 ticks of the latest trigger the first crossing is held. -/
theorem State.crossing_early {s : State} {l : Nat} (held : s.tb.held = none) (last : s.tb.lastTrig = some l)
    (early : s.now < l + 1000) (pos : Pos) :
    s.crossing pos = s.modTb fun t => { t with held := some (l + 1000), heldPos := some pos } := by
  simp [State.crossing, held, last, early]

/-- While a trigger is held another one is skipped. -/
theorem State.crossing_second {s : State} {d : Nat} (held : s.tb.held = some d) (pos : Pos) :
    s.crossing pos = s.skipOne.raise R.tbsStatOverspeed := by
  simp [State.crossing, held]

theorem State.skipOne_tb (s : State) : s.skipOne.tb = { s.tb with skip := s.tb.skip + 1 } := State.bump_tb ..

/-- The series of positions goes on to the next one. -/
def State.passPosition (s : State) : State := s.modTb fun t => { t with t := t.t.move s.fu.inForce.pitch }

theorem State.freeToTrigger_passPosition (s : State) : s.passPosition.freeToTrigger = s.freeToTrigger := rfl

/-- In web mode, READY, a position that W has reached is passed and crossed. -/
theorem State.lineTrigger_crosses {s : State} (member : s.wl.member ≠ .aligned) (producing : s.producing = true)
    (reached : Pos.ahead s.tb.t s.tb.wf = false) (ready : s.rst.ready = true) (web : s.fu.inForce.webMode = true)
    (runs : s.thm.stop ≠ .draining) (go : s.triggersStopped = false) (beyond : s.withinHyst s.tb.t = false)
    (fast : s.coreSlow = false) :
    s.lineTrigger = s.passPosition.crossing s.tb.t := by
  simp [State.lineTrigger, State.passPosition, member, producing, reached, ready, web, runs, go, beyond, fast]

theorem State.lineTrigger_stopped {s : State} (member : s.wl.member ≠ .aligned) (stopped : s.triggersStopped = true)
    (ready : s.rst.ready = true) (web : s.fu.inForce.webMode = true) (runs : s.thm.stop ≠ .draining) :
    s.lineTrigger = s := by
  simp [State.lineTrigger, member, ready, web, runs, stopped]

/-- The first request leaves the queue of the pin engine. -/
def State.takeRequest (rest : List Nat) (s : State) : State := s.modTb fun t => { t with extDue := rest }

section
variable (rest : List Nat) (s : State)

theorem State.triggersOn_takeRequest : (s.takeRequest rest).triggersOn = s.triggersOn := rfl

theorem State.producing_takeRequest : (s.takeRequest rest).producing = s.producing := rfl

theorem State.triggersBarred_takeRequest : (s.takeRequest rest).triggersBarred = s.triggersBarred := rfl

theorem State.freeToTrigger_takeRequest : (s.takeRequest rest).freeToTrigger = s.freeToTrigger := rfl

end

/-- A request whose trigger is due crosses W, or is skipped while triggers are stopped. -/
theorem execExternalTrigger_due {s : State} {d : Nat} {rest : List Nat} (queue : s.tb.extDue = d :: rest)
    (due : d ≤ s.now) (source : s.fu.inForce.trigSrc = 2) (on : s.triggersOn = true) (producing : s.producing = true) :
    execExternalTrigger s = .next
      (if s.triggersBarred then (s.takeRequest rest).skipOne else (s.takeRequest rest).crossing s.tb.wf) := by
  rw [← s.triggersOn_takeRequest rest] at on
  rw [← s.producing_takeRequest rest] at producing
  rw [← s.triggersBarred_takeRequest rest]
  have ready := And.intro source (And.intro on producing)
  unfold execExternalTrigger
  rw [queue]
  dsimp only
  rw [if_neg (Nat.not_lt.mpr due)]
  exact congrArg Host.Outcome.next (if_pos ready)

/-- A held trigger stays held until it is due, and while triggers are stopped. -/
theorem execHeldTrigger_held {s : State} {d : Nat} (held : s.tb.held = some d) (on : s.triggersOn = true)
    (producing : s.producing = true) : execHeldTrigger s = .next
      (if s.now < d ∨ s.triggersBarred = true then s
       else s.triggerOrLeave (s.tb.heldPos.getD s.tb.wf) true) := by
  by_cases early : s.now < d
  · simp [execHeldTrigger, held, early]
  · simp [execHeldTrigger, held, early, on, producing]

/-- Settles O9: each source comes down to a crossing, which raises its trigger, holds it or skips it; a raised trigger
takes the next line sequence. -/
theorem triggersRaised : Obligations.TriggersRaised := by
  refine ⟨?line, ?time, ?external, ?held, ?early, ?second, ?lineStopped, fun s barred => ?timeBarred, ?heldBarred,
    ?externalBarred⟩
  case line =>
    intro s member producing reached ready web runs go beyond fast free
    have crosses := State.lineTrigger_crosses member producing reached ready web runs go beyond fast
    rw [← s.freeToTrigger_passPosition] at free
    obtain ⟨seq, due, failed⟩ := s.passPosition.raiseTrigger_triggered s.tb.t false false
    exact .of_eq rfl (crosses.trans (State.crossing_free free _)) ⟨seq, due, failed⟩
  case time =>
    intro s source on producing due go free
    obtain ⟨seq, -, -⟩ := s.raiseTrigger_triggered s.tb.wf false false
    exact .of_eq rfl ((if_pos ⟨source, on, producing, due, by simp [go]⟩).trans (State.crossing_free free _)) seq
  case external =>
    intro s d rest queue due source on producing go free
    have raises := execExternalTrigger_due queue due source on producing
    rw [← s.freeToTrigger_takeRequest rest] at free
    rw [go, if_neg Bool.false_ne_true, State.crossing_free free] at raises
    obtain ⟨seq, -, -⟩ := (s.takeRequest rest).raiseTrigger_triggered s.tb.wf false false
    exact ⟨_, raises, seq⟩
  case held =>
    intro s d held due on producing go stays
    have raises := execHeldTrigger_held held on producing
    rw [if_neg (by simp [Nat.not_lt.mpr due, go]), State.triggerOrLeave_raises stays] at raises
    obtain ⟨seq, -, -⟩ := s.raiseTrigger_triggered (s.tb.heldPos.getD s.tb.wf) true false
    exact ⟨_, raises, seq⟩
  case early =>
    intro s l member producing reached ready web runs go beyond fast held last early
    have crosses := State.lineTrigger_crosses member producing reached ready web runs go beyond fast
    have keeps := State.crossing_early (s := s.passPosition) held last early s.tb.t
    exact congrArg Host.Outcome.next (crosses.trans keeps)
  case second =>
    intro s d source on producing due go held
    refine .of_eq rfl ((if_pos ⟨source, on, producing, due, by simp [go]⟩).trans (State.crossing_second held _)) ?_
    rw [State.raise_tb]
    exact ⟨s.skipOne_tb, State.flag_raise _ _ (by decide) rfl⟩
  case lineStopped =>
    intro s member stopped ready web runs
    exact congrArg Host.Outcome.next (State.lineTrigger_stopped member stopped ready web runs)
  case timeBarred => exact congrArg Host.Outcome.next (if_neg fun ⟨_, _, _, _, go⟩ => go barred)
  case heldBarred =>
    intro s d held barred on producing
    exact (execHeldTrigger_held held on producing).trans (congrArg Host.Outcome.next (if_pos (.inr barred)))
  case externalBarred =>
    intro s d rest queue due source on producing barred
    have skips := execExternalTrigger_due queue due source on producing
    rw [barred, if_pos rfl] at skips
    exact ⟨_, skips, State.skipOne_tb _⟩

end Sys2Proof.Machine
end

section
/-! What stops a command (R57, R76, R391, R404, R409): the operands of six commands have a shape that the hardware
gives them, and only the width of an area row is judged against the state too. -/

namespace Sys2Proof.Machine

/-- A well-formed area row readout runs, or its width is not that of the deckle. -/
theorem execAreaRowReadout_answers (codes : List (List (BitVec 12))) (ce : Nat) (ue : List (Nat × Fin 38 × Fin 44))
    (s : State) : (∃ t, execAreaRowReadout codes ce ue s = .next t) ∨
      execAreaRowReadout codes ce ue s = .fault .illFormed := by
  unfold execAreaRowReadout
  split
  · exact .inr rfl
  split
  · split
    · split
      · exact .inl ⟨_, rfl⟩
      split
      · exact .inl ⟨_, rfl⟩
      · exact .inr rfl
    · exact .inl ⟨_, rfl⟩
  · exact .inl ⟨_, rfl⟩

/-- Five commands run because their operands are well formed; the others look at no operand before they run. -/
theorem exec_next_of_wf {c : Instr} (wf : c.wf = true) (row : ∀ codes ce ue, c ≠ .areaRowReadout codes ce ue)
    (s : State) : ∃ t, exec c s = .next t := by
  cases c
  case areaRowReadout codes ce ue => exact absurd rfl (row codes ce ue)
  case blockSampleLatch | dataInBlockRead | twAddress => exact ⟨_, if_pos wf⟩
  case thermalUpdate | thermalTrip => exact ⟨_, if_neg (ne_true_of_eq_false (congrArg not wf))⟩
  all_goals exact ⟨_, rfl⟩

/-- The six commands whose operands can be ill formed stop on such operands. -/
theorem exec_fault_of_not_wf {c : Instr} (ill : c.wf = false) (s : State) : exec c s = .fault .illFormed := by
  cases c
  case blockSampleLatch | dataInBlockRead | twAddress => exact if_neg (ne_true_of_eq_false ill)
  case areaRowReadout | thermalUpdate | thermalTrip => exact if_pos (congrArg not ill)
  all_goals cases ill

/-- Every command runs, or stops on ill-formed operands. -/
theorem exec_answers (c : Instr) (s : State) : (∃ t, exec c s = .next t) ∨ exec c s = .fault .illFormed := by
  cases wf : c.wf with
  | false => exact .inr (exec_fault_of_not_wf wf s)
  | true =>
    by_cases row : ∃ codes ce ue, c = .areaRowReadout codes ce ue
    · obtain ⟨codes, ce, ue, rfl⟩ := row
      exact execAreaRowReadout_answers codes ce ue s
    · exact .inl (exec_next_of_wf wf (fun codes ce ue e => row ⟨codes, ce, ue, e⟩) s)

/-- Settles O3: a command runs where its operands are well formed and stops where they are not; the area row readout
does one or the other, by its width. -/
theorem whatStopsACommand : Obligations.WhatStopsACommand := by
  refine ⟨fun c s wf row => exec_next_of_wf wf row s, fun c s ill => exec_fault_of_not_wf ill s,
    fun c r s refused => ?_⟩
  rcases exec_answers c s with ⟨t, runs⟩ | stops
  · rw [runs] at refused
    cases refused
  · rw [stops] at refused
    cases refused

end Sys2Proof.Machine
end

section
/-! The slices (R66 to R73): what a slice holds once it fails, misses a window, loses a sample or is rearmed, and what a
droop of VDD_ADC flags. -/

namespace Sys2Proof.Machine

/-! ### Registers that software alone writes -/

/-- A change that leaves the settings alone leaves every field of them alone. -/
theorem Frame.fget {ps : List Part} {s t : State} (h : Frame ps s t) (kept : ps.contains .settings = false) {g : Fld}
    (setting : softwareRegs.contains g.off = true) : t.fget g = s.fget g := by
  have reg : t.reg g.off = s.reg g.off := h.1 .settings kept g.off setting
  unfold State.fget
  rw [reg]

/-! ### One slice -/

theorem State.slice_congr {s t : State} (h : t.hb = s.hb) (i : Fin 38) : t.slice i = s.slice i := by
  unfold State.slice
  rw [h]

@[simp] theorem State.slice_onSlice_same (i : Fin 38) (g : Slice → Slice) (s : State) :
    (s.onSlice i g).slice i = g (s.slice i) := vupd_same ..

theorem State.slice_onSlice_other {i j : Fin 38} (h : i ≠ j) (g : Slice → Slice) (s : State) :
    (s.onSlice i g).slice j = s.slice j := vupd_other _ _ h

/-! ### A slice fails (R69) -/

/-- A slice that fails: its converters stop, and what it held is lost. -/
def Slice.failed (cause : BitVec 4) (sl : Slice) : Slice := { sl with state := .failed, cause := cause, buf := [] }

theorem State.failSlice_of_failed {i : Fin 38} {s : State} (h : (s.slice i).state = .failed) (cause : BitVec 4) :
    s.failSlice i cause = s := if_pos h

section
variable {i : Fin 38} {s : State} (serves : (s.slice i).state ≠ .failed) (cause : BitVec 4)
include serves

theorem State.slice_failSlice : (s.failSlice i cause).slice i = (s.slice i).failed cause := by
  rw [State.slice, State.failSlice_slices, if_neg serves, vupd_same]
  rfl

/-- The failure is announced: the event is raised, posts its alarm and is traced. -/
theorem State.failSlice_announces : ∃ (u : State) (line : Nat) (data : Word),
    s.failSlice i cause = ((u.raise R.hbxEvtSliceFail).alarmOf R.hbxEvtSliceFail line).trace 0x06 i.val data ∧
      u.regs = s.regs ∧ u.tnd = s.tnd := by
  unfold State.failSlice
  rw [if_neg serves]
  exact ⟨_, _, _, rfl, rfl, rfl⟩

theorem State.fget_failSlice : (s.failSlice i cause).fget R.hbxEvtSliceFail = 1 := by
  obtain ⟨u, line, data, eq, -, -⟩ := s.failSlice_announces serves cause
  rw [eq, State.fget_trace, State.fget_alarmOf _ _ (by decide)]
  exact State.flag_raise _ _ (by decide) rfl

theorem State.posted_failSlice : (s.failSlice i cause).tnd.posted.length = s.tnd.posted.length + 1 := by
  obtain ⟨u, line, data, eq, -, tnd⟩ := s.failSlice_announces serves cause
  rw [eq, State.trace_tnd, State.posted_alarmOf, State.raise_tnd, tnd]

end

/-- A failure leaves the other events of the headbox alone. -/
theorem State.fget_failSlice_other {g : Fld} (off : g.off = R.hbxEvtSliceFail.off) (bit : g.lo + g.n ≤ 1 ∨ 2 ≤ g.lo)
    (i : Fin 38) (cause : BitVec 4) (s : State) : (s.failSlice i cause).fget g = s.fget g := by
  by_cases h : (s.slice i).state = .failed
  · rw [State.failSlice_of_failed h]
  · obtain ⟨u, line, data, eq, regs, -⟩ := State.failSlice_announces h cause
    have hw : g.off ≠ 0x000008 := by rw [off]; decide
    rw [eq, State.fget_trace, State.fget_alarmOf _ _ hw, State.fget_raise_bits _ off hw bit, State.fget_regs regs]

/-! ### A window is missed (R68) -/

/-- The slice counts a miss of a period. -/
def Slice.missing (per : Nat) (sl : Slice) : Slice := { sl with run := min 255 (sl.run + 1), missed := some per }

/-- A miss is counted, at the slice and in its register. -/
def State.countMiss (i : Fin 38) (per : Nat) (s : State) : State :=
  ((s.raise R.hbxEvtMissedWin).onSlice i (·.missing per)).count (R.hbxSlMiss i.val) 1

/-- Whether one miss more makes a slice fail. -/
def State.failsNext (s : State) (i : Fin 38) : Bool :=
  decide (max 1 (s.fget R.hbxFailLim) ≤ min 255 ((s.slice i).run + 1))

section
variable (i : Fin 38) (per : Nat) (cause : BitVec 4) (s : State)

theorem State.slice_countMiss : (s.countMiss i per).slice i = (s.slice i).missing per := by
  rw [State.countMiss, State.slice_congr (State.count_hb ..), State.slice_onSlice_same,
    State.slice_congr (State.raise_hb ..)]

theorem State.fget_countMiss {g : Fld} (off : g.off = R.hbxEvtMissedWin.off) :
    (s.countMiss i per).fget g = (s.raise R.hbxEvtMissedWin).fget g := by
  have beside : g.off ≠ (R.hbxSlMiss i.val).off := by
    rw [off]
    simp only [R.hbxEvtMissedWin, R.hbxSlMiss]
    omega
  exact State.fget_count_reg _ _ beside

theorem State.countMiss_frame : Frame [.regs, .hb, .link, .obs, .out] s (s.countMiss i per) :=
  .by (State.count_frame _ _ _ (hw_hbxSlMiss _)) rfl (.by (State.onSlice_frame ..) rfl
    (.mono (State.raise_frame _ _ (by rfl)) rfl))

variable {i per s}

/-- A window missed already is not counted again. -/
theorem State.missWindow_again (h : (s.slice i).missed = some per) :
    s.missWindow i per cause = s.raise R.hbxEvtMissedWin := by
  unfold State.missWindow
  exact if_pos ((congrArg Slice.missed (State.slice_congr (State.raise_hb ..) i)).trans h)

/-- A window missed for the first time is counted, and the slice fails where that is one miss too many. -/
theorem State.missWindow_first (h : (s.slice i).missed ≠ some per) :
    s.missWindow i per cause = (s.countMiss i per).iff (s.failsNext i) (·.failSlice i cause) := by
  have new : ¬ ((s.raise R.hbxEvtMissedWin).slice i).missed = some per := by
    rwa [State.slice_congr (State.raise_hb ..)]
  have limit := (s.countMiss_frame i per).fget rfl (g := R.hbxFailLim) (by decide)
  have counted := s.slice_countMiss i per
  unfold State.missWindow State.failsNext
  rw [if_neg new, ← limit]
  change State.iff (decide (max 1 ((s.countMiss i per).fget R.hbxFailLim) ≤ ((s.countMiss i per).slice i).run)) _ _ = _
  rw [counted]
  rfl

theorem State.slice_missWindow (new : (s.slice i).missed ≠ some per) (serves : (s.slice i).state ≠ .failed) :
    (s.missWindow i per cause).slice i =
      if s.failsNext i then ((s.slice i).missing per).failed cause else (s.slice i).missing per := by
  have counted := s.slice_countMiss i per
  have serving : ((s.countMiss i per).slice i).state ≠ .failed := by rwa [counted]
  rw [State.missWindow_first cause new, State.iff, ← counted, ← State.slice_failSlice serving]
  split <;> rfl

/-- Of the events of the headbox a miss raises its own and, at most, the failure of a slice. -/
theorem State.fget_missWindow {g : Fld} (off : g.off = R.hbxEvtMissedWin.off) (bit : g.lo + g.n ≤ 1 ∨ 2 ≤ g.lo) :
    (s.missWindow i per cause).fget g = (s.raise R.hbxEvtMissedWin).fget g := by
  by_cases again : (s.slice i).missed = some per
  · rw [State.missWindow_again cause again]
  · rw [State.missWindow_first cause again, State.iff, ← s.fget_countMiss i per off]
    split
    · exact State.fget_failSlice_other off bit ..
    · rfl

theorem State.fget_missWindow_self : (s.missWindow i per cause).fget R.hbxEvtMissedWin = 1 := by
  rw [State.fget_missWindow cause rfl (by decide)]
  exact State.flag_raise _ _ (by decide) rfl

end

/-! ### A sample is discarded (R68) -/

theorem State.slice_discard (i : Fin 38) (e : BlockSample) (s : State) :
    (s.discard i e).slice i = { s.slice i with buf := (s.slice i).buf.erase e } := by
  rw [State.discard, State.slice_congr ((State.couch_frame ..).1 .hb rfl)]
  exact State.slice_onSlice_same ..

/-- Samples discarded one after the other leave the buffer and nothing else of the slice. -/
theorem State.slice_each_discard (i : Fin 38) (l : List BlockSample) (s : State) :
    (s.each l fun e s => s.discard i e).slice i = { s.slice i with buf := l.foldl List.erase (s.slice i).buf } := by
  unfold State.each
  induction l generalizing s with
  | nil => rfl
  | cons e l ih =>
    rw [List.foldl_cons, ih, State.slice_discard]
    rfl

theorem State.each_discard_frame (i : Fin 38) (l : List BlockSample) (s : State) :
    Frame [.regs, .hb, .felt, .link, .obs, .out] s (s.each l fun e s => s.discard i e) :=
  .each (.refl ..) fun e v => v.discard_frame i e

/-- Elements of which none is the head leave the head where it is. -/
theorem foldl_erase_cons {α : Type} [BEq α] [LawfulBEq α] {a : α} {l : List α} (h : a ∉ l) (m : List α) :
    l.foldl List.erase (a :: m) = a :: l.foldl List.erase m := by
  induction l generalizing m with
  | nil => rfl
  | cons b l ih =>
    rw [List.mem_cons, not_or] at h
    obtain ⟨ne, rest⟩ := h
    rw [List.foldl_cons, List.erase_cons_tail (by simpa using ne), ih rest, List.foldl_cons]

/-- Erasing one by one what a condition picks leaves what it does not pick. -/
theorem foldl_erase_filter {α : Type} [BEq α] [LawfulBEq α] (p : α → Bool) (l : List α) :
    (l.filter p).foldl List.erase l = l.filter (!p ·) := by
  induction l with
  | nil => rfl
  | cons a l ih =>
    cases h : p a with
    | true =>
      rw [List.filter_cons_of_pos h, List.foldl_cons, List.erase_cons_head, ih,
        List.filter_cons_of_neg (by rw [h]; exact Bool.false_ne_true)]
    | false =>
      have out : a ∉ l.filter p := fun mem => ne_true_of_eq_false h (List.mem_filter.mp mem).2
      rw [List.filter_cons_of_neg (ne_true_of_eq_false h), foldl_erase_cons out, ih,
        List.filter_cons_of_pos (by rw [h]; rfl)]

/-! ### The window of a period closes (R68) -/

/-- A sample whose window has closed. -/
def Period.late (q : Period) (now : Nat) (e : BlockSample) : Bool :=
  decide (e.period + 1 < q.seq) || (decide (e.period < q.seq) && decide (q.base + 959 ≤ now))

/-- The samples of a slice whose windows have closed are discarded. -/
def State.lateDiscarded (i : Fin 38) (q : Period) (s : State) : State :=
  s.each ((s.slice i).buf.filter (q.late s.now)) fun e s => s.discard i e

section
variable {i : Fin 38} {s : State} {q : Period}

theorem State.missedWindow_late {l : BlockSample} (last : s.lastPeriod = some q)
    (late : ((s.slice i).buf.filter (q.late s.now)).getLast? = some l) :
    s.missedWindow i = (s.lateDiscarded i q).missWindow i l.period 1 := by
  unfold State.missedWindow
  rw [last]
  dsimp only
  split
  · rename_i none
    cases none.symm.trans late
  · rename_i m some
    cases some.symm.trans late
    rfl

/-- A slice that holds nothing misses nothing. -/
theorem State.missedWindow_empty (empty : (s.slice i).buf = []) : s.missedWindow i = s := by
  unfold State.missedWindow
  rw [empty]
  cases s.lastPeriod <;> rfl

variable (i s q)

theorem State.slice_lateDiscarded : (s.lateDiscarded i q).slice i =
    { s.slice i with buf := (s.slice i).buf.filter (!q.late s.now ·) } := by
  rw [State.lateDiscarded, State.slice_each_discard, foldl_erase_filter]

theorem State.failsNext_lateDiscarded : (s.lateDiscarded i q).failsNext i = s.failsNext i := by
  have limit : (s.lateDiscarded i q).fget R.hbxFailLim = s.fget R.hbxFailLim :=
    (State.each_discard_frame ..).fget rfl (by decide)
  rw [State.failsNext, limit, State.slice_lateDiscarded]
  rfl

end

/-! ### A droop of VDD_ADC (R73) -/

/-- A conversion is under way, from T − 26 to T + 959 of the latest period. -/
def State.converting (s : State) : Bool :=
  s.lastPeriod.any fun p => decide (p.base ≤ s.now + 26) && decide (s.now ≤ p.base + 959)

/-- The conversion of the next period is due: 4 ticks of its transfer window have passed. -/
def State.conversionDue (s : State) : Bool := s.tb.window.any fun w => decide (w + 4 ≤ s.now)

/-- A droop flags the row readout of the slot and the conversion under way. -/
def State.flagConversion (s : State) : State :=
  (s.areaDroop s.now).iff s.converting (·.onPeriod fun p => { p with adcDroop := true })

/-- It flags the conversion that is due too. -/
def State.flagDroop (s : State) : State :=
  s.flagConversion.iff s.conversionDue (·.modTb fun t => { t with droopNext := true })

section
variable (s : State)

/-- The droop is announced once it has flagged what it falls in. -/
theorem State.adcDroop_eq : ∃ seq : Word,
    s.adcDroop = ((s.flagDroop.raise R.hbxEvtAdcDroop).bump 0xE3 1).trace 0x05 0 seq := by
  unfold State.adcDroop
  dsimp only
  split
  · exact ⟨_, rfl⟩
  · rename_i out
    have none : ¬ (s.converting = true ∨ s.conversionDue = true) := out
    simp only [not_or, Bool.not_eq_true] at none
    obtain ⟨out, early⟩ := none
    rw [State.flagDroop, State.flagConversion, out, early]
    exact ⟨_, rfl⟩

theorem State.flagConversion_lastPeriod : s.flagConversion.lastPeriod =
    s.lastPeriod.map fun p => { p with adcDroop := p.adcDroop || s.converting } := by
  have same : (s.areaDroop s.now).lastPeriod = s.lastPeriod := rfl
  unfold State.flagConversion
  cases s.converting with
  | true => simp [State.iff, State.lastPeriod_onPeriod, same]
  | false => simp [State.iff, same]

theorem State.flagDroop_lastPeriod : s.flagDroop.lastPeriod = s.flagConversion.lastPeriod := by
  unfold State.flagDroop State.iff
  split <;> rfl

theorem State.flagConversion_droopNext : s.flagConversion.tb.droopNext = s.tb.droopNext := by
  unfold State.flagConversion State.iff
  split <;> rfl

theorem State.flagDroop_droopNext : s.flagDroop.tb.droopNext = (s.tb.droopNext || s.conversionDue) := by
  unfold State.flagDroop
  cases s.conversionDue <;> simp [State.iff, s.flagConversion_droopNext]

theorem State.flagDroop_hb : s.flagDroop.hb = (s.areaDroop s.now).hb := by
  unfold State.flagDroop State.flagConversion State.iff
  split <;> split <;> rfl

/-- In the slot of a row readout, that row readout is flagged. -/
theorem State.areaDroop_row {fr : AreaFrame} (area : s.hb.area = some fr) (loaded : fr.loaded.isSome = true)
    (first : fr.slot + 1000 ≤ s.now) (last : s.now < fr.slot + 9000) :
    (s.areaDroop s.now).hb.area = some { fr with droops := ((s.now - fr.slot) / 1000 - 1) :: fr.droops } := by
  simp [State.areaDroop, area, loaded, first, last]

end

/-! ### What the commands do -/

/-- Settles O13: the late samples leave the buffer, then the miss is counted and may be one too many; a droop is
announced once it has flagged what it falls in. -/
theorem missedWindowsAndDroop : Obligations.MissedWindowsAndDroop := by
  refine ⟨fun i s q l last late new serves => ?first, fun i s q l last late again => ?again,
    fun i s empty => ?empty, fun s => ?droop⟩
  case first =>
    have discarded := s.slice_lateDiscarded i q
    refine .of_eq rfl (State.missedWindow_late last late) ?_
    have slice := State.slice_missWindow (s := s.lateDiscarded i q) (i := i) (per := l.period) 1
      (by rwa [discarded]) (by rwa [discarded])
    rw [State.failsNext_lateDiscarded, discarded] at slice
    rw [slice, State.fget_missWindow_self]
    by_cases fails : s.failsNext i
    · rw [if_pos fails, if_pos (of_decide_eq_true fails)]
      exact ⟨rfl, rfl, rfl, rfl, rfl, rfl⟩
    · rw [if_neg fails, if_neg (of_decide_eq_false (Bool.eq_false_iff.mpr fails))]
      exact ⟨rfl, rfl, rfl, rfl, rfl⟩
  case again =>
    have discarded := s.slice_lateDiscarded i q
    refine .of_eq rfl ((State.missedWindow_late last late).trans
      (State.missWindow_again 1 (by rwa [discarded]))) ?_
    rw [State.slice_congr (State.raise_hb ..), discarded]
    exact ⟨again, rfl, rfl, State.flag_raise _ _ (by decide) rfl⟩
  case empty => exact congrArg Host.Outcome.next (State.missedWindow_empty empty)
  case droop =>
    obtain ⟨seq, eq⟩ := s.adcDroop_eq
    refine .of_eq rfl eq ?_
    have tb : (((s.flagDroop.raise R.hbxEvtAdcDroop).bump 0xE3 1).trace 0x05 0 seq).tb = s.flagDroop.tb := by simp
    rw [State.lastPeriod_congr tb, tb, State.flagDroop_lastPeriod, State.flagConversion_lastPeriod,
      State.flagDroop_droopNext]
    refine ⟨?_, fun p last => ?_, fun w window => ?_, fun fr area loaded first last => ?_⟩
    · rw [State.fget_trace, State.fget_bump]
      exact State.flag_raise _ _ (by decide) rfl
    · simp [State.converting, last]
    · simp [State.conversionDue, window]
    · simp [State.flagDroop_hb, s.areaDroop_row area loaded first last]

section
variable {via : Via} {i : Fin 38} {s : State} (may : s.mayWrite via.path (0x020004 + 1024 * i.val) = true)
  (alone : s.alone = true)
include may alone

/-- Alone in its core cycle, a FORCE_FAIL by a path that may write has its effect. -/
theorem State.byPath_forceFail : s.byPath (.forceFail via i) = s.forceFail i :=
  (State.byPath_alone alone _).trans (State.access_may (·.forceFail i) may)

theorem State.byPath_sliceRearm : s.byPath (.sliceRearm via i) = s.rearmSlice i :=
  (State.byPath_alone alone _).trans (State.access_may (·.rearmSlice i) may)

end

theorem State.slice_forceFail {i : Fin 38} {s : State} (serves : (s.slice i).state ≠ .failed) :
    (s.forceFail i).slice i = (s.slice i).failed 0xF :=
  State.slice_failSlice (s := s.fset (R.hbxSlCtrlForceFail i.val) 1) serves 0xF

/-- A failed slice whose clock runs rejoins without misses in a row. -/
theorem State.rearmSlice_rejoins {i : Fin 38} {s : State} (failed : (s.slice i).state = .failed)
    (free : s.flag (R.hbxSlCtrlForceFail i.val) = false) (runs : s.sliceSlow i = false) :
    s.rearmSlice i = s.onSlice i fun sl => { sl with state := .rejoining, run := 0, missed := none } := by
  have runs' (g : Slice → Slice) : (s.onSlice i g).sliceSlow i = false := runs
  unfold State.rearmSlice
  rw [if_neg (not_or.mpr ⟨not_not_intro failed, ne_true_of_eq_false free⟩)]
  exact if_neg (ne_true_of_eq_false (runs' _))

theorem State.rearmSlice_forced {i : Fin 38} {s : State} (forced : s.flag (R.hbxSlCtrlForceFail i.val) = true) :
    s.rearmSlice i = s := if_pos (.inr forced)

/-- Settles O12: a failure announces itself, once; a rearmed slice whose clock runs rejoins, and FORCE_FAIL keeps it
failed. -/
theorem sliceFailureAndRearm : Obligations.SliceFailureAndRearm := by
  refine ⟨fun i s serves => ?fault, fun i s failed => ?failed, fun via i s may alone serves => ?force,
    fun via i s may alone failed free runs => ?rearm, fun via i s forced may alone => ?forced⟩
  case fault =>
    refine .of_eq rfl rfl ?_
    rw [State.slice_failSlice serves]
    exact ⟨rfl, rfl, rfl, State.fget_failSlice serves 4, State.posted_failSlice serves 4⟩
  case failed => exact congrArg Host.Outcome.next (State.failSlice_of_failed failed 4)
  case force =>
    refine .of_eq rfl (State.byPath_forceFail may alone) ?_
    rw [State.slice_forceFail serves]
    exact ⟨rfl, rfl, rfl⟩
  case rearm =>
    refine .of_eq rfl ((State.byPath_sliceRearm may alone).trans (State.rearmSlice_rejoins failed free runs)) ?_
    rw [State.slice_onSlice_same]
    exact ⟨rfl, rfl, rfl⟩
  case forced =>
    exact congrArg Host.Outcome.next ((State.byPath_sliceRearm may alone).trans (State.rearmSlice_forced forced))

end Sys2Proof.Machine
end

section
/-! Area mode and block samples (R57, R58, R66, R68, R73 to R76, R89, R105): the rows of a readout, the slots of a
frame, what a slice latches and delivers. -/

namespace Sys2Proof.Machine

/-! ### Operations folded over a list -/

theorem State.each_keeps {α : Type} {p : State → Prop} {f : α → State → State} (k : ∀ a u, p u → p (f a u))
    (l : List α) {s : State} (h : p s) : p (s.each l f) := by
  unfold State.each
  induction l generalizing s with
  | nil => exact h
  | cons a l ih => exact ih (k a s h)

/-- What one element of the list brings about, the later ones keep. -/
theorem State.each_reaches {α : Type} {p q : State → Prop} {f : α → State → State} {a : α} {l : List α} {s : State}
    (mem : a ∈ l) (before : ∀ b u, p u → p (f b u)) (here : ∀ u, p u → q (f a u)) (after : ∀ b u, q u → q (f b u))
    (h : p s) : q (s.each l f) := by
  unfold State.each
  induction l generalizing s with
  | nil => cases mem
  | cons b l ih =>
    rcases List.mem_cons.mp mem with rfl | mem
    · exact State.each_keeps after l (here s h)
    · exact ih mem (before b s h)

/-- What an operation keeps, it keeps where it is done on a condition. -/
theorem State.iff_same {α : Type} (part : State → α) {c : Bool} {f : State → State} (k : ∀ u, part (f u) = part u)
    (s : State) : part (s.iff c f) = part s := by
  unfold State.iff
  split
  · exact k s
  · rfl

/-! ### The parts of a row readout (R76, R105) -/

theorem mem_insertRow {l r : AreaHeld} {m : List AreaHeld} : l ∈ insertRow r m ↔ l = r ∨ l ∈ m := by
  induction m with
  | nil => simp [insertRow]
  | cons o m ih =>
    unfold insertRow
    split
    · rw [List.mem_cons]
    · rw [List.mem_cons, ih, List.mem_cons]
      exact or_left_comm

theorem State.furnish_congr {s t : State} (h : t.fu = s.fu) (id : BitVec 16) : t.furnish id = s.furnish id := by
  unfold State.furnish
  rw [h]

/-- What a row readout of a block gives rests on the furnishes, the tables, the slices and the timebase. -/
theorem State.areaRow_congr {s t : State} (h : Frame [.regs, .felt, .link, .obs, .out] s t) (got : SubFrame)
    (sb row : Nat) (codes : List (BitVec 12)) (void : Option Cause) :
    t.areaRow got sb row codes void = s.areaRow got sb row codes void := by
  have furnish : t.furnish got.furnish = s.furnish got.furnish := State.furnish_congr (h.1 .fu rfl) _
  have cal : t.cal = s.cal := h.1 .cal rfl
  have hb : t.hb = s.hb := h.1 .hb rfl
  have tb : t.tb = s.tb := h.1 .tb rfl
  have head : t.fget R.wlkHeadId = s.fget R.wlkHeadId := h.fget rfl (by decide)
  have period : t.period got.seq = s.period got.seq := by rw [State.period, tb, State.period]
  simp only [State.areaRow, furnish, period, cal, hb, tb, head]

/-- The row of a block is taken into the pool, and its clamp, gain and accumulators noted. -/
def State.takeRow (u : Furnish) (sb row : Nat) (r : AreaRow) (s : State) : State :=
  let s := (s.iff (u.on R.fltCtrlDclamp) (·.clampEvents)).noteClamp (sbOf u.reverse sb) r.delta
  let s := s.iff r.gainSat fun s => (s.raise R.fltEvtGainSat).count R.fltGsatCnt 1
  let s := s.iff r.accSat (·.raise R.fltEvtAccSat)
  s.modFelt fun f =>
    let g := { f with areaHeld := insertRow r.row f.areaHeld, areaTodo := f.areaTodo.erase row }
    { g with peak := max g.peak (g.mostInUse (u.col0 3) (u.cols 3)) }

theorem State.takeRow_frame (u : Furnish) (sb row : Nat) (r : AreaRow) (s : State) :
    Frame [.regs, .felt, .link, .obs, .out] s (s.takeRow u sb row r) := by
  refine .by (State.modFelt_frame ..) rfl (.iff (.iff (.by (State.noteClamp_frame ..) rfl (.iff (.refl ..) ?clamp))
    ?gain) ?acc)
  case clamp => exact fun v => .mono v.clampEvents_frame rfl
  case gain => exact fun v => .by (State.count_frame _ _ _ (by rfl)) rfl (.mono (State.raise_frame _ _ (by rfl)) rfl)
  case acc => exact fun v => .mono (State.raise_frame _ _ (by rfl)) rfl

/-- The row is held for its turn, beside the rows held before. -/
theorem State.takeRow_held (u : Furnish) (sb row : Nat) (r : AreaRow) (s : State) :
    (s.takeRow u sb row r).felt.areaHeld = insertRow r.row s.felt.areaHeld := by
  have clamp : (s.iff (u.on R.fltCtrlDclamp) (·.clampEvents)).felt = s.felt :=
    State.iff_same State.felt (fun v => v.clampEvents_frame.1 .felt rfl) s
  have gain (v : State) : ((v.raise R.fltEvtGainSat).count R.fltGsatCnt 1).felt = v.felt := by simp
  have acc (v : State) : (v.raise R.fltEvtAccSat).felt = v.felt := v.raise_felt _
  simp only [State.takeRow, State.modFelt_felt, State.iff_same State.felt acc, State.iff_same State.felt gain,
    State.noteClamp, clamp]

/-- One block of a row readout: its row is taken, where the window holds it. -/
def State.takeBlock (codes : List (List (BitVec 12))) (void : Option Cause) (u : Furnish) (readout : Nat)
    (got : SubFrame) (sb : Nat) (s : State) : State :=
  let row := 8 * sb + u.rowGroup sb * readout
  if 8 ≤ u.rowGroup sb * readout ∨ ¬ u.areaGroups.contains row then s
  else s.takeRow u sb row (s.areaRow got sb row (codes[sb]?.getD []) void)

/-- What a droop makes of the rows of a readout (R73, R406). -/
def State.rowVoid (s : State) (fr : AreaFrame) : Option Cause :=
  if s.droopVoids then some .void else if fr.droops.contains fr.readout then some .adcDroop else none

/-- All blocks of a row readout are taken; of the words read, `ce` are corrected and those of `ue` uncorrectable. -/
def State.takeBlocks (codes : List (List (BitVec 12))) (ce : Nat) (ue : List (Nat × Fin 38 × Fin 44)) (fr : AreaFrame)
    (got : SubFrame) (s : State) : State :=
  let u := s.furnish got.furnish
  let s := s.each (List.range 32) (State.takeBlock codes (s.rowVoid fr) u fr.readout got)
  let s := s.each (List.range 38) fun i s => s.iff (u.usesSlice 3 i) (·.bump (0x08 + i) 32)
  (s.accCorrected ce).each ue fun w s => s.areaUncorrectable w.1 w.2.1 w.2.2

theorem State.readRows_eq (codes : List (List (BitVec 12))) (ce : Nat) (ue : List (Nat × Fin 38 × Fin 44))
    (fr : AreaFrame) (got : SubFrame) (s : State) : s.readRows codes ce ue fr got =
      ((s.takeBlocks codes ce ue fr got).modHb fun h =>
        { h with area := some { fr with readout := fr.readout + 1 } }).releaseRows := rfl

section
variable (codes : List (List (BitVec 12))) (void : Option Cause) (u : Furnish) (readout : Nat) (got : SubFrame)

theorem State.takeBlock_frame (sb : Nat) (s : State) :
    Frame [.regs, .felt, .link, .obs, .out] s (s.takeBlock codes void u readout got sb) :=
  .ite (.refl ..) (State.takeRow_frame ..)

/-- A row held stays held as further blocks are taken. -/
theorem State.takeBlock_keeps {l : AreaHeld} (sb : Nat) (s : State) (h : l ∈ s.felt.areaHeld) :
    l ∈ (s.takeBlock codes void u readout got sb).felt.areaHeld := by
  unfold State.takeBlock
  dsimp only
  split
  · exact h
  · rw [State.takeRow_held]
    exact mem_insertRow.mpr (.inr h)

theorem State.takeBlock_takes {sb : Nat} (short : u.rowGroup sb * readout < 8)
    (window : 8 * sb + u.rowGroup sb * readout ∈ u.areaGroups) (s : State) :
    (s.areaRow got sb (8 * sb + u.rowGroup sb * readout) (codes[sb]?.getD []) void).row ∈
      (s.takeBlock codes void u readout got sb).felt.areaHeld := by
  unfold State.takeBlock
  rw [if_neg (by simp [window, short]), State.takeRow_held]
  exact mem_insertRow.mpr (.inl rfl)

end

section
variable {codes : List (List (BitVec 12))} {s : State} {fr : AreaFrame} {got : SubFrame} {sb row : Nat}
  (block : sb < 32) (place : row = 8 * sb + (s.furnish got.furnish).rowGroup sb * fr.readout)
  (short : (s.furnish got.furnish).rowGroup sb * fr.readout < 8) (window : row ∈ (s.furnish got.furnish).areaGroups)
include block place short window

/-- Each block brings the row that it gives as the readout begins: the blocks before it change nothing that it rests
on, and those after it keep what is held. -/
theorem State.each_takeBlock_takes (void : Option Cause) :
    (s.areaRow got sb row (codes[sb]?.getD []) void).row ∈
      (s.each (List.range 32) (State.takeBlock codes void (s.furnish got.furnish) fr.readout got)).felt.areaHeld := by
  subst place
  refine State.each_reaches (p := Frame [.regs, .felt, .link, .obs, .out] s) (q := fun v => _ ∈ v.felt.areaHeld)
    (List.mem_range.mpr block) (fun b v k => k.then (State.takeBlock_frame ..)) (fun v k => ?_)
    (fun b v => State.takeBlock_keeps _ _ _ _ _ b v) (.refl ..)
  rw [← State.areaRow_congr k]
  exact State.takeBlock_takes _ _ _ _ _ short window v

/-- With no word uncorrectable, the row of each block of the window is held once all blocks are taken. -/
theorem State.takeBlocks_takes (ce : Nat) : (s.areaRow got sb row (codes[sb]?.getD []) (s.rowVoid fr)).row ∈
    (s.takeBlocks codes ce [] fr got).felt.areaHeld := by
  have counted : Frame [.regs, .link, .obs, .out]
      (s.each (List.range 32) (State.takeBlock codes (s.rowVoid fr) (s.furnish got.furnish) fr.readout got))
      (s.takeBlocks codes ce [] fr got) :=
    .by (State.accCorrected_frame ..) rfl (.each (.refl ..) fun _ _ => .iff (.refl ..) fun _ =>
      .mono (State.bump_frame ..) rfl)
  rw [counted.1 .felt rfl]
  exact State.each_takeBlock_takes block place short window _

end

/-! ### The rows released (R105) -/

/-- A dark statistics packet that is due joins the stock stream. -/
theorem State.sendDark_felt (vc : Nat) (s : State) : (s.sendDark vc).felt.areaHeld = s.felt.areaHeld ∧
    ∃ rest, (s.sendDark vc).felt.stock = s.felt.stock ++ rest := by
  unfold State.sendDark
  split
  · exact ⟨rfl, _, rfl⟩
  · exact ⟨rfl, [], (List.append_nil _).symm⟩

/-- A line stands at the end of the stock stream, and counts. -/
def State.stocked (l : Line) (s : State) : State :=
  (s.modFelt fun f => { f with stock := f.stock ++ [.line l] }).bump (0x54 + 4 * l.prod + l.field) 1

theorem State.stocked_felt (l : Line) (s : State) :
    (s.stocked l).felt = { s.felt with stock := s.felt.stock ++ [.line l] } := State.bump_felt ..

/-- A line that has left joins the stock stream, which keeps what it held; no area row is touched. -/
theorem State.toStock_felt (l : Line) (s : State) : (s.toStock l).felt.areaHeld = s.felt.areaHeld ∧
    ∃ rest, (s.toStock l).felt.stock = s.felt.stock ++ (.line l :: rest) := by
  have dark : s.toStock l = s.stocked l ∨ s.toStock l = (s.stocked l).sendDark l.prod := by
    unfold State.toStock
    dsimp only
    split
    · exact .inr rfl
    · exact .inl rfl
  obtain ⟨held, rest, stock⟩ := (s.stocked l).sendDark_felt l.prod
  rw [State.stocked_felt] at held stock
  rcases dark with eq | eq
  · rw [eq, State.stocked_felt]
    exact ⟨rfl, [], rfl⟩
  · rw [eq]
    exact ⟨held, rest, by simp [stock]⟩

/-- What a held row leaves as. -/
def AreaHeld.item (l : AreaHeld) : StockItem := .line { l.line with pix := pixels l.line.hbin false l.accs }

theorem State.releaseRow_felt (l : AreaHeld) (s : State) : (s.releaseRow id l).felt.areaHeld = s.felt.areaHeld ∧
    ∃ rest, (s.releaseRow id l).felt.stock = s.felt.stock ++ (l.item :: rest) := by
  have clip : (s.iff (l.accs.any clipped) (·.count R.fltClipCnt 1)).felt = s.felt :=
    State.iff_same State.felt (fun v => v.count_felt _ _) s
  rw [← clip]
  exact State.toStock_felt ..

/-- A held row stays held, or leaves. -/
theorem State.releaseRows_mem {l : AreaHeld} {s : State} (h : l ∈ s.felt.areaHeld) :
    l ∈ s.releaseRows.felt.areaHeld ∨ l.item ∈ s.releaseRows.felt.stock := by
  unfold State.releaseRows
  cases go : s.felt.areaTodo.all fun r => decide (l.line.row < r) with
  | true =>
    refine .inr (State.each_reaches (p := fun _ => True) (q := fun v => l.item ∈ v.felt.stock)
      (List.mem_filter.mpr ⟨h, go⟩) (fun _ _ _ => trivial) (fun v _ => ?_) (fun m v k => ?_) trivial)
    · obtain ⟨-, rest, stock⟩ := v.releaseRow_felt l
      simp [stock]
    · obtain ⟨-, rest, stock⟩ := v.releaseRow_felt m
      simp [stock, k]
  | false =>
    refine .inl (State.each_keeps (p := fun v => l ∈ v.felt.areaHeld) (fun m v k => ?_) _ ?_)
    · rwa [(v.releaseRow_felt m).1]
    · exact List.mem_filter.mpr ⟨h, by rw [go]; rfl⟩

/-- The readout goes on by one. -/
theorem State.readRows_readout (codes : List (List (BitVec 12))) (ce : Nat) (ue : List (Nat × Fin 38 × Fin 44))
    (fr : AreaFrame) (got : SubFrame) (s : State) :
    (s.readRows codes ce ue fr got).hb.area = some { fr with readout := fr.readout + 1 } := by
  rw [State.readRows_eq, (State.releaseRows_frame _).1 .hb rfl]
  rfl

theorem execAreaRowReadout_reads {codes : List (List (BitVec 12))} {ce : Nat} {ue : List (Nat × Fin 38 × Fin 44)}
    {s : State} {fr : AreaFrame} {got : SubFrame} (wf : wfArea codes = true) (area : s.hb.area = some fr)
    (loaded : fr.loaded = some got) (left : fr.readout < 8) (due : fr.slot + 1000 * (fr.readout + 2) ≤ s.now)
    (width : codes.head?.map List.length = some (96 + (s.furnish got.furnish).cols 3)) :
    execAreaRowReadout codes ce ue s = .next (s.readRows codes ce ue fr got) := by
  simp [execAreaRowReadout, wf, area, loaded, Nat.not_le.mpr left, Nat.not_lt.mpr due, width]

/-- A row that a droop voids counts with weight 0 (R98). -/
theorem State.areaRow_void (s : State) (got : SubFrame) (sb row : Nat) (codes : List (BitVec 12)) (c : Cause) {a : Int}
    (h : a ∈ (s.areaRow got sb row codes (some c)).row.accs) : a = 0 := by
  obtain ⟨i, lt, rfl⟩ := List.mem_mapIdx.mp h
  rfl

/-! ### Uncorrectable words of a row (R89, R105) -/

/-- The accumulators of a row once a word of the pool is lost. -/
def AreaHeld.loseWord (w : Nat × Nat) (l : AreaHeld) : AreaHeld :=
  { line := l.line.mark .accUe, accs := l.accs.mapIdx fun i a => if accWord (24 * l.line.word0 + i) == w then 0 else a }

/-- A row held that the word is allocated to is broke and loses its columns. -/
theorem State.areaUncorrectable_hits {row slice word : Nat} {s : State} {l : AreaHeld} (held : l ∈ s.felt.areaHeld)
    (place : l.line.row = row) (hit : ∃ i, i < l.accs.length ∧ accWord (24 * l.line.word0 + i) = (slice, word)) :
    l.loseWord (slice, word) ∈ (s.areaUncorrectable row slice word).felt.areaHeld := by
  have felt : ((s.raise R.fltEvtEccUe).count R.fltUeCnt 1).felt = s.felt := by simp
  unfold State.areaUncorrectable
  dsimp only
  rw [State.modFelt_felt, felt]
  refine List.mem_map.mpr ⟨l, held, if_pos ?_⟩
  simpa [place] using hit

theorem AreaHeld.loseWord_accs (w : Nat × Nat) (l : AreaHeld) {i : Nat} (h : i < l.accs.length) :
    (l.loseWord w).accs[i]? = if accWord (24 * l.line.word0 + i) = w then some 0 else l.accs[i]? := by
  simp only [AreaHeld.loseWord, List.getElem?_mapIdx, List.getElem?_eq_getElem h, Option.map_some, beq_iff_eq]
  split <;> rfl

theorem State.fget_areaUncorrectable (row slice word : Nat) (s : State) :
    (s.areaUncorrectable row slice word).fget R.fltEvtEccUe = 1 := by
  unfold State.areaUncorrectable
  rw [State.fget_modFelt, State.fget_count_reg _ _ (by decide)]
  exact State.flag_raise _ _ (by decide) rfl

/-! ### The slots of a frame (R74, R75) -/

/-- The charge that the registers hold once a slot has ended. -/
def AreaFrame.transfer (fr : AreaFrame) : SubFrame :=
  { seq := fr.seq, furnish := fr.furnish, sub := fr.sub,
    w := (fr.wStart.move (floorDiv (Pos.diff fr.wStop fr.wStart) 2)).wc, coast := fr.coast, valid := fr.valid,
    tick := (fr.tStart.getD (fr.slot + fr.length) + fr.tStop.getD (fr.slot + fr.length)) / 2 }

/-- What follows a slot that no waiting frame follows: the slot of the next sub-frame, or a tail slot. -/
def AreaFrame.nextSlot (u : Furnish) (fr : AreaFrame) : AreaFrame :=
  let last := decide (fr.count ≤ fr.sub + 1)
  { fr with slot := fr.slot + fr.length, tail := last, sub := if last then fr.sub else fr.sub + 1,
            length := if last then 10000 else u.slotLength (fr.sub + 1), loaded := some fr.transfer, readout := 0,
            tStart := none, tStop := none, droops := [] }

theorem AreaFrame.nextSlot_length (u : Furnish) (fr : AreaFrame) :
    (fr.nextSlot u).length = if fr.sub + 1 < fr.count then u.slotLength (fr.sub + 1) else 10000 := by
  unfold AreaFrame.nextSlot
  by_cases more : fr.sub + 1 < fr.count
  · simp [more, Nat.not_le.mpr more]
  · simp [more, Nat.not_lt.mp more]

theorem AreaFrame.nextSlot_sub (u : Furnish) (fr : AreaFrame) (more : fr.sub + 1 < fr.count) :
    (fr.nextSlot u).sub = fr.sub + 1 := by
  simp [AreaFrame.nextSlot, Nat.not_le.mpr more]

section
variable {s : State} {fr : AreaFrame} (area : s.hb.area = some fr)
include area

theorem State.slotEnd_early (early : s.now < fr.slot + fr.length) : s.slotEnd = s := by
  simp [State.slotEnd, area, early]

variable (due : fr.slot + fr.length ≤ s.now)
include due

theorem State.slotEnd_next (slot : fr.tail = false) (follows : fr.sub + 1 < fr.count ∨ fr.next = []) :
    s.slotEnd = (s.modFelt fun f => { f with areaTodo := (s.furnish fr.furnish).areaGroups, areaHeld := [] }).modHb
      fun h => { h with area := some (fr.nextSlot (s.furnish fr.furnish)) } := by
  unfold State.slotEnd
  rw [area]
  dsimp only
  rw [if_neg (Nat.not_lt.mpr due), if_neg (by simp [slot])]
  split
  · rename_i last next
    simp [next, Nat.not_lt.mpr (of_decide_eq_true last)] at follows
  · rfl

theorem State.slotEnd_tail (tail : fr.tail = true) (alone : fr.next = []) :
    s.slotEnd = s.modHb fun h => { h with area := none } := by
  simp [State.slotEnd, area, Nat.not_lt.mpr due, tail, alone]

/-- A frame that waits begins where the last slot of the one before it, or its tail slot, ends. -/
theorem State.slotEnd_waiting {seq : Nat} {id : BitVec 16} {rest : List (Nat × BitVec 16)}
    (past : fr.tail = true ∨ fr.count ≤ fr.sub + 1) (next : fr.next = (seq, id) :: rest) :
    ∃ (v : State) (got : Option SubFrame), s.slotEnd = v.startFrame seq id (fr.slot + fr.length) got rest ∧
      v.fu = s.fu ∧ got.isSome = !fr.tail := by
  cases tail : fr.tail with
  | true => exact ⟨s, none, by simp [State.slotEnd, area, Nat.not_lt.mpr due, tail, next], rfl, rfl⟩
  | false =>
    have last : fr.count ≤ fr.sub + 1 := past.resolve_left (by simp [tail])
    refine ⟨s.modFelt fun f => { f with areaTodo := (s.furnish fr.furnish).areaGroups, areaHeld := [] },
      some fr.transfer, ?_, rfl, rfl⟩
    simp [State.slotEnd, area, Nat.not_lt.mpr due, tail, next, last, AreaFrame.transfer]

end

/-! ### What a slice latches and delivers (R57, R58, R66, R68) -/

/-- The sample of block `b` that slice `i` latches in period `q`, if the line of its packet needs it. -/
def State.sampleOf (i : Fin 38) (codes : List (List (BitVec 12))) (q : Period) (s : State) (b : Nat) :
    Option BlockSample :=
  match codes[b]? with
  | some row => if s.needsSample i.val q.seq b then
      some { period := q.seq, block := Fin.ofNat 32 b, codes := row } else none
  | none => none

theorem State.mem_samples {i : Fin 38} {codes : List (List (BitVec 12))} {q : Period} {s : State} {e : BlockSample} :
    e ∈ (List.range 32).filterMap (s.sampleOf i codes q) ↔
      e.period = q.seq ∧ s.needsSample i.val q.seq e.block.val = true ∧ codes[e.block.val]? = some e.codes := by
  rw [List.mem_filterMap]
  constructor
  · rintro ⟨b, range, eq⟩
    unfold State.sampleOf at eq
    split at eq
    · rename_i row code
      split at eq
      · rename_i needs
        cases eq
        have block : (Fin.ofNat 32 b).val = b := Nat.mod_eq_of_lt (List.mem_range.mp range)
        rw [block]
        exact ⟨rfl, needs, code⟩
      · cases eq
    · cases eq
  · rintro ⟨per, needs, code⟩
    refine ⟨e.block.val, List.mem_range.mpr e.block.isLt, ?_⟩
    rw [← per] at needs
    simp [State.sampleOf, needs, code, ← per]

/-- The window of the period before was met: no sample of an earlier period is left, and no miss was counted. -/
def State.windowMet (i : Fin 38) (q : Period) (s : State) : Bool :=
  !((s.slice i).buf.any fun e => decide (e.period < q.seq)) && (s.slice i).missed != some (q.seq - 1)

/-- A slice that has latched period `q`. -/
def Slice.latching (q : Period) (met : Bool) (new : List BlockSample) (sl : Slice) : Slice :=
  { sl with buf := sl.buf ++ new, latched := some q.seq, run := if met then 0 else sl.run }

/-- A slice in service latches, once in a period, the samples of the blocks whose lines need them. -/
theorem State.latch_slices {i : Fin 38} {codes : List (List (BitVec 12))} {s : State} {q : Period}
    (last : s.lastPeriod = some q) (due : q.base + 959 ≤ s.now) (fresh : (s.slice i).latched ≠ some q.seq)
    (up : (s.slice i).up = true) (line : s.fu.inForce.area = false) : (s.latch i codes).hb.slices =
      vupd s.hb.slices i (·.latching q (s.windowMet i q) ((List.range 32).filterMap (s.sampleOf i codes q))) := by
  have counted (c : Bool) (v : State) : (v.iff c (·.bump (0x2E + i.val) 1)).hb.slices = v.hb.slices :=
    congrArg Headbox.slices (State.iff_same State.hb (fun u => u.bump_hb _ _) v)
  unfold State.latch
  rw [last]
  dsimp only
  rw [if_neg (by simp [Nat.not_lt.mpr due, fresh, up, line])]
  split
  · exact counted ..
  · split
    · exact counted ..
    · exact counted ..

theorem State.deliver_good {i : Fin 38} {b : Fin 32} {s : State} {e : BlockSample}
    (found : (s.slice i).buf.find? (·.block = b) = some e) : s.deliver i b .none =
      ((s.takeSample i e).couch i.val b.val e.period e.codes none).bump (0x08 + i.val) 1 := by
  unfold State.deliver
  rw [found]

theorem State.slice_delivered (i : Fin 38) (b : Fin 32) (e : BlockSample) (s : State) :
    (((s.takeSample i e).couch i.val b.val e.period e.codes none).bump (0x08 + i.val) 1).slice i =
      { s.slice i with buf := (s.slice i).buf.erase e } := by
  rw [State.slice_congr ((State.bump_hb ..).trans ((State.couch_frame ..).1 .hb rfl))]
  exact State.slice_onSlice_same ..

/-- Where a block has no sample, only a parity error of the furnish copy in a line period has an effect. -/
theorem State.deliver_nothing {i : Fin 38} {b : Fin 32} {f : DeliveryFault} {s : State}
    (empty : (s.slice i).buf.find? (·.block = b) = none) (idle : f ≠ .cfgParity ∨ s.tb.periods = []) :
    s.deliver i b f = s := by
  unfold State.deliver State.iff
  rw [empty]
  dsimp only
  split
  · rename_i parity
    have none := idle.resolve_left (not_not_intro (of_decide_eq_true parity))
    rw [State.lastPeriod, none]
    rfl
  · rfl

theorem State.deliver_parity {i : Fin 38} {b : Fin 32} {s : State} {q : Period}
    (empty : (s.slice i).buf.find? (·.block = b) = none) (last : s.lastPeriod = some q) :
    s.deliver i b .cfgParity = s.badFurnishCopy i q.seq := by
  simp [State.deliver, State.iff, empty, last]

/-- The lines that a slice brings samples of period `per` to are broke (R68). -/
def State.voidLines (i : Fin 38) (per : Nat) (s : State) : State :=
  s.each (List.range 32) fun b s =>
    match entryOf per b with
    | some seq =>
      let p := prodOf (s.blockAt per b)
      s.onLine p seq fun l =>
        if l.blocks.contains b && (s.furnish l.line.furnish).usesSlice p i.val then l.mark .void else l
    | none => s

theorem State.voidLines_frame (i : Fin 38) (per : Nat) (s : State) : Frame [.felt] s (s.voidLines i per) := by
  refine .each (.refl ..) fun b v => ?_
  split
  · exact State.onLine_frame ..
  · exact .refl ..

/-- The samples of a period are discarded, its lines are broke, and the furnish copy is to be reloaded. -/
def State.copyStruck (i : Fin 38) (per : Nat) (s : State) : State :=
  ((s.each ((s.slice i).buf.filter (·.period = per)) fun e s => s.discard i e).voidLines i per).onSlice i
    fun sl => { sl with badCopy := true }

theorem State.badFurnishCopy_eq (i : Fin 38) (per : Nat) (s : State) :
    s.badFurnishCopy i per = ((s.copyStruck i per).raise R.hbxEvtCfgPar).missWindow i per 3 := rfl

theorem State.copyStruck_frame (i : Fin 38) (per : Nat) (s : State) :
    Frame [.regs, .hb, .felt, .link, .obs, .out] s (s.copyStruck i per) :=
  .by (State.onSlice_frame ..) rfl (.by (State.voidLines_frame ..) rfl (State.each_discard_frame ..))

theorem State.slice_copyStruck (i : Fin 38) (per : Nat) (s : State) : (s.copyStruck i per).slice i =
    { s.slice i with buf := (s.slice i).buf.filter fun e => !decide (e.period = per), badCopy := true } := by
  rw [State.copyStruck, State.slice_onSlice_same, State.slice_congr ((State.voidLines_frame ..).1 .hb rfl),
    State.slice_each_discard, foldl_erase_filter]

/-- The slice counts a miss with the parity error, where it is in service and had not missed the period's window. -/
theorem State.slice_badFurnishCopy {i : Fin 38} {per : Nat} {s : State} (new : (s.slice i).missed ≠ some per)
    (serves : (s.slice i).state ≠ .failed) : (s.badFurnishCopy i per).slice i =
      if s.failsNext i then (((s.copyStruck i per).slice i).missing per).failed 3
      else ((s.copyStruck i per).slice i).missing per := by
  have struck := s.slice_copyStruck i per
  have limit := (s.copyStruck_frame i per).fget rfl (g := R.hbxFailLim) (by decide)
  have raised : ((s.copyStruck i per).raise R.hbxEvtCfgPar).slice i = (s.copyStruck i per).slice i :=
    State.slice_congr (State.raise_hb ..) i
  have fails : ((s.copyStruck i per).raise R.hbxEvtCfgPar).failsNext i = s.failsNext i := by
    unfold State.failsNext
    rw [raised, struck, State.fget_raise _ (by decide) (by decide), limit]
  rw [State.badFurnishCopy_eq, State.slice_missWindow 3 (by rwa [raised, struck]) (by rwa [raised, struck]), fails,
    raised]

theorem State.fget_badFurnishCopy_missed (i : Fin 38) (per : Nat) (s : State) :
    (s.badFurnishCopy i per).fget R.hbxEvtMissedWin = 1 := State.fget_missWindow_self 3

theorem State.fget_badFurnishCopy_parity (i : Fin 38) (per : Nat) (s : State) :
    (s.badFurnishCopy i per).fget R.hbxEvtCfgPar = 1 := by
  have beside : R.hbxEvtCfgPar.off = R.hbxEvtMissedWin.off := rfl
  rw [State.badFurnishCopy_eq, State.fget_missWindow 3 beside (by decide),
    State.fget_raise_bits _ beside (by decide) (by decide)]
  exact State.flag_raise _ _ (by decide) rfl

/-! ### What the commands do -/

/-- Settles O11: a readout takes the row of every block into the pool, from which it leaves in its turn; the end of a
slot is followed by what the frame has left to do; a slice's buffer takes the samples latched and gives those
delivered. -/
theorem areaSlotsAndSamples : Obligations.AreaSlotsAndSamples := by
  refine ⟨fun codes ce ue s fr got wf area loaded left due width => ?rows,
    fun got sb row codes c s a mem => s.areaRow_void got sb row codes c mem,
    fun row slice word s l held place hit => ?word, fun codes ce ue s ill => if_pos (congrArg not ill),
    fun s fr a b area due slot start stop follows => ?slot,
    fun s fr seq id rest area due past next => ?waiting,
    fun s fr area due tail alone => congrArg Host.Outcome.next (State.slotEnd_tail area due tail alone),
    fun s fr area early => congrArg Host.Outcome.next (State.slotEnd_early area early),
    fun i codes s q wf last due fresh up line => ?latch, fun i codes s ill => if_neg (ne_true_of_eq_false ill),
    fun i b s e found => ?good,
    fun i b f s empty idle => congrArg Host.Outcome.next (State.deliver_nothing empty idle),
    fun i b s q empty last new serves => ?parity⟩
  case rows =>
    refine ⟨_, execAreaRowReadout_reads wf area loaded left due width, State.readRows_readout ..,
      fun sb row block place short window none => ?_⟩
    subst none
    rw [State.readRows_eq]
    exact State.releaseRows_mem (State.takeBlocks_takes block place short window ce)
  case word =>
    exact ⟨State.fget_areaUncorrectable .., _, State.areaUncorrectable_hits held place hit, rfl,
      fun i lt => l.loseWord_accs _ lt⟩
  case slot =>
    refine .of_eq rfl (State.slotEnd_next area due slot follows) ⟨rfl, _, fr.transfer, rfl, rfl, rfl, rfl, rfl,
      fr.nextSlot_length _, fr.nextSlot_sub _, rfl, rfl, rfl, rfl, rfl, ?_, rfl⟩
    rw [AreaFrame.transfer, start, stop]
    rfl
  case waiting =>
    obtain ⟨v, got, starts, fu, charge⟩ := State.slotEnd_waiting area due past next
    refine .of_eq rfl starts ⟨_, rfl, rfl, rfl, rfl, ?_, rfl, ?_, rfl, rfl, rfl, charge⟩
    · rw [State.furnish_congr fu]
    · rw [State.furnish_congr fu]
  case latch =>
    have slices := State.latch_slices (codes := codes) last due fresh up line
    refine ⟨_, if_pos wf, ?_, fun j ne => ?_, _, ?_, fun e => State.mem_samples⟩
    · rw [State.slice, slices, vupd_same]
      rfl
    · rw [State.slice, slices, vupd_other _ _ ne.symm]
      rfl
    · rw [State.slice, slices, vupd_same]
      rfl
  case good =>
    refine .of_eq rfl (State.deliver_good found) ?_
    rw [State.slice_delivered]
    exact ⟨rfl, rfl⟩
  case parity =>
    refine .of_eq rfl (State.deliver_parity empty last)
      ⟨State.fget_badFurnishCopy_parity .., State.fget_badFurnishCopy_missed .., ?_⟩
    rw [State.slice_badFurnishCopy new serves, State.slice_copyStruck]
    by_cases fails : s.failsNext i
    · rw [if_pos fails, if_pos (of_decide_eq_true fails)]
      exact ⟨rfl, rfl, rfl, rfl⟩
    · rw [if_neg fails, if_neg (of_decide_eq_false (Bool.eq_false_iff.mpr fails))]
      exact ⟨rfl, rfl, rfl⟩

end Sys2Proof.Machine
end

section
/-! Lines closing onto the stock stream (R89, R97, R101, R104): the accumulator words read at a closure, the line that
leaves, and the dark statistics that follow no line. -/

namespace Sys2Proof.Machine

/-! ### Counters and events -/

/-- A counter field holds what its width holds. -/
theorem State.fget_lt (f : Fld) (s : State) : s.fget f < 2 ^ f.n := Nat.mod_lt _ (Nat.two_pow_pos _)

/-! ### The open line of a product and sequence -/

theorem State.openLine_congr {s t : State} (h : t.felt.lines = s.felt.lines) (p seq : Nat) :
    t.openLine p seq = s.openLine p seq := by
  unfold State.openLine
  rw [h]

theorem State.openLine_own {p seq : Nat} {s : State} {l : FeltLine} (h : s.openLine p seq = some l) :
    l.line.prod = p ∧ l.line.seq = seq := by
  simpa using List.find?_some h

@[simp] theorem State.fget_onLine (p seq : Nat) (g : FeltLine → FeltLine) (s : State) (f : Fld) :
    (s.onLine p seq g).fget f = s.fget f := rfl

theorem State.onLine_stock (p seq : Nat) (g : FeltLine → FeltLine) (s : State) :
    (s.onLine p seq g).felt.stock = s.felt.stock := rfl

/-- An update that keeps each line's product and sequence finds the line updated. -/
theorem State.openLine_onLine {g : FeltLine → FeltLine}
    (own : ∀ l, (g l).line.prod = l.line.prod ∧ (g l).line.seq = l.line.seq) (p seq : Nat) (s : State) :
    (s.onLine p seq g).openLine p seq = (s.openLine p seq).map g := by
  have same (l : FeltLine) :
      let m := if l.line.prod = p && l.line.seq = seq then g l else l
      m.line.prod = l.line.prod ∧ m.line.seq = l.line.seq := by
    dsimp only
    split
    · exact own l
    · exact ⟨rfl, rfl⟩
  show (s.felt.lines.map fun l => if l.line.prod = p && l.line.seq = seq then g l else l).find? _ = _
  rw [List.find?_map]
  have pick : ((fun l : FeltLine => decide (l.line.prod = p) && decide (l.line.seq = seq)) ∘
      fun l => if l.line.prod = p && l.line.seq = seq then g l else l) =
      fun l : FeltLine => decide (l.line.prod = p) && decide (l.line.seq = seq) := by
    funext l
    rw [Function.comp_apply, (same l).1, (same l).2]
  rw [pick]
  unfold State.openLine
  cases found : s.felt.lines.find? fun l => decide (l.line.prod = p) && decide (l.line.seq = seq) with
  | none => rfl
  | some l =>
    rw [Option.map_some, Option.map_some, if_pos (List.find?_some found)]

/-! ### Words met as the accumulators of a line are read (R89) -/

/-- An open line that loses an accumulator word, where the word is allocated to it. -/
def FeltLine.loseWord (w : Nat × Nat) (l : FeltLine) : FeltLine :=
  if l.hasWord w.1 w.2 then { (l.mark .accUe) with lost := w :: l.lost } else l

theorem FeltLine.loseWord_own (w : Nat × Nat) (l : FeltLine) :
    (l.loseWord w).line.prod = l.line.prod ∧ (l.loseWord w).line.seq = l.line.seq := by
  unfold FeltLine.loseWord
  split <;> exact ⟨rfl, rfl⟩

theorem FeltLine.hasWord_loseWord (w : Nat × Nat) (l : FeltLine) (slice word : Nat) :
    (l.loseWord w).hasWord slice word = l.hasWord slice word := by
  have acc : (l.loseWord w).acc = l.acc := by
    unfold FeltLine.loseWord
    split <;> rfl
  rw [FeltLine.hasWord, acc, FeltLine.hasWord]

/-- A line that loses a word is broke, and one that is broke stays so. -/
theorem FeltLine.broke_loseWord {w : Nat × Nat} {l : FeltLine}
    (h : l.hasWord w.1 w.2 = true ∨ l.line.flags.broke = true) : (l.loseWord w).line.flags.broke = true := by
  unfold FeltLine.loseWord
  split
  · rfl
  · rename_i other
    exact h.resolve_left other

/-- The line once the words `ue` of its closure were uncorrectable. -/
def FeltLine.loseWords (ue : List (Fin 38 × Fin 44)) (l : FeltLine) : FeltLine :=
  ue.foldl (fun l w => l.loseWord (w.1.val, w.2.val)) l

theorem FeltLine.loseWords_own (ue : List (Fin 38 × Fin 44)) (l : FeltLine) :
    (l.loseWords ue).line.prod = l.line.prod ∧ (l.loseWords ue).line.seq = l.line.seq := by
  induction ue generalizing l with
  | nil => exact ⟨rfl, rfl⟩
  | cons w ue ih =>
    obtain ⟨prod, seq⟩ := l.loseWord_own (w.1.val, w.2.val)
    exact ⟨(ih _).1.trans prod, (ih _).2.trans seq⟩

theorem FeltLine.broke_loseWords {ue : List (Fin 38 × Fin 44)} {l : FeltLine}
    (h : ue.any (fun w => l.hasWord w.1.val w.2.val) = true ∨ l.line.flags.broke = true) :
    (l.loseWords ue).line.flags.broke = true := by
  induction ue generalizing l with
  | nil => exact h.resolve_left nofun
  | cons w ue ih =>
    refine ih (l := l.loseWord (w.1.val, w.2.val)) ?_
    simp only [FeltLine.hasWord_loseWord]
    rw [List.any_cons, Bool.or_eq_true] at h
    rcases h with (here | later) | broke
    · exact .inr (FeltLine.broke_loseWord (.inl here))
    · exact .inl later
    · exact .inr (FeltLine.broke_loseWord (.inr broke))

/-- The words met as the accumulators of a line are read: `ce` corrected, those of `ue` uncorrectable. -/
def State.readWords (p seq ce : Nat) (ue : List (Fin 38 × Fin 44)) (s : State) : State :=
  (s.accCorrected ce).each ue fun w s => s.accUncorrectable p seq w.1 w.2

theorem State.accUncorrectable_eq (p seq slice word : Nat) (s : State) : s.accUncorrectable p seq slice word =
    ((s.raise R.fltEvtEccUe).count R.fltUeCnt 1).onLine p seq (·.loseWord (slice, word)) := rfl

theorem State.accCorrected_felt (n : Nat) (s : State) : (s.accCorrected n).felt = s.felt :=
  State.iff_same State.felt (fun v => by simp) s

theorem State.accUncorrectable_stock (p seq slice word : Nat) (s : State) :
    (s.accUncorrectable p seq slice word).felt.stock = s.felt.stock := by
  rw [State.accUncorrectable_eq, State.onLine_stock]
  simp

theorem State.openLine_accUncorrectable (p seq slice word : Nat) (s : State) :
    (s.accUncorrectable p seq slice word).openLine p seq = (s.openLine p seq).map (·.loseWord (slice, word)) := by
  rw [State.accUncorrectable_eq, State.openLine_onLine (FeltLine.loseWord_own _), State.openLine_congr (s := s)]
  simp

/-- Reading the accumulators puts nothing onto the stock stream. -/
theorem State.readWords_stock (p seq ce : Nat) (ue : List (Fin 38 × Fin 44)) (s : State) :
    (s.readWords p seq ce ue).felt.stock = s.felt.stock :=
  State.each_keeps (p := fun v => v.felt.stock = s.felt.stock)
    (fun _ v h => (State.accUncorrectable_stock _ _ _ _ v).trans h) ue
    (congrArg Felt.stock (State.accCorrected_felt ce s))

/-- The line is still open, without the words it lost. -/
theorem State.openLine_readWords {p seq : Nat} {s : State} {l : FeltLine} (h : s.openLine p seq = some l) (ce : Nat)
    (ue : List (Fin 38 × Fin 44)) : (s.readWords p seq ce ue).openLine p seq = some (l.loseWords ue) := by
  have corrected : (s.accCorrected ce).openLine p seq = some l := by
    rw [State.openLine_congr (congrArg Felt.lines (State.accCorrected_felt ce s)), h]
  unfold State.readWords
  generalize s.accCorrected ce = v at corrected
  clear h
  induction ue generalizing v l with
  | nil => exact corrected
  | cons w ue ih =>
    refine ih _ ?_
    rw [State.openLine_accUncorrectable, corrected, Option.map_some]

/-! ### What the words count (R89) -/

theorem State.fget_accCorrected_count (n : Nat) (s : State) :
    (s.accCorrected n).fget R.fltCeCnt = (s.fget R.fltCeCnt + n) % 2 ^ 32 := by
  unfold State.accCorrected State.iff
  cases n with
  | zero => exact (Nat.mod_eq_of_lt (s.fget_lt R.fltCeCnt)).symm
  | succ n =>
    rw [if_pos (decide_eq_true n.succ_pos), State.fget_count_same _ _ _ (by decide),
      State.fget_raise _ (by decide) (by decide)]
    rfl

theorem State.fget_accCorrected_event {n : Nat} (met : 0 < n) (s : State) :
    (s.accCorrected n).fget R.fltEvtEccCe = 1 := by
  unfold State.accCorrected State.iff
  rw [if_pos (decide_eq_true met), State.fget_count_reg _ _ (by decide)]
  exact State.flag_raise _ _ (by decide) rfl

/-- Corrected words leave every other register of the felt alone. -/
theorem State.fget_accCorrected_other {g : Fld} (event : g.off ≠ R.fltEvtEccCe.off) (count : g.off ≠ R.fltCeCnt.off)
    (attn : g.off ≠ 0x000008) (n : Nat) (s : State) : (s.accCorrected n).fget g = s.fget g :=
  State.iff_same (·.fget g) (fun v => by rw [State.fget_count_reg _ _ count, State.fget_raise _ event attn]) s

theorem State.fget_accUncorrectable_count (p seq slice word : Nat) (s : State) :
    (s.accUncorrectable p seq slice word).fget R.fltUeCnt = (s.fget R.fltUeCnt + 1) % 2 ^ 32 := by
  rw [State.accUncorrectable_eq, State.fget_onLine, State.fget_count_same _ _ _ (by decide),
    State.fget_raise _ (by decide) (by decide)]
  rfl

theorem State.fget_accUncorrectable_event (p seq slice word : Nat) (s : State) :
    (s.accUncorrectable p seq slice word).fget R.fltEvtEccUe = 1 := by
  rw [State.accUncorrectable_eq, State.fget_onLine, State.fget_count_reg _ _ (by decide)]
  exact State.flag_raise _ _ (by decide) rfl

theorem State.fget_accUncorrectable_corrected (p seq slice word : Nat) (s : State) :
    (s.accUncorrectable p seq slice word).fget R.fltCeCnt = s.fget R.fltCeCnt := by
  rw [State.accUncorrectable_eq, State.fget_onLine, State.fget_count_reg _ _ (by decide),
    State.fget_raise _ (by decide) (by decide)]

theorem State.fget_accUncorrectable_correctedEvent (p seq slice word : Nat) (s : State) :
    (s.accUncorrectable p seq slice word).fget R.fltEvtEccCe = s.fget R.fltEvtEccCe := by
  rw [State.accUncorrectable_eq, State.fget_onLine, State.fget_count_reg _ _ (by decide)]
  exact State.fget_raise_bits _ rfl (by decide) (by decide)

section
variable (p seq ce : Nat) (ue : List (Fin 38 × Fin 44)) (s : State)

theorem State.fget_readWords_corrected :
    (s.readWords p seq ce ue).fget R.fltCeCnt = (s.fget R.fltCeCnt + ce) % 2 ^ 32 :=
  State.each_keeps (p := fun v => v.fget R.fltCeCnt = (s.fget R.fltCeCnt + ce) % 2 ^ 32)
    (fun _ v h => (State.fget_accUncorrectable_corrected _ _ _ _ v).trans h) ue (s.fget_accCorrected_count ce)

theorem State.fget_readWords_uncorrectable :
    (s.readWords p seq ce ue).fget R.fltUeCnt = (s.fget R.fltUeCnt + ue.length) % 2 ^ 32 := by
  rw [← State.fget_accCorrected_other (g := R.fltUeCnt) (by decide) (by decide) (by decide) ce s]
  unfold State.readWords
  generalize s.accCorrected ce = v
  induction ue generalizing v with
  | nil => exact (Nat.mod_eq_of_lt (v.fget_lt R.fltUeCnt)).symm
  | cons w ue ih =>
    refine (ih (v.accUncorrectable p seq w.1 w.2)).trans ?_
    rw [State.fget_accUncorrectable_count, Nat.mod_add_mod, List.length_cons, Nat.add_assoc, Nat.add_comm 1]

theorem State.fget_readWords_correctedEvent (met : 0 < ce) : (s.readWords p seq ce ue).fget R.fltEvtEccCe = 1 :=
  State.each_keeps (p := fun v => v.fget R.fltEvtEccCe = 1)
    (fun _ v h => (State.fget_accUncorrectable_correctedEvent _ _ _ _ v).trans h) ue (s.fget_accCorrected_event met)

theorem State.fget_readWords_uncorrectableEvent (met : ue ≠ []) :
    (s.readWords p seq ce ue).fget R.fltEvtEccUe = 1 :=
  State.each_reaches (p := fun _ => True) (q := fun v => v.fget R.fltEvtEccUe = 1) (List.head_mem met)
    (fun _ _ _ => trivial) (fun v _ => State.fget_accUncorrectable_event _ _ _ _ v)
    (fun _ v _ => State.fget_accUncorrectable_event _ _ _ _ v) trivial

end

/-! ### A line closes (R97 to R101) -/

/-- A closed line is the open one's in product and sequence, and as broke. -/
theorem State.closed_own (s : State) (l : FeltLine) : (s.closed l).prod = l.line.prod ∧
    (s.closed l).seq = l.line.seq ∧ (s.closed l).flags.broke = l.line.flags.broke := by
  unfold State.closed
  dsimp only
  split <;> split <;> exact ⟨rfl, rfl, rfl⟩

theorem State.sendDark_lines (vc : Nat) (s : State) : (s.sendDark vc).felt.lines = s.felt.lines := by
  unfold State.sendDark
  split <;> rfl

theorem State.toStock_lines (l : Line) (s : State) : (s.toStock l).felt.lines = s.felt.lines := by
  have stocked : (s.stocked l).felt.lines = s.felt.lines := by rw [State.stocked_felt]
  unfold State.toStock
  dsimp only
  split
  · exact (State.sendDark_lines ..).trans stocked
  · exact stocked

/-- An open line leaves the felt, ahead of its place on the stock stream. -/
def State.takeOff (l : FeltLine) (s : State) : State :=
  (s.modFelt fun f =>
    { f with lines := f.lines.filter fun o => !(o.line.prod == l.line.prod && o.line.seq == l.line.seq),
             shells := if l.taps = 0 || l.closing then f.shells
               else f.shells ++ [{ l with acc := [], lost := [], passed := [], got := [] }] }).iff
    (l.acc.any fun (c, a) => clipped a && l.at c == a) fun s => s.count R.fltClipCnt 1

theorem State.closeLine_eq (l : FeltLine) (s : State) : s.closeLine l = (s.takeOff l).toStock (s.closed l) := rfl

theorem State.takeOff_lines (l : FeltLine) (s : State) : (s.takeOff l).felt.lines =
    s.felt.lines.filter fun o => !(o.line.prod == l.line.prod && o.line.seq == l.line.seq) :=
  State.iff_same (·.felt.lines) (fun v => congrArg Felt.lines (v.count_felt _ _)) _

theorem State.takeOff_stock (l : FeltLine) (s : State) : (s.takeOff l).felt.stock = s.felt.stock :=
  State.iff_same (·.felt.stock) (fun v => congrArg Felt.stock (v.count_felt _ _)) _

/-- A line that closes is no longer open. -/
theorem State.openLine_closeLine (l : FeltLine) (s : State) :
    (s.closeLine l).openLine l.line.prod l.line.seq = none := by
  unfold State.openLine
  rw [State.closeLine_eq, State.toStock_lines, State.takeOff_lines, List.find?_eq_none]
  intro o left still
  have gone := (List.mem_filter.mp left).2
  rw [Bool.and_eq_true, decide_eq_true_eq, decide_eq_true_eq] at still
  obtain ⟨prod, seq⟩ := still
  rw [prod, seq, beq_self_eq_true, beq_self_eq_true] at gone
  cases gone

/-- It stands on the stock stream, behind what stood there. -/
theorem State.closeLine_stock (l : FeltLine) (s : State) :
    ∃ rest, (s.closeLine l).felt.stock = s.felt.stock ++ (.line (s.closed l) :: rest) := by
  obtain ⟨-, rest, stock⟩ := State.toStock_felt (s.closed l) (s.takeOff l)
  exact ⟨rest, by rw [State.closeLine_eq, stock, State.takeOff_stock]⟩

/-- Of the registers, a closure changes the count of clipped lines alone. -/
theorem State.fget_closeLine {g : Fld} (other : g.off ≠ R.fltClipCnt.off) (l : FeltLine) (s : State) :
    (s.closeLine l).fget g = s.fget g := by
  have stock (v : State) (k : Line) : (v.toStock k).fget g = v.fget g :=
    State.fget_regs ((State.toStock_frame k v).1 .regs rfl) g
  rw [State.closeLine_eq, stock]
  exact State.iff_same (·.fget g) (fun v => State.fget_count_reg _ _ other) _

/-- A line that may close, and whose turn it is, closes once its words are read. -/
theorem State.closure_closes {p seq : Nat} {s : State} {l : FeltLine} (isOpen : s.openLine p seq = some l)
    (closable : s.closable l = true) (turn : s.itsTurn l = true) (ce : Nat) (ue : List (Fin 38 × Fin 44)) :
    s.closure p seq ce ue = (s.readWords p seq ce ue).closeLine (l.loseWords ue) := by
  have read := State.openLine_readWords isOpen ce ue
  unfold State.readWords at read ⊢
  unfold State.closure
  rw [isOpen]
  dsimp only
  rw [closable, turn, Bool.and_self, if_pos rfl, read]

/-- A line whose turn has not come waits. -/
theorem State.closure_waits {p seq : Nat} {s : State} {l : FeltLine} (isOpen : s.openLine p seq = some l)
    (turn : s.itsTurn l = false) (ce : Nat) (ue : List (Fin 38 × Fin 44)) : s.closure p seq ce ue = s := by
  unfold State.closure
  rw [isOpen]
  dsimp only
  rw [turn, Bool.and_false, if_neg nofun]

theorem State.closure_of_none {p seq : Nat} {s : State} (shut : s.openLine p seq = none) (ce : Nat)
    (ue : List (Fin 38 × Fin 44)) : s.closure p seq ce ue = s := by
  unfold State.closure
  rw [shut]

/-- Dark statistics that no line has followed for a ream are sent as they are. -/
theorem execDarkStatsTimeout_sends {s : State} {ream n : Nat} {means : List Int}
    (due : s.felt.due = some (ream, n, means)) (late : n + 2 ^ s.tb.reamK ≤ s.tb.nextSeq) :
    execDarkStatsTimeout s = .next { s with felt := { s.felt with
      due := none, stock := s.felt.stock ++ [StockItem.dark 0 ream means] } } := by
  simp only [execDarkStatsTimeout, State.sendDark, due]
  rw [if_pos late]
  rfl

/-- Settles O14: a line that may close and whose turn it is closes once its words are read, which count and may have
made it broke; it is then the next item of the stock stream. -/
theorem linesCloseOntoTheStockStream : Obligations.LinesCloseOntoTheStockStream := by
  unfold Obligations.LinesCloseOntoTheStockStream
  refine ⟨fun p seq s l isOpen closable turn => ?closes, fun p seq ce ue s l isOpen closable turn => ?words,
    fun p seq ce ue s l isOpen turn => ?waits, fun p seq ce ue s shut => ?absent,
    fun s ream n means due late => execDarkStatsTimeout_sends due late⟩
  case closes =>
    obtain ⟨prod, own⟩ := State.openLine_own isOpen
    refine .of_eq rfl (State.closure_closes isOpen closable turn 0 []) ⟨?_, State.closeLine_stock l s⟩
    rw [← prod, ← own]
    exact State.openLine_closeLine l s
  case words =>
    obtain ⟨prod, own⟩ := State.openLine_own isOpen
    obtain ⟨lostProd, lostSeq⟩ := l.loseWords_own ue
    let u := s.readWords p seq ce ue
    obtain ⟨rest, stock⟩ := State.closeLine_stock (l.loseWords ue) u
    obtain ⟨closedProd, closedSeq, closedBroke⟩ := u.closed_own (l.loseWords ue)
    obtain ⟨wasProd, wasSeq, -⟩ := s.closed_own l
    refine .of_eq rfl (State.closure_closes isOpen closable turn ce ue)
      ⟨?_, ?_, ?_, fun met => ?_, fun met => ?_, u.closed (l.loseWords ue), rest, ?_, ?_, ?_, fun hit => ?_⟩
    · rw [← prod, ← own, ← lostProd, ← lostSeq]
      exact State.openLine_closeLine ..
    · exact (State.fget_closeLine (by decide) ..).trans (State.fget_readWords_corrected ..)
    · exact (State.fget_closeLine (by decide) ..).trans (State.fget_readWords_uncorrectable ..)
    · exact (State.fget_closeLine (by decide) ..).trans (State.fget_readWords_correctedEvent p seq ce ue s met)
    · exact (State.fget_closeLine (by decide) ..).trans (State.fget_readWords_uncorrectableEvent p seq ce ue s met)
    · rw [stock, State.readWords_stock]
    · rw [closedSeq, lostSeq, wasSeq]
    · rw [closedProd, lostProd, wasProd]
    · rw [closedBroke]
      exact FeltLine.broke_loseWords (.inl hit)
  case waits => exact congrArg Host.Outcome.next (State.closure_waits isOpen turn ce ue)
  case absent => exact congrArg Host.Outcome.next (State.closure_of_none shut ce ue)

end Sys2Proof.Machine
end

section
/-! The opcodes of the dark-offset tables (R79, R276, R429): what a started packet runs, what the tables hold once a
block or a capture is written, and how a capture ends. -/

namespace Sys2Proof.Machine

/-! ### Started packets (R276) -/

theorem State.pelquel_started {r : PktRef} {op : Nat} {cancel : Bool} {s : State} {k : Packet}
    (h : s.started r op cancel = some k) (f : Packet → State → State) : s.pelquel r op cancel f = f k s := by
  unfold State.pelquel
  rw [h]

/-- A packet that has started stands in the list of packets. -/
theorem State.packet_of_started {r : PktRef} {op : Nat} {cancel : Bool} {s : State} {k : Packet}
    (h : s.started r op cancel = some k) : s.packet r = some k := by
  unfold State.started at h
  split at h
  · rename_i p found
    split at h
    · rw [found, h]
    · cases h
  · cases h

theorem State.ref_of_packet {r : PktRef} {s : State} {k : Packet} (h : s.packet r = some k) : k.ref = r := by
  simpa using List.find?_some (p := fun p : Packet => decide (p.ref = r)) h

theorem State.ref_of_started {r : PktRef} {op : Nat} {cancel : Bool} {s : State} {k : Packet}
    (h : s.started r op cancel = some k) : k.ref = r := State.ref_of_packet (State.packet_of_started h)

/-- A Pelquel step of a started packet answers what its opcode makes of it. -/
theorem next_of_started {r : PktRef} {op : Nat} {cancel : Bool} {s t : State} {k : Packet}
    {f : Packet → State → State} (h : s.started r op cancel = some k) (effect : f k s = t) :
    (.next (s.pelquel r op cancel f) : Answer) = .next t :=
  congrArg Host.Outcome.next ((State.pelquel_started h f).trans effect)

/-- A change of a packet that keeps its reference is found under it. -/
theorem State.packet_onPacket {r : PktRef} {g : Packet → Packet} (own : ∀ p, (g p).ref = p.ref) (s : State) :
    (s.onPacket r g).packet r = (s.packet r).map g := by
  have pick : ((fun p : Packet => decide (p.ref = r)) ∘ fun p => if p.ref = r then g p else p) =
      fun p : Packet => decide (p.ref = r) := by
    funext p
    rw [Function.comp_apply]
    split
    · rw [own]
    · rfl
  show (s.cmd.packets.map fun p => if p.ref = r then g p else p).find? _ = _
  rw [List.find?_map, pick]
  unfold State.packet
  cases found : s.cmd.packets.find? fun p => decide (p.ref = r) with
  | none => rfl
  | some p => rw [Option.map_some, Option.map_some, if_pos (State.ref_of_packet found)]

theorem State.packet_runOn {r : PktRef} {s : State} {k : Packet} (h : s.packet r = some k) :
    (s.runOn r).packet r = some { k with stage := .running } := by
  refine (State.packet_onPacket ?_ s).trans ?_
  · exact fun _ => rfl
  · rw [h, Option.map_some]

/-! ### Lookups in a list by key -/

theorem mget_append {α : Type} (k : Nat) (l m : List (Nat × α)) : mget k (l ++ m) = (mget k l).or (mget k m) := by
  induction l with
  | nil => rfl
  | cons e l ih =>
    rw [List.cons_append, mget, mget]
    split
    · rfl
    · exact ih

theorem mget_filter {α : Type} (q : Nat → Bool) (k : Nat) (m : List (Nat × α)) :
    mget k (m.filter fun e => q e.1) = if q k then mget k m else none := by
  induction m with
  | nil => simp [mget]
  | cons e m ih =>
    rw [List.filter_cons]
    by_cases same : k = e.1
    · subst same
      cases keep : q e.1 <;> simp [mget, ih, keep]
    · cases q e.1 <;> simp [mget, ih, same]

/-- A run of values listed under the keys from `lo` on. -/
theorem mget_run {α : Type} (k lo : Nat) (vs : List α) :
    mget k (vs.mapIdx fun i v => (lo + i, v)) = if lo ≤ k then vs[k - lo]? else none := by
  induction vs generalizing lo with
  | nil => simp [mget]
  | cons v vs ih =>
    have next : (fun i v => (lo + (i + 1), v)) = fun (i : Nat) (v : α) => (lo + 1 + i, v) := by
      funext i v
      rw [Nat.add_assoc, Nat.add_comm 1]
    rw [List.mapIdx_cons, next, mget, ih]
    rcases Nat.lt_trichotomy k lo with before | rfl | after
    · rw [if_neg (by omega), if_neg (by omega), if_neg (by omega)]
    · simp
    · rw [if_neg (by omega), if_pos (by omega), if_pos (by omega), show k - lo = k - (lo + 1) + 1 by omega,
        List.getElem?_cons_succ]

/-- A lookup in a list with a run of keys replaced: before the run, in it, or behind it. -/
theorem mget_replaceRun (k lo : Nat) (vs : List Int) (t : Table) : mget k (replaceRun lo vs t) =
    ((if k < lo then mget k t else none).or (if lo ≤ k then vs[k - lo]? else none)).or
      (if lo + vs.length ≤ k then mget k t else none) := by
  unfold replaceRun
  rw [mget_append, mget_append, mget_filter (fun j => decide (j < lo)),
    mget_filter (fun j => decide (lo + vs.length ≤ j)), mget_run]
  simp only [decide_eq_true_eq]

/-- Within the keys replaced stand the new values. -/
theorem mget_replaceRun_inside {i : Nat} {vs : List Int} (h : i < vs.length) (lo : Nat) (t : Table) :
    mget (lo + i) (replaceRun lo vs t) = vs[i]? := by
  rw [mget_replaceRun, if_neg (by omega), if_pos (by omega), if_neg (by omega), Nat.add_sub_cancel_left,
    Option.none_or, Option.or_none]

/-- The keys outside keep what they had. -/
theorem mget_replaceRun_outside {k lo : Nat} {vs : List Int} (h : k < lo ∨ lo + vs.length ≤ k) (t : Table) :
    mget k (replaceRun lo vs t) = mget k t := by
  rw [mget_replaceRun]
  rcases h with below | above
  · rw [if_pos below, if_neg (by omega), if_neg (by omega), Option.or_none, Option.or_none]
  · rw [if_neg (by omega), if_pos (by omega), if_pos above, List.getElem?_eq_none (by omega), Option.or_none,
      Option.none_or]

/-! ### Dark-offset tables (R79) -/

/-- An entry of the block written is the value written for its column. -/
theorem TableBank.dark_putDark_same (area : Bool) {sb c : Nat} {vs : List Int} (h : c < vs.length) (t : TableBank) :
    (t.putDark area (darkKey sb 0) vs).dark area sb c = vs[c] := by
  have key : darkKey sb c = darkKey sb 0 + c := by rw [darkKey, darkKey, Nat.add_zero]
  have entry (m : Table) : mget (darkKey sb c) (replaceRun (darkKey sb 0) vs m) = some vs[c] := by
    rw [key, mget_replaceRun_inside h, List.getElem?_eq_getElem h]
  cases area with
  | false => exact congrArg (Option.getD · _) (entry t.darkTdi)
  | true => exact congrArg (Option.getD · _) (entry t.darkArea)

/-- A block written leaves the others of its table alone. -/
theorem TableBank.dark_putDark_other (area : Bool) {sb b c : Nat} {vs : List Int} (block : vs.length = 16416)
    (col : c < 16416) (other : sb ≠ b) (t : TableBank) :
    (t.putDark area (darkKey b 0) vs).dark area sb c = t.dark area sb c := by
  have outside : darkKey sb c < darkKey b 0 ∨ darkKey b 0 + vs.length ≤ darkKey sb c := by
    unfold darkKey
    omega
  cases area with
  | false => exact congrArg (Option.getD · _) (mget_replaceRun_outside outside t.darkTdi)
  | true => exact congrArg (Option.getD · _) (mget_replaceRun_outside outside t.darkArea)

/-- Where a capture lists no sum of a column, its entry is that of all others. -/
theorem TableBank.dark_captured (area : Bool) (rest : Int) (t : TableBank) (sb c : Nat) :
    (t.captured area [] rest).dark area sb c = rest := by
  cases area <;> rfl

theorem State.onTables_same (b : Fin 2) (g : TableBank → TableBank) (s : State) :
    (s.onTables b g).cal.banks[b] = g s.cal.banks[b] := vupd_same ..

theorem pickBank_beq (n : Nat) : pickBank (n == 1) = if n = 1 then 1 else 0 := by
  simp [pickBank]

/-- Of the two banks, the one that the furnish in force does not select. -/
theorem bank_of_ne : ∀ a b : Fin 2, b ≠ a → (if a = 0 then 1 else 0) = b := by decide

/-! ### DARK_CAPTURE and its end (R276) -/

section
variable {r : PktRef} {k : Packet} {s : State} (start : s.started r 0x0200 false = some k)
include start

theorem execDarkCapture_bad (n : k.par 1 1 < 4 ∨ 12 < k.par 1 1) : execDarkCapture r s = .next (s.done r 2 0 0) := by
  refine next_of_started start ?_
  rw [State.darkCapture, State.ref_of_started start]
  exact if_pos n

section
variable {b : Fin 2} (lo : 4 ≤ k.par 1 1) (hi : k.par 1 1 ≤ 12) (other : b ≠ s.fu.inForce.darkBank)
include lo hi other

theorem execDarkCapture_used (used : s.darkUsed b = true) : execDarkCapture r s = .next (s.done r 3 0x20 0) := by
  refine next_of_started start ?_
  unfold State.darkCapture
  dsimp only
  rw [State.ref_of_started start, if_neg (by omega), bank_of_ne _ _ other, if_pos used]

theorem execDarkCapture_runs (free : s.darkUsed b = false) : execDarkCapture r s = .next
    ((s.modCmd fun c => { c with capture := some (r, b.val, k.par 0 1 % 2, k.par 1 1, s.now, false) }).runOn r) := by
  refine next_of_started start ?_
  unfold State.darkCapture
  dsimp only
  rw [State.ref_of_started start, if_neg (by omega), bank_of_ne _ _ other, free, if_neg nofun]

end

end

theorem State.capturing_of_capture {r : PktRef} {b tab n at' : Nat} {void : Bool} {s : State}
    (h : s.cmd.capture = some (r, b, tab, n, at', void)) : s.capturing r = some (b, tab, n, at') := by
  unfold State.capturing
  rw [h]
  exact if_pos rfl

section
variable {r : PktRef} {sums : List (Nat × Nat × Nat)} {b : Fin 2} {rest tab n at' : Nat} {s : State}
  (going : s.capturing r = some (b.val, tab, n, at'))
include going

theorem execDarkCaptureDone_early (early : s.triggered at' = false) : execDarkCaptureDone r sums rest s = .next s := by
  simp [execDarkCaptureDone, State.captureDone, going, early]

/-- The bank is judged again as the capture ends. -/
theorem execDarkCaptureDone_used (trig : s.triggered at' = true) (used : s.darkUsed b = true) :
    execDarkCaptureDone r sums rest s = .next ((s.modCmd fun c => { c with capture := none }).done r 3 0x20 0) := by
  unfold execDarkCaptureDone State.captureDone
  rw [going]
  dsimp only
  rw [trig, if_neg nofun, Fin.ofNat_val_eq_self]
  exact congrArg Host.Outcome.next (if_pos used)

/-- A capture that lists no sum makes one entry of every column, which is clipped in all of them or in none. -/
theorem execDarkCaptureDone_rest (trig : s.triggered at' = true) (free : s.darkUsed b = false) :
    execDarkCaptureDone r [] rest s = .next (((s.modCmd fun c => { c with capture := none }).onTables b
      (·.captured (tab == 1) [] (darkEntry n rest).1)).done r 0 0
        (if (darkEntry n rest).2 then 32 * 16416 else 0)) := by
  unfold execDarkCaptureDone State.captureDone
  rw [going]
  dsimp only
  rw [trig, if_neg nofun, Fin.ofNat_val_eq_self]
  refine congrArg Host.Outcome.next ((if_neg (Bool.eq_false_iff.mp free)).trans ?_)
  simp [sumTable, darkEntries]

end

section
variable {r : PktRef} {b tab n at' : Nat} {s : State} (going : s.capturing r = some (b, tab, n, at'))
include going

theorem execDarkCaptureTimeout_ends (early : s.triggered at' = false) (late : at' + 1000000000 ≤ s.now) :
    execDarkCaptureTimeout r s = .next ((s.modCmd fun c => { c with capture := none }).done r 0x0D 0 0) := by
  simp [execDarkCaptureTimeout, State.captureLate, going, early, Nat.not_lt.mpr late]

theorem execDarkCaptureTimeout_waits (h : s.triggered at' = true ∨ s.now < at' + 1000000000) :
    execDarkCaptureTimeout r s = .next s := by
  simp [execDarkCaptureTimeout, State.captureLate, going, h]

end

/-! ### DARK_WRITE and DARK_READ (R276) -/

section
variable {r : PktRef} {k : Packet} {s : State} (start : s.started r 0x0201 false = some k)
include start

theorem execDarkWrite_bad (block : 31 < k.par 1 1) : execDarkWrite r s = .next (s.done r 2 0 0) := by
  refine next_of_started start ?_
  unfold State.darkWrite
  dsimp only
  rw [State.ref_of_started start, if_pos block]

theorem execDarkWrite_used (block : k.par 1 1 < 32) (used : s.darkUsed (pickBank (k.par 0 1 % 2 == 1)) = true) :
    execDarkWrite r s = .next (s.done r 3 0x20 0) := by
  refine next_of_started start ?_
  unfold State.darkWrite
  dsimp only
  rw [State.ref_of_started start, if_neg (by omega), if_pos used]

theorem execDarkWrite_writes (block : k.par 1 1 < 32) (free : s.darkUsed (pickBank (k.par 0 1 % 2 == 1)) = false) :
    execDarkWrite r s = .next
      ((s.onTables (pickBank (k.par 0 1 % 2 == 1)) (·.putDark (k.par 0 1 / 2 % 2 == 1) (darkKey (k.par 1 1) 0)
        (k.halves.map fun (v : Nat) => (v : Int)))).done r 0 0 0) := by
  refine next_of_started start ?_
  unfold State.darkWrite
  dsimp only
  rw [State.ref_of_started start, if_neg (by omega), free, if_neg nofun]

end

theorem execDarkRead_reads {r : PktRef} {k : Packet} {s : State} (start : s.started r 0x0202 false = some k)
    (block : k.par 1 1 < 32) (asked : k.par 4 2 ≠ 0) (fits : k.par 2 2 + k.par 4 2 ≤ 16416)
    (short : tooLong r (2 * k.par 4 2) = false) : execDarkRead r s = .next
      (s.complete r 0 0 0 ((List.range (k.par 4 2)).flatMap fun i =>
        leBytes 2 (unsigned 16 ((s.cal.banks[pickBank (k.par 0 1 % 2 == 1)]).dark (k.par 0 1 / 2 % 2 == 1) (k.par 1 1)
          (k.par 2 2 + i))))) := by
  refine next_of_started start ?_
  unfold State.darkRead
  dsimp only
  rw [State.ref_of_started start, if_neg asked, if_neg (by omega), if_neg (by omega), State.giveData, short,
    if_neg nofun]

/-- Settles O34: each opcode runs on its started packet; a capture writes one entry of every column, a write the keys
of its block. -/
theorem darkTables : Obligations.DarkTables := by
  unfold Obligations.DarkTables
  refine ⟨fun r k s start n => execDarkCapture_bad start n,
    fun r k b s start lo hi other =>
      ⟨fun used => execDarkCapture_used start lo hi other used, fun free => ?runs⟩,
    fun r sums rest b tab n at' s going trig free unlisted => ?ends,
    fun r sums rest b tab n at' s going =>
      ⟨fun early => execDarkCaptureDone_early going early, fun trig used => execDarkCaptureDone_used going trig used⟩,
    fun r b tab n at' s going early late => execDarkCaptureTimeout_ends going early late,
    fun r b tab n at' s going h => execDarkCaptureTimeout_waits going h,
    fun r k b area s start bank table block free halves => ?writes,
    fun r k s start => ⟨fun block => execDarkWrite_bad start block, fun block used => ?inUse⟩,
    fun r k b s start bank block asked fits short => ?reads⟩
  case runs =>
    exact ⟨_, execDarkCapture_runs start lo hi other free, State.capturing_of_capture rfl,
      State.packet_runOn (State.packet_of_started start)⟩
  case ends =>
    subst unlisted
    refine ⟨_, execDarkCaptureDone_rest going trig free, rfl, fun sb c => ?_⟩
    rw [State.onTables_same, TableBank.dark_captured]
    rfl
  case writes =>
    rw [← pickBank_beq] at bank
    subst bank table
    have length : (k.halves.map fun (v : Nat) => (v : Int)).length = 16416 := by rw [List.length_map, halves]
    refine ⟨_, execDarkWrite_writes start block free, fun c col => ?_, fun sb c _ col other => ?_⟩
    · rw [State.onTables_same, TableBank.dark_putDark_same _ (by rw [length]; exact col), List.getElem_map,
        List.getElem?_eq_getElem]
      rfl
    · rw [State.onTables_same, TableBank.dark_putDark_other _ length col other]
  case inUse =>
    rw [← pickBank_beq] at used
    exact execDarkWrite_used start block used
  case reads =>
    rw [← pickBank_beq] at bank
    subst bank
    exact execDarkRead_reads start block asked fits short

end Sys2Proof.Machine
end

section
/-! Commits (R110 to R112, R117, R118, R127, R283, R430): what a capture adds to the furnish sequencer, what the end of
a commit, its check and its arming change there, and the release of a retained furnish. -/

namespace Sys2Proof.Machine

/-! ### Images of a list with one element changed -/

theorem map_modifyHead_of_eq {α β : Type} {f : α → β} {g : α → α} (h : ∀ a, f (g a) = f a) (l : List α) :
    (l.modifyHead g).map f = l.map f := by
  cases l with
  | nil => rfl
  | cons a l => simp [h]

theorem map_set_of_eq {α β : Type} {f : α → β} {l : List α} {i : Nat} {a b : α} (h : l[i]? = some a)
    (same : f b = f a) : (l.set i b).map f = l.map f := by
  obtain ⟨lt, rfl⟩ := List.getElem?_eq_some_iff.mp h
  rw [List.map_set, same, ← List.getElem_map f (h := by rwa [List.length_map]), List.set_getElem_self]

/-! ### Operations that leave the furnish sequencer alone -/

@[simp] theorem State.done_fu (r : PktRef) (st det res : Nat) (s : State) : (s.done r st det res).fu = s.fu :=
  (State.done_frame ..).1 .fu rfl

@[simp] theorem State.returnEnc0_fu (s : State) : s.returnEnc0.fu = s.fu := s.returnEnc0_frame.1 .fu rfl

@[simp] theorem State.furnReports_fu (s : State) : s.furnReports.fu = s.fu := s.furnReports_frame.1 .fu rfl

@[simp] theorem State.loadReamK_fu (s : State) : s.loadReamK.fu = s.fu := s.loadReamK_frame.1 .fu rfl

@[simp] theorem State.judgeStill_fu (s : State) : s.judgeStill.fu = s.fu := s.judgeStill_frame.1 .fu rfl

@[simp] theorem State.dropGuides_fu (s : State) : s.dropGuides.fu = s.fu := s.dropGuides_frame.1 .fu rfl

@[simp] theorem State.endStreams_fu (s : State) : s.endStreams.fu = s.fu := s.endStreams_frame.1 .fu rfl

/-! ### The outcome of a commit (R127) -/

/-- The sequencer once a commit of `who` has an outcome: RESULT takes it where it still follows that request. -/
def FurnishSeq.concluded (who : CommitBy) (res detail : Nat) (f : FurnishSeq) : FurnishSeq :=
  if who = .register f.reqNo then { f with result := res, detail := detail } else f

section
variable (who : CommitBy) (res detail : Nat) (f : FurnishSeq)

@[simp] theorem FurnishSeq.concluded_commits : (f.concluded who res detail).commits = f.commits := by
  unfold FurnishSeq.concluded
  split <;> rfl

@[simp] theorem FurnishSeq.concluded_inForce : (f.concluded who res detail).inForce = f.inForce := by
  unfold FurnishSeq.concluded
  split <;> rfl

@[simp] theorem FurnishSeq.concluded_accepted : (f.concluded who res detail).accepted = f.accepted := by
  unfold FurnishSeq.concluded
  split <;> rfl

end

theorem FurnishSeq.concluded_withCommits (who : CommitBy) (res detail : Nat) (f : FurnishSeq) (l : List Commit) :
    FurnishSeq.concluded who res detail { f with commits := l } = { f.concluded who res detail with commits := l } := by
  unfold FurnishSeq.concluded
  split <;> rfl

/-- The request that RESULT follows takes the outcome. -/
theorem FurnishSeq.concluded_own (res detail : Nat) (f : FurnishSeq) :
    f.concluded (.register f.reqNo) res detail = { f with result := res, detail := detail } := if_pos rfl

theorem State.furnResult_fu (n res detail : Nat) (s : State) :
    (s.furnResult n res detail).fu = s.fu.concluded (.register n) res detail := by
  simp [State.furnResult, FurnishSeq.concluded, eq_comm]

theorem State.commitDone_fu (c : Commit) (status detail line res : Nat) (s : State) :
    (s.commitDone c status detail line res).fu = s.fu.concluded c.by' res detail := by
  unfold State.commitDone
  cases c.by' with
  | packet p =>
    simp only [State.done_fu, FurnishSeq.concluded, reduceCtorEq, if_false]
    split <;> simp
  | register n =>
    simp only [State.raise_fu, State.furnResult_fu]
    split <;> simp

@[simp] theorem State.commitDone_tb (c : Commit) (status detail line res : Nat) (s : State) :
    (s.commitDone c status detail line res).tb = s.tb := (State.commitDone_frame ..).1 .tb rfl

/-! ### Coming into force before the first trigger (R430) -/

@[simp] theorem State.retire_commits (u : Furnish) (s : State) : (s.retire u).fu.commits = s.fu.commits := by
  unfold State.retire
  split <;> rfl

theorem State.install_commits (c : Commit) (s : State) : (s.install c).fu.commits = s.fu.commits := by
  unfold State.install State.iff
  split <;> simp

/-- The furnish captured comes into force; its record of the commits that enabled its streams is drawn up (R172). -/
theorem State.install_inForce (c : Commit) (s : State) :
    ∃ since, (s.install c).fu.inForce = { c.furnish with since := since } := by
  unfold State.install
  simp

theorem State.applyEarly_commits (c : Commit) (s : State) : (s.applyEarly c).fu.commits = s.fu.commits := by
  unfold State.applyEarly
  simp only [State.modTb_fu, State.dropGuides_fu, State.install_commits, State.modFu_fu]
  split
  · rw [State.commitDone_fu, FurnishSeq.concluded_commits]
  · exact State.retire_commits ..

theorem State.applyEarly_inForce (c : Commit) (s : State) :
    ∃ since, (s.applyEarly c).fu.inForce = { c.furnish with since := since } := by
  unfold State.applyEarly
  simp only [State.modTb_fu, State.dropGuides_fu]
  exact State.install_inForce ..

/-! ### Arming (R112) -/

/-- A commit armed where it is pending. -/
def Commit.armedAt (now : Nat) (c : Commit) : Commit := if c.stage = .pending then { c with stage := .armed now } else c

theorem Commit.armedAt_stage_ne (now : Nat) (c : Commit) : (c.armedAt now).stage ≠ .pending := by
  unfold Commit.armedAt
  split
  · nofun
  · assumption

/-- Arming changes neither the furnish nor who asked for it. -/
theorem Commit.armedAt_origin (now : Nat) (c : Commit) :
    ((c.armedAt now).furnish, (c.armedAt now).by') = (c.furnish, c.by') := by
  unfold Commit.armedAt
  split <;> rfl

theorem FurnishSeq.commits_same {f : FurnishSeq} {l : List Commit} (h : l = f.commits) : { f with commits := l } = f :=
  h ▸ rfl

theorem State.armOnce_settled {s : State} (h : ∀ c ∈ s.fu.commits.head?, c.stage ≠ .pending) : s.armOnce = s := by
  unfold State.armOnce
  split
  · rename_i c rest e
    exact if_neg (h c (by simp [e]))
  · rfl

/-- Once the oldest commit is armed or gone, arming changes nothing more. -/
theorem State.arm_eq_armOnce {s : State} (h : ∀ c ∈ s.armOnce.fu.commits.head?, c.stage ≠ .pending) :
    s.arm = s.armOnce := by
  show s.armOnce.armOnce.armOnce.armOnce = s.armOnce
  simp only [State.armOnce_settled h]

section
variable {s : State} (raised : s.tb.raisedRdy = true)
include raised

theorem State.armOnce_fu : s.armOnce.fu = { s.fu with commits := s.fu.commits.modifyHead (·.armedAt s.now) } := by
  unfold State.armOnce
  rw [raised]
  cases e : s.fu.commits with
  | nil => exact (FurnishSeq.commits_same e.symm).symm
  | cons c rest =>
    by_cases pending : c.stage = .pending
    · simp [pending, Commit.armedAt]
    · simp [pending, Commit.armedAt, FurnishSeq.commits_same e.symm]

theorem State.arm_fu : s.arm.fu = { s.fu with commits := s.fu.commits.modifyHead (·.armedAt s.now) } := by
  rw [State.arm_eq_armOnce, State.armOnce_fu raised]
  rw [State.armOnce_fu raised, List.head?_modifyHead]
  intro c mem
  obtain ⟨o, -, rfl⟩ := Option.map_eq_some_iff.mp mem
  exact o.armedAt_stage_ne s.now

end

/-- Before the first trigger a commit that alone is pending comes into force. -/
theorem State.arm_early {s : State} {c : Commit} (only : s.fu.commits = [c]) (pending : c.stage = .pending)
    (early : s.tb.raisedRdy = false) : s.arm = (s.modFu fun f => { f with commits := [] }).applyEarly c := by
  have once : s.armOnce = (s.modFu fun f => { f with commits := [] }).applyEarly c := by
    unfold State.armOnce
    rw [only]
    simp [pending, early]
  rw [State.arm_eq_armOnce, once]
  rw [once, State.applyEarly_commits]
  simp

/-! ### The check (R111) -/

/-- The RESULT of a commit refused with a status. -/
def refusedResult (st : Nat) : Nat := if st = 4 then 8 else if st = 3 then 0xA else 9

section
variable {s : State} {i : Nat} {c : Commit} (oldest : s.fu.commits.findIdx? (·.stage = .checking) = some i)
  (held : s.fu.commits[i]? = some c)
include oldest held

/-- A commit refused is gone, and the oldest of the others is armed. -/
theorem State.checkDone_refused {st det : Nat}
    (fails : s.checkFurnish c.furnish (s.fu.commits.take i) = some (st, det)) (raised : s.tb.raisedRdy = true) :
    s.checkDone.fu = { s.fu.concluded c.by' (refusedResult st) det with
      commits := (s.fu.commits.eraseIdx i).modifyHead (·.armedAt s.now) } := by
  unfold State.checkDone
  rw [oldest]
  dsimp only
  rw [held]
  dsimp only
  rw [fails]
  dsimp only
  rw [State.arm_fu (by simpa using raised), State.commitDone_fu]
  simp [FurnishSeq.concluded_withCommits, refusedResult, State.now]

/-- A commit accepted is pending, and then the oldest is armed. -/
theorem State.checkDone_accepted (passes : s.checkFurnish c.furnish (s.fu.commits.take i) = none) :
    ∃ u : State, s.checkDone = u.arm ∧ u.tb = s.tb ∧ u.fu.inForce = s.fu.inForce ∧ u.fu.accepted = true ∧
      u.fu.commits = s.fu.commits.set i { c with stage := .pending } := by
  unfold State.checkDone
  rw [oldest]
  dsimp only
  rw [held]
  dsimp only
  rw [passes]
  refine ⟨_, rfl, ?_⟩
  cases c.by' with
  | packet r => exact ⟨rfl, rfl, rfl, rfl⟩
  | register n => exact ⟨rfl, by simp [State.furnResult_fu]⟩

end

/-! ### Capture (R110, R283) -/

/-- A register commit goes behind every commit captured at other ticks. -/
theorem Commit.place_eq_append {c : Commit} {l : List Commit} (h : l.all (·.taken != c.taken) = true) :
    c.place l = l ++ [c] := by
  induction l with
  | nil => rfl
  | cons o l ih =>
    rw [List.all_cons, Bool.and_eq_true] at h
    have other : (o.taken == c.taken) = false := by simpa using h.1
    simp [Commit.place, other, ih h.2]

/-- The commit that a capture makes of the staging copy (R302). -/
def State.captured (s : State) (same : Bool) (id : BitVec 16) (kind : Nat) (x : WC) (who : CommitBy) : Commit :=
  { furnish := { id := id, regs := if same then s.before.fu.staging else s.fu.staging }, kind := kindOf kind, x := x,
    by' := who, taken := s.now }

/-- A capture looks at the staging copies and the clock. -/
theorem State.captured_congr {s t : State} (before : t.before = s.before) (fu : t.fu = s.fu) (tb : t.tb = s.tb)
    (same : Bool) (id : BitVec 16) (kind : Nat) (x : WC) (who : CommitBy) :
    t.captured same id kind x who = s.captured same id kind x who := by
  simp [State.captured, State.now, before, fu, tb]

theorem State.capture_packet (same : Bool) (id : BitVec 16) (kind : Nat) (x : WC) (r : PktRef) (s : State) :
    (s.capture same id kind x (.packet r)).fu.commits = s.fu.commits ++ [s.captured same id kind x (.packet r)] := rfl

/-- The commit that a request by register makes. -/
def State.requested (s : State) (same : Bool) : Commit :=
  s.captured same (BitVec.ofNat 16 (s.fget R.glbFurnIdStageId)) (s.fget R.glbFurnCmdKind)
    (BitVec.ofNat 48 (s.fget R.glbFurnWcLo + 2 ^ 32 * s.fget R.glbFurnWcHi)) (.register (s.fu.reqNo + 1))

theorem State.registerCommit_fu (same : Bool) (s : State) : (s.registerCommit same).fu =
    { s.fu with
      reqNo := s.fu.reqNo + 1, result := 1, detail := 0,
      commits := if same then (s.requested same).place s.fu.commits else s.fu.commits ++ [s.requested same] } := rfl

theorem State.requested_id (same : Bool) (s : State) :
    (s.requested same).furnish.id.toNat = s.fget R.glbFurnIdStageId :=
  (BitVec.toNat_ofNat ..).trans (Nat.mod_eq_of_lt (State.fget_lt R.glbFurnIdStageId s))

theorem State.requested_x (same : Bool) (s : State) :
    (s.requested same).x.toNat = s.fget R.glbFurnWcLo + 2 ^ 32 * s.fget R.glbFurnWcHi := by
  have low : s.fget R.glbFurnWcLo < 2 ^ 32 := State.fget_lt R.glbFurnWcLo s
  have high : s.fget R.glbFurnWcHi < 2 ^ 16 := State.fget_lt R.glbFurnWcHi s
  exact (BitVec.toNat_ofNat ..).trans (Nat.mod_eq_of_lt (by omega))

/-- Where no other commit was captured at this tick, the request goes behind all of them, in a core cycle of its own or
not. -/
theorem State.registerCommit_last {s : State} (same : Bool) (h : s.fu.commits.all (·.taken != s.now) = true) :
    (s.registerCommit same).fu.commits = s.fu.commits ++ [s.requested same] := by
  rw [State.registerCommit_fu, Commit.place_eq_append h]
  exact ite_self _

/-- A packet whose commit the fast path presents: counted and accepted. -/
def State.presented (r : PktRef) (s : State) : State := ((s.count R.cmdFastCnt 1).bump 0xD9 1).accept r

theorem State.presented_fu (r : PktRef) (s : State) : (s.presented r).fu = s.fu :=
  State.bump_fu (s.count R.cmdFastCnt 1) 0xD9 1

theorem State.captured_presented (r : PktRef) (s : State) (same : Bool) (id : BitVec 16) (kind : Nat) (x : WC)
    (who : CommitBy) : (s.presented r).captured same id kind x who = s.captured same id kind x who :=
  State.captured_congr (State.bump_before (s.count R.cmdFastCnt 1) 0xD9 1) (s.presented_fu r)
    (State.bump_tb (s.count R.cmdFastCnt 1) 0xD9 1) ..

theorem State.packet_presented {r : PktRef} {s : State} {k : Packet} (h : s.packet r = some k) :
    (s.presented r).packet r = some { k with stage := .accepted } := by
  have counted : ((s.count R.cmdFastCnt 1).bump 0xD9 1).packet r = some k := by
    rwa [State.packet, State.bump_cmd]
  refine (State.packet_onPacket ?_ _).trans ?_
  · exact fun _ => rfl
  · rw [counted, Option.map_some]

/-! ### Cancel (R117) -/

section
variable {s : State} {l : List Commit} {c : Commit}

theorem State.cancelCommit_none (empty : s.fu.commits = []) : s.cancelCommit = ((3, 2), s) := by
  unfold State.cancelCommit
  rw [empty]
  rfl

variable (newest : s.fu.commits = l ++ [c])
include newest

theorem State.cancelCommit_distributing (going : c.stage = .distributing) : s.cancelCommit = ((3, 1), s) := by
  simp [State.cancelCommit, newest, going]

theorem State.cancelCommit_removes (free : c.stage ≠ .distributing) :
    s.cancelCommit = ((0, 0), { s with fu := { s.fu with commits := l } }.commitDone c 5 0 0 5) := by
  simp [State.cancelCommit, newest, free, State.modFu]

end

/-- A request to cancel takes its own outcome. -/
theorem State.registerCancel_fu {s u : State} {st det : Nat} (h : (s.newRequest 0).cancelCommit = ((st, det), u)) :
    s.registerCancel.fu = { u.fu with result := if st = 0 then 5 else 0xA, detail := det } := by
  unfold State.registerCancel
  dsimp only
  rw [h]
  simp [State.furnResult_fu, FurnishSeq.concluded_own]

/-! ### What the commands do -/

section
variable {via : Via} {s : State} (may : s.mayWrite via.path 0x000204 = true) (alone : s.alone = true)
include may alone

theorem State.byPath_commit (kind : BitVec 2) :
    s.byPath (.commit via kind) = (s.fset R.glbFurnCmdKind kind.toNat).registerCommit via.same :=
  (State.byPath_alone alone _).trans
    (State.access_may (fun u => (u.fset R.glbFurnCmdKind kind.toNat).registerCommit via.same) may)

theorem State.byPath_cancel : s.byPath (.cancel via) = s.registerCancel :=
  (State.byPath_alone alone _).trans (State.access_may (·.registerCancel) may)

end

theorem State.releaseFurnish_finds {s : State} {u : Furnish}
    (h : (s.fu.retained.reverse.find? fun u => !s.furnishUsed u.id) = some u) :
    s.releaseFurnish.fu.retained = s.fu.retained.erase u := by
  unfold State.releaseFurnish
  rw [h]
  rfl

/-- Settles O15: a capture adds one commit; the end of a commit changes RESULT alone beside the list of commits, and
arming the oldest of them alone. -/
theorem commitsCapturedCheckedAndCancelled : Obligations.CommitsCapturedCheckedAndCancelled := by
  unfold Obligations.CommitsCapturedCheckedAndCancelled
  refine ⟨fun via kind s may alone => ?commit, fun via s l c may alone newest free => ?removed,
    fun via s l c may alone newest going => ?going, fun via s may alone empty => ?nothing,
    fun s i c st det oldest held fails raised => ?refused, fun s i c oldest held passes raised => ?accepted,
    fun s c only stage passes early => ?early, fun s u unused => ?released, fun r same s k start => ?packet,
    fun r s k l c start newest free => ?packetRemoved, fun r s k l c start newest going => ?packetGoing,
    fun r s k start empty => ?packetNothing⟩
  case commit =>
    refine .of_eq rfl (State.byPath_commit may alone kind)
      ⟨rfl, (s.fset R.glbFurnCmdKind kind.toNat).requested via.same, rfl, rfl, ?_, ?_, ?_, rfl, rfl, rfl,
        State.registerCommit_last (s := s.fset R.glbFurnCmdKind kind.toNat) via.same⟩
    · rw [State.requested_id, State.fget_fset_reg _ _ (by decide)]
    · exact congrArg kindOf ((State.fget_fset_same _ _ s (by decide)).trans (Nat.mod_eq_of_lt kind.isLt))
    · rw [State.requested_x, State.fget_fset_reg _ _ (by decide), State.fget_fset_reg _ _ (by decide)]
  case removed =>
    refine .of_eq rfl (State.byPath_cancel may alone) ?_
    rw [State.registerCancel_fu (State.cancelCommit_removes newest free)]
    simp [State.commitDone_fu]
  case going =>
    refine .of_eq rfl (State.byPath_cancel may alone) ?_
    rw [State.registerCancel_fu (State.cancelCommit_distributing newest going)]
    exact ⟨rfl, rfl, rfl⟩
  case nothing =>
    refine .of_eq rfl (State.byPath_cancel may alone) ?_
    rw [State.registerCancel_fu (State.cancelCommit_none empty)]
    exact ⟨empty, rfl, rfl⟩
  case refused =>
    refine .of_eq rfl rfl ?_
    rw [State.endStreams_fu, State.checkDone_refused oldest held fails raised]
    refine ⟨by simp, map_modifyHead_of_eq (Commit.armedAt_origin s.now) _, fun n own follows => ?_⟩
    subst follows
    rw [own, FurnishSeq.concluded_own]
    exact ⟨rfl, rfl⟩
  case accepted =>
    obtain ⟨u, eq, tb, inForce, ok, commits⟩ := State.checkDone_accepted oldest held passes
    refine .of_eq rfl rfl ?_
    rw [State.endStreams_fu, eq, State.arm_fu (by rwa [tb])]
    refine ⟨inForce, ok, ?_, ?_⟩
    · rw [map_modifyHead_of_eq (Commit.armedAt_origin u.now), commits]
      exact map_set_of_eq held rfl
    · rw [commits, List.getElem?_modifyHead, List.getElem?_set_self (List.getElem?_eq_some_iff.mp held).1]
      split
      · exact ⟨_, rfl, congrArg (fun b : Timebase => CommitStage.armed b.tick.toNat) tb⟩
      · exact ⟨_, rfl, rfl⟩
  case early =>
    have oldest : s.fu.commits.findIdx? (·.stage = .checking) = some 0 := by simp [only, stage]
    obtain ⟨u, eq, tb, -, -, commits⟩ := State.checkDone_accepted oldest (by rw [only]; rfl) (by rwa [only])
    rw [only] at commits
    obtain ⟨since, inForce⟩ :=
      State.applyEarly_inForce { c with stage := .pending } (u.modFu fun f => { f with commits := [] })
    refine .of_eq rfl rfl ?_
    rw [State.endStreams_fu, eq, State.arm_early commits rfl (by rwa [tb]), State.applyEarly_commits, inForce]
    exact ⟨rfl, rfl, rfl⟩
  case released =>
    refine .of_eq rfl rfl ?_
    rw [State.endStreams_fu, State.dropGuides_fu, State.releaseFurnish_finds unused]
  case packet =>
    refine .of_eq (next_of_started start rfl) rfl
      ⟨State.packet_presented (State.packet_of_started start), s.captured same (BitVec.ofNat 16 (k.par 0 2))
        (k.par 2 1 % 4) (BitVec.ofNat 48 (k.par 4 6)) (.packet r), ?_, rfl, rfl, rfl, rfl, rfl, rfl⟩
    exact (State.capture_packet ..).trans (by rw [← State.captured_presented r, ← s.presented_fu r]; rfl)
  case packetRemoved =>
    have eq : execFurnishCommitCancel r s = _ :=
      next_of_started start (by rw [State.cancelCommit_removes newest free])
    exact ⟨_, eq, rfl, .of_eq rfl (Host.Outcome.next.inj eq) (by simp [State.commitDone_fu])⟩
  case packetGoing =>
    exact next_of_started start (by rw [State.cancelCommit_distributing newest going])
  case packetNothing => exact next_of_started start (by rw [State.cancelCommit_none empty])

end Sys2Proof.Machine
end

section
/-! The ply code (R155 to R157): the values of neighbouring codes lie a step apart, so that the code of a component is
the nearest one as soon as the component lies between the midpoints to its two neighbours. -/

namespace Sys2Proof.Machine

/-! ### Values (R155, R157) -/

theorem plyValue_eq {p m : Nat} (ply : p < 8) (mantissa : m < 128) :
    plyValue (128 * p + m) = if p = 0 then m else (128 + m) * 2 ^ (p - 1) := by
  unfold plyValue
  rw [show (128 * p + m) / 128 % 8 = p by omega, show (128 * p + m) % 128 = m by omega]

/-- A code stands as many steps above the base of its ply as its mantissa says. -/
theorem plyDecode_eq {p m : Nat} (ply : p < 8) (mantissa : m < 128) :
    plyDecode (128 * p + m) = plyBase p + plyStep p * m := by
  rw [plyDecode, plyValue_eq ply mantissa]
  match p with
  | 0 => simp [plyBase, plyStep]
  | q + 1 =>
    have base : 64 * (128 * 2 ^ q) = 2 ^ (q + 1 + 12) := by rw [Nat.pow_add 2 (q + 1) 12, Nat.pow_succ]; omega
    have step : 64 * 2 ^ q = 2 ^ (q + 1 + 5) := by rw [Nat.pow_add 2 (q + 1) 5, Nat.pow_succ]; omega
    show 64 * ((128 + m) * 2 ^ q) = 2 ^ (q + 1 + 12) + 2 ^ (q + 1 + 5) * m
    rw [Nat.add_mul, Nat.mul_add, base, Nat.mul_comm m, ← Nat.mul_assoc, step]

/-- A ply ends where the next one begins. -/
theorem plyBase_succ (p : Nat) : plyBase (p + 1) = plyBase p + 128 * plyStep p := by
  match p with
  | 0 => rfl
  | q + 1 =>
    show 2 ^ (q + 1 + 1 + 12) = 2 ^ (q + 1 + 12) + 128 * 2 ^ (q + 1 + 5)
    rw [Nat.pow_add 2 (q + 1 + 1) 12, Nat.pow_add 2 (q + 1) 12, Nat.pow_add 2 (q + 1) 5, Nat.pow_succ 2 (q + 1)]
    omega

theorem plyDecode_succ {c : Nat} (h : c < 0x3FF) : plyDecode (c + 1) = plyDecode c + plyStep (c / 128) := by
  obtain ⟨p, m, ply, mantissa, rfl⟩ : ∃ p m, p < 8 ∧ m < 128 ∧ c = 128 * p + m :=
    ⟨c / 128, c % 128, by omega, by omega, by omega⟩
  rw [plyDecode_eq ply mantissa, show (128 * p + m) / 128 = p by omega]
  rcases Nat.lt_or_ge (m + 1) 128 with inside | last
  · rw [Nat.add_assoc, plyDecode_eq ply inside, Nat.mul_succ, Nat.add_assoc]
  · obtain rfl : m = 127 := by omega
    rw [show 128 * p + 127 + 1 = 128 * (p + 1) + 0 by omega, plyDecode_eq (by omega) (by decide), plyBase_succ]
    omega

theorem plyStep_pos (p : Nat) : 0 < plyStep p := by
  unfold plyStep
  split
  · decide
  · exact Nat.two_pow_pos _

theorem plyStep_even (p : Nat) : 2 * (plyStep p / 2) = plyStep p := by
  match p with
  | 0 => rfl
  | q + 1 =>
    rw [plyStep, if_neg (Nat.succ_ne_zero q), show q + 1 + 5 = q + 5 + 1 by omega, Nat.pow_succ]
    omega

/-- A larger code has a larger value. -/
theorem plyDecode_lt {a b : Nat} (less : a < b) (top : b ≤ 0x3FF) : plyDecode a < plyDecode b := by
  have step {c : Nat} (h : c < 0x3FF) : plyDecode c < plyDecode (c + 1) := by
    have := plyStep_pos (c / 128)
    rw [plyDecode_succ h]
    omega
  induction less with
  | refl => exact step top
  | step _ ih => exact Nat.lt_trans (ih (by omega)) (step top)

theorem plyDecode_le {a b : Nat} (le : a ≤ b) (top : b ≤ 0x3FF) : plyDecode a ≤ plyDecode b := by
  rcases Nat.eq_or_lt_of_le le with rfl | less
  · exact Nat.le_refl _
  · exact Nat.le_of_lt (plyDecode_lt less top)

/-! ### The ply of a component (R155) -/

theorem plyOf_eq (u : Nat) : plyOf u =
    if u < 8160 then 0 else if u < 16352 then 1 else if u < 32704 then 2 else if u < 65408 then 3
    else if u < 130816 then 4 else if u < 261632 then 5 else if u < 523264 then 6 else 7 := by
  show (if 523264 ≤ u then 7 else if 261632 ≤ u then 6 else if 130816 ≤ u then 5 else if 65408 ≤ u then 4
    else if 32704 ≤ u then 3 else if 16352 ≤ u then 2 else if 8160 ≤ u then 1 else 0) = _
  (repeat' split) <;> omega

/-- The plies and the components of each. -/
theorem plyOf_cases (u : Nat) :
    plyOf u = 0 ∧ u < 8160 ∨ plyOf u = 1 ∧ 8160 ≤ u ∧ u < 16352 ∨ plyOf u = 2 ∧ 16352 ≤ u ∧ u < 32704 ∨
    plyOf u = 3 ∧ 32704 ≤ u ∧ u < 65408 ∨ plyOf u = 4 ∧ 65408 ≤ u ∧ u < 130816 ∨
    plyOf u = 5 ∧ 130816 ≤ u ∧ u < 261632 ∨ plyOf u = 6 ∧ 261632 ≤ u ∧ u < 523264 ∨ plyOf u = 7 ∧ 523264 ≤ u := by
  rw [plyOf_eq]
  (repeat' split) <;> omega

theorem plyOf_lt (u : Nat) : plyOf u < 8 := by
  have := plyOf_cases u
  omega

/-- A component reaches its ply from half a step of the ply below under it, and does not reach the next ply (R155). -/
theorem plyOf_bounds (u : Nat) : plyBase (plyOf u) ≤ u + plyStep (plyOf u - 1) / 2 ∧
    (u < fullScale → u + plyStep (plyOf u) / 2 < plyBase (plyOf u) + 128 * plyStep (plyOf u)) := by
  unfold fullScale
  rcases plyOf_cases u with ⟨ply, _⟩ | ⟨ply, _⟩ | ⟨ply, _⟩ | ⟨ply, _⟩ | ⟨ply, _⟩ | ⟨ply, _⟩ | ⟨ply, _⟩ | ⟨ply, _⟩ <;>
    simp [ply, plyBase, plyStep] <;> omega

theorem plyStep_pred_le (p : Nat) : plyStep (p - 1) ≤ plyStep p := by
  match p with
  | 0 => exact Nat.le_refl _
  | 1 => decide
  | q + 2 =>
    rw [Nat.add_sub_cancel (n := q + 1) (m := 1), plyStep, plyStep, if_neg (by omega), if_neg (by omega)]
    exact Nat.pow_le_pow_right (by decide) (by omega)

/-! ### The code of a component (R155) -/

/-- The mantissa of a component in its ply. -/
def plyMantissa (u : Nat) : Nat := (u + plyStep (plyOf u) / 2 - plyBase (plyOf u)) / plyStep (plyOf u)

theorem plyMantissa_lt {u : Nat} (below : u < fullScale) : plyMantissa u < 128 := by
  have := (plyOf_bounds u).2 below
  have := plyStep_pos (plyOf u)
  exact Nat.div_lt_of_lt_mul (by rw [Nat.mul_comm]; omega)

/-- The code nearest to a component, before the cap at 0x3FE. -/
def plyNearest (u : Nat) : Nat := 128 * plyOf u + plyMantissa u

theorem plyNearest_le {u : Nat} (below : u < fullScale) : plyNearest u ≤ 0x3FF := by
  have := plyOf_lt u
  have := plyMantissa_lt below
  unfold plyNearest
  omega

theorem plyEncode_eq {u : Nat} (below : u < fullScale) : plyEncode u = min 0x3FE (plyNearest u) := by
  have eq : plyEncode u = if plyNearest u = 0x3FF then 0x3FE else plyNearest u := if_neg (by omega)
  have := plyNearest_le below
  rw [eq]
  split <;> omega

/-- The component lies within half a step of the value of its code. -/
theorem plyDecode_plyNearest {u : Nat} (below : u < fullScale) :
    plyDecode (plyNearest u) ≤ u + plyStep (plyOf u) / 2 ∧
      u + plyStep (plyOf u) / 2 < plyDecode (plyNearest u) + plyStep (plyOf u) := by
  have reach := (plyOf_bounds u).1
  have le := plyStep_pred_le (plyOf u)
  have split := Nat.div_add_mod (u + plyStep (plyOf u) / 2 - plyBase (plyOf u)) (plyStep (plyOf u))
  have rest := Nat.mod_lt (u + plyStep (plyOf u) / 2 - plyBase (plyOf u)) (plyStep_pos (plyOf u))
  rw [plyNearest, plyDecode_eq (plyOf_lt u) (plyMantissa_lt below), plyMantissa]
  omega

/-- A component below full scale lies below the midpoint to the code above its own. -/
theorem lt_midpoint_above {u : Nat} (below : u < fullScale) (next : plyNearest u < 0x3FF) :
    2 * u < plyDecode (plyNearest u) + plyDecode (plyNearest u + 1) := by
  have ply : plyNearest u / 128 = plyOf u := by
    have := plyMantissa_lt below
    unfold plyNearest
    omega
  have near := (plyDecode_plyNearest below).2
  have half := plyStep_even (plyOf u)
  rw [plyDecode_succ next, ply]
  omega

/-- And not below the midpoint to the code under its own. -/
theorem midpoint_below_le {u c : Nat} (below : u < fullScale) (pred : c + 1 = plyNearest u) :
    plyDecode c + plyDecode (c + 1) ≤ 2 * u := by
  have top := plyNearest_le below
  have succ := plyDecode_succ (c := c) (by omega)
  suffices near : plyDecode (c + 1) ≤ u + plyStep (c / 128) / 2 by
    have := plyStep_even (c / 128)
    omega
  rw [pred]
  rcases Nat.eq_zero_or_pos (plyMantissa u) with first | inner
  · have ply : c / 128 = plyOf u - 1 := by
      unfold plyNearest at pred
      omega
    have base := plyDecode_eq (plyOf_lt u) (m := 0) (by decide)
    rw [plyNearest, first, base, ply]
    exact (plyOf_bounds u).1
  · have ply : c / 128 = plyOf u := by
      have := plyMantissa_lt below
      unfold plyNearest at pred
      omega
    rw [ply]
    exact (plyDecode_plyNearest below).1

/-- The cap takes a component down by one code at most, and leaves it above the midpoint under its code. -/
theorem midpoint_below_plyEncode {u c : Nat} (below : u < fullScale) (pred : c + 1 = plyEncode u) :
    plyDecode c + plyDecode (c + 1) ≤ 2 * u := by
  rw [plyEncode_eq below] at pred
  have top := plyNearest_le below
  rcases Nat.lt_or_ge (plyNearest u) 0x3FF with inner | capped
  · exact midpoint_below_le below (by omega)
  · obtain rfl : c = 0x3FD := by omega
    have mid : plyDecode 0x3FE + plyDecode 0x3FF ≤ 2 * u := midpoint_below_le below (by omega)
    have less := plyDecode_lt (a := 0x3FD) (b := 0x3FF) (by decide) (by decide)
    show plyDecode 0x3FD + plyDecode 0x3FE ≤ 2 * u
    omega

theorem plyEncode_lt {u : Nat} (below : u < fullScale) : plyEncode u < 0x3FF := by
  rw [plyEncode_eq below]
  omega

/-- The code of a component keeps its ply: the cap stays inside the last one. -/
theorem plyEncode_ply {u : Nat} (below : u < fullScale) : plyEncode u / 128 = plyOf u := by
  have := plyMantissa_lt below
  have := plyOf_lt u
  rw [plyEncode_eq below, plyNearest]
  omega

theorem plyEncode_eq_top_iff (u : Nat) : plyEncode u = 0x3FF ↔ fullScale ≤ u := by
  constructor
  · intro top
    refine Nat.le_of_not_lt fun below => ?_
    have := plyEncode_lt below
    omega
  · exact fun full => if_pos full

/-- No code below 0x3FF has a value nearer to the component, and one as near has no larger value. -/
theorem plyEncode_nearest {u c : Nat} (below : u < fullScale) (code : c < 0x3FF) :
    ((plyDecode (plyEncode u) : Int) - u).natAbs ≤ ((plyDecode c : Int) - u).natAbs ∧
      (((plyDecode (plyEncode u) : Int) - u).natAbs = ((plyDecode c : Int) - u).natAbs →
        plyDecode c ≤ plyDecode (plyEncode u)) := by
  have own := plyEncode_lt below
  rcases Nat.lt_trichotomy c (plyEncode u) with less | rfl | greater
  · have mid := midpoint_below_plyEncode below (c := plyEncode u - 1) (by omega)
    have le := plyDecode_le (a := c) (b := plyEncode u - 1) (by omega) (by omega)
    have lt := plyDecode_lt less (Nat.le_of_lt own)
    rw [Nat.sub_add_cancel (by omega)] at mid
    omega
  · exact ⟨Nat.le_refl _, fun _ => Nat.le_refl _⟩
  · have uncapped : plyEncode u = plyNearest u := by
      rw [plyEncode_eq below] at greater ⊢
      omega
    have mid := lt_midpoint_above below (by omega)
    rw [← uncapped] at mid
    have le := plyDecode_le (a := plyEncode u + 1) (b := c) greater (Nat.le_of_lt code)
    have lt := plyDecode_lt greater (Nat.le_of_lt code)
    omega

theorem plyDecode_eq_full_iff {c : Nat} (code : c < 1024) : plyDecode c = fullScale ↔ c = 0x3FF := by
  have top : plyDecode 0x3FF = fullScale := by decide
  constructor
  · intro full
    refine Decidable.byContradiction fun other => ?_
    have := plyDecode_lt (a := c) (b := 0x3FF) (by omega) (by decide)
    omega
  · rintro rfl
    exact top

/-- Settles O20: a component lies between the midpoints to the two neighbours of its code, and values grow with codes. -/
theorem plyCode : Obligations.PlyCode := by
  refine ⟨plyEncode_eq_top_iff, fun u c below code => ?_, fun u below => ?_, fun p m ply mantissa => ?_, fun c code =>
    ⟨rfl, plyDecode_eq_full_iff code⟩⟩
  · obtain ⟨nearest, tie⟩ := plyEncode_nearest below code
    simp only [plyDecode, Int.natCast_mul] at nearest tie
    exact ⟨nearest, fun eq => Nat.le_of_mul_le_mul_left (tie eq) (by decide)⟩
  · rw [plyEncode_ply below, plyOf_eq]
  · rw [plyValue_eq ply mantissa]
    split
    · rfl
    · split
      · rename_i one
        rw [one, Nat.sub_self, Nat.pow_zero, Nat.mul_one]
      · rfl

end Sys2Proof.Machine
end

section
/-! What handing a unit to a channel, or a V line to the reel, writes in the registers: those of the delivering blocks,
and no others. -/

namespace Sys2Proof.Machine

/-! ### Register writes of a delivery -/

/-- The registers of a delivery: GLB_ATTN, GLB_BUDGET, and those of the reel, the DMA channels and the commands. -/
def DeliveryReg (off : Nat) : Prop := off = 0x000008 ∨ off = 0x000108 ∨ 0x080000 ≤ off

/-- From `s` to `t` every other register keeps its word. -/
def Delivers (s t : State) : Prop := ∀ off, ¬ DeliveryReg off → t.reg off = s.reg off

theorem Delivers.refl (s : State) : Delivers s s := fun _ _ => rfl

theorem Delivers.then {s t u : State} (h : Delivers s u) (k : Delivers u t) : Delivers s t :=
  fun off other => (k off other).trans (h off other)

theorem Delivers.ite {s t u : State} {c : Prop} {_d : Decidable c} (h : Delivers s t) (k : Delivers s u) :
    Delivers s (if c then t else u) := by
  split
  · exact h
  · exact k

theorem Delivers.iff {c : Bool} {f : State → State} {s : State} (k : ∀ v, Delivers v (f v)) :
    Delivers s (s.iff c f) := .ite (k s) (.refl s)

theorem Delivers.fold {α : Type} {f : State → α → State} (k : ∀ v a, Delivers v (f v a)) (l : List α) (s : State) :
    Delivers s (l.foldl f s) := by
  induction l generalizing s with
  | nil => exact .refl s
  | cons a l ih => exact (k s a).then (ih _)

theorem Delivers.each {α : Type} {f : α → State → State} (k : ∀ a v, Delivers v (f a v)) (l : List α) (s : State) :
    Delivers s (s.each l f) := .fold (fun v a => k a v) l s

/-- A change of other parts of the state writes no register. -/
theorem Frame.delivers {ps : List Part} {s t : State} (h : Frame ps s t) (w : ps.contains .regs = false) :
    Delivers s t := by
  have regs : t.regs = s.regs := h.1 .regs w
  intro off _
  unfold State.reg
  rw [regs]

theorem State.fset_delivers {f : Fld} (own : DeliveryReg f.off) (v : Nat) (s : State) : Delivers s (s.fset f v) :=
  fun _ other => State.reg_setReg_other _ _ fun same => other (same ▸ own)

theorem State.count_delivers {f : Fld} (own : DeliveryReg f.off) (n : Nat) (s : State) : Delivers s (s.count f n) :=
  State.fset_delivers own _ s

/-- An event writes its own register and GLB_ATTN. -/
theorem State.raise_delivers {f : Fld} (own : DeliveryReg f.off) (s : State) : Delivers s (s.raise f) := by
  have attention : Delivers s (match evAttn f.off f.lo with | some a => s.fset a 1 | none => s) := by
    split
    · rename_i a announced
      exact State.fset_delivers (.inl (evAttn_off announced).1) 1 s
    · exact .refl s
  intro off other
  unfold State.reg
  rw [State.raise_regs]
  exact (attention.then (State.fset_delivers own 1 _)) off other

theorem State.onCh_delivers (ch : Fin 16) (g : Channel → Channel) (s : State) : Delivers s (s.onCh ch g) :=
  (State.onCh_frame ch g s).delivers rfl

theorem State.trace_delivers (event arg : Nat) (data : Word) (s : State) : Delivers s (s.trace event arg data) :=
  (State.trace_frame event arg data s).delivers rfl

/-- A register of an array that lies in those blocks. -/
theorem DeliveryReg.above {base n : Nat} (h : 0x080000 ≤ base) : DeliveryReg (base + n) :=
  .inr (.inr (Nat.le_add_right_of_le h))

/-! ### Drop records and the units that go into them (R260) -/

theorem State.dropRecord_delivers (ch : Fin 16) (r : DropRun) (s : State) : Delivers s (s.dropRecord ch r) :=
  (((State.raise_delivers (.above (by decide)) _).then (.iff fun v => (State.msix_frame _ v).delivers rfl)).then
    ((State.fset_delivers (.above (by decide)) _ _).then (State.fset_delivers (.above (by decide)) _ _))).then
    (State.trace_delivers _ _ _ _)

theorem State.endRun_delivers (ch : Fin 16) (s : State) : Delivers s (s.endRun ch) := by
  unfold State.endRun
  split
  · exact .refl s
  · exact (State.dropRecord_delivers _ _ _).then (State.onCh_delivers _ _ _)

theorem State.dropUnit_delivers (ch : Fin 16) (cause : Nat) (u : DUnit) (s : State) :
    Delivers s (s.dropUnit ch cause u) := by
  have noted : Delivers s ((s.lostUnit u).onCh ch (·.noteLost u)) :=
    ((State.lostUnit_frame u s).delivers rfl).then (State.onCh_delivers _ _ _)
  unfold State.dropUnit
  exact .ite (.refl s) (((noted.then (.iff (State.endRun_delivers ch))).then (State.onCh_delivers _ _ _)).then
    (.iff (State.endRun_delivers ch)))

theorem State.writeDrop_delivers (ch : Fin 16) (r : DropRun) (s : State) : Delivers s (s.writeDrop ch r) :=
  (State.dropRecord_delivers ch r s).then ((State.putDrop_frame _ _ _).delivers rfl)

theorem State.writeFront_delivers (ch : Fin 16) (s : State) : Delivers s (s.writeFront ch) := by
  unfold State.writeFront
  split
  · exact (State.writeDrop_delivers _ _ _).then (State.onCh_delivers _ _ _)
  · exact .refl s

/-! ### Parking and going live (R256 to R258) -/

theorem State.spill_delivers (ch : Fin 16) (u : DUnit) (s : State) : Delivers s (s.spill ch u) := by
  unfold State.spill
  dsimp only
  split
  · exact .then (.iff (State.raise_delivers (.inr (.inr (by decide))))) (State.dropUnit_delivers _ _ _ _)
  · exact ((State.endRun_delivers ch s).then ((State.fillChunks_frame _ _ _ _).delivers rfl)).then
      (State.onCh_delivers _ _ _)

theorem State.spillQueue_delivers (ch : Fin 16) (s : State) : Delivers s (s.spillQueue ch) := by
  unfold State.spillQueue
  extract_lets rest later taken spilled
  have queue : Delivers s spilled := by
    refine (State.onCh_delivers ch _ s).then (.each (fun u v => ?_) rest _)
    split
    · exact (State.endRun_delivers ch v).then (State.onCh_delivers _ _ _)
    · exact State.spill_delivers ch u v
  clear_value later
  cases later with
  | some r => exact queue.then ((State.endRun_delivers ch _).then (State.onCh_delivers _ _ _))
  | none => exact queue

theorem State.park_delivers (ch : Fin 16) (g : Channel → Channel) (s : State) : Delivers s (s.park ch g) := by
  have caused : Delivers s (s.onCh ch g) := State.onCh_delivers ch g s
  unfold State.park
  refine .ite (.then ?_ (State.spillQueue_delivers ch _)) caused
  exact ((caused.then (State.onCh_delivers _ _ _)).then ((State.raise_delivers (.above (by decide)) _).then
    (State.count_delivers (.above (by decide)) _ _))).then (State.trace_delivers _ _ _ _)

theorem State.goLive_delivers (ch : Fin 16) (s : State) : Delivers s (s.goLive ch) :=
  (((State.onCh_delivers ch _ s).then ((State.placeRuns_frame _ _).delivers rfl)).then
    (State.raise_delivers (.above (by decide)) _)).then (State.trace_delivers _ _ _ _)

theorem State.stagingDrained_delivers (ch : Fin 16) (s : State) : Delivers s (s.stagingDrained ch) := by
  unfold State.stagingDrained State.unpark State.resume
  exact (State.onCh_delivers _ _ _).then
    (.ite (.ite (State.goLive_delivers _ _) (State.onCh_delivers _ _ _)) (.refl _))

theorem State.popHead_delivers (ch : Fin 16) (s : State) : Delivers s (s.popHead ch) :=
  (State.onCh_delivers ch _ s).then (State.stagingDrained_delivers _ _)

theorem State.unbind_delivers (ch : Fin 16) (s : State) : Delivers s (s.unbind ch) :=
  .each (fun _ _ => .iff (State.raise_delivers (.above (by decide)))) _ s

/-! ### What a channel does next (R250, R253) -/

theorem State.ask_delivers (ch : Fin 16) (kind : TransFor) (va : Nat) (s : State) : Delivers s (s.ask ch kind va) := by
  unfold State.ask State.sendAsk
  refine .ite (.refl s) (.ite (.refl s) ?_)
  exact (((State.leaveL1_frame s).delivers rfl).then (State.onCh_delivers _ _ _)).then
    ((((State.emit_frame _ _).delivers rfl).then (State.count_delivers (.inr (.inr (by decide))) _ _)).then
      ((State.bump_frame _ _ _).delivers rfl))

theorem State.askQueues_delivers (ch : Fin 16) (s : State) : Delivers s (s.askQueues ch) := by
  unfold State.askQueues
  refine .ite ?_ (.refl s)
  split
  · exact State.ask_delivers _ _ _ s
  · exact .refl s

theorem State.pushNotice_delivers (ch : Fin 16) (s : State) : Delivers s (s.pushNotice ch) := by
  unfold State.pushNotice
  exact .ite (.ite (State.onCh_delivers _ _ s) (State.park_delivers _ _ s)) (.iff (State.ask_delivers _ _ _))

theorem State.outgrown_delivers (ch : Fin 16) (b : OpenBuf) (n : Nat) (s : State) : Delivers s (s.outgrown ch b n) := by
  have closed (status : Nat) : Delivers s (s.closeBuf ch status) := (State.closeBuf_frame ch status s).delivers rfl
  unfold State.outgrown
  exact .ite ((closed 0x05).then (State.raise_delivers (.above (by decide)) _)) (closed 0x00)

/-- With no buffer open the channel parks for one, or asks where its next descriptor lies. -/
theorem State.needBuffer_delivers (ch : Fin 16) (s : State) {empty comes missing : Prop} {_ : Decidable empty}
    {_ : Decidable comes} {_ : Decidable missing} (va : Nat) (g : Channel → Channel) :
    Delivers s (if empty then if comes then s else s.park ch g else if missing then s.ask ch .descriptor va else s) :=
  .ite (.ite (.refl s) (State.park_delivers _ _ s)) (.ite (State.ask_delivers _ _ _ s) (.refl s))

theorem State.settleUnit_delivers (ch : Fin 16) (u : DUnit) (s : State) : Delivers s (s.settleUnit ch u) := by
  unfold State.settleUnit
  refine .ite (State.writeFront_delivers ch s) ?_
  split
  · exact State.needBuffer_delivers _ _ _ _
  · exact .ite (.refl s) (.ite (State.outgrown_delivers _ _ _ s) (.ite (State.ask_delivers _ _ _ s)
      (State.writeFront_delivers ch s)))

theorem State.settlePlace_delivers (ch : Fin 16) (id : BitVec 16) (s : State) : Delivers s (s.settlePlace ch id) := by
  unfold State.settlePlace
  dsimp only
  split
  · exact State.needBuffer_delivers _ _ _ _
  · exact .ite (State.outgrown_delivers _ _ _ s)
      (((State.keepPlace_frame ch id s).delivers rfl).then (State.popHead_delivers ch _))

theorem State.settleRecord_delivers (ch : Fin 16) (p : CutPlace) (s : State) : Delivers s (s.settleRecord ch p) := by
  unfold State.settleRecord
  exact .ite (State.writeFront_delivers ch s) (.ite (.refl s) (.ite (State.ask_delivers _ _ _ s)
    (State.writeFront_delivers ch s)))

theorem State.settleEmpty_delivers (ch : Fin 16) (s : State) : Delivers s (s.settleEmpty ch) := by
  unfold State.settleEmpty
  refine .ite (.refl s) (.ite (State.writeFront_delivers ch s) (.ite (.ite ?_ ?_)
    (.ite (State.goLive_delivers ch s) (.refl s))))
  · exact (State.closeBuf_frame ch _ s).delivers rfl
  · split
    · exact ((State.putDrop_frame _ _ _).delivers rfl).then (State.onCh_delivers _ _ _)
    · exact (State.writeDrop_delivers _ _ _).then (State.onCh_delivers _ _ _)
    · exact (State.onCh_delivers _ _ _).then (State.unbind_delivers _ _)

theorem State.settleOnce_delivers (ch : Fin 16) (s : State) : Delivers s (s.settleOnce ch) := by
  unfold State.settleOnce
  refine .ite (.refl s) (.ite (.iff (State.pushNotice_delivers ch)) (.ite (.refl s) ?_))
  split
  · exact State.settleEmpty_delivers ch s
  · split
    case h_1 =>
      exact .ite (State.writeFront_delivers ch s) (((State.putDrop_frame _ _ _).delivers rfl).then
        (State.popHead_delivers ch _))
    case h_2 => exact State.settlePlace_delivers ch _ s
    case h_3 =>
      have parked (g : Channel → Channel) (q : Fin 8) : Delivers s ((s.raise (R.cmdQEvtCqWait q.val)).park ch g) :=
        (State.raise_delivers (.above (by decide)) s).then (State.park_delivers _ _ _)
      exact .ite (State.writeFront_delivers ch s) (.ite (.refl s) (.ite (.ite (.refl s) (parked _ _))
        (.ite (State.ask_delivers _ _ _ s) (.refl s))))
    case h_4 =>
      split
      · exact State.settleRecord_delivers ch _ s
      · exact State.settleUnit_delivers ch _ s

theorem State.settle_delivers (ch : Fin 16) (s : State) : Delivers s (s.settle ch) :=
  (Delivers.fold (fun v _ => State.settleOnce_delivers ch v) _ s).then (State.askQueues_delivers ch _)

/-! ### Units, cuts and recorded lines (R201 to R211, R246) -/

theorem State.handUnit_delivers (ch : Fin 16) (u : DUnit) (s : State) : Delivers s (s.handUnit ch u) := by
  have awake : Delivers s s.leaveL1 := (State.leaveL1_frame s).delivers rfl
  have budget (v : State) : Delivers v (v.raise R.glbBudgetLnkOver) := State.raise_delivers (.inr (.inl rfl)) v
  unfold State.handUnit
  refine awake.then (.ite (State.dropUnit_delivers _ _ _ _) ?_)
  split
  · exact (State.endRun_delivers ch _).then (.ite
      ((((budget _).then (State.park_delivers _ _ _)).then (State.spill_delivers _ _ _)).then
        (State.stagingDrained_delivers _ _))
      ((State.onCh_delivers _ _ _).then (State.settle_delivers _ _)))
  · exact (budget _).then (State.spill_delivers _ _ _)
  · exact State.spill_delivers _ _ _

theorem State.handClass_delivers (cls : Nat) (ch : Fin 16) (u : DUnit) (s : State) :
    Delivers s (s.handClass cls ch u) := .ite (State.handUnit_delivers ch u s) (State.dropUnit_delivers ch 3 u s)

theorem State.finishCuts_delivers (s : State) : Delivers s s.finishCuts := by
  unfold State.finishCuts
  refine (((State.modReel_frame _ s).delivers rfl).then ((State.onCuts_frame _ _).delivers rfl)).then
    (.each (fun c v => ?_) _ _)
  exact .then (.iff fun w => State.handClass_delivers 4 c.dc _ w) (State.handClass_delivers 4 c.dc _ _)

theorem State.enter_delivers (e : DirEntry) (s : State) : Delivers s (s.enter e) :=
  .then (.iff (State.raise_delivers (.inr (.inr (by decide))))) ((State.modReel_frame _ _).delivers rfl)

theorem State.record_delivers (l : Line) (bytes : List Byte) (s : State) : Delivers s (s.record l bytes) := by
  have entered (e : DirEntry) (v : State) : Delivers v ((v.enter e).offer e) :=
    (State.enter_delivers e v).then ((State.offer_frame e _).delivers rfl)
  unfold State.record
  refine .ite (State.count_delivers (.inr (.inr (by decide))) 1 s) (.ite ?_ ?_)
  · exact ((((State.raise_delivers (.inr (.inr (by decide))) s).then (State.raise_delivers (.inr (.inl rfl)) _)).then
      (State.count_delivers (.inr (.inr (by decide))) _ _)).then ((State.bump_frame _ _ _).delivers rfl)).then
      (entered _ _)
  · exact ((((State.modReel_frame _ s).delivers rfl).then ((State.modReel_frame _ _).delivers rfl)).then
      (((State.bump_frame _ _ _).delivers rfl).then ((State.bump_frame _ _ _).delivers rfl))).then (entered _ _)

end Sys2Proof.Machine
end

section
/-! The formatter's lines (R162 to R172): the rest of the queue stays, and the words that a line's faults name are
counted once, whatever else becomes of the line. -/

namespace Sys2Proof.Machine

/-! ### Counted words (R169) -/

/-- From `s` to `t` the formatter keeps its queue and counts the words of `fs`: corrected and uncorrectable ones set
their event, which stays set, and corrected ones add to their count. -/
structure CountsWords (fs : List OutFault) (s t : State) : Prop where
  queue : t.fmt.queue = s.fmt.queue
  corrected : OutFault.wordCe ∈ fs ∨ s.fget R.outEvtEccCe = 1 → t.fget R.outEvtEccCe = 1
  uncorrectable : (∃ w, OutFault.wordUe w ∈ fs) ∨ s.fget R.outEvtEccUe = 1 → t.fget R.outEvtEccUe = 1
  count : t.fget R.outCeCnt = (s.fget R.outCeCnt + fs.count .wordCe) % 2 ^ 32

/-- A change that keeps the three fields counts no word. -/
theorem CountsWords.of_kept {s t : State} (queue : t.fmt.queue = s.fmt.queue)
    (ce : t.fget R.outEvtEccCe = s.fget R.outEvtEccCe) (ue : t.fget R.outEvtEccUe = s.fget R.outEvtEccUe)
    (cnt : t.fget R.outCeCnt = s.fget R.outCeCnt) : CountsWords [] s t where
  queue := queue
  corrected := by simp [ce]
  uncorrectable := by simp [ue]
  count := cnt.trans (Nat.mod_eq_of_lt (State.fget_lt R.outCeCnt s)).symm

theorem CountsWords.refl (s : State) : CountsWords [] s s := .of_kept rfl rfl rfl rfl

theorem CountsWords.append {fs gs : List OutFault} {s t u : State} (h : CountsWords fs s u) (k : CountsWords gs u t) :
    CountsWords (fs ++ gs) s t where
  queue := k.queue.trans h.queue
  corrected met := by
    rw [List.mem_append, or_assoc, or_left_comm] at met
    exact k.corrected (met.imp_right h.corrected)
  uncorrectable met := by
    simp only [List.mem_append, exists_or, or_assoc] at met
    exact k.uncorrectable ((or_left_comm.mp met).imp_right h.uncorrectable)
  count := by
    rw [k.count, h.count, List.count_append, Nat.mod_add_mod, Nat.add_assoc]

/-- Nothing more is counted later. -/
theorem CountsWords.then {fs : List OutFault} {s t u : State} (h : CountsWords fs s u) (k : CountsWords [] u t) :
    CountsWords fs s t := List.append_nil fs ▸ h.append k

theorem CountsWords.ite {s t u : State} {c : Prop} {_d : Decidable c} (h : CountsWords [] s t)
    (k : CountsWords [] s u) : CountsWords [] s (if c then t else u) := by
  split
  · exact h
  · exact k

/-- A delivery counts no word: it leaves the formatter's registers alone. -/
theorem Delivers.countsWords {s t : State} (h : Delivers s t) (queue : t.fmt.queue = s.fmt.queue) :
    CountsWords [] s t := by
  have field (g : Fld) (other : ¬ DeliveryReg g.off) : t.fget g = s.fget g := by
    unfold State.fget
    rw [h g.off other]
  exact .of_kept queue (field _ (by unfold DeliveryReg; decide))
    (field _ (by unfold DeliveryReg; decide)) (field _ (by unfold DeliveryReg; decide))

/-- A change of other parts keeps the queue. -/
theorem Frame.queue {ps : List Part} {s t : State} (h : Frame ps s t) (w : ps.contains .fmt = false := by rfl) :
    t.fmt.queue = s.fmt.queue := congrArg Formatter.queue (h.1 .fmt w)

/-- An event of the formatter below the ECC events counts no word. -/
theorem State.raise_countsWords (f : Fld) (off : f.off = R.outEvtEccCe.off) (bit : f.lo + f.n ≤ R.outEvtEccUe.lo)
    (s : State) : CountsWords [] s (s.raise f) :=
  .of_kept (congrArg Formatter.queue (State.raise_fmt s f))
    (State.fget_raise_bits s off.symm (by decide) (.inr (Nat.le_trans bit (by decide))))
    (State.fget_raise_bits s off.symm (by decide) (.inr bit)) (State.fget_raise s (by rw [off]; decide) (by decide))

/-- Nor does another count. -/
theorem State.count_countsWords (f : Fld) (event : R.outEvtEccCe.off ≠ f.off) (count : R.outCeCnt.off ≠ f.off) (n : Nat)
    (s : State) : CountsWords [] s (s.count f n) :=
  .of_kept rfl (State.fget_count_reg n s event) (State.fget_count_reg n s event) (State.fget_count_reg n s count)

/-! ### The faults of a line (R168, R169) -/

/-- A fault that names no word, and what counts none. -/
theorem CountsWords.other {f : OutFault} {s t : State} (corrected : f ≠ .wordCe) (uncorrectable : ∀ w, f ≠ .wordUe w)
    (h : CountsWords [] s t) : CountsWords [f] s t where
  queue := h.queue
  corrected met := h.corrected (.inr (met.resolve_left fun m => corrected (List.mem_singleton.mp m).symm))
  uncorrectable met :=
    h.uncorrectable (.inr (met.resolve_left fun ⟨w, m⟩ => uncorrectable w (List.mem_singleton.mp m).symm))
  count := by rw [h.count, List.count_nil, List.count_singleton, if_neg (by simpa using corrected)]

/-- A fault counts the word it names, and nothing if it names none. -/
theorem outFault_countsWords (l : Line) (f : OutFault) (s : State) : CountsWords [f] s (outFault l f s).2 := by
  cases f with
  | short | long | headerLost => exact .other nofun nofun (.refl s)
  | noWatermark => exact .other nofun nofun (State.raise_countsWords R.outEvtWmRebuilt rfl (by decide) s)
  | wordCe =>
    have event (g : Fld) (other : g.off ≠ R.outCeCnt.off) :
        (outFault l .wordCe s).2.fget g = (s.raise R.outEvtEccCe).fget g := State.fget_count_reg 1 _ other
    refine ⟨congrArg Formatter.queue (State.raise_fmt s R.outEvtEccCe), fun _ => ?_, fun met => ?_, ?_⟩
    · rw [event _ (by decide), State.flag_raise _ _ (by decide) rfl]
    · rw [event _ (by decide), State.fget_raise_bits (f := R.outEvtEccCe) (g := R.outEvtEccUe)
        s rfl (by decide) (.inl (by decide))]
      simpa using met
    · refine (State.fget_count_same _ _ _ (by decide)).trans ?_
      rw [State.fget_raise s (by decide) (by decide)]
      rfl
  | wordUe w =>
    have field (g : Fld) (other : g.off ≠ R.outUeCnt.off) :
        (outFault l (.wordUe w) s).2.fget g = (s.raise R.outEvtEccUe).fget g := State.fget_count_reg 1 _ other
    refine ⟨congrArg Formatter.queue (State.raise_fmt s R.outEvtEccUe), fun met => ?_, fun _ => ?_, ?_⟩
    · rw [field _ (by decide), State.fget_raise_bits (f := R.outEvtEccUe) (g := R.outEvtEccCe)
        s rfl (by decide) (.inr (by decide))]
      simpa using met
    · rw [field _ (by decide), State.flag_raise _ _ (by decide) rfl]
    · rw [field _ (by decide), State.fget_raise s (by decide) (by decide)]
      exact (Nat.mod_eq_of_lt (State.fget_lt R.outCeCnt s)).symm

theorem outFaults_countsWords (fs : List OutFault) (l : Line) (s : State) :
    CountsWords fs s (fs.foldl (fun (l, s) f => outFault l f s) (l, s)).2 := by
  induction fs generalizing l s with
  | nil => exact .refl s
  | cons f fs ih => exact (outFault_countsWords l f s).append (ih _ _)

/-- A lost header leaves the words to be counted, and no other fault to be treated. -/
def wordFault (l : Line) (f : OutFault) (s : State) : State :=
  match f with | .wordCe | .wordUe _ => (outFault l f s).2 | _ => s

theorem wordFault_countsWords (l : Line) (f : OutFault) (s : State) : CountsWords [f] s (wordFault l f s) := by
  cases f with
  | wordCe | wordUe w => exact outFault_countsWords l _ s
  | short | long | noWatermark | headerLost => exact .other nofun nofun (.refl s)

theorem wordFaults_countsWords (l : Line) (fs : List OutFault) (s : State) :
    CountsWords fs s (s.each fs (wordFault l)) := by
  induction fs generalizing s with
  | nil => exact .refl s
  | cons f fs ih => exact (wordFault_countsWords l f s).append (ih _)

theorem wordFault_frame (l : Line) (f : OutFault) (s : State) :
    Frame [.regs, .link, .obs, .out] s (wordFault l f s) := by
  cases f with
  | wordCe | wordUe w => exact outFault_frame l _ s
  | short | long | noWatermark | headerLost => exact .refl _ s

/-- A word counted leaves the count of lost headers alone. -/
theorem fget_wordFault (l : Line) (f : OutFault) (s : State) :
    (wordFault l f s).fget R.outLostCnt = s.fget R.outLostCnt := by
  have counted (g c : Fld) (event : R.outLostCnt.off ≠ g.off) (count : R.outLostCnt.off ≠ c.off) :
      ((s.raise g).count c 1).fget R.outLostCnt = s.fget R.outLostCnt :=
    (State.fget_count_reg 1 _ count).trans (State.fget_raise s event (by decide))
  cases f with
  | wordCe => exact counted R.outEvtEccCe R.outCeCnt (by decide) (by decide)
  | wordUe w => exact counted R.outEvtEccUe R.outUeCnt (by decide) (by decide)
  | short | long | noWatermark | headerLost => rfl

theorem fget_wordFaults (l : Line) (fs : List OutFault) (s : State) :
    (s.each fs (wordFault l)).fget R.outLostCnt = s.fget R.outLostCnt := by
  induction fs generalizing s with
  | nil => rfl
  | cons f fs ih => exact (ih _).trans (fget_wordFault l f s)

theorem fitLine_countsWords (n : Nat) (l : Line) (s : State) : CountsWords [] s (fitLine n l s).2 := by
  have told (f c : Fld) (off : f.off = R.outEvtEccCe.off) (bit : f.lo + f.n ≤ R.outEvtEccUe.lo)
      (event : R.outEvtEccCe.off ≠ c.off) (count : R.outCeCnt.off ≠ c.off) :
      CountsWords [] s ((s.raise f).count c 1) :=
    (State.raise_countsWords f off bit s).then (State.count_countsWords c event count 1 _)
  unfold fitLine
  split
  · exact told _ _ rfl (by decide) (by decide) (by decide)
  · split
    · exact told _ _ rfl (by decide) (by decide) (by decide)
    · exact .refl s

/-! ### The streams of a line (R166, R167) -/

theorem State.select_queue (u : Furnish) (l : Line) (k : Nat) (s : State) :
    (s.select u l k).2.fmt.queue = s.fmt.queue := by
  unfold State.select
  extract_lets idx since old period rows later ok
  split
  · rfl
  · rfl

theorem State.select_countsWords (u : Furnish) (l : Line) (k : Nat) (s : State) :
    CountsWords [] s (s.select u l k).2 :=
  ((State.select_frame u l k s).delivers rfl).countsWords (State.select_queue u l k s)

theorem State.bind_countsWords (u : Furnish) (l : Line) (k : Nat) (bytes : List Byte) (s : State) :
    CountsWords [] s (s.bind u l k bytes) := by
  unfold State.bind
  refine .ite (.refl s) (.ite ?_ (State.raise_countsWords R.outEvtBindClass rfl (by decide) s))
  exact (State.handUnit_delivers _ _ s).countsWords (State.handUnit_frame _ _ s).queue

theorem State.formed_countsWords (k : Nat) (bytes : List Byte) (s : State) : CountsWords [] s (s.formed k bytes) :=
  ((State.formed_frame k bytes s).delivers rfl).countsWords (State.formed_frame k bytes s).queue

theorem State.sendSeam_countsWords (u : Furnish) (l : Line) (bytes : List Byte) (s : State) :
    CountsWords [] s (s.sendSeam u l bytes) :=
  ((State.sendSeam_frame u l bytes s).delivers rfl).countsWords (State.sendSeam_frame u l bytes s).queue

theorem State.record_countsWords (l : Line) (bytes : List Byte) (s : State) : CountsWords [] s (s.record l bytes) :=
  (State.record_delivers l bytes s).countsWords (State.record_frame l bytes s).queue

theorem State.finishCuts_countsWords (s : State) : CountsWords [] s s.finishCuts :=
  (State.finishCuts_delivers s).countsWords (State.finishCuts_frame s).queue

theorem State.emitLine_countsWords (u : Furnish) (l : Line) (rebuilt : Bool) (s : State) :
    CountsWords [] s (s.emitLine u l rebuilt) := by
  unfold State.emitLine
  extract_lets head flags bytes formed recorded sheet throttled old marked one stream printed
  have written : CountsWords [] formed recorded := .ite (State.record_countsWords l bytes formed) (.refl formed)
  have sheets : CountsWords [] s sheet :=
    .ite (((State.formed_countsWords 0 bytes s).then written).then
      ((State.bind_countsWords u l 0 bytes recorded).then (State.sendSeam_countsWords u l bytes _))) (.refl s)
  have copy (k : Nat) (payload : List Byte) (v : State) : CountsWords [] v (one k payload v) :=
    (State.formed_countsWords k _ v).then (State.bind_countsWords u l k (payload ++ watermark l head k marked) _)
  have copies (k : Nat) (payload : Unit → List Byte) (v : State) : CountsWords [] v (stream k payload v) :=
    .ite (.refl v) ((State.select_countsWords u l k v).then (.ite (copy k (payload ()) _) (.refl _)))
  clear_value stream
  exact (sheets.then (copies 1 _ sheet)).then (copies 2 _ printed)

/-! ### OUTPUT_LINE -/

/-- A line whose header is lost leaves the queue, its words are counted, and it is counted as lost. -/
def State.loseLine (fs : List OutFault) (l : Line) (rest : List Line) (s : State) : State :=
  ((((s.modFmt fun f => { f with queue := rest }).each fs (wordFault l)).raise R.outEvtHdrLost).count
    R.outLostCnt 1).trace 0x03 l.prod 0

theorem State.loseLine_counts (fs : List OutFault) (l : Line) (rest : List Line) (s : State) :
    (s.loseLine fs l rest).fget R.outLostCnt = (s.fget R.outLostCnt + 1) % 2 ^ 32 ∧
      (s.loseLine fs l rest).fget R.outEvtHdrLost = 1 ∧ (s.loseLine fs l rest).dma = s.dma ∧
      (s.loseLine fs l rest).reel = s.reel := by
  have words : Frame [.fmt, .regs, .link, .obs, .out] s
      ((s.modFmt fun f => { f with queue := rest }).each fs (wordFault l)) :=
    .each ((State.modFmt_frame _ s).mono rfl) fun f v => (wordFault_frame l f v).mono rfl
  unfold State.loseLine
  rw [State.fget_trace, State.fget_trace, State.trace_dma, State.trace_reel]
  refine ⟨?_, ?_, ?_, ?_⟩
  · rw [State.fget_count_same _ _ _ (by decide), State.fget_raise _ (by decide) (by decide), fget_wordFaults]
    rfl
  · rw [State.fget_count_reg _ _ (by decide), State.flag_raise _ _ (by decide) rfl]
  · rw [State.count_dma, State.raise_dma]
    exact words.1 .dma rfl
  · rw [State.count_reel, State.raise_reel]
    exact words.1 .reel rfl

section
variable (fs : List OutFault) {l : Line} {rest : List Line} {s : State} (oldest : s.fmt.queue = l :: rest)
include oldest

theorem State.outputLine_lost (lost : fs.contains .headerLost = true) :
    s.outputLine fs = s.loseLine fs l rest := by
  unfold State.outputLine
  rw [oldest]
  exact if_pos lost

theorem State.outputLine_countsWords :
    CountsWords fs (s.modFmt fun f => { f with queue := rest }) (s.outputLine fs) := by
  by_cases lost : fs.contains .headerLost = true
  · rw [State.outputLine_lost fs oldest lost, State.loseLine]
    exact (((wordFaults_countsWords l fs _).then
      (State.raise_countsWords R.outEvtHdrLost rfl (by decide) _)).then
      (State.count_countsWords R.outLostCnt (by decide) (by decide) 1 _)).then
      (((State.trace_frame _ _ _ _).delivers rfl).countsWords (State.trace_frame _ _ _ _).queue)
  · unfold State.outputLine
    rw [oldest]
    dsimp only
    rw [if_neg lost]
    exact (((outFaults_countsWords fs l _).then (fitLine_countsWords ..)).then (State.emitLine_countsWords ..)).then
      (State.finishCuts_countsWords _)

end

end Sys2Proof.Machine
end

section
/-! The statistics records that close with their period (R177), the tokens of the shive records (R193), and the
obligation. -/

namespace Sys2Proof.Machine

/-! ### Statistics periods (R177, R183) -/

/-- A record whose period is over, closed. -/
def StatPeriod.closedIf (past : StatPeriod → Bool) (r : StatPeriod) : StatPeriod :=
  if r.isOpen && past r then { r with isOpen := false } else r

theorem getElem_vmap {α β : Type} {n : Nat} (f : α → β) (v : Vector α n) (i : Fin n) : (vmap f v)[i] = f v[i] := by
  simp [vmap]

/-- Whether a period is over depends on the timebase, the array, the felt, the calender and the furnish in force. -/
theorem State.periodOver_congr {s t : State} (tb : t.tb = s.tb) (hb : t.hb = s.hb) (felt : t.felt = s.felt)
    (fu : t.fu = s.fu) (cal : t.cal = s.cal) : t.periodOver = s.periodOver := by
  funext r
  unfold State.periodOver State.linesInside State.coming State.period
  rw [tb, hb, felt, fu, cal]

theorem State.periodOver_closePeriods (b : Fin 2) (s : State) : (s.closePeriods b).periodOver = s.periodOver :=
  have frame := State.closePeriods_frame b s
  State.periodOver_congr (frame.1 .tb rfl) (frame.1 .hb rfl) (frame.1 .felt rfl) (frame.1 .fu rfl) (frame.1 .cal rfl)

theorem State.bank_onBank_same (b : Fin 2) (g : StatBank → StatBank) (s : State) :
    (s.onBank b g).sts.banks[b] = g s.sts.banks[b] := vupd_same ..

theorem State.bank_onBank_other {b c : Fin 2} (h : b ≠ c) (g : StatBank → StatBank) (s : State) :
    (s.onBank b g).sts.banks[c] = s.sts.banks[c] := vupd_other _ _ h

/-- BANK_DONE tells of a bank and leaves the records of both. -/
theorem State.recs_bankDone (b c : Fin 2) (s : State) : ((s.bankDone b).sts.banks[c]).recs = s.sts.banks[c].recs := by
  unfold State.bankDone
  rw [State.raise_sts]
  by_cases same : b = c
  · subst same
    rw [State.bank_onBank_same]
    show StatBank.recs (vmap _ s.sts.banks)[b] = _
    rw [getElem_vmap]
  · rw [State.bank_onBank_other same]
    show StatBank.recs (vmap _ s.sts.banks)[c] = _
    rw [getElem_vmap]

theorem State.recs_closePeriods (b c : Fin 2) (s : State) : ((s.closePeriods b).sts.banks[c]).recs =
    if b = c then s.sts.banks[c].recs.map (·.closedIf s.periodOver) else s.sts.banks[c].recs := by
  unfold State.closePeriods
  extract_lets done past closed bank
  have recs : (closed.sts.banks[c]).recs =
      if b = c then s.sts.banks[c].recs.map (·.closedIf s.periodOver) else s.sts.banks[c].recs := by
    split
    · rename_i same
      subst same
      exact congrArg StatBank.recs (State.bank_onBank_same ..)
    · rename_i other
      exact congrArg StatBank.recs (State.bank_onBank_other other ..)
  split
  · exact (State.recs_bankDone b c closed).trans recs
  · exact recs

/-- The two closings touch one bank each, and the screens none. -/
theorem State.recs_statsPeriodClose (b : Fin 2) (s : State) :
    ((((s.closePeriods 0).closePeriods 1).endScreens).sts.banks[b]).recs =
      s.sts.banks[b].recs.map (·.closedIf s.periodOver) := by
  have screens : (((s.closePeriods 0).closePeriods 1).endScreens).sts = ((s.closePeriods 0).closePeriods 1).sts :=
    (State.endScreens_frame _).1 .sts rfl
  rw [screens, State.recs_closePeriods, State.recs_closePeriods, State.periodOver_closePeriods]
  match b with
  | 0 => rfl
  | 1 => rfl

/-! ### Shive tokens (R193) -/

/-- The waiting records and the tokens held after `n` tokens have come. -/
def Screens.afterTokens (n : Nat) (x : Screens) : Screens :=
  { x with
    fifo := x.fifo.drop n
    tokens := if n ≤ x.fifo.length then x.tokens else min 64 (x.tokens + (n - x.fifo.length)) }

theorem State.takeToken_scr (s : State) : s.takeToken.scr = s.scr.afterTokens 1 := by
  unfold State.takeToken Screens.afterTokens
  split
  · rename_i r dc waiting front
    rw [(State.emitShive_frame r dc _).1 .scr rfl, front]
    simp [State.modScr]
  · rename_i empty
    rw [empty]
    simp [State.modScr, empty]

theorem Screens.afterTokens_succ (n : Nat) (x : Screens) :
    (x.afterTokens 1).afterTokens n = x.afterTokens (n + 1) := by
  have waiting : x.fifo.drop (n + 1) = (x.fifo.drop 1).drop n := by rw [List.drop_drop, Nat.add_comm]
  unfold Screens.afterTokens
  simp only [waiting, List.length_drop, Screens.mk.injEq, true_and, and_true]
  (repeat' split) <;> omega

theorem State.times_takeToken_scr (n : Nat) (s : State) :
    (State.times (·.takeToken) n s).scr = s.scr.afterTokens n := by
  induction n generalizing s with
  | zero => simp [State.times, Screens.afterTokens]
  | succ n ih => rw [State.times, ih, State.takeToken_scr, Screens.afterTokens_succ]

/-- Beyond 256 records and 64 tokens more tokens change nothing. -/
theorem Screens.afterTokens_min {x : Screens} (fits : x.fifo.length ≤ 256) (n : Nat) :
    x.afterTokens (min n 320) = x.afterTokens n := by
  rcases Nat.le_total n 320 with few | many
  · rw [Nat.min_eq_left few]
  · have drop (k : Nat) (h : 320 ≤ k) : x.fifo.drop k = [] := List.drop_eq_nil_of_le (by omega)
    rw [Nat.min_eq_right many]
    unfold Screens.afterTokens
    rw [drop _ (Nat.le_refl _), drop _ many, if_neg (by omega), if_neg (by omega)]
    simp only [Screens.mk.injEq, true_and, and_true]
    omega

/-- A token for each 250 ticks gone by. -/
theorem State.shiveToken_scr {s : State} (fits : s.scr.fifo.length ≤ 256) : s.shiveToken.scr =
    { s.scr.afterTokens ((s.now - s.scr.tokenAt) / 250) with
      tokenAt := s.scr.tokenAt + 250 * ((s.now - s.scr.tokenAt) / 250) } := by
  unfold State.shiveToken
  extract_lets due counted
  rw [State.times_takeToken_scr, Screens.afterTokens_min (x := counted.scr) fits]
  rfl

theorem State.shiveToken_early {s : State} (early : s.now < s.scr.tokenAt + 250) : s.shiveToken = s := by
  have none : (s.now - s.scr.tokenAt) / 250 = 0 := by omega
  unfold State.shiveToken
  rw [none]
  rfl

/-- Settles O21: the words that faults name are counted before and apart from what is delivered of the line; a closing
touches one bank; and tokens take records one by one. -/
theorem outputStatisticsAndShives : Obligations.OutputStatisticsAndShives := by
  refine ⟨fun fs l rest s oldest => ?queue, fun fs l rest s oldest lost => ?lost, fun fs l rest s oldest => ?words,
    fun fs s empty => ?none, fun b s => ?periods, fun s due fits => ?tokens, fun s early => ?early⟩
  case queue => exact ⟨_, rfl, (State.outputLine_countsWords fs oldest).queue⟩
  case lost =>
    exact .of_eq rfl (State.outputLine_lost fs oldest lost) (State.loseLine_counts fs l rest s)
  case words =>
    have counted := State.outputLine_countsWords fs oldest
    exact ⟨_, rfl, fun met => counted.corrected (.inl met), fun w met => counted.uncorrectable (.inl ⟨w, met⟩),
      counted.count⟩
  case none =>
    refine congrArg Host.Outcome.next ?_
    unfold State.outputLine
    rw [empty]
  case periods => exact ⟨_, rfl, State.recs_statsPeriodClose b s⟩
  case tokens => exact ⟨_, rfl, State.shiveToken_scr fits⟩
  case early => exact congrArg Host.Outcome.next (State.shiveToken_early early)

end Sys2Proof.Machine
end

section
/-! What handing a unit to a channel leaves of the reel and of the packets held (R213, R246, R257): in the reel it moves
what the save-all accounts for, and it takes no packet. A command that completes gives up its packet, and no other. -/

namespace Sys2Proof.Machine

/-! ### Changes of a hand-over -/

/-- From `s` to `t` the reel changes in its save-all chunks and its use of the bandwidth alone, and the packets held stay. -/
structure HandsOver (s t : State) : Prop where
  reel : t.reel =
    { s.reel with chunks := t.reel.chunks, peak := t.reel.peak, gens := t.reel.gens, debt := t.reel.debt }
  packets : t.cmd.packets = s.cmd.packets

theorem HandsOver.of_same {s t : State} (reel : t.reel = s.reel) (packets : t.cmd.packets = s.cmd.packets) :
    HandsOver s t := ⟨by rw [reel], packets⟩

theorem HandsOver.refl (s : State) : HandsOver s s := .of_same rfl rfl

theorem HandsOver.then {s t u : State} (h : HandsOver s u) (k : HandsOver u t) : HandsOver s t :=
  ⟨k.reel.trans (by rw [h.reel]), k.packets.trans h.packets⟩

theorem HandsOver.ite {s t u : State} {c : Prop} {_d : Decidable c} (h : HandsOver s t) (k : HandsOver s u) :
    HandsOver s (if c then t else u) := by
  split
  · exact h
  · exact k

theorem HandsOver.iff {c : Bool} {f : State → State} {s : State} (k : ∀ v, HandsOver v (f v)) :
    HandsOver s (s.iff c f) := .ite (k s) (.refl s)

theorem HandsOver.fold {α : Type} {f : State → α → State} (k : ∀ v a, HandsOver v (f v a)) (l : List α) (s : State) :
    HandsOver s (l.foldl f s) := by
  induction l generalizing s with
  | nil => exact .refl s
  | cons a l ih => exact (k s a).then (ih _)

theorem HandsOver.each {α : Type} {f : α → State → State} (k : ∀ a v, HandsOver v (f a v)) (l : List α) (s : State) :
    HandsOver s (s.each l f) := .fold (fun v a => k a v) l s

/-- A change of other parts of the state is one. -/
theorem Frame.handsOver {ps : List Part} {s t : State} (h : Frame ps s t) (reel : ps.contains .reel = false := by rfl)
    (cmd : ps.contains .cmd = false := by rfl) : HandsOver s t :=
  have kept : t.cmd = s.cmd := h.1 .cmd cmd
  .of_same (h.1 .reel reel) (congrArg Commands.packets kept)

theorem HandsOver.cuts {s t : State} (h : HandsOver s t) : t.reel.cuts = s.reel.cuts := by rw [h.reel]

theorem HandsOver.packet {s t : State} (h : HandsOver s t) (r : PktRef) : t.packet r = s.packet r := by
  unfold State.packet
  rw [h.packets]

/-! ### Dropped and spilled units (R257, R260) -/

theorem State.resetDue_handsOver (s : State) : HandsOver s s.resetDue := .of_same rfl rfl

theorem State.lostUnit_handsOver (u : DUnit) (s : State) : HandsOver s (s.lostUnit u) := .iff State.resetDue_handsOver

theorem State.dropUnit_handsOver (ch : Fin 16) (cause : Nat) (u : DUnit) (s : State) :
    HandsOver s (s.dropUnit ch cause u) := by
  have ended (v : State) : HandsOver v (v.endRun ch) := (State.endRun_frame ch v).handsOver
  have noted : HandsOver s ((s.lostUnit u).onCh ch (·.noteLost u)) :=
    (State.lostUnit_handsOver u s).then (State.onCh_frame _ _ _).handsOver
  unfold State.dropUnit
  exact .ite (.refl s) (((noted.then (.iff ended)).then (State.onCh_frame _ _ _).handsOver).then (.iff ended))

theorem State.charge_handsOver (n : Nat) (s : State) : HandsOver s (s.charge n) := ⟨rfl, rfl⟩

theorem State.allocChunk_handsOver (ch : Fin 16) (s : State) : HandsOver s (s.allocChunk ch) := ⟨rfl, rfl⟩

theorem State.fillChunks_handsOver (ch : Fin 16) (n k : Nat) (s : State) : HandsOver s (s.fillChunks ch n k) :=
  (((State.onCh_frame ch _ s).handsOver.then (.each (fun _ => State.allocChunk_handsOver ch) _ _)).then
    (State.charge_handsOver n _)).then (State.bump_frame _ _ _).handsOver

theorem State.spill_handsOver (ch : Fin 16) (u : DUnit) (s : State) : HandsOver s (s.spill ch u) := by
  unfold State.spill
  dsimp only
  split
  · exact .then (.iff fun v => (State.raise_frame _ v (by rfl)).handsOver) (State.dropUnit_handsOver _ _ _ _)
  · exact ((State.endRun_frame ch s).handsOver.then (State.fillChunks_handsOver _ _ _ _)).then
      (State.onCh_frame _ _ _).handsOver

theorem State.spillQueue_handsOver (ch : Fin 16) (s : State) : HandsOver s (s.spillQueue ch) := by
  unfold State.spillQueue
  extract_lets rest later taken spilled
  have queue : HandsOver s spilled := by
    refine (State.onCh_frame ch _ s).handsOver.then (.each (fun u v => ?_) rest _)
    split
    · exact (State.endRun_frame ch v).handsOver.then (State.onCh_frame _ _ _).handsOver
    · exact State.spill_handsOver ch u v
  clear_value later
  cases later with
  | some r => exact queue.then ((State.endRun_frame ch _).handsOver.then (State.onCh_frame _ _ _).handsOver)
  | none => exact queue

theorem State.park_handsOver (ch : Fin 16) (g : Channel → Channel) (s : State) : HandsOver s (s.park ch g) := by
  have caused : HandsOver s (s.onCh ch g) := (State.onCh_frame ch g s).handsOver
  unfold State.park
  refine .ite (.then ?_ (State.spillQueue_handsOver ch _)) caused
  exact ((caused.then (State.onCh_frame _ _ _).handsOver).then
    ((State.raise_frame _ _ (hw_dmaChEvtPark ch)).handsOver.then
      (State.count_frame _ _ _ (hw_dmaChParks ch)).handsOver)).then (State.trace_frame _ _ _ _).handsOver

/-! ### What a channel does next (R250, R253) -/

theorem State.pushNotice_handsOver (ch : Fin 16) (s : State) : HandsOver s (s.pushNotice ch) := by
  unfold State.pushNotice
  exact .ite (.ite (State.onCh_frame _ _ s).handsOver (State.park_handsOver _ _ s))
    (.iff fun v => (State.ask_frame _ _ _ v).handsOver)

/-- With no buffer open the channel parks for one, or asks where its next descriptor lies. -/
theorem State.needBuffer_handsOver (ch : Fin 16) (s : State) {empty comes missing : Prop} {_ : Decidable empty}
    {_ : Decidable comes} {_ : Decidable missing} (va : Nat) (g : Channel → Channel) :
    HandsOver s (if empty then if comes then s else s.park ch g else if missing then s.ask ch .descriptor va else s) :=
  .ite (.ite (.refl s) (State.park_handsOver _ _ s)) (.ite (State.ask_frame _ _ _ s).handsOver (.refl s))

theorem State.settleUnit_handsOver (ch : Fin 16) (u : DUnit) (s : State) : HandsOver s (s.settleUnit ch u) := by
  have written : HandsOver s (s.writeFront ch) := (State.writeFront_frame ch s).handsOver
  unfold State.settleUnit
  refine .ite written ?_
  split
  · exact State.needBuffer_handsOver _ _ _ _
  · exact .ite (.refl s) (.ite (State.outgrown_frame _ _ _ s).handsOver (.ite (State.ask_frame _ _ _ s).handsOver
      written))

theorem State.settlePlace_handsOver (ch : Fin 16) (id : BitVec 16) (s : State) : HandsOver s (s.settlePlace ch id) := by
  unfold State.settlePlace
  dsimp only
  split
  · exact State.needBuffer_handsOver _ _ _ _
  · exact .ite (State.outgrown_frame _ _ _ s).handsOver
      ((State.keepPlace_frame ch id s).handsOver.then (State.popHead_frame ch _).handsOver)

theorem State.settleOnce_handsOver (ch : Fin 16) (s : State) : HandsOver s (s.settleOnce ch) := by
  have written : HandsOver s (s.writeFront ch) := (State.writeFront_frame ch s).handsOver
  unfold State.settleOnce
  refine .ite (.refl s) (.ite (.iff (State.pushNotice_handsOver ch)) (.ite (.refl s) ?_))
  split
  · exact (State.settleEmpty_frame ch s).handsOver
  · split
    case h_1 => exact .ite written ((State.putDrop_frame _ _ _).handsOver.then (State.popHead_frame ch _).handsOver)
    case h_2 => exact State.settlePlace_handsOver ch _ s
    case h_3 =>
      have parked (g : Channel → Channel) (q : Fin 8) : HandsOver s ((s.raise (R.cmdQEvtCqWait q.val)).park ch g) :=
        (State.raise_frame _ s (hw_cmdQEvtCqWait q)).handsOver.then (State.park_handsOver _ _ _)
      exact .ite written (.ite (.refl s) (.ite (.ite (.refl s) (parked _ _))
        (.ite (State.ask_frame _ _ _ s).handsOver (.refl s))))
    case h_4 =>
      split
      · exact (State.settleRecord_frame ch _ s).handsOver
      · exact State.settleUnit_handsOver ch _ s

theorem State.settle_handsOver (ch : Fin 16) (s : State) : HandsOver s (s.settle ch) :=
  (HandsOver.fold (fun v _ => State.settleOnce_handsOver ch v) _ s).then (State.askQueues_frame ch _).handsOver

/-! ### Units handed to a channel (R246) -/

theorem State.handUnit_handsOver (ch : Fin 16) (u : DUnit) (s : State) : HandsOver s (s.handUnit ch u) := by
  have budget (v : State) : HandsOver v (v.raise R.glbBudgetLnkOver) := (State.raise_frame _ v (by rfl)).handsOver
  unfold State.handUnit
  refine (State.leaveL1_frame s).handsOver.then (.ite (State.dropUnit_handsOver _ _ _ _) ?_)
  split
  · exact (State.endRun_frame ch _).handsOver.then (.ite
      ((((budget _).then (State.park_handsOver _ _ _)).then (State.spill_handsOver _ _ _)).then
        (State.stagingDrained_frame _ _).handsOver)
      ((State.onCh_frame _ _ _).handsOver.then (State.settle_handsOver _ _)))
  · exact (budget _).then (State.spill_handsOver _ _ _)
  · exact State.spill_handsOver _ _ _

theorem State.handClass_handsOver (cls : Nat) (ch : Fin 16) (u : DUnit) (s : State) :
    HandsOver s (s.handClass cls ch u) := .ite (State.handUnit_handsOver ch u s) (State.dropUnit_handsOver ch 3 u s)

/-! ### Completions (R270, R272, R286) -/

theorem State.storeBytes_handsOver (off : Nat) (bs : List Byte) (s : State) : HandsOver s (s.storeBytes off bs) :=
  .each (fun _ v => (State.setReg_any _ _ v).handsOver) _ s

theorem State.mailboxDone_handsOver (r : PktRef) (op status detail result : Nat) (data : List Byte) (s : State) :
    HandsOver s (s.mailboxDone r op status detail result data) := by
  have idle (v : State) : HandsOver v (v.modCmd fun c => { c with busy := false }) := .of_same rfl rfl
  unfold State.mailboxDone
  exact ((((Frame.put_free _ s).handsOver.then (State.storeBytes_handsOver _ _ _)).then
    (State.storeBytes_handsOver _ _ _)).then (idle _)).then (((State.fset_frame _ _ _ (by rfl)).handsOver.then
      (State.raise_frame _ _ (by rfl)).handsOver).then (State.bump_frame _ _ _).handsOver)

/-- The packet of a command leaves, and the mailbox's takes the place that is free. -/
def State.dismiss (r : PktRef) (s : State) : State :=
  (s.modCmd fun c => { c with packets := c.packets.filter (·.ref ≠ r), atReam := c.atReam.erase r }).takeMail

/-- A command completes: its packet leaves, and what it returns is handed over. -/
theorem State.complete_handsOver {r : PktRef} {k : Packet} {s : State} (held : s.packet r = some k)
    (status detail result : Nat) (data : List Byte) :
    HandsOver (s.dismiss r) (s.complete r status detail result data) := by
  have due {b : Bool} (v : State) : HandsOver v (v.iff b (·.resetDue)) := .iff State.resetDue_handsOver
  unfold State.complete
  split
  · rename_i none
    cases none.symm.trans held
  · extract_lets now left noted reset counted q ch returned
    have gone : HandsOver (s.dismiss r) noted := .of_same rfl rfl
    have told : HandsOver noted counted := (State.bump_frame _ _ _).handsOver
    have data : HandsOver counted returned := .ite (.refl _) (State.handClass_handsOver _ _ _ _)
    exact gone.then (.ite ((State.mailboxDone_handsOver _ _ _ _ _ _ _).then (due _)) (told.then
      (.ite ((State.loseCompletion_frame _ _).handsOver.then (due _))
        (data.then (State.handClass_handsOver _ _ _ _)))))

theorem State.dismiss_reel (r : PktRef) (s : State) : (s.dismiss r).reel = s.reel :=
  (State.takeMail_frame _).1 .reel rfl

/-- The packets then held: those of other commands, and the mailbox's where it is taken. -/
theorem State.mem_dismiss {r : PktRef} {k : Packet} {s : State} (held : k ∈ (s.dismiss r).cmd.packets) :
    k.ref ≠ r ∨ s.cmd.mail = some k := by
  have other {p : Packet} (kept : p ∈ s.cmd.packets.filter fun p => decide (p.ref ≠ r)) : p.ref ≠ r := by
    simpa using (List.mem_filter.mp kept).2
  unfold State.dismiss State.takeMail at held
  split at held
  · rename_i m arrived
    split at held
    · rcases List.mem_append.mp held with kept | taken
      · exact .inl (other kept)
      · exact .inr (arrived.trans (congrArg some (List.mem_singleton.mp taken).symm))
    · exact .inl (other held)
  · exact .inl (other held)

theorem State.dismiss_gone (r : PktRef) (s : State) : Gone r s (s.dismiss r) := fun _ found =>
  (State.mem_dismiss (List.mem_of_find?_eq_some found)).resolve_left fun other => other (State.ref_of_packet found)

/-- A completion leaves the reel as it is but for what the save-all accounts for. -/
theorem State.complete_cuts (r : PktRef) (status detail result : Nat) (data : List Byte) (s : State) :
    (s.complete r status detail result data).reel.cuts = s.reel.cuts := by
  cases held : s.packet r with
  | none => rw [State.complete, held]
  | some k =>
    rw [(State.complete_handsOver held status detail result data).cuts, State.dismiss_reel]

theorem State.complete_gone (r : PktRef) (status detail result : Nat) (data : List Byte) (s : State) :
    Gone r s (s.complete r status detail result data) := by
  cases held : s.packet r with
  | none =>
    intro k found
    rw [State.complete, held] at found
    cases held.symm.trans found
  | some k =>
    intro m found
    exact State.dismiss_gone r s m (((State.complete_handsOver held status detail result data).packet r).symm.trans found)

end Sys2Proof.Machine
end

section
/-! The cuts of the reel (R207 to R212): what becoming active, delivering an entry and the end of a cut do to the list of
cuts. -/

namespace Sys2Proof.Machine

/-! ### A cut that is over, and one whose stream has ended (R209, R210) -/

/-- A cut that is over hands its record over and is active no more. -/
def Cut.handed (c : Cut) : Cut := if c.finished then { c with recorded := true, active := false } else c

theorem Cut.handed_eq (c : Cut) : c.handed = { c with recorded := c.handed.recorded, active := c.handed.active } := by
  unfold Cut.handed
  split <;> rfl

@[simp] theorem Cut.handed_id (c : Cut) : c.handed.id = c.id := by rw [c.handed_eq]

@[simp] theorem Cut.handed_todo (c : Cut) : c.handed.todo = c.todo := by rw [c.handed_eq]

@[simp] theorem Cut.handed_entries (c : Cut) : c.handed.entries = c.entries := by rw [c.handed_eq]

@[simp] theorem Cut.handed_placed (c : Cut) : c.handed.placed = c.placed := by rw [c.handed_eq]

@[simp] theorem Cut.handed_cancel (c : Cut) : c.handed.cancel = c.cancel := by rw [c.handed_eq]

/-- An active cut stays active until its record is handed over. -/
theorem Cut.handed_serves {c : Cut} (active : c.active = true) : (c.handed.active || c.handed.recorded) = true := by
  unfold Cut.handed
  split
  · rfl
  · rw [active, Bool.true_or]

theorem Cut.handed_cancelled {c : Cut} (cancel : c.cancel = true) : c.handed.recorded = true := by
  unfold Cut.handed Cut.finished
  split
  · rfl
  · rename_i waits
    simpa [cancel] using waits

/-- A cut that waits for lines of a stream takes none any more once the stream is over. -/
def Cut.streamOver (gone : Bool) (c : Cut) : Cut :=
  if c.active && c.wait && !c.ended && gone then { c with ended := true, strmEnd := true } else c

theorem Cut.streamOver_eq (gone : Bool) (c : Cut) : c.streamOver gone =
    { c with ended := (c.streamOver gone).ended, strmEnd := (c.streamOver gone).strmEnd } := by
  unfold Cut.streamOver
  split <;> rfl

@[simp] theorem Cut.streamOver_id (gone : Bool) (c : Cut) : (c.streamOver gone).id = c.id := by
  rw [c.streamOver_eq]

@[simp] theorem Cut.streamOver_todo (gone : Bool) (c : Cut) : (c.streamOver gone).todo = c.todo := by
  rw [c.streamOver_eq]

@[simp] theorem Cut.streamOver_placed (gone : Bool) (c : Cut) : (c.streamOver gone).placed = c.placed := by
  rw [c.streamOver_eq]

@[simp] theorem Cut.streamOver_active (gone : Bool) (c : Cut) : (c.streamOver gone).active = c.active := by
  rw [c.streamOver_eq]

/-! ### The list of cuts after each operation -/

@[simp] theorem State.onCuts_cuts (g : Cut → Cut) (s : State) : (s.onCuts g).reel.cuts = s.reel.cuts.map g := rfl

theorem State.placeCut_handsOver (c : Cut) (s : State) : HandsOver s (s.placeCut c) := State.handClass_handsOver ..

theorem State.finishCuts_cuts (s : State) : s.finishCuts.reel.cuts = s.reel.cuts.map Cut.handed := by
  unfold State.finishCuts
  extract_lets ended turned marked
  have records : HandsOver marked (marked.each ended fun c s =>
      (s.iff (!c.placed) (·.placeCut c)).handClass 4 c.dc { kind := .cutRecord c.id, seq := c.last, bytes := c.record }) :=
    .each (fun c _ => .then (.iff (State.placeCut_handsOver c)) (State.handClass_handsOver ..)) ended marked
  exact records.cuts

theorem State.endStreams_cuts (s : State) : s.endStreams.reel.cuts =
    s.reel.cuts.map fun c => (c.streamOver (!s.recordsStream c.prod c.field)).handed :=
  (State.finishCuts_cuts _).trans List.map_map

/-! ### CUT_ACTIVATE (R209, R211) -/

theorem mem_insertSeq {e o : DirEntry} {l : List DirEntry} : e ∈ insertSeq o l ↔ e = o ∨ e ∈ l := by
  induction l with
  | nil => simp [insertSeq]
  | cons p l ih =>
    rw [insertSeq]
    split
    · exact List.mem_cons
    · rw [List.mem_cons, ih, List.mem_cons]
      exact or_left_comm

theorem mem_foldl_insertSeq {e : DirEntry} {l m : List DirEntry} :
    e ∈ l.foldl (fun l e => insertSeq e l) m ↔ e ∈ l ∨ e ∈ m := by
  induction l generalizing m with
  | nil => simp
  | cons o l ih =>
    rw [List.foldl_cons, ih, mem_insertSeq, List.mem_cons]
    exact or_left_comm.trans or_assoc.symm

/-- The entries that a cut finds in the directory and that lie in its span, in the order of their sequences. -/
def State.cutTodo (s : State) (same : Bool) (c : Cut) : List DirEntry :=
  ((s.cutFinds same c).filter fun e => c.spans e.wc).foldl (fun l e => insertSeq e l) []

theorem State.mem_cutTodo {same : Bool} {c : Cut} {e : DirEntry} {s : State} (found : e ∈ s.cutTodo same c) :
    e ∈ s.reel.dir ∧ c.spans e.wc = true ∧ (c.wait = false → same = true → e ∈ s.before.reel.dir) := by
  simp only [State.cutTodo, mem_foldl_insertSeq, State.cutFinds, List.mem_filter, Bool.and_eq_true, Bool.or_eq_true,
    List.not_mem_nil, or_false] at found
  obtain ⟨⟨listed, _, early⟩, span⟩ := found
  refine ⟨listed, span, fun now cycle => ?_⟩
  simpa [now, cycle] using early

/-- An active cut is placed, and its lines are those it found, or none while the reel is not trained. -/
structure Cut.Activated (found : List DirEntry) (c d : Cut) : Prop where
  id : d.id = c.id
  active : d.active = true
  placed : d.placed = true
  todo : ∀ e, e ∈ d.todo → e ∈ found

theorem State.activateCut_full {same : Bool} {s : State} (full : 4 ≤ (s.reel.live.filter (·.active)).length) :
    s.activateCut same = s := if_pos full

/-- The first cut in the queue becomes active, and cuts whose stream is over take no later line. -/
theorem State.activateCut_cuts {same : Bool} {c : Cut} {s : State}
    (free : (s.reel.live.filter (·.active)).length < 4) (next : s.reel.live.find? (!·.active) = some c) :
    ∃ (d : Cut) (gone : Cut → Bool), Cut.Activated (s.cutTodo same c) c d ∧ (s.activateCut same).reel.cuts =
      s.reel.cuts.map fun o => let o := if o = c then d else o; (o.streamOver (gone o)).handed := by
  unfold State.activateCut
  extract_lets live
  rw [if_neg (Nat.not_le.mpr free)]
  split
  · rename_i none
    cases none.symm.trans next
  · rename_i first found
    cases found.symm.trans next
    extract_lets mine trunc todo d
    have placed := State.placeCut_handsOver c (s.onCuts fun o => if o = c then d else o)
    refine ⟨d, fun o => !((s.onCuts fun o => if o = c then d else o).placeCut c).recordsStream o.prod o.field,
      ⟨rfl, rfl, rfl, fun e m => ?_⟩, ?_⟩
    · have listed : e ∈ if s.reel.trained then s.cutTodo same c else [] := m
      split at listed
      · exact listed
      · cases listed
    · rw [State.endStreams_cuts, placed.cuts, State.onCuts_cuts, List.map_map]
      rfl

/-! ### CUT_LINE (R208, R211, R217) -/

/-- An entry delivered is taken from the cut's lines and counted. -/
theorem State.deliverCut_cuts (c : Cut) (e : DirEntry) (stale ue : List Nat) (ce : Nat) (s : State) :
    ∃ st, (s.deliverCut c e stale ue ce).reel.cuts = s.reel.cuts.map fun o => if o = c then o.took e st else o := by
  unfold State.deliverCut
  extract_lets hand
  have handed {v : State} (read : v.reel.cuts = s.reel.cuts) (st first n : Nat) (body : List Byte) (broke : Bool) :
      ∃ k, (hand st first n body broke v).reel.cuts = s.reel.cuts.map fun o => if o = c then o.took e k else o := by
    refine ⟨st, ?_⟩
    rw [← read]
    have counted (u : State) : HandsOver u (u.bump 0x8B 1) := (State.bump_frame _ _ u).handsOver
    exact ((counted (v.onCuts fun o => if o = c then o.took e st else o)).then
      (State.handClass_handsOver 4 c.dc _ _)).cuts
  split
  · exact handed (v := s) rfl 1 0 0 [] false
  · split
    · exact handed (v := s) rfl 4 0 0 [] false
    · extract_lets idx charged words nStale nUe staled uncorrected corrected broke
      have raised {f : Fld} (own : softwareRegs.contains f.off = false) (v : State) : HandsOver v (v.raise f) :=
        (State.raise_frame f v own).handsOver
      have told {f : Fld} (own : softwareRegs.contains f.off = false) (n : Nat) (v : State) : HandsOver v (v.count f n) :=
        (State.count_frame f n v own).handsOver
      have charge : HandsOver s charged := State.charge_handsOver _ s
      have stales : HandsOver charged staled :=
        .iff fun v => ((raised (by rfl) v).then (told (by rfl) nStale _)).then (State.bump_frame _ _ _).handsOver
      have lost : HandsOver staled uncorrected := .iff fun v => (raised (by rfl) v).then (told (by rfl) nUe _)
      have mended : HandsOver uncorrected corrected :=
        .iff fun v => ((raised (by rfl) v).then (told (by rfl) ce _)).then (State.bump_frame _ _ _).handsOver
      have read : HandsOver s corrected := ((charge.then stales).then lost).then mended
      exact handed read.cuts _ _ _ _ _

/-- The turn goes to the active cut after a cut (R211). -/
def State.turnPast (c : Cut) (s : State) : State :=
  let act := s.reel.cuts.filter (·.active)
  s.modReel fun r => { r with turn := ((act.findIdx? (· = c)).getD 0 + 1) % act.length }

section
variable (stale ue : List Nat) (ce : Nat) {c : Cut} {e : DirEntry} {rest : List DirEntry} {s : State}

theorem State.cutLine_idle (idle : s.cutTurn = none) : s.cutLine stale ue ce = s := by
  unfold State.cutLine
  rw [idle]
  exact ite_self s

theorem State.cutLine_eq (on : s.reelOff = false) (turn : s.cutTurn = some c) (todo : c.todo = e :: rest) :
    s.cutLine stale ue ce = (if s.reel.dir.contains e then (s.turnPast c).deliverCut c e stale ue ce
      else (s.turnPast c).onCuts fun o => if o = c then { o with todo := rest } else o).finishCuts := by
  unfold State.cutLine
  rw [if_neg (by simp [on]), turn]
  dsimp only
  rw [todo]
  rfl

theorem State.cutLine_delivers (on : s.reelOff = false) (turn : s.cutTurn = some c) (todo : c.todo = e :: rest)
    (listed : s.reel.dir.contains e = true) :
    (s.cutLine stale ue ce).reel.cuts.map (fun o => (o.id, o.entries, o.todo)) =
      s.reel.cuts.map fun o => if o = c then (o.id, o.entries + 1, rest) else (o.id, o.entries, o.todo) := by
  obtain ⟨st, cuts⟩ := State.deliverCut_cuts c e stale ue ce (s.turnPast c)
  rw [State.cutLine_eq stale ue ce on turn todo, if_pos listed, State.finishCuts_cuts, cuts, List.map_map, List.map_map]
  refine List.map_congr_left fun o _ => ?_
  by_cases own : o = c
  · simp [own, Cut.took, todo]
  · simp [own]

theorem State.cutLine_passes (on : s.reelOff = false) (turn : s.cutTurn = some c) (todo : c.todo = e :: rest)
    (removed : s.reel.dir.contains e = false) :
    (s.cutLine stale ue ce).reel.cuts.map (fun o => (o.id, o.entries, o.todo)) =
      s.reel.cuts.map fun o => if o = c then (o.id, o.entries, rest) else (o.id, o.entries, o.todo) := by
  rw [State.cutLine_eq stale ue ce on turn todo, if_neg (Bool.eq_false_iff.mp removed), State.finishCuts_cuts,
    State.onCuts_cuts, List.map_map, List.map_map]
  refine List.map_congr_left fun o _ => ?_
  by_cases own : o = c
  · simp [own]
  · simp [own]

end

/-! ### CUT_RECORD_WRITTEN (R211, R273, R284) -/

/-- The cut of an ID whose record has been handed over, and has been written or dropped. -/
def State.cutEnding (s : State) (id : BitVec 16) : Option Cut :=
  s.reel.cuts.find? fun c => c.id = id && c.recorded && (c.written || (s.dma.chans[c.dc]).lostCuts.contains id)

/-- A cut leaves the reel. -/
def State.cutLeaves (c : Cut) (s : State) : State := s.modReel fun r => { r with cuts := r.cuts.erase c }

section
variable {id : BitVec 16} {c : Cut} {p : PktRef} {s : State}

theorem State.cutWritten_none (none : s.cutEnding id = none) : s.cutWritten id = s := by
  unfold State.cutEnding at none
  unfold State.cutWritten
  rw [none]

theorem State.cutWritten_written (ends : s.cutEnding id = some c) (written : c.written = true)
    (asked : c.by' = some p) :
    s.cutWritten id = (s.cutLeaves c).done p (if c.cancel then 5 else 0) 0 c.entries := by
  unfold State.cutEnding at ends
  unfold State.cutWritten
  rw [ends]
  dsimp only
  rw [asked, written]
  rfl

theorem State.cutWritten_dropped (ends : s.cutEnding id = some c) (dropped : c.written = false)
    (asked : c.by' = some p) :
    s.cutWritten id = ((s.cutLeaves c).onCh c.dc fun h => { h with lostCuts := h.lostCuts.erase id }).done p 0x0B 1
      c.entries := by
  unfold State.cutEnding at ends
  unfold State.cutWritten
  rw [ends]
  dsimp only
  rw [asked, dropped]
  rfl

end

theorem State.cutEnding_none {id : BitVec 16} {s : State}
    (others : s.reel.cuts.all (fun c => decide (c.id ≠ id) || !c.recorded) = true) : s.cutEnding id = none := by
  rw [List.all_eq_true] at others
  refine List.find?_eq_none.mpr fun c listed found => ?_
  have other := others c listed
  simp only [Bool.and_eq_true, decide_eq_true_eq] at found
  simp [found.1.1, found.1.2] at other

/-- Settles O23: becoming active, an entry and a record handed over change the cuts of the list one by one, and keep their
IDs; a hand-over leaves the list as it is, and so does the completion with which a cut leaves. -/
theorem cuts : Obligations.Cuts := by
  unfold Obligations.Cuts
  refine ⟨fun same c s free next own => ?activates, fun same s full => ?full,
    fun stale ue ce c e rest s on turn todo listed => ?delivers,
    fun stale ue ce c e rest s on turn todo removed => ?passes, fun stale ue ce s idle => ?idle,
    fun id c p s ends written asked => ?written, fun id c p s ends dropped asked => ?dropped,
    fun id s others => ?none⟩
  case activates =>
    obtain ⟨d, gone, activated, cuts⟩ := State.activateCut_cuts (same := same) free next
    have listed : c ∈ s.reel.cuts := (List.mem_filter.mp (List.mem_of_find?_eq_some next)).1
    refine ⟨_, rfl, ?_, fun o e mem id queued => ?_⟩
    · rw [cuts, List.any_map, List.any_eq_true]
      refine ⟨c, listed, ?_⟩
      have serves := Cut.handed_serves (c := d.streamOver (gone d)) (by simp [activated.active])
      simpa [activated.id, activated.placed] using serves
    · rw [cuts] at mem
      obtain ⟨a, here, rfl⟩ := List.mem_map.mp mem
      by_cases first : a = c
      · exact State.mem_cutTodo (activated.todo e (by simpa [first] using queued))
      · exact absurd (own a here (by simpa [first] using id)) first
  case full => exact congrArg Host.Outcome.next (State.activateCut_full full)
  case delivers => exact ⟨_, rfl, State.cutLine_delivers stale ue ce on turn todo listed⟩
  case passes => exact ⟨_, rfl, State.cutLine_passes stale ue ce on turn todo removed⟩
  case idle => exact congrArg Host.Outcome.next (State.cutLine_idle stale ue ce idle)
  case written =>
    have leaves := State.cutWritten_written ends written asked
    refine ⟨s.cutLeaves c, congrArg Host.Outcome.next leaves, rfl, .of_eq rfl leaves ⟨?_, ?_⟩⟩
    · exact State.complete_cuts ..
    · exact State.complete_gone p _ _ _ _ (s.cutLeaves c)
  case dropped =>
    exact ⟨_, congrArg Host.Outcome.next (State.cutWritten_dropped ends dropped asked), rfl⟩
  case none => exact congrArg Host.Outcome.next (State.cutWritten_none (State.cutEnding_none others))

end Sys2Proof.Machine
end

section
/-! The opcodes of the pin engines (R350, R351, R354): what a packet's access does alone in its core cycle, the words that
a load stores, and the bytes of PE_STATUS. -/

namespace Sys2Proof.Machine

/-! ### Packets whose effect is an access (R282, R355) -/

/-- Alone in its core cycle, a started packet has its opcode's effect. -/
theorem State.byPath_packet {i : Instr} {r : PktRef} {op : Nat} {same : Bool} {regs : Packet → List Nat}
    {f : Packet → State → State} {k : Packet} {s : State} (row : s.accessOf i = s.packetAccess r op same regs f)
    (start : s.started r op false = some k) (alone : s.alone = true) : s.byPath i = f k s := by
  rw [State.byPath_alone alone, row, State.packetAccess, start]
  exact State.pelquel_started start f

section
variable {r : PktRef} {same : Bool} {k : Packet} {s : State}

theorem execPeLoad_loads (start : s.started r 0x0400 false = some k) (alone : s.alone = true) :
    execPeLoad r same s = .next (s.peLoad same k) := congrArg Host.Outcome.next (State.byPath_packet rfl start alone)

theorem execPeStart_starts (start : s.started r 0x0401 false = some k) (alone : s.alone = true) :
    execPeStart r same s = .next ((s.penOp (BitVec.ofNat 8 (k.par 0 1)) (k.par 1 1 % 2)).done r 0 0 0) := by
  obtain rfl := State.ref_of_started start
  exact congrArg Host.Outcome.next
    (State.byPath_packet (f := fun k s => s.peAct k (k.par 1 1 % 2)) rfl start alone)

theorem execPeStop_stops (start : s.started r 0x0402 false = some k) (alone : s.alone = true) :
    execPeStop r same s = .next ((s.penOp (BitVec.ofNat 8 (k.par 0 1)) 3).done r 0 0 0) := by
  obtain rfl := State.ref_of_started start
  exact congrArg Host.Outcome.next (State.byPath_packet (f := fun k s => s.peAct k 3) rfl start alone)

end

/-! ### The words of a load (R350) -/

theorem Engine.store_putWord (a : Nat) (v : Word) (g : Engine) (i : Fin 32) :
    (g.putWord a v).store[i] = if a = i.val then v else g.store[i] := by
  unfold Engine.putWord
  dsimp only
  split
  · exact Vector.getElem_set ..
  · rename_i out
    rw [if_neg (by omega)]

/-- Words stored one after the other from an address on. -/
def Engine.putWords (a : Nat) : List Word → Engine → Engine
  | [], g => g
  | v :: vs, g => Engine.putWords (a + 1) vs (g.putWord a v)

theorem Engine.putWords_eq (a j : Nat) (vs : List Word) (g : Engine) :
    (vs.zipIdx j).foldl (fun g w => g.putWord (a + w.2) w.1) g = g.putWords (a + j) vs := by
  induction vs generalizing j g with
  | nil => rfl
  | cons v vs ih => exact ih (j + 1) (g.putWord (a + j) v)

theorem Engine.store_putWords (a : Nat) (vs : List Word) (g : Engine) (i : Fin 32) :
    (g.putWords a vs).store[i] = if a ≤ i.val then vs[i.val - a]?.getD g.store[i] else g.store[i] := by
  induction vs generalizing a g with
  | nil => simp [Engine.putWords]
  | cons v vs ih =>
    rw [Engine.putWords, ih, Engine.store_putWord]
    rcases Nat.lt_trichotomy a i.val with before | here | after
    · rw [if_pos (by omega), if_neg (by omega), if_pos (by omega), show i.val - a = i.val - (a + 1) + 1 by omega,
        List.getElem?_cons_succ]
    · rw [if_neg (by omega), if_pos here, if_pos (by omega), here, Nat.sub_self]
      rfl
    · rw [if_neg (by omega), if_neg (by omega), if_neg (by omega)]

theorem Engine.epoch_putWords (a : Nat) (vs : List Word) (g : Engine) : (g.putWords a vs).epoch = g.epoch := by
  induction vs generalizing a g with
  | nil => rfl
  | cons v vs ih => exact ih (a + 1) (g.putWord a v)

/-- The words of a data-in block. -/
def Packet.words (k : Packet) : List Word := (chunks 4 k.block).map fun b => BitVec.ofNat 32 (ofLeBytes b)

theorem Packet.getElem?_words {k : Packet} {n : Nat} (whole : k.block.length = 4 * n) (i : Nat) : k.words[i]? =
    if i < n then some (BitVec.ofNat 32 (ofLeBytes ((k.block.drop (4 * i)).take 4))) else none := by
  have count : (k.block.length + 4 - 1) / 4 = n := by omega
  rw [Packet.words, chunks, count, List.getElem?_map, List.getElem?_map]
  split
  · rename_i inside
    rw [List.getElem?_range inside, Nat.mul_comm 4]
    rfl
  · rename_i outside
    rw [List.getElem?_eq_none (by simpa using outside)]
    rfl

/-- An engine after a load counts it once. -/
def Engine.loaded (a : Nat) (k : Packet) (g : Engine) : Engine :=
  { g.putWords a k.words with epoch := g.epoch + 1 }

theorem Engine.store_loaded {n : Nat} {k : Packet} (whole : k.block.length = 4 * n) (a : Nat) (g : Engine) (i : Fin 32) :
    (g.loaded a k).store[i] = if a ≤ i.val ∧ i.val < a + n then
      BitVec.ofNat 32 (ofLeBytes ((k.block.drop (4 * (i.val - a))).take 4)) else g.store[i] := by
  show (g.putWords a k.words).store[i] = _
  rw [Engine.store_putWords, Packet.getElem?_words whole]
  by_cases low : a ≤ i.val
  · by_cases high : i.val < a + n
    · rw [if_pos low, if_pos (by omega), if_pos ⟨low, high⟩]
      rfl
    · rw [if_pos low, if_neg (by omega), if_neg (by omega)]
      rfl
  · rw [if_neg low, if_neg (by omega)]

theorem State.eng_onEng (e : Fin 8) (g : Engine → Engine) (s : State) : (s.onEng e g).eng e = g (s.eng e) := vupd_same ..

section
variable {same : Bool} {k : Packet} {s : State}

theorem State.peLoad_bad (bad : k.par 2 1 = 0 ∨ 32 < k.par 1 1 % 32 + k.par 2 1) :
    s.peLoad same k = s.done k.ref 2 0 0 := if_pos bad

section
variable (words : k.par 2 1 ≠ 0) (fits : k.par 1 1 % 32 + k.par 2 1 ≤ 32)
include words fits

theorem State.peLoad_shut (shut : s.storeOpen same (Fin.ofNat 8 (k.par 0 1)) = false) : s.peLoad same k =
    (s.raise (R.penEvtProgBusy (Fin.ofNat 8 (k.par 0 1)).val)).done k.ref 3 0x30 0 := by
  unfold State.peLoad
  rw [if_neg (by omega)]
  exact if_pos (by rw [shut]; rfl)

theorem State.peLoad_open (opens : s.storeOpen same (Fin.ofNat 8 (k.par 0 1)) = true) : s.peLoad same k =
    (s.onEng (Fin.ofNat 8 (k.par 0 1)) (·.loaded (k.par 1 1 % 32) k)).done k.ref 0 0 0 := by
  have stored : Engine.loaded (k.par 1 1 % 32) k = fun g =>
      { (k.words.zipIdx.foldl (fun g w => g.putWord (k.par 1 1 % 32 + w.2) w.1) g) with epoch := g.epoch + 1 } := by
    funext g
    rw [Engine.putWords_eq]
    rfl
  unfold State.peLoad
  rw [if_neg (by omega), stored]
  exact if_neg (by rw [opens]; decide)

end

end

/-! ### PE_STATUS (R354) -/

theorem length_leBytes (n v : Nat) : (leBytes n v).length = n := by
  induction n generalizing v with
  | zero => rfl
  | succ n ih => rw [leBytes, List.length_cons, ih]

/-- Pieces of one length, laid end to end. -/
theorem length_flatMap_of_const {α β : Type} {f : α → List β} {n : Nat} (each : ∀ a, (f a).length = n) (l : List α) :
    (l.flatMap f).length = n * l.length := by
  induction l with
  | nil => rfl
  | cons a l ih => rw [List.flatMap_cons, List.length_append, each, ih, List.length_cons, Nat.mul_succ, Nat.add_comm]

theorem length_wordBytes (ws : List Word) : (wordBytes ws).length = 4 * ws.length :=
  length_flatMap_of_const (fun _ => length_leBytes ..) ws

theorem length_fit (n : Nat) (bs : List Byte) : (fit n bs).length = n := by
  rw [fit, List.length_take, List.length_append, List.length_replicate]
  omega

/-- Bytes that fit are padded with zero bytes. -/
theorem fit_of_le {n : Nat} {bs : List Byte} (h : bs.length ≤ n) :
    fit n bs = bs ++ List.replicate (n - bs.length) 0 := by
  rw [fit, List.take_append, List.take_of_length_le h, List.take_replicate, Nat.min_eq_left (Nat.sub_le _ _)]

/-- The 80 bytes of PE_STATUS begin with the levels and the flags as the balls are then. -/
theorem State.peStatus_eq (pins : BitVec 24) (k : Packet) (s : State) : ∃ rest : List Byte, rest.length = 72 ∧
    s.peStatus pins k = (s.samplePins pins).complete k.ref 0 0 0 (leBytes 4 ((s.samplePins pins).readReg 0x0C0004).toNat ++
      (leBytes 4 ((s.samplePins pins).readReg 0x0C0018).toNat ++ rest)) := by
  unfold State.peStatus
  extract_lets sampled bytes
  have status : wordBytes [sampled.readReg 0x0C0004, sampled.readReg 0x0C0018] =
      leBytes 4 (sampled.readReg 0x0C0004).toNat ++ leBytes 4 (sampled.readReg 0x0C0018).toNat := by
    rw [wordBytes, List.flatMap_cons, List.flatMap_cons, List.flatMap_nil, List.append_nil]
  have pair : (wordBytes [sampled.readReg 0x0C0004, sampled.readReg 0x0C0018]).length = 8 := length_wordBytes _
  have length : bytes.length = 80 := by
    refine (List.length_append ..).trans ?_
    rw [length_fit, length_flatMap_of_const (n := 8) (fun e => ?_), List.length_range]
    dsimp only
    rw [List.length_append, List.length_append, length_wordBytes, length_leBytes, length_leBytes]
    rfl
  have head : bytes.take 8 = wordBytes [sampled.readReg 0x0C0004, sampled.readReg 0x0C0018] := by
    show (fit 16 _ ++ _).take 8 = _
    rw [fit_of_le (by omega), List.append_assoc]
    exact List.take_left' pair
  refine ⟨bytes.drop 8, by rw [List.length_drop, length], congrArg (fun data => sampled.complete k.ref 0 0 0 data) ?_⟩
  rw [← List.append_assoc, ← status, ← head, List.take_append_drop]

end Sys2Proof.Machine
end

section
/-! The opcodes of the cuts and of the reel (R200, R204, R207, R211, R276, R284): what a CUT asks for and why it is
refused, and the layouts that a REEL_LAYOUT leads to. -/

namespace Sys2Proof.Machine

/-! ### CUT (R207, R284) -/

section
variable {k : Packet} {s : State}

theorem State.cutOf_behind (behind : WC.ahead (BitVec.ofNat 48 (k.par 10 6)) (BitVec.ofNat 48 (k.par 4 6)) = false) :
    s.cutOf k = .error (2, 0x51) := if_pos (by rw [behind]; rfl)

section
variable (ahead : WC.ahead (BitVec.ofNat 48 (k.par 10 6)) (BitVec.ofNat 48 (k.par 4 6)) = true)
include ahead

theorem State.cutOf_columns (bad : k.par 18 2 % 16384 < k.par 16 2 % 16384 ∨ 16415 < k.par 18 2 % 16384) :
    s.cutOf k = .error (2, 0x52) := by
  unfold State.cutOf
  dsimp only
  rw [ahead]
  exact if_pos bad

section
variable (columns : k.par 16 2 % 16384 ≤ k.par 18 2 % 16384)
include columns

theorem State.cutOf_class (other : s.chClass (Fin.ofNat 16 (k.par 2 1 / 16)).val ≠ 4) :
    s.cutOf k = .error (2, 0x53) := by
  unfold State.cutOf
  dsimp only
  rw [ahead, if_neg (by decide), if_neg (by omega)]
  exact if_pos other

variable (cls : s.chClass (Fin.ofNat 16 (k.par 2 1 / 16)).val = 4)
include cls

theorem State.cutOf_full (full : 8 ≤ s.reel.live.length) : s.cutOf k = .error (3, 0) := by
  unfold State.cutOf
  dsimp only
  rw [ahead, if_neg (by decide), if_neg (by omega), if_neg (not_not_intro cls)]
  exact if_pos full

theorem State.cutOf_ok (room : s.reel.live.length < 8) :
    ∃ c, s.cutOf k = .ok c ∧ c.id = BitVec.ofNat 16 (k.par 0 2) ∧ c.by' = some k.ref ∧ c.active = false ∧
      c.wcFrom = BitVec.ofNat 48 (k.par 4 6) ∧ c.wcTo = BitVec.ofNat 48 (k.par 10 6) := by
  unfold State.cutOf
  dsimp only
  rw [ahead, if_neg (by decide), if_neg (by omega), if_neg (not_not_intro cls), if_neg (by omega)]
  exact ⟨_, rfl, rfl, rfl, rfl, rfl, rfl⟩

end

end

theorem State.cut_refused {st det : Nat} (refused : s.cutOf k = .error (st, det)) : s.cut k = s.done k.ref st det 0 := by
  unfold State.cut
  rw [refused]

theorem State.cut_accepted {c : Cut} (ok : s.cutOf k = .ok c) :
    s.cut k = (s.modReel fun r => { r with cuts := r.cuts ++ [c] }).accept k.ref := by
  unfold State.cut
  rw [ok]

end

theorem State.packet_accept {r : PktRef} {s : State} {k : Packet} (h : s.packet r = some k) :
    (s.accept r).packet r = some { k with stage := .accepted } := by
  refine (State.packet_onPacket ?_ s).trans ?_
  · exact fun _ => rfl
  · rw [h, Option.map_some]

/-- A started CUT that the reel refuses completes with the refusal. -/
theorem execCut_refused {r : PktRef} (same : Bool) {k : Packet} {s : State} {st det : Nat}
    (start : s.started r 0x0500 false = some k) (refused : s.cutOf k = .error (st, det)) :
    execCut r same s = .next (s.done r st det 0) := by
  obtain rfl := State.ref_of_started start
  exact next_of_started start (State.cut_refused refused)

/-! ### CUT_CANCEL (R211, R284) -/

/-- A cut that is cancelled serves no more lines. -/
def Cut.cancelled (c : Cut) : Cut := { c with cancel := true, todo := [] }

@[simp] theorem Cut.cancelled_id (c : Cut) : c.cancelled.id = c.id := rfl

@[simp] theorem Cut.cancelled_cancel (c : Cut) : c.cancelled.cancel = true := rfl

@[simp] theorem Cut.cancelled_todo (c : Cut) : c.cancelled.todo = [] := rfl

section
variable {id : BitVec 16} {s : State}

theorem State.cancelCut_none (none : s.reel.live.find? (·.id = id) = none) : s.cancelCut id = (false, s) := by
  unfold State.cancelCut
  rw [none]

theorem State.cancelCut_some {c : Cut} (found : s.reel.live.find? (·.id = id) = some c) :
    s.cancelCut id = (true, (s.onCuts fun o => if o = c then o.cancelled else o).finishCuts) := by
  unfold State.cancelCut
  rw [found]
  rfl

end

/-- A cut cancelled hands its record over at once. -/
theorem State.any_cancelled {c : Cut} {s : State} (listed : c ∈ s.reel.cuts) :
    (s.onCuts fun o => if o = c then o.cancelled else o).finishCuts.reel.cuts.any
      (fun o => o.id == c.id && o.cancel && o.recorded && o.todo.isEmpty) = true := by
  rw [State.finishCuts_cuts, State.onCuts_cuts, List.any_map, List.any_map, List.any_eq_true]
  refine ⟨c, listed, ?_⟩
  have recorded : c.cancelled.handed.recorded = true := Cut.handed_cancelled rfl
  simp [recorded]

/-! ### REEL_LAYOUT (R200) -/

theorem State.chClass_fset {f : Fld} (own : f.off = 0x080004) (v n : Nat) (s : State) :
    (s.fset f v).chClass n = s.chClass n := State.fget_fset_reg v s (by rw [own]; show 0x090000 + 512 * n ≠ _; omega)

theorem State.cutOf_fset {f : Fld} (own : f.off = 0x080004) (v : Nat) (k : Packet) (s : State) :
    State.cutOf k (s.fset f v) = s.cutOf k := by
  unfold State.cutOf
  simp only [State.chClass_fset own, State.fset_reel]
  rfl

/-- A write of REL_LAYOUT leaves what a CUT of the same core cycle is judged by (R217). -/
theorem State.cutComes_fset {f : Fld} (own : f.off = 0x080004) (v : Nat) (s : State) :
    (s.fset f v).cutComes = s.cutComes := by
  unfold State.cutComes
  simp only [State.cutOf_fset own]
  rfl

/-- The state with REL_LAYOUT written as a packet gives it. -/
def State.layoutAsked (k : Packet) (s : State) : State :=
  (s.fset R.relSaveSize (k.par 0 1 % 128)).fset R.relMemSize (k.par 1 1 % 64)

/-- The conditions that refuse a new layout (R200, R217, R231). -/
def State.layoutShut (s : State) : Bool := s.layoutBusy || s.hdmComes || s.cutComes

section
variable (k : Packet) (s : State)

theorem State.layoutShut_layoutAsked : (s.layoutAsked k).layoutShut = s.layoutShut := by
  have comes : (s.layoutAsked k).cutComes = s.cutComes :=
    (State.cutComes_fset rfl _ _).trans (State.cutComes_fset rfl _ s)
  unfold State.layoutShut
  rw [comes]
  rfl

theorem State.fget_layoutAsked_save : (s.layoutAsked k).fget R.relSaveSize = k.par 0 1 % 128 := by
  rw [State.layoutAsked, State.fget_fset_bits (f := R.relMemSize) (g := R.relSaveSize) _ _ rfl (by decide),
    State.fget_fset_same _ _ _ (by decide)]
  exact Nat.mod_mod _ 128

theorem State.fget_layoutAsked_mem : (s.layoutAsked k).fget R.relMemSize = k.par 1 1 % 64 := by
  rw [State.layoutAsked, State.fget_fset_same _ _ _ (by decide)]
  exact Nat.mod_mod _ 64

end

section
variable {s : State}

theorem State.relayout_shut (shut : s.layoutShut = true) : s.relayout = s.modReel fun r => { r with result := 2 } :=
  if_pos shut

variable (free : s.layoutShut = false)
include free

theorem State.relayout_large (large : 16384 < 64 * min 64 (s.fget R.relSaveSize) + 256 * s.fget R.relMemSize + 1024) :
    s.relayout = s.modReel fun r => { r with result := 3 } :=
  (if_neg (Bool.eq_false_iff.mp free)).trans (if_pos large)

/-- A layout that fits comes into force, with an empty directory and an empty window. -/
theorem State.relayout_fits (fits : 64 * min 64 (s.fget R.relSaveSize) + 256 * s.fget R.relMemSize + 1024 ≤ 16384) :
    s.relayout.reel = { s.reel with
      saveUnits := min 64 (s.fget R.relSaveSize), memUnits := s.fget R.relMemSize, result := 1,
      layouts := s.reel.layouts + 1, ring := [], wptr := 0, dir := [] } ∧ s.relayout.window = [] := by
  have judged : ¬ (s.layoutBusy || s.hdmComes || s.cutComes) = true := Bool.eq_false_iff.mp free
  unfold State.relayout
  dsimp only
  rw [if_neg judged, if_neg (Nat.not_lt.mpr fits), State.raise_reel, State.raise_window]
  exact ⟨rfl, rfl⟩

end

section
variable {k : Packet} {s : State}

theorem State.reelLayout_shut (shut : s.layoutShut = true) : s.reelLayout k =
    ((s.layoutAsked k).modReel fun r => { r with result := 2 }).done k.ref 3 0 2 := by
  have applied := State.relayout_shut ((State.layoutShut_layoutAsked k s).trans shut)
  unfold State.reelLayout
  rw [← State.layoutAsked, applied]
  rfl

variable (free : s.layoutShut = false)
include free

theorem State.reelLayout_large (large : 16384 < 64 * min 64 (k.par 0 1 % 128) + 256 * (k.par 1 1 % 64) + 1024) :
    s.reelLayout k = ((s.layoutAsked k).modReel fun r => { r with result := 3 }).done k.ref 2 0x50 3 := by
  have applied := State.relayout_large ((State.layoutShut_layoutAsked k s).trans free) (by
    rwa [State.fget_layoutAsked_save, State.fget_layoutAsked_mem])
  unfold State.reelLayout
  rw [← State.layoutAsked, applied]
  rfl

theorem State.reelLayout_fits (fits : 64 * min 64 (k.par 0 1 % 128) + 256 * (k.par 1 1 % 64) + 1024 ≤ 16384) :
    ∃ u : State, s.reelLayout k = u.done k.ref 0 0 1 ∧ u.reel.saveUnits = min 64 (k.par 0 1 % 128) ∧
      u.reel.memUnits = k.par 1 1 % 64 ∧ u.reel.dir = [] ∧ u.window = [] := by
  obtain ⟨reel, window⟩ := State.relayout_fits ((State.layoutShut_layoutAsked k s).trans free) (by
    rwa [State.fget_layoutAsked_save, State.fget_layoutAsked_mem])
  rw [State.fget_layoutAsked_save, State.fget_layoutAsked_mem] at reel
  refine ⟨(s.layoutAsked k).relayout, ?_, congrArg Reel.saveUnits reel, congrArg Reel.memUnits reel,
    congrArg Reel.dir reel, window⟩
  have result : (s.layoutAsked k).relayout.reel.result = 1 := by rw [reel]
  unfold State.reelLayout
  rw [← State.layoutAsked]
  dsimp only
  rw [result]
  rfl

end

/-! ### The opcodes -/

/-- Settles O37: a packet that has started runs its opcode as the state stands, and each outcome of the opcode has its
lemma. -/
theorem engineCutAndReelOpcodes : Obligations.EngineCutAndReelOpcodes := by
  unfold Obligations.EngineCutAndReelOpcodes
  refine ⟨?load, ?loadShut, ?loadBad, ?start, ?stop, ?status, ?cut, ?cancelNone, ?cancel, ?freeze, ?layoutShut, ?layout⟩
  case load =>
    rintro r same k _ s start alone rfl words fits whole opens
    obtain rfl := State.ref_of_started start
    have epoch (g : Engine) : (g.loaded (k.par 1 1 % 32) k).epoch = g.epoch + 1 := rfl
    refine ⟨_, (execPeLoad_loads start alone).trans (congrArg Host.Outcome.next (State.peLoad_open words fits opens)), ?_,
      fun i => ?_⟩
    · rw [State.eng_onEng, epoch]
    · rw [State.eng_onEng, Engine.store_loaded whole]
  case loadShut =>
    rintro r same k _ s start alone rfl words fits shut
    obtain rfl := State.ref_of_started start
    exact ⟨_, (execPeLoad_loads start alone).trans (congrArg Host.Outcome.next (State.peLoad_shut words fits shut)),
      State.flag_raise _ s (show 9 + 1 ≤ 32 by decide) rfl, State.raise_pen ..⟩
  case loadBad =>
    intro r same k s start alone bad
    obtain rfl := State.ref_of_started start
    exact (execPeLoad_loads start alone).trans (congrArg Host.Outcome.next (State.peLoad_bad bad))
  case start => exact fun r same k s => execPeStart_starts
  case stop => exact fun r same k s => execPeStop_stops
  case status =>
    intro r pins k s start
    obtain rfl := State.ref_of_started start
    obtain ⟨rest, length, status⟩ := State.peStatus_eq pins k s
    refine ⟨_, _, next_of_started start status, rfl, ?_, ?_, ?_⟩
    · rw [List.length_append, List.length_append, length_leBytes, length_leBytes, length]
    · exact List.take_left' (length_leBytes ..)
    · rw [List.drop_left' (length_leBytes ..)]
      exact List.take_left' (length_leBytes ..)
  case cut =>
    intro r same k s start
    refine ⟨fun behind => ?_, fun ahead bad => ?_, fun ahead columns cls _ full => ?_, fun ahead columns cls _ => ?_,
      fun ahead columns cls _ room => ?_⟩
    · exact execCut_refused same start (State.cutOf_behind behind)
    · exact execCut_refused same start (State.cutOf_columns ahead bad)
    · exact execCut_refused same start (State.cutOf_full ahead columns cls full)
    · exact execCut_refused same start (State.cutOf_class ahead columns cls)
    · obtain rfl := State.ref_of_started start
      obtain ⟨c, ok, fields⟩ := State.cutOf_ok ahead columns cls room
      have packet : (s.modReel fun r => { r with cuts := r.cuts ++ [c] }).packet k.ref = some k :=
        State.packet_of_started start
      exact ⟨_, next_of_started start (State.cut_accepted ok), State.packet_accept packet, c, rfl, fields⟩
  case cancelNone =>
    intro r k s start none
    obtain rfl := State.ref_of_started start
    refine next_of_started start ?_
    rw [State.cutCancel, State.cancelCut_none none]
    rfl
  case cancel =>
    intro r k c s start found
    obtain rfl := State.ref_of_started start
    have listed : c ∈ s.reel.cuts := (List.mem_filter.mp (List.mem_of_find?_eq_some found)).1
    refine ⟨_, next_of_started start ?_, State.any_cancelled listed⟩
    rw [State.cutCancel, State.cancelCut_some found]
    rfl
  case freeze =>
    intro r k s start
    obtain rfl := State.ref_of_started start
    refine ⟨s.fset R.relCtrlFreeze (k.par 0 1 % 2), next_of_started start rfl, ?_, rfl⟩
    rw [State.fget_fset_same _ _ _ (by decide)]
    exact Nat.mod_mod _ 2
  case layoutShut =>
    intro r k s start shut
    obtain rfl := State.ref_of_started start
    refine ⟨_, next_of_started start (State.reelLayout_shut ?_), rfl⟩
    rwa [State.layoutShut, Bool.or_eq_true, Bool.or_eq_true, or_assoc]
  case layout =>
    intro r k s start busy hdm cut
    obtain rfl := State.ref_of_started start
    have free : s.layoutShut = false := by rw [State.layoutShut, busy, hdm, cut]; rfl
    refine ⟨fun fits => ?_, fun large => ⟨_, next_of_started start (State.reelLayout_large free large), rfl⟩⟩
    obtain ⟨u, applied, layout⟩ := State.reelLayout_fits free fits
    exact ⟨u, next_of_started start applied, layout⟩

end Sys2Proof.Machine
end

section
/-! What a completion changes besides the packet that leaves (R270 to R273, R281, R286): handing its units to a channel
changes nothing in the command path but that a warm reset may become due, and no register of the web link or above it. -/

namespace Sys2Proof.Machine

/-! ### Changes on the way of a unit -/

/-- From `s` to `t` nothing changes in the command path but the reset that is due, and no register from the web link's on. -/
structure Conveys (s t : State) : Prop where
  cmd : t.cmd = { s.cmd with warmDue := t.cmd.warmDue }
  reg : ∀ off, 0x0B0000 ≤ off → t.reg off = s.reg off

theorem Conveys.of_same {s t : State} (cmd : t.cmd = s.cmd) (regs : t.regs = s.regs) : Conveys s t :=
  ⟨by rw [cmd], fun _ _ => by unfold State.reg; rw [regs]⟩

theorem Conveys.refl (s : State) : Conveys s s := .of_same rfl rfl

theorem Conveys.then {s t u : State} (h : Conveys s u) (k : Conveys u t) : Conveys s t :=
  ⟨k.cmd.trans (by rw [h.cmd]), fun off high => (k.reg off high).trans (h.reg off high)⟩

theorem Conveys.ite {s t u : State} {c : Prop} {_d : Decidable c} (h : Conveys s t) (k : Conveys s u) :
    Conveys s (if c then t else u) := by
  split
  · exact h
  · exact k

theorem Conveys.iff {c : Bool} {f : State → State} {s : State} (k : ∀ v, Conveys v (f v)) : Conveys s (s.iff c f) :=
  .ite (k s) (.refl s)

theorem Conveys.fold {α : Type} {f : State → α → State} (k : ∀ v a, Conveys v (f v a)) (l : List α) (s : State) :
    Conveys s (l.foldl f s) := by
  induction l generalizing s with
  | nil => exact .refl s
  | cons a l ih => exact (k s a).then (ih _)

theorem Conveys.each {α : Type} {f : α → State → State} (k : ∀ a v, Conveys v (f a v)) (l : List α) (s : State) :
    Conveys s (s.each l f) := .fold (fun v a => k a v) l s

/-- A change of other parts of the state is one. -/
theorem Frame.conveys {ps : List Part} {s t : State} (h : Frame ps s t) (cmd : ps.contains .cmd = false := by rfl)
    (regs : ps.contains .regs = false := by rfl) : Conveys s t := .of_same (h.1 .cmd cmd) (h.1 .regs regs)

theorem State.fset_conveys {f : Fld} (own : f.off < 0x0B0000) (v : Nat) (s : State) : Conveys s (s.fset f v) :=
  ⟨rfl, fun _ high => State.reg_setReg_other _ _ (by omega)⟩

theorem State.count_conveys {f : Fld} (own : f.off < 0x0B0000) (n : Nat) (s : State) : Conveys s (s.count f n) :=
  State.fset_conveys own _ s

/-- An event writes its own register and GLB_ATTN. -/
theorem State.raise_conveys {f : Fld} (own : f.off < 0x0B0000) (s : State) : Conveys s (s.raise f) := by
  have attention : Conveys s (match evAttn f.off f.lo with | some a => s.fset a 1 | none => s) := by
    split
    · rename_i a announced
      exact State.fset_conveys (by rw [(evAttn_off announced).1]; decide) 1 s
    · exact .refl s
  refine ⟨by rw [State.raise_cmd], fun off high => ?_⟩
  unfold State.reg
  rw [State.raise_regs]
  exact (attention.then (State.fset_conveys own 1 _)).reg off high

theorem State.onCh_conveys (ch : Fin 16) (g : Channel → Channel) (s : State) : Conveys s (s.onCh ch g) :=
  (State.onCh_frame ch g s).conveys

theorem State.trace_conveys (event arg : Nat) (data : Word) (s : State) : Conveys s (s.trace event arg data) :=
  (State.trace_frame event arg data s).conveys

/-! ### Dropped and spilled units (R257, R260) -/

theorem State.resetDue_conveys (s : State) : Conveys s s.resetDue := ⟨rfl, fun _ _ => rfl⟩

theorem State.lostUnit_conveys (u : DUnit) (s : State) : Conveys s (s.lostUnit u) := .iff State.resetDue_conveys

theorem State.dropRecord_conveys (ch : Fin 16) (r : DropRun) (s : State) : Conveys s (s.dropRecord ch r) := by
  have own (base : Nat) (low : base ≤ 0x0A0000) : base + 512 * ch.val < 0x0B0000 := by omega
  exact (((State.raise_conveys (own _ (by decide)) _).then (.iff fun v => (State.msix_frame _ v).conveys)).then
    ((State.fset_conveys (own _ (by decide)) _ _).then (State.fset_conveys (own _ (by decide)) _ _))).then
    (State.trace_conveys _ _ _ _)

theorem State.endRun_conveys (ch : Fin 16) (s : State) : Conveys s (s.endRun ch) := by
  unfold State.endRun
  split
  · exact .refl s
  · exact (State.dropRecord_conveys _ _ _).then (State.onCh_conveys _ _ _)

theorem State.dropUnit_conveys (ch : Fin 16) (cause : Nat) (u : DUnit) (s : State) : Conveys s (s.dropUnit ch cause u) := by
  have noted : Conveys s ((s.lostUnit u).onCh ch (·.noteLost u)) :=
    (State.lostUnit_conveys u s).then (State.onCh_conveys _ _ _)
  unfold State.dropUnit
  exact .ite (.refl s) (((noted.then (.iff (State.endRun_conveys ch))).then (State.onCh_conveys _ _ _)).then
    (.iff (State.endRun_conveys ch)))

theorem State.writeDrop_conveys (ch : Fin 16) (r : DropRun) (s : State) : Conveys s (s.writeDrop ch r) :=
  (State.dropRecord_conveys ch r s).then (State.putDrop_frame _ _ _).conveys

theorem State.writeFront_conveys (ch : Fin 16) (s : State) : Conveys s (s.writeFront ch) := by
  unfold State.writeFront
  split
  · exact (State.writeDrop_conveys _ _ _).then (State.onCh_conveys _ _ _)
  · exact .refl s

theorem State.spill_conveys (ch : Fin 16) (u : DUnit) (s : State) : Conveys s (s.spill ch u) := by
  unfold State.spill
  dsimp only
  split
  · exact .then (.iff (State.raise_conveys (by decide))) (State.dropUnit_conveys _ _ _ _)
  · exact ((State.endRun_conveys ch s).then (State.fillChunks_frame _ _ _ _).conveys).then (State.onCh_conveys _ _ _)

theorem State.spillQueue_conveys (ch : Fin 16) (s : State) : Conveys s (s.spillQueue ch) := by
  unfold State.spillQueue
  extract_lets rest later taken spilled
  have queue : Conveys s spilled := by
    refine (State.onCh_conveys ch _ s).then (.each (fun u v => ?_) rest _)
    split
    · exact (State.endRun_conveys ch v).then (State.onCh_conveys _ _ _)
    · exact State.spill_conveys ch u v
  clear_value later
  cases later with
  | some r => exact queue.then ((State.endRun_conveys ch _).then (State.onCh_conveys _ _ _))
  | none => exact queue

/-! ### Parking and going live (R256 to R258) -/

theorem State.park_conveys (ch : Fin 16) (g : Channel → Channel) (s : State) : Conveys s (s.park ch g) := by
  have own (base : Nat) (low : base ≤ 0x0A0000) : base + 512 * ch.val < 0x0B0000 := by omega
  have caused : Conveys s (s.onCh ch g) := State.onCh_conveys ch g s
  unfold State.park
  refine .ite (.then ?_ (State.spillQueue_conveys ch _)) caused
  exact ((caused.then (State.onCh_conveys _ _ _)).then ((State.raise_conveys (own _ (by decide)) _).then
    (State.count_conveys (own _ (by decide)) _ _))).then (State.trace_conveys _ _ _ _)

theorem State.goLive_conveys (ch : Fin 16) (s : State) : Conveys s (s.goLive ch) :=
  (((State.onCh_conveys ch _ s).then (State.placeRuns_frame _ _).conveys).then
    (State.raise_conveys (show 0x090024 + 512 * ch.val < 0x0B0000 by omega) _)).then (State.trace_conveys _ _ _ _)

theorem State.stagingDrained_conveys (ch : Fin 16) (s : State) : Conveys s (s.stagingDrained ch) := by
  unfold State.stagingDrained State.unpark State.resume
  exact (State.onCh_conveys _ _ _).then
    (.ite (.ite (State.goLive_conveys _ _) (State.onCh_conveys _ _ _)) (.refl _))

theorem State.popHead_conveys (ch : Fin 16) (s : State) : Conveys s (s.popHead ch) :=
  (State.onCh_conveys ch _ s).then (State.stagingDrained_conveys _ _)

theorem State.unbind_conveys (ch : Fin 16) (s : State) : Conveys s (s.unbind ch) :=
  .each (fun q _ => .iff (State.raise_conveys (show 0x0A0024 + 64 * q.val < 0x0B0000 by omega))) _ s

/-! ### What a channel does next (R250, R253) -/

theorem State.ask_conveys (ch : Fin 16) (kind : TransFor) (va : Nat) (s : State) : Conveys s (s.ask ch kind va) := by
  unfold State.ask State.sendAsk
  refine .ite (.refl s) (.ite (.refl s) ?_)
  exact ((State.leaveL1_frame s).conveys.then (State.onCh_conveys _ _ _)).then
    (((State.emit_frame _ _).conveys.then (State.count_conveys (by decide) _ _)).then (State.bump_frame _ _ _).conveys)

theorem State.askQueues_conveys (ch : Fin 16) (s : State) : Conveys s (s.askQueues ch) := by
  unfold State.askQueues
  refine .ite ?_ (.refl s)
  split
  · exact State.ask_conveys _ _ _ s
  · exact .refl s

theorem State.pushNotice_conveys (ch : Fin 16) (s : State) : Conveys s (s.pushNotice ch) := by
  unfold State.pushNotice
  exact .ite (.ite (State.onCh_conveys _ _ s) (State.park_conveys _ _ s)) (.iff (State.ask_conveys _ _ _))

theorem State.outgrown_conveys (ch : Fin 16) (b : OpenBuf) (n : Nat) (s : State) : Conveys s (s.outgrown ch b n) := by
  have closed (status : Nat) : Conveys s (s.closeBuf ch status) := (State.closeBuf_frame ch status s).conveys
  unfold State.outgrown
  exact .ite ((closed 0x05).then (State.raise_conveys (show 0x090024 + 512 * ch.val < 0x0B0000 by omega) _)) (closed 0x00)

/-- With no buffer open the channel parks for one, or asks where its next descriptor lies. -/
theorem State.needBuffer_conveys (ch : Fin 16) (s : State) {empty comes missing : Prop} {_ : Decidable empty}
    {_ : Decidable comes} {_ : Decidable missing} (va : Nat) (g : Channel → Channel) :
    Conveys s (if empty then if comes then s else s.park ch g else if missing then s.ask ch .descriptor va else s) :=
  .ite (.ite (.refl s) (State.park_conveys _ _ s)) (.ite (State.ask_conveys _ _ _ s) (.refl s))

theorem State.settleUnit_conveys (ch : Fin 16) (u : DUnit) (s : State) : Conveys s (s.settleUnit ch u) := by
  unfold State.settleUnit
  refine .ite (State.writeFront_conveys ch s) ?_
  split
  · exact State.needBuffer_conveys _ _ _ _
  · exact .ite (.refl s) (.ite (State.outgrown_conveys _ _ _ s) (.ite (State.ask_conveys _ _ _ s)
      (State.writeFront_conveys ch s)))

theorem State.settlePlace_conveys (ch : Fin 16) (id : BitVec 16) (s : State) : Conveys s (s.settlePlace ch id) := by
  unfold State.settlePlace
  dsimp only
  split
  · exact State.needBuffer_conveys _ _ _ _
  · exact .ite (State.outgrown_conveys _ _ _ s) ((State.keepPlace_frame ch id s).conveys.then (State.popHead_conveys ch _))

theorem State.settleRecord_conveys (ch : Fin 16) (p : CutPlace) (s : State) : Conveys s (s.settleRecord ch p) := by
  unfold State.settleRecord
  exact .ite (State.writeFront_conveys ch s) (.ite (.refl s) (.ite (State.ask_conveys _ _ _ s)
    (State.writeFront_conveys ch s)))

theorem State.settleEmpty_conveys (ch : Fin 16) (s : State) : Conveys s (s.settleEmpty ch) := by
  unfold State.settleEmpty
  refine .ite (.refl s) (.ite (State.writeFront_conveys ch s) (.ite (.ite ?_ ?_)
    (.ite (State.goLive_conveys ch s) (.refl s))))
  · exact (State.closeBuf_frame ch _ s).conveys
  · split
    · exact (State.putDrop_frame _ _ _).conveys.then (State.onCh_conveys _ _ _)
    · exact (State.writeDrop_conveys _ _ _).then (State.onCh_conveys _ _ _)
    · exact (State.onCh_conveys _ _ _).then (State.unbind_conveys _ _)

theorem State.settleOnce_conveys (ch : Fin 16) (s : State) : Conveys s (s.settleOnce ch) := by
  unfold State.settleOnce
  refine .ite (.refl s) (.ite (.iff (State.pushNotice_conveys ch)) (.ite (.refl s) ?_))
  split
  · exact State.settleEmpty_conveys ch s
  · split
    case h_1 =>
      exact .ite (State.writeFront_conveys ch s) ((State.putDrop_frame _ _ _).conveys.then (State.popHead_conveys ch _))
    case h_2 => exact State.settlePlace_conveys ch _ s
    case h_3 =>
      have parked (g : Channel → Channel) (q : Fin 8) : Conveys s ((s.raise (R.cmdQEvtCqWait q.val)).park ch g) :=
        (State.raise_conveys (show 0x0A0024 + 64 * q.val < 0x0B0000 by omega) s).then (State.park_conveys _ _ _)
      exact .ite (State.writeFront_conveys ch s) (.ite (.refl s) (.ite (.ite (.refl s) (parked _ _))
        (.ite (State.ask_conveys _ _ _ s) (.refl s))))
    case h_4 =>
      split
      · exact State.settleRecord_conveys ch _ s
      · exact State.settleUnit_conveys ch _ s

theorem State.settle_conveys (ch : Fin 16) (s : State) : Conveys s (s.settle ch) :=
  (Conveys.fold (fun v _ => State.settleOnce_conveys ch v) _ s).then (State.askQueues_conveys ch _)

theorem State.slotFreed_conveys (ch : Fin 16) (s : State) : Conveys s (s.slotFreed ch) := by
  refine .then (.iff fun v => ?_) (State.settle_conveys ch _)
  unfold State.unpark State.resume
  exact (State.onCh_conveys _ _ _).then
    (.ite (.ite (State.goLive_conveys _ _) (State.onCh_conveys _ _ _)) (.refl _))

/-! ### Units handed to a channel (R246) -/

theorem State.handUnit_conveys (ch : Fin 16) (u : DUnit) (s : State) : Conveys s (s.handUnit ch u) := by
  have budget (v : State) : Conveys v (v.raise R.glbBudgetLnkOver) := State.raise_conveys (by decide) v
  unfold State.handUnit
  refine (State.leaveL1_frame s).conveys.then (.ite (State.dropUnit_conveys _ _ _ _) ?_)
  split
  · exact (State.endRun_conveys ch _).then (.ite
      ((((budget _).then (State.park_conveys _ _ _)).then (State.spill_conveys _ _ _)).then
        (State.stagingDrained_conveys _ _))
      ((State.onCh_conveys _ _ _).then (State.settle_conveys _ _)))
  · exact (budget _).then (State.spill_conveys _ _ _)
  · exact State.spill_conveys _ _ _

theorem State.handClass_conveys (cls : Nat) (ch : Fin 16) (u : DUnit) (s : State) : Conveys s (s.handClass cls ch u) :=
  .ite (State.handUnit_conveys ch u s) (State.dropUnit_conveys ch 3 u s)

end Sys2Proof.Machine
end

section
/-! What commands that complete change of the command path, of the Tender and of the registers (R270, R272, R286). -/

namespace Sys2Proof.Machine

/-- From `s` to `t` commands complete: in the command path nothing changes but the packets held, the mailbox and the reset
that is due, in the Tender only the tick since which it is idle, and no register from the web link's on. -/
structure Completes (s t : State) : Prop where
  cmd : t.cmd = { s.cmd with packets := t.cmd.packets, mail := t.cmd.mail, atReam := t.cmd.atReam, busy := t.cmd.busy,
                             warmDue := t.cmd.warmDue }
  tnd : t.tnd = { s.tnd with idleFrom := t.tnd.idleFrom }
  reg : ∀ off, 0x0B0000 ≤ off → t.reg off = s.reg off
  packets : ∀ k, k ∈ t.cmd.packets → k ∈ s.cmd.packets ∨ s.cmd.mail = some k
  mail : ∀ k, t.cmd.mail = some k → s.cmd.mail = some k

theorem Completes.refl (s : State) : Completes s s := ⟨rfl, rfl, fun _ _ => rfl, fun _ => .inl, fun _ => id⟩

theorem Completes.then {s t u : State} (h : Completes s u) (k : Completes u t) : Completes s t where
  cmd := k.cmd.trans (by rw [h.cmd])
  tnd := k.tnd.trans (by rw [h.tnd])
  reg off high := (k.reg off high).trans (h.reg off high)
  packets p held := (k.packets p held).elim (h.packets p) fun waits => .inr (h.mail p waits)
  mail p waits := h.mail p (k.mail p waits)

section
variable {s t : State} (h : Completes s t)
include h

theorem Completes.queue : t.tnd.queue = s.tnd.queue := by rw [h.tnd]

theorem Completes.lseq : t.tnd.lseq = s.tnd.lseq := by rw [h.tnd]

theorem Completes.notes : t.tnd.notes = s.tnd.notes := by rw [h.tnd]

theorem Completes.inhCnt : t.tnd.inhCnt = s.tnd.inhCnt := by rw [h.tnd]

theorem Completes.inhList : t.tnd.inhList = s.tnd.inhList := by rw [h.tnd]

theorem Completes.jobs : t.tnd.jobs = s.tnd.jobs := by rw [h.tnd]

theorem Completes.banks : t.tnd.banks = s.tnd.banks := by rw [h.tnd]

end

theorem Completes.ite {s t u : State} {c : Prop} {_d : Decidable c} (h : Completes s t) (k : Completes s u) :
    Completes s (if c then t else u) := by
  split
  · exact h
  · exact k

theorem Completes.iff {c : Bool} {f : State → State} {s : State} (k : ∀ v, Completes v (f v)) : Completes s (s.iff c f) :=
  .ite (k s) (.refl s)

theorem Completes.each {α : Type} {f : α → State → State} (k : ∀ a v, Completes v (f a v)) (l : List α) (s : State) :
    Completes s (s.each l f) := by
  unfold State.each
  induction l generalizing s with
  | nil => exact .refl s
  | cons a l ih => exact (k a s).then (ih _)

/-- What a unit changes on its way, the Tender aside. -/
theorem Conveys.completes {s t : State} (h : Conveys s t) (tnd : t.tnd = s.tnd) : Completes s t where
  cmd := h.cmd.trans (by rw [h.cmd])
  tnd := by rw [tnd]
  reg := h.reg
  packets p held := .inl (by rwa [h.cmd] at held)
  mail p waits := by rwa [h.cmd] at waits

theorem State.takeMail_completes (s : State) : Completes s s.takeMail := by
  unfold State.takeMail
  split
  · rename_i p waits
    refine .ite ⟨rfl, rfl, fun _ _ => rfl, fun k held => ?_, fun k none => nomatch none⟩ (.refl s)
    exact (List.mem_append.mp held).imp_right fun taken => waits.trans (congrArg some (List.mem_singleton.mp taken).symm)
  · exact .refl s

theorem State.dismiss_completes (r : PktRef) (s : State) : Completes s (s.dismiss r) := by
  refine Completes.then ?_ (State.takeMail_completes _)
  exact ⟨rfl, rfl, fun _ _ => rfl, fun _ held => .inl (List.mem_filter.mp held).1, fun _ => id⟩

theorem State.storeBytes_conveys {off : Nat} {bs : List Byte} (s : State) (low : off + bs.length < 0x0AFFF0) :
    Conveys s (s.storeBytes off bs) := by
  have length : ceilDiv bs.length 4 * 4 ≤ bs.length + 3 := Nat.div_mul_le_self _ _
  have words : ∀ l : List Nat, (∀ i ∈ l, i < ceilDiv bs.length 4) → ∀ v : State, Conveys v (v.each l fun i s =>
      let part := (bs.drop (4 * i)).take 4
      s.setReg (off + 4 * i) (setBits (s.reg (off + 4 * i)) 0 (8 * part.length) (ofLeBytes part))) := by
    intro l
    induction l with
    | nil => exact fun _ => .refl
    | cons i l ih =>
      intro short v
      have first := short i (.head l)
      refine Conveys.then ?_ (ih (fun j listed => short j (.tail i listed)) _)
      exact ⟨rfl, fun _ high => State.reg_setReg_other _ _ (by omega)⟩
  exact words _ (fun _ listed => List.mem_range.mp listed) s

theorem State.mailboxDone_completes (r : PktRef) (op status detail result : Nat) (data : List Byte) (s : State) :
    Completes s (s.mailboxDone r op status detail result data) := by
  have idle (v : State) : Completes v (v.modCmd fun c => { c with busy := false }) :=
    ⟨rfl, rfl, fun _ _ => rfl, fun _ => .inl, fun _ => id⟩
  have cut (n : Nat) (bs : List Byte) : (bs.take n).length ≤ n := by rw [List.length_take]; omega
  have stored (v : State) {off n : Nat} {bs : List Byte} (low : off + n < 0x0AFFF0) :
      Completes v (v.storeBytes off (bs.take n)) := by
    have := cut n bs
    refine (State.storeBytes_conveys v (by omega)).completes ?_
    exact (Frame.each (ps := [.regs, .settings]) (.refl _ v) fun _ u => State.setReg_any _ _ u).1 .tnd rfl
  have freed : Completes s { s with free := s.free + 1 } := (Frame.put_free _ s).conveys.completes rfl
  have told (v : State) : Completes v (((v.fset R.cmdTwCtrlBusy 0).raise R.cmdTwEvtDone).bump 0xD8 1) :=
    (((State.fset_conveys (by decide) _ _).then (State.raise_conveys (by decide) _)).then
      (State.bump_frame _ _ _).conveys).completes (by rw [State.bump_tnd, State.raise_tnd, State.fset_tnd])
  unfold State.mailboxDone
  exact (((freed.then (stored _ (by decide))).then (stored _ (by decide))).then (idle _)).then (told _)

theorem State.handClass_completes (cls : Nat) (ch : Fin 16) (u : DUnit) (s : State) :
    Completes s (s.handClass cls ch u) :=
  (State.handClass_conveys cls ch u s).completes ((State.handClass_frame cls ch u s).1 .tnd rfl)

theorem State.loseCompletion_completes (q : Fin 8) (s : State) : Completes s (s.loseCompletion q) :=
  have own (base : Nat) (low : base ≤ 0x0A0100) : base + 64 * q.val < 0x0B0000 := by omega
  ((State.count_conveys (own _ (by decide)) _ _).then (State.raise_conveys (own _ (by decide)) _)).completes
    ((State.loseCompletion_frame q s).1 .tnd rfl)

/-- A command completes, once its packet has left. -/
theorem State.complete_completes_dismiss {r : PktRef} {k : Packet} {s : State} (held : s.packet r = some k)
    (status detail result : Nat) (data : List Byte) :
    Completes (s.dismiss r) (s.complete r status detail result data) := by
  have due {b : Bool} (v : State) : Completes v (v.iff b (·.resetDue)) :=
    .iff fun v => (State.resetDue_conveys v).completes rfl
  unfold State.complete
  split
  · rename_i none
    cases none.symm.trans held
  · extract_lets now left noted reset counted q ch returned
    have gone : Completes (s.dismiss r) noted := ⟨rfl, rfl, fun _ _ => rfl, fun _ => .inl, fun _ => id⟩
    have told : Completes noted counted := (State.bump_frame _ _ _).conveys.completes (State.bump_tnd ..)
    have data : Completes counted returned := .ite (.refl _) (State.handClass_completes _ _ _ _)
    exact gone.then (.ite ((State.mailboxDone_completes _ _ _ _ _ _ _).then (due _)) (told.then
      (.ite ((State.loseCompletion_completes _ _).then (due _)) (data.then (State.handClass_completes _ _ _ _)))))

theorem State.complete_completes (r : PktRef) (status detail result : Nat) (data : List Byte) (s : State) :
    Completes s (s.complete r status detail result data) := by
  cases held : s.packet r with
  | none =>
    rw [State.complete, held]
    exact .refl s
  | some k => exact (State.dismiss_completes r s).then (State.complete_completes_dismiss held status detail result data)

theorem State.done_completes (r : PktRef) (status detail result : Nat) (s : State) :
    Completes s (s.done r status detail result) := State.complete_completes r status detail result [] s

/-! ### Packets that have left -/

/-- No packet of a reference is held but the one that waited in the mailbox. -/
def Left (r : PktRef) (s t : State) : Prop := ∀ k, k ∈ t.cmd.packets → k.ref = r → s.cmd.mail = some k

theorem Left.gone {r : PktRef} {s t : State} (h : Left r s t) : Gone r s t :=
  fun k found => h k (List.mem_of_find?_eq_some found) (State.ref_of_packet found)

theorem State.complete_left (r : PktRef) (status detail result : Nat) (data : List Byte) (s : State) :
    Left r s (s.complete r status detail result data) := by
  intro p listed own
  cases held : s.packet r with
  | none =>
    rw [State.complete, held] at listed
    exact absurd own (by simpa using List.find?_eq_none.mp held p listed)
  | some k =>
    rw [(State.complete_handsOver held status detail result data).packets] at listed
    exact (State.mem_dismiss listed).resolve_left fun other => other own

theorem State.done_left (r : PktRef) (status detail result : Nat) (s : State) : Left r s (s.done r status detail result) :=
  State.complete_left r status detail result [] s

end Sys2Proof.Machine
end

section
/-! The opcodes of the thermal manager and of observation (R276, R422, R423, R445): each runs on its started packet, and
the bytes it returns begin with what the registers and the measurements hold. -/

namespace Sys2Proof.Machine

/-! ### The bytes of the status blocks -/

/-- A block padded to a length begins with its first piece. -/
theorem take_fit_append {n m : Nat} {as bs : List Byte} (cut : as.length = n) (fits : n ≤ m) :
    (fit m (as ++ bs)).take n = as := by
  rw [fit, List.take_take, Nat.min_eq_left fits, List.append_assoc]
  exact List.take_left' cut

theorem wordBytes_cons (w : Word) (ws : List Word) : wordBytes (w :: ws) = leBytes 4 w.toNat ++ wordBytes ws := rfl

theorem State.take_thmStatus (s : State) : s.thmStatus.take 4 = leBytes 4 (s.readReg 0x0E0020).toNat := by
  unfold State.thmStatus
  rw [List.map_cons, wordBytes_cons, List.append_assoc]
  exact take_fit_append (length_leBytes ..) (by decide)

theorem State.getElem?_thmStatus (s : State) : s.thmStatus[24]? = some (BitVec.ofNat 8 s.felt.ceil) := by
  unfold State.thmStatus
  rw [fit, List.getElem?_take_of_lt (by decide), List.append_assoc,
    List.getElem?_append_right (by rw [length_wordBytes, List.length_map]; decide), length_wordBytes]
  rfl

/-- The block of POWER_STATUS begins with the powers of the rails, 14 of which fill 28 bytes. -/
theorem State.take_powerStatus {s : State} (rails : s.thm.rails.length = 14) :
    s.powerStatus.take 28 = s.thm.rails.flatMap fun v => leBytes 2 (min 0xFFFF v) := by
  unfold State.powerStatus
  dsimp only
  rw [List.append_assoc, List.append_assoc, List.flatMap_append]
  exact take_fit_append (by rw [length_flatMap_of_const fun _ => length_leBytes .., rails]) (by decide)

/-! ### THM_LIMITS, OBS_COUNTERS and OBS_TRACE -/

section
variable {k : Packet} {s : State}

/-- The word of THM_LIMITS with the fields that a packet gives. -/
def State.limits (s : State) (k : Packet) : Word := setBits (setBits (s.reg 0x0E0000) 0 8 (k.par 0 1)) 8 7 (k.par 1 1)

theorem State.thmLimits_bad (bad : k.par 0 1 < 80 ∨ 105 < k.par 0 1 ∨ k.par 1 1 < 1 ∨ 64 < k.par 1 1) :
    s.thmLimits k = s.done k.ref 2 0x70 0 := if_pos bad

theorem State.thmLimits_good (startLo : 80 ≤ k.par 0 1) (startHi : k.par 0 1 ≤ 105) (rateLo : 1 ≤ k.par 1 1)
    (rateHi : k.par 1 1 ≤ 64) : s.thmLimits k = if s.violates 0x0E0000 (s.limits k) then s.done k.ref 9 1 0
      else (s.busWrite { path := .tender } 0x0E0000 (s.limits k)).done k.ref 0 0 0 := if_neg (by omega)

theorem State.obsCounters_bad (bad : 255 < k.par 0 2 ∨ k.par 2 2 = 0 ∨ 256 < k.par 0 2 + k.par 2 2) :
    s.obsCounters k = s.done k.ref 2 0 0 := if_pos bad

theorem State.obsCounters_good (first : k.par 0 2 ≤ 255) (some : k.par 2 2 ≠ 0) (last : k.par 0 2 + k.par 2 2 ≤ 256) :
    s.obsCounters k = s.complete k.ref 0 0 0 ((List.range (k.par 2 2)).flatMap fun i =>
      leBytes 8 ((mget (k.par 0 2 + i) s.obs.cnt).getD 0).toNat) := if_neg (by omega)

theorem State.giveData_long {r : PktRef} {n : Nat} (data : State → List Byte) (long : tooLong r n = true) :
    s.giveData r n data = s.done r 2 0xF5 0 := if_pos long

theorem State.giveData_short {r : PktRef} {n : Nat} (data : State → List Byte) (short : tooLong r n = false) :
    s.giveData r n data = s.complete r 0 0 0 (data s) := if_neg (Bool.eq_false_iff.mp short)

theorem State.obsTrace_bad (bad : k.par 4 4 = 0 ∨ 4096 < k.par 4 4) : s.obsTrace k = s.done k.ref 2 0 0 := if_pos bad

theorem State.obsTrace_good (some : k.par 4 4 ≠ 0) (most : k.par 4 4 ≤ 4096) : s.obsTrace k =
    s.giveData k.ref (16 * k.par 4 4) fun s => (List.range (k.par 4 4)).flatMap fun i => s.obs.slot (k.par 0 4 + i) :=
  if_neg (by omega)

end

/-- Settles O39: each opcode runs on its started packet, by the case its operands fall in. -/
theorem statusAndObservationOpcodes : Obligations.StatusAndObservationOpcodes := by
  unfold Obligations.StatusAndObservationOpcodes
  refine ⟨?thermal, ?limitsBad, ?limits, ?power, ?counters, ?trace⟩
  case thermal =>
    intro r k s start
    obtain rfl := State.ref_of_started start
    exact ⟨_, next_of_started start rfl, length_fit .., State.take_thmStatus s, State.getElem?_thmStatus s⟩
  case limitsBad =>
    intro r k s start bad
    obtain rfl := State.ref_of_started start
    exact next_of_started start (State.thmLimits_bad bad)
  case limits =>
    rintro r k _ s start startLo startHi rateLo rateHi rfl
    obtain rfl := State.ref_of_started start
    exact next_of_started start (State.thmLimits_good startLo startHi rateLo rateHi)
  case power =>
    intro r k s start
    obtain rfl := State.ref_of_started start
    exact ⟨_, next_of_started start rfl, length_fit .., State.take_powerStatus⟩
  case counters =>
    intro r k s start
    obtain rfl := State.ref_of_started start
    exact ⟨fun bad => next_of_started start (State.obsCounters_bad bad),
      fun first some last => next_of_started start (State.obsCounters_good first some last)⟩
  case trace =>
    intro r k s start
    obtain rfl := State.ref_of_started start
    exact ⟨fun bad => next_of_started start (State.obsTrace_bad bad),
      fun some most long => next_of_started start ((State.obsTrace_good some most).trans (State.giveData_long _ long)),
      fun some most short => next_of_started start ((State.obsTrace_good some most).trans (State.giveData_short _ short))⟩

end Sys2Proof.Machine
end

section
/-! What stands against the statement on the opcodes that read and write registers: a REG_READ of PEN_PIN_IN looks at the
balls, which takes a free word for the pairs that nothing drives (R340, assumption 7). -/

namespace Sys2Proof.Machine

/-- A completion that goes to a queue takes no free word. -/
theorem State.complete_free {r : PktRef} (queue : r.tw = false) (status detail result : Nat) (data : List Byte) (s : State) :
    (s.complete r status detail result data).free = s.free := by
  have due {b : Bool} (v : State) : Frame [.cmd] v (v.iff b (·.resetDue)) := .iff (.refl _ v) State.resetDue_frame
  unfold State.complete
  split
  · rfl
  · extract_lets now left noted reset counted q ch returned
    have told : Frame [.obs] noted counted := State.bump_frame _ _ _
    have start : counted.free = s.free := (told.1 .free rfl).trans ((State.takeMail_frame _).1 .free rfl)
    rw [if_neg (by rw [queue]; decide)]
    split
    · exact (((due _).1 .free rfl).trans ((State.loseCompletion_frame _ _).1 .free rfl)).trans start
    · refine ((State.handClass_frame _ _ _ _).1 .free rfl).trans (Eq.trans ?_ start)
      unfold returned
      split
      · rfl
      · exact (State.handClass_frame _ _ _ _).1 .free rfl

/-- A REG_READ of one word, PEN_PIN_IN, from queue 0. -/
def pinRead : Packet :=
  { ref := { tw := false, queue := 0, tag := 0 }, stage := .dispatched
    bytes := BitVec.ofNat 512 (0x0005 + 40 * 2 ^ 48 + 0x0C0018 * 2 ^ 192 + 1 * 2 ^ 224) }

/-- It has started on a Tender that runs. -/
def pinReading : State := { State.reset with tnd := { up := true }, cmd := { packets := [pinRead] } }

/-- The free words taken once a command has run. -/
def freeAfter : Answer → Option Nat
  | .next t => some t.free
  | _ => none

/-- The look at the balls has taken one free word. -/
theorem freeAfter_pinReading : freeAfter (exec (.regRead pinRead.ref [] 0 false) pinReading) = some 1 := by
  decide +kernel

/-- Refutes O33: the first clause lets a REG_READ change, besides what its completion changes, the engines' view of the
balls and not the count of free words. A REG_READ of PEN_PIN_IN takes a free word as it looks at the balls, and a
completion that goes to a queue takes none: the list of the clause lacks `.free`. -/
theorem not_registerAndStagingOpcodes : ¬ Obligations.RegisterAndStagingOpcodes := by
  unfold Obligations.RegisterAndStagingOpcodes
  rintro ⟨reads, -⟩
  obtain ⟨b, u, run, -, only, -⟩ :=
    reads pinRead.ref [] 0 false pinRead pinReading (by decide +kernel) (by decide +kernel) (by decide +kernel)
  have kept : u.free = 0 := only .free rfl
  have taken := freeAfter_pinReading
  rw [run] at taken
  have taken : (u.complete pinRead.ref 0 0 0 b).free = 1 := Option.some.inj taken
  rw [State.complete_free rfl, kept] at taken
  exact absurd taken (by decide)

end Sys2Proof.Machine
end

section
/-! The opcodes of the log and of the firmware (R276, R279, R375 to R382, R385, R386): the records of a LOG_NOTE and when
it waits for them, and where a FW_WRITE or a FW_ACTIVATE is refused or begun. -/

namespace Sys2Proof.Machine

/-! ### Log records (R375) -/

theorem ofLeBytes_leBytes_append (n v : Nat) (bs : List Byte) :
    ofLeBytes (leBytes n v ++ bs) = v % 256 ^ n + 256 ^ n * ofLeBytes bs := by
  induction n generalizing v with
  | zero => simp [leBytes, Nat.mod_one]
  | succ n ih =>
    have split : v % 256 ^ (n + 1) = v % 256 + 256 * (v / 256 % 256 ^ n) := by rw [Nat.pow_succ', Nat.mod_mul]
    rw [leBytes, List.cons_append, ofLeBytes, ih, split, BitVec.toNat_ofNat, pow_succ' 256 n, Nat.mul_add, Nat.mul_assoc,
      Nat.add_assoc]

/-- A record begins with its LSEQ. -/
theorem bits_logRecord (lseq tick code sev boot head : Nat) (deferred remote posted : Bool) (data : List Byte) :
    bits (logRecord lseq tick code sev boot head deferred remote posted data) 0 32 = lseq % 2 ^ 32 := by
  unfold logRecord bits
  simp only [List.append_assoc]
  rw [ofLeBytes_leBytes_append, BitVec.toNat_ofNat, Nat.shiftRight_zero,
    Nat.mod_mod_of_dvd _ (Nat.pow_dvd_pow 2 (by decide : 32 ≤ 256)), show 256 ^ 4 = 2 ^ 32 by decide, Nat.add_mul_mod_self_left,
    Nat.mod_mod]

/-! ### Records of the Tender's own (R376, R378) -/

/-- From `s` to `t` records of the Tender's own are formed: nothing else changes in the Tender but that it wakes. -/
def Logs (s t : State) : Prop :=
  t.tnd = { s.tnd with lseq := t.tnd.lseq, queue := t.tnd.queue, asleep := t.tnd.asleep, refused := t.tnd.refused,
                       inhCnt := t.tnd.inhCnt }

theorem Logs.notes {s t : State} (h : Logs s t) : t.tnd.notes = s.tnd.notes := by
  unfold Logs at h
  rw [h]

theorem Logs.then {s t u : State} (h : Logs s u) (k : Logs u t) : Logs s t := by
  unfold Logs at *
  exact k.trans (by rw [h])

section
variable (code : Nat) (data : List Byte) (s : State)

/-- The record that is formed now. -/
def State.ownRecord : BitVec 256 :=
  logRecord s.tnd.lseq.toNat s.now code (b2n (Config.severe code)) s.tnd.bootCount.toNat (s.fget R.wlkHeadId) false false
    false data

theorem State.bits_ownRecord : bits (s.ownRecord code data) 0 32 = s.tnd.lseq.toNat := by
  rw [State.ownRecord, bits_logRecord, Nat.mod_eq_of_lt s.tnd.lseq.isLt]

variable {s}

/-- With room in the queue the record joins it. -/
theorem State.tnd_logOwn_room (room : s.tnd.queue.length < 1024) : (s.logOwn code data).tnd =
    { s.tnd with lseq := s.tnd.lseq + 1, queue := s.tnd.queue ++ [s.ownRecord code data], asleep := false,
                 inhCnt := if s.tnd.inhibit then s.tnd.inhCnt + 1 else s.tnd.inhCnt } := by
  unfold State.logOwn State.queueLog
  dsimp only
  rw [if_pos room]
  rfl

/-- A full queue refuses the record. -/
theorem State.tnd_logOwn_full (full : ¬ s.tnd.queue.length < 1024) : ∃ refused,
    (s.logOwn code data).tnd = { s.tnd with lseq := s.tnd.lseq + 1, refused := refused } := by
  unfold State.logOwn State.queueLog
  dsimp only
  rw [if_neg full, State.raise_tnd]
  exact ⟨_, rfl⟩

variable (s)

theorem State.logOwn_logs : Logs s (s.logOwn code data) ∧ (s.logOwn code data).tnd.lseq = s.tnd.lseq + 1 := by
  unfold Logs
  by_cases room : s.tnd.queue.length < 1024
  · rw [State.tnd_logOwn_room code data room]
    exact ⟨rfl, rfl⟩
  · obtain ⟨refused, tnd⟩ := State.tnd_logOwn_full code data room
    rw [tnd]
    exact ⟨rfl, rfl⟩

end

/-- Records formed one after the other, all of which find room. -/
theorem State.queue_each_logOwn (code : Nat → Nat) (data : Nat → List Byte) (l : List Nat) {s : State}
    (room : s.tnd.queue.length + l.length ≤ 1024) : ∃ records : List (BitVec 256), records.length = l.length ∧
      (s.each l fun k s => s.logOwn (code k) (data k)).tnd.queue = s.tnd.queue ++ records ∧
      ∀ record, records.head? = some record → bits record 0 32 = s.tnd.lseq.toNat := by
  unfold State.each
  induction l generalizing s with
  | nil => exact ⟨[], rfl, (List.append_nil _).symm, nofun⟩
  | cons k l ih =>
    rw [List.length_cons] at room
    have queue : (s.logOwn (code k) (data k)).tnd.queue = s.tnd.queue ++ [s.ownRecord (code k) (data k)] := by
      rw [State.tnd_logOwn_room _ _ (by omega)]
    obtain ⟨records, length, queues, -⟩ := ih (s := s.logOwn (code k) (data k))
      (by rw [queue, List.length_append, List.length_singleton]; omega)
    refine ⟨s.ownRecord (code k) (data k) :: records, by rw [List.length_cons, length, List.length_cons], ?_,
      fun first head => ?_⟩
    · rw [List.foldl_cons, queues, queue, List.append_assoc, List.singleton_append]
    · rw [← Option.some.inj head, State.bits_ownRecord]

theorem State.each_logOwn_logs {α : Type} (code : α → Nat) (data : α → List Byte) (l : List α) (s : State) :
    Logs s (s.each l fun k s => s.logOwn (code k) (data k)) ∧
      (s.each l fun k s => s.logOwn (code k) (data k)).tnd.lseq = s.tnd.lseq + BitVec.ofNat 32 l.length := by
  unfold State.each
  induction l generalizing s with
  | nil => exact ⟨rfl, (BitVec.add_zero _).symm⟩
  | cons k l ih =>
    obtain ⟨logs, lseq⟩ := ih (s.logOwn (code k) (data k))
    obtain ⟨first, next⟩ := State.logOwn_logs (code k) (data k) s
    refine ⟨first.then logs, ?_⟩
    rw [List.foldl_cons, lseq, next, List.length_cons, BitVec.add_assoc, Nat.add_comm, BitVec.ofNat_add]
    rfl

theorem State.each_logOwn_cmd {α : Type} (code : α → Nat) (data : α → List Byte) (l : List α) (s : State) :
    (s.each l fun k s => s.logOwn (code k) (data k)).cmd = s.cmd :=
  (Frame.each (.refl [.regs, .link, .tnd, .obs, .out] s) fun _ v => State.logOwn_frame _ _ v).1 .cmd rfl

/-! ### Other packets as a command completes -/

theorem State.packet_complete_other {r q : PktRef} (other : q ≠ r) {k : Packet} {s : State} (held : s.packet r = some k)
    (status detail result : Nat) (data : List Byte) : (s.complete q status detail result data).packet r = some k := by
  have left : (s.cmd.packets.filter fun o => decide (o.ref ≠ q)).find? (fun o => decide (o.ref = r)) = some k := by
    rw [List.find?_filter]
    refine Eq.trans (congrArg (s.cmd.packets.find? ·) (funext fun o => ?_)) held
    by_cases own : o.ref = r
    · rw [own]
      simp [other.symm]
    · simp [own]
  have more (taken : List Packet) : ((s.cmd.packets.filter fun o => decide (o.ref ≠ q)) ++ taken).find?
      (fun o => decide (o.ref = r)) = some k := by
    rw [List.find?_append, left]
    rfl
  have dismissed : (s.dismiss q).packet r = some k := by
    unfold State.dismiss State.takeMail State.packet
    split
    · split
      · exact more _
      · exact left
    · exact left
  cases found : s.packet q with
  | none =>
    rw [State.complete, found]
    exact held
  | some o => exact ((State.complete_handsOver found status detail result data).packet r).trans dismissed

theorem State.packet_modTnd (r : PktRef) (g : Tender → Tender) (s : State) : (s.modTnd g).packet r = s.packet r := rfl

theorem State.packet_each_done {r : PktRef} {α : Type} {ref : α → PktRef} {l : List α} (other : ∀ e ∈ l, ref e ≠ r)
    {k : Packet} {s : State} (held : s.packet r = some k) :
    (s.each l fun e s => s.done (ref e) 0 0 0).packet r = some k := by
  unfold State.each
  induction l generalizing s with
  | nil => exact held
  | cons e l ih =>
    exact ih (fun a listed => other a (.tail e listed)) (State.packet_complete_other (other e (.head l)) held ..)

/-! ### LOG_READ and LOG_NOTE (R276, R279) -/

section
variable {k : Packet} {s : State}

theorem State.logRead_none (none : k.par 4 4 = 0) : s.logRead k = s.done k.ref 2 0 0 := if_pos none

theorem State.logRead_long (some : k.par 4 4 ≠ 0) (long : tooLong k.ref (k.par 4 4) = true) :
    s.logRead k = s.done k.ref 2 0xF5 0 := (if_neg some).trans (if_pos long)

theorem State.logRead_reads (some : k.par 4 4 ≠ 0) (short : tooLong k.ref (k.par 4 4) = false) : s.logRead k =
    s.complete k.ref 0 0 0 ((List.range (k.par 4 4)).map fun i => s.tnd.logByte (k.par 0 4 + i)) :=
  (if_neg some).trans (if_neg (Bool.eq_false_iff.mp short))

theorem State.logNote_shut (shut : s.nvShut = true) : s.logNote k = (s.nvNote 0x0601 1).done k.ref 7 1 0 := if_pos shut

/-- The state with the four records of a note formed. -/
def State.noteFormed (s : State) (k : Packet) : State :=
  s.each [0, 1, 2, 3] fun i s => s.logOwn (2 + i) (leBytes 8 (k.par (8 * i) 8))

/-- The note waits for them. -/
def State.noted (s : State) (k : Packet) : State :=
  ((s.noteFormed k).modTnd fun t => { t with notes := t.notes ++ [(k.ref, s.tnd.lseq)] }).runOn k.ref

theorem State.logNote_open (free : s.nvShut = false) : s.logNote k = (s.noted k).notesDone :=
  if_neg (Bool.eq_false_iff.mp free)

theorem State.packet_noted (held : s.packet k.ref = some k) :
    (s.noted k).packet k.ref = some { k with stage := .running } := by
  have cmd : (s.noteFormed k).cmd = s.cmd := State.each_logOwn_cmd (2 + ·) (fun i => leBytes 8 (k.par (8 * i) 8)) _ s
  have same : (s.noteFormed k).packet k.ref = some k := by
    unfold State.packet
    rw [cmd]
    exact held
  unfold State.noted
  exact State.packet_runOn ((State.packet_modTnd _ _ _).trans same)

theorem State.tnd_noted (s : State) (k : Packet) : (s.noted k).tnd =
    { (s.noteFormed k).tnd with notes := (s.noteFormed k).tnd.notes ++ [(k.ref, s.tnd.lseq)] } :=
  ((State.runOn_frame _ _).1 .tnd rfl).trans (State.modTnd_tnd ..)

theorem State.noteFormed_logs (s : State) (k : Packet) : (s.noteFormed k).tnd.lseq = s.tnd.lseq + 4 ∧
    (s.noteFormed k).tnd.notes = s.tnd.notes := by
  obtain ⟨logs, lseq⟩ := State.each_logOwn_logs (2 + ·) (fun i => leBytes 8 (k.par (8 * i) 8)) [0, 1, 2, 3] s
  unfold State.noteFormed
  have four : BitVec.ofNat 32 [0, 1, 2, 3].length = 4 := by decide
  rw [four] at lseq
  exact ⟨lseq, logs.notes⟩

theorem State.queue_noteFormed (room : s.tnd.queue.length ≤ 1020) : ∃ (record : BitVec 256) (more : List (BitVec 256)),
    (s.noteFormed k).tnd.queue = s.tnd.queue ++ record :: more ∧ more.length = 3 ∧
      BitVec.ofNat 32 (bits record 0 32) = s.tnd.lseq := by
  obtain ⟨records, length, queue, first⟩ := State.queue_each_logOwn (2 + ·)
    (fun i => leBytes 8 (k.par (8 * i) 8)) [0, 1, 2, 3] (s := s) (Nat.add_le_add_right room 4)
  unfold State.noteFormed
  cases records with
  | nil => cases length
  | cons record more =>
    refine ⟨record, more, queue, Nat.succ.inj length, ?_⟩
    rw [first record rfl, BitVec.ofNat_toNat, BitVec.setWidth_eq]

/-- A record of a note that begins with an LSEQ waits. -/
def State.noteWaits (s : State) (first : BitVec 32) : Bool :=
  s.tnd.queue.any fun r => decide ((BitVec.ofNat 32 (bits r 0 32) - first).toNat < 4)

/-- The notes of which no record waits any more complete, and the others go on. -/
theorem State.notesDone_eq (s : State) : s.notesDone =
    (s.modTnd fun t => { t with notes := t.notes.filter (s.noteWaits ·.2) }).each
      (s.tnd.notes.filter (!s.noteWaits ·.2)) fun e s => s.done e.1 0 0 0 := rfl

theorem State.notesDone_completes (s : State) :
    Completes (s.modTnd fun t => { t with notes := t.notes.filter (s.noteWaits ·.2) }) s.notesDone := by
  rw [State.notesDone_eq]
  exact .each (fun (e : PktRef × BitVec 32) v => State.done_completes e.1 0 0 0 v) _ _

theorem State.notes_notesDone (s : State) : s.notesDone.tnd.notes = s.tnd.notes.filter (s.noteWaits ·.2) := by
  rw [s.notesDone_completes.notes, State.modTnd_tnd]

section
variable (room : s.tnd.queue.length ≤ 1020)
include room

theorem State.noteWaits_noted : (s.noted k).noteWaits s.tnd.lseq = true := by
  obtain ⟨record, more, queue, -, lseq⟩ := State.queue_noteFormed (k := k) room
  unfold State.noteWaits
  rw [State.tnd_noted, List.any_eq_true]
  refine ⟨record, by rw [queue]; exact List.mem_append_right _ (.head _), ?_⟩
  rw [lseq, BitVec.sub_self]
  rfl

/-- A note just taken goes on, as its first record waits. -/
theorem State.tnd_notesDone_noted : (s.noted k).notesDone.tnd.queue.length = s.tnd.queue.length + 4 ∧
    (s.noted k).notesDone.tnd.lseq = s.tnd.lseq + 4 ∧ (k.ref, s.tnd.lseq) ∈ (s.noted k).notesDone.tnd.notes := by
  obtain ⟨record, more, queue, three, -⟩ := State.queue_noteFormed (k := k) room
  have listed : (k.ref, s.tnd.lseq) ∈ (s.noted k).tnd.notes := by
    rw [State.tnd_noted]
    exact List.mem_append_right _ (List.mem_singleton_self _)
  have kept := (s.noted k).notesDone_completes
  refine ⟨?_, ?_, ?_⟩
  · rw [kept.queue, State.modTnd_tnd, State.tnd_noted, queue, List.length_append, List.length_cons, three]
  · rw [kept.lseq, State.modTnd_tnd, State.tnd_noted, (State.noteFormed_logs s k).1]
  · rw [State.notes_notesDone]
    exact List.mem_filter.mpr ⟨listed, State.noteWaits_noted room⟩

/-- So does its packet. -/
theorem State.packet_notesDone_noted (held : s.packet k.ref = some k) (once : s.tnd.notes.any (·.1 == k.ref) = false) :
    (s.noted k).notesDone.packet k.ref = some { k with stage := .running } := by
  rw [State.notesDone_eq]
  refine State.packet_each_done (ref := Prod.fst) (fun e ended own => ?_)
    ((State.packet_modTnd _ _ _).trans (State.packet_noted held))
  obtain ⟨listed, quiet⟩ := List.mem_filter.mp ended
  rw [State.tnd_noted, (State.noteFormed_logs s k).2] at listed
  rcases List.mem_append.mp listed with old | new
  · exact absurd own (by simpa using List.any_eq_false.mp once e old)
  · rw [List.mem_singleton.mp new, State.noteWaits_noted room] at quiet
    cases quiet

end

end

end Sys2Proof.Machine
end

section
/-! The opcodes of the firmware (R379 to R382, R385) and of the log: where a FW_WRITE or a FW_ACTIVATE is refused, and what
one that is not begins. -/

namespace Sys2Proof.Machine

/-! ### Non-volatile writes begun or refused (R385) -/

/-- A packet's write with steps to make is queued, and its packet goes on. -/
theorem State.nvBegin_packet {kind : NvKind} {p : PktRef} {w : NvWork} {ws : List NvWork} {s : State}
    (owner : kind.packet = some p) (free : s.nvShut = false) :
    s.nvBegin kind (w :: ws) = (s.nvQueue kind (w :: ws)).runOn p := by
  unfold State.nvBegin
  rw [if_neg (Bool.eq_false_iff.mp free), if_neg nofun]
  dsimp only
  rw [owner]

theorem State.tnd_runOn (r : PktRef) (s : State) : (s.runOn r).tnd = s.tnd := (State.runOn_frame r s).1 .tnd rfl

theorem State.jobs_nvQueue (kind : NvKind) (work : List NvWork) (s : State) :
    (s.nvQueue kind work).tnd.jobs = s.tnd.jobs ++ [{ kind := kind, work := work }] := rfl

/-! ### FW_WRITE (R382) -/

/-- The bank that a packet names. -/
def Packet.fwBank (k : Packet) : Fin 2 := pickBank (k.par 0 1 % 2 == 1)

theorem Packet.fwBank_eq (k : Packet) : k.fwBank = if k.par 0 1 % 2 = 1 then 1 else 0 := pickBank_beq _

/-- A bank may be written unless the Tender runs from it. -/
def State.fwOpen (s : State) (b : Fin 2) : Prop := s.tnd.recovery = true ∨ b ≠ pickBank s.tnd.bank

/-- An offset does not go on where the bank's last write ended, nor starts anew. -/
def FwBank.gap (f : FwBank) (off : Nat) : Prop :=
  (∃ x, f.must = some x ∧ off ≠ x) ∨ (f.must = none ∧ off % 4096 ≠ 0 ∧ off ≠ f.next)

section
variable {k : Packet} {s : State}

theorem State.fwWrite_running (steady : s.tnd.recovery = false) (own : k.fwBank = pickBank s.tnd.bank) :
    s.fwWrite k = s.done k.ref 9 3 0 := by
  unfold State.fwWrite
  dsimp only
  rw [← Packet.fwBank, own, steady, BEq.rfl]
  rfl

section
variable (allowed : s.fwOpen k.fwBank)
include allowed

theorem State.fwOpen.not_running : ¬ (!s.tnd.recovery && k.fwBank == pickBank s.tnd.bank) = true := by
  rintro both
  obtain ⟨steady, own⟩ := Bool.and_eq_true_iff.mp both
  rcases allowed with recovers | other
  · rw [recovers] at steady
    cases steady
  · exact other (eq_of_beq own)

theorem State.fwWrite_misaligned (odd : k.par 4 4 % 32 ≠ 0) : s.fwWrite k = s.done k.ref 2 0xF3 0 := by
  unfold State.fwWrite
  exact (if_neg allowed.not_running).trans (if_pos odd)

section
variable (aligned : k.par 4 4 % 32 = 0)
include aligned

theorem State.fwWrite_beyond (beyond : 11534336 < k.par 4 4 + k.dlen) : s.fwWrite k = s.done k.ref 2 0x62 0 := by
  unfold State.fwWrite
  exact (if_neg allowed.not_running).trans ((if_neg (not_not_intro aligned)).trans (if_pos beyond))

theorem State.fwWrite_gap (inside : k.par 4 4 + k.dlen ≤ 11534336) (gap : (s.fw k.fwBank).gap (k.par 4 4)) :
    s.fwWrite k = s.done k.ref 2 0x61 0 := by
  unfold State.fwWrite
  refine (if_neg allowed.not_running).trans ((if_neg (not_not_intro aligned)).trans
    ((if_neg (Nat.not_lt.mpr inside)).trans ?_))
  rw [← Packet.fwBank]
  refine if_pos ?_
  rcases gap with ⟨x, must, other⟩ | ⟨must, page, other⟩
  · rw [must]
    exact decide_eq_true other
  · rw [must]
    simp [page, other]

end

/-- A write that starts a page and fits is begun. -/
theorem State.fwWrite_begins (page : k.par 4 4 % 4096 = 0) (inside : k.par 4 4 + k.dlen ≤ 11534336)
    (must : (s.fw k.fwBank).must = none) (free : s.nvShut = false) : ∃ work,
      s.fwWrite k = (s.nvQueue (.fwWrite k.ref k.fwBank (k.par 4 4) k.dlen) work).runOn k.ref := by
  have some (boot erases : List NvWork) : ∃ w ws, boot ++ erases ++ pagesFrom k.fwBank (k.par 4 4) k.block = w :: ws :=
    List.exists_cons_of_ne_nil (by simp [pagesFrom])
  unfold State.fwWrite
  extract_lets b off len t f boot first erases
  obtain ⟨w, ws, work⟩ := some boot erases
  refine ⟨w :: ws, (if_neg allowed.not_running).trans ((if_neg (by omega)).trans
    ((if_neg (Nat.not_lt.mpr inside)).trans ?_))⟩
  rw [show f.must = none from must]
  refine (if_neg (by simp [off, page])).trans ?_
  rw [show boot ++ erases ++ pagesFrom b off k.block = w :: ws from work]
  exact State.nvBegin_packet rfl free

end

/-! ### FW_ACTIVATE (R382) -/

theorem State.fwActivate_locked (locked : s.flag R.mgtFwCtrlActEn = false) : s.fwActivate k = s.done k.ref 9 5 0 :=
  if_pos (by rw [locked]; rfl)

section
variable (enabled : s.flag R.mgtFwCtrlActEn = true)
include enabled

theorem State.fwActivate_shut (shut : s.nvShut = true) : s.fwActivate k = (s.nvNote 0x0603 1).done k.ref 7 1 0 := by
  unfold State.fwActivate
  exact (if_neg (by rw [enabled]; decide)).trans ((if_pos shut).trans rfl)

variable (free : s.nvShut = false)
include free

theorem State.fwActivate_bad (bad : (s.verify k.fwBank).1 ≠ 0) :
    s.fwActivate k = (s.verify k.fwBank).2.done k.ref 0x0C (s.verify k.fwBank).1 0 := by
  unfold State.fwActivate
  exact (if_neg (by rw [enabled]; decide)).trans ((if_neg (Bool.eq_false_iff.mp free)).trans (if_pos bad))

theorem State.fwActivate_good (good : (s.verify k.fwBank).1 = 0) : s.fwActivate k =
    ((s.verify k.fwBank).2.nvQueue (.fwActivate k.ref k.fwBank)
      [.bootErase, .bootProgram (k.fwBank == 1) true false 0]).runOn k.ref := by
  have free : (s.verify k.fwBank).2.nvShut = false := free
  unfold State.fwActivate
  exact (if_neg (by rw [enabled]; decide)).trans ((if_neg (Bool.eq_false_iff.mp free)).trans
    ((if_neg (not_not_intro good)).trans (State.nvBegin_packet rfl free)))

end

end

theorem State.take_fwStatus (s : State) :
    s.fwStatus.take 2 = [BitVec.ofNat 8 (b2n s.tnd.bank), BitVec.ofNat 8 (b2n s.tnd.boot.pref)] := by
  unfold State.fwStatus
  dsimp only
  simp only [List.append_assoc]
  exact take_fit_append (as := [_, _]) rfl (by decide)

/-- Settles O38: each opcode runs on its started packet, by the case its operands and the inhibit make. -/
theorem logAndFirmwareOpcodes : Obligations.LogAndFirmwareOpcodes := by
  unfold Obligations.LogAndFirmwareOpcodes
  refine ⟨?read, ?note, ?write, ?locked, ?activate, ?shut, ?status⟩
  case read =>
    intro r k s start
    obtain rfl := State.ref_of_started start
    exact ⟨fun none => next_of_started start (State.logRead_none none),
      fun some long => next_of_started start (State.logRead_long some long),
      fun some short => next_of_started start (State.logRead_reads some short)⟩
  case note =>
    intro r k s start
    obtain rfl := State.ref_of_started start
    have held := State.packet_of_started start
    refine ⟨fun shut => ⟨_, next_of_started start (State.logNote_shut shut), ?_⟩,
      fun free room once => ⟨_, next_of_started start (State.logNote_open free), ?_⟩⟩
    · have ends := State.done_completes k.ref 7 1 0 (s.nvNote 0x0601 1)
      exact ⟨(State.done_left k.ref 7 1 0 (s.nvNote 0x0601 1)).gone, ends.queue, ends.inhCnt, ends.inhList⟩
    · obtain ⟨queue, lseq, note⟩ := State.tnd_notesDone_noted (k := k) room
      exact ⟨queue, lseq, State.packet_notesDone_noted room held once, note⟩
  case write =>
    rintro r k _ s start rfl
    obtain rfl := State.ref_of_started start
    rw [← Packet.fwBank_eq]
    refine ⟨fun steady own => ?_, fun allowed odd => ?_, fun allowed aligned beyond => ?_,
      fun allowed aligned inside gap => ?_, fun allowed page inside must free none => ?_⟩
    · exact next_of_started start (State.fwWrite_running steady own)
    · exact next_of_started start (State.fwWrite_misaligned allowed odd)
    · exact next_of_started start (State.fwWrite_beyond allowed aligned beyond)
    · exact next_of_started start (State.fwWrite_gap allowed aligned inside gap)
    · obtain ⟨work, begins⟩ := State.fwWrite_begins allowed page inside must free
      refine ⟨_, next_of_started start begins, State.packet_runOn (State.packet_of_started start),
        { kind := .fwWrite k.ref k.fwBank (k.par 4 4) k.dlen, work := work }, ?_, rfl⟩
      rw [State.tnd_runOn, State.jobs_nvQueue, none, List.nil_append]
  case locked =>
    intro r k s start locked
    obtain rfl := State.ref_of_started start
    exact next_of_started start (State.fwActivate_locked locked)
  case activate =>
    rintro r k _ s start rfl enabled free
    obtain rfl := State.ref_of_started start
    rw [← Packet.fwBank_eq]
    refine ⟨fun bad => next_of_started start (State.fwActivate_bad enabled free bad),
      fun good => ⟨_, next_of_started start (State.fwActivate_good enabled free good),
        State.packet_runOn (State.packet_of_started start), ?_⟩⟩
    rw [State.tnd_runOn, State.jobs_nvQueue]
    rfl
  case shut =>
    intro r k s start enabled shut
    obtain rfl := State.ref_of_started start
    have ends := State.done_completes k.ref 7 1 0 (s.nvNote 0x0603 1)
    exact ⟨_, next_of_started start (State.fwActivate_shut enabled shut),
      (State.done_left k.ref 7 1 0 (s.nvNote 0x0603 1)).gone, ends.banks, ends.jobs, ends.inhCnt⟩
  case status =>
    intro r k s start
    obtain rfl := State.ref_of_started start
    exact ⟨_, next_of_started start rfl, length_fit .., State.take_fwStatus s⟩

end Sys2Proof.Machine
end

section
/-! The opcodes of the web link (R276, R314, R315, R329, R331, R332, R335): what a started packet writes, starts or sends,
and how an enumeration and a message end. -/

namespace Sys2Proof.Machine

/-! ### WL_STATUS and WL_PORT (R314, R335) -/

theorem State.take_wlStatus (s : State) : s.wlStatus.take 4 = leBytes 4 (s.readReg 0x0B0008).toNat := by
  unfold State.wlStatus
  rw [List.map_cons, wordBytes_cons]
  simp only [List.append_assoc]
  exact take_fit_append (length_leBytes ..) (by decide)

/-- The word of WLK_P_CTRL that an ACTION of WL_PORT leads to. -/
def portWord (act : Nat) (w : Word) : Word :=
  if act = 0 then setBits w 0 1 1 else if act = 1 then setBits w 0 1 0 else if act = 2 then setBits w 1 1 1
  else if act = 6 then setBits w 2 2 0 else setBits w 2 2 (act - 2)

section
variable {k : Packet} {s : State}

theorem State.wlPort_unknown (unknown : 6 < k.par 1 1) : s.wlPort k = s.done k.ref 2 0 0 := if_pos unknown

theorem State.wlPort_upstream (lo : 3 ≤ k.par 1 1) (hi : k.par 1 1 ≤ 5) (link : s.onLink = true)
    (up : Fin.ofNat 4 (k.par 0 1) = s.upPort) : s.wlPort k = s.done k.ref 8 4 0 :=
  (if_neg (by omega)).trans (if_pos ⟨lo, hi, link, up⟩)

theorem State.wlPort_acts (known : k.par 1 1 ≤ 6) (allowed : k.par 1 1 < 3 ∨ k.par 1 1 = 6 ∨ s.onLink = false ∨
    Fin.ofNat 4 (k.par 0 1) ≠ s.upPort) : s.wlPort k =
      (s.busWrite { path := .tender } (0x0B0100 + 64 * (Fin.ofNat 4 (k.par 0 1)).val)
        (portWord (k.par 1 1) (s.reg (0x0B0100 + 64 * (Fin.ofNat 4 (k.par 0 1)).val)))).done k.ref 0 0 0 := by
  have free : ¬ (3 ≤ k.par 1 1 ∧ k.par 1 1 ≤ 5 ∧ s.onLink = true ∧ Fin.ofNat 4 (k.par 0 1) = s.upPort) := by
    rintro ⟨lo, hi, link, up⟩
    rcases allowed with low | six | alone | other
    · omega
    · omega
    · rw [alone] at link
      cases link
    · exact other up
  unfold State.wlPort
  refine (if_neg (Nat.not_lt.mpr known)).trans ((if_neg free).trans ?_)
  generalize k.par 1 1 = act at known
  interval_cases act <;> rfl

/-! ### WL_ROLE and WL_MEMBER (R315, R329) -/

/-- A packet that goes on to the next ream boundary. -/
def State.toBoundary (r : PktRef) (s : State) : State := (s.modCmd fun c => { c with atReam := c.atReam ++ [r] }).runOn r

theorem State.atBoundary_locked {r : PktRef} {w : Word} (locked : s.violates 0x0B0000 w = true) :
    s.atBoundary r w = s.done r 9 1 0 := if_pos locked

theorem State.atBoundary_writes {r : PktRef} {w : Word} (free : s.violates 0x0B0000 w = false) :
    s.atBoundary r w = (s.toBoundary r).busWrite { path := .tender } 0x0B0000 w := if_neg (Bool.eq_false_iff.mp free)

theorem State.packet_toBoundary (held : s.packet k.ref = some k) :
    (s.toBoundary k.ref).packet k.ref = some { k with stage := .running } := by
  have same : (s.modCmd fun c => { c with atReam := c.atReam ++ [k.ref] }).packet k.ref = some k := held
  exact State.packet_runOn same

theorem State.wlRole_unknown (unknown : 2 < k.par 0 1) : s.wlRole k = s.done k.ref 2 0 0 := if_pos unknown

theorem State.wlRole_known (known : k.par 0 1 ≤ 2) :
    s.wlRole k = s.atBoundary k.ref (setBits (s.reg 0x0B0000) 0 2 (k.par 0 1)) := if_neg (Nat.not_lt.mpr known)

/-! ### WL_ENUMERATE (R331) -/

theorem State.wlEnumerate_onLink (link : s.onLink = true) : s.wlEnumerate k = s.done k.ref 8 2 0 := if_pos link

/-- An enumeration begins with the entry of the source, and its request goes down. -/
theorem State.wlEnumerate_begins (source : s.onLink = false) : s.wlEnumerate k =
    ((s.modCmd fun c => { c with enum := some (k.ref, s.now), entries := [s.ownEntry] }).runOn k.ref).each s.downPorts
      fun q s => s.sendChunk q 3 (chunkOf (leBytes 1 4)) := if_neg (Bool.eq_false_iff.mp source)

theorem State.cmd_wlEnumerate (source : s.onLink = false) : (s.wlEnumerate k).cmd =
    ((s.modCmd fun c => { c with enum := some (k.ref, s.now), entries := [s.ownEntry] }).runOn k.ref).cmd := by
  rw [State.wlEnumerate_begins source]
  exact (Frame.each (.refl [.wl] _) fun q v => State.sendChunk_frame q 3 _ v).1 .cmd rfl

theorem State.packet_of_cmd {s t : State} (same : t.cmd = s.cmd) (r : PktRef) : t.packet r = s.packet r := by
  unfold State.packet
  rw [same]

end

/-- An enumeration ends 10 ms after its request; the mailbox takes 512 entries. -/
theorem execEnumerationDone_ends {r : PktRef} {at' : Nat} {s : State} (going : s.cmd.enum = some (r, at'))
    (due : at' + 10000000 ≤ s.now) : execEnumerationDone s = .next
      (if r.tw = true ∧ 512 < s.cmd.entries.length then
        { s with cmd := { s.cmd with enum := none, entries := [] } }.done r 2 0xF5 0
      else { s with cmd := { s.cmd with enum := none, entries := [] } }.complete r 0 0 s.cmd.entries.length
        ((s.cmd.entries.take 8192).flatMap fun (e : BitVec 64) => leBytes 8 e.toNat)) := by
  have limit : tooLong r (8 * min 8192 s.cmd.entries.length) = true ↔ r.tw = true ∧ 512 < s.cmd.entries.length := by
    rw [tooLong, decide_eq_true_iff]
    split <;> simp [*] <;> omega
  unfold execEnumerationDone State.enumDone
  rw [going]
  dsimp only
  rw [if_neg (Nat.not_lt.mpr due)]
  simp only [limit]
  rfl

theorem execEnumerationDone_waits {r : PktRef} {at' : Nat} {s : State} (going : s.cmd.enum = some (r, at'))
    (early : s.now < at' + 10000000) : execEnumerationDone s = .next s := by
  unfold execEnumerationDone State.enumDone
  rw [going]
  exact congrArg Host.Outcome.next (if_pos early)

/-! ### WL_MESSAGE (R332) -/

theorem State.msgNo_flood (but : Option (Fin 4)) (rank : Nat) (cs : List (BitVec 432)) (s : State) :
    (s.flood but rank cs).wl.msgNo = s.wl.msgNo := by
  have chunk (p : Fin 4) (c : BitVec 432) (v : State) : (v.sendChunk p rank c).wl.msgNo = v.wl.msgNo := by
    unfold State.sendChunk
    split <;> rfl
  have chunks (p : Fin 4) (cs : List (BitVec 432)) (v : State) :
      (v.each cs fun c s => s.sendChunk p rank c).wl.msgNo = v.wl.msgNo := by
    unfold State.each
    induction cs generalizing v with
    | nil => rfl
    | cons c cs ih => exact (ih _).trans (chunk p c v)
  unfold State.flood State.each
  generalize s.positionPorts.filter _ = ports
  induction ports generalizing s with
  | nil => rfl
  | cons p ports ih => exact (ih _).trans (chunks p cs s)

theorem State.msgNo_sendMessage (dest : Nat) (data : List Byte) (s : State) :
    (s.sendMessage dest data).wl.msgNo = s.wl.msgNo + 1 := State.msgNo_flood ..

/-- The message sent, and none waiting any more. -/
def State.messageSent (k : Packet) (s : State) : State :=
  (s.sendMessage (k.par 0 2) k.block).modCmd fun c => { c with message := none }

theorem State.cmd_messageSent (k : Packet) (s : State) : (s.messageSent k).cmd = { s.cmd with message := none } :=
  congrArg (fun c : Commands => { c with message := none }) ((State.sendMessage_frame _ _ s).1 .cmd rfl)

theorem State.msgNo_messageSent (k : Packet) (s : State) : (s.messageSent k).wl.msgNo = s.wl.msgNo + 1 :=
  State.msgNo_sendMessage ..

section
variable {r : PktRef} {at' : Nat} {s : State} (waits : s.cmd.message = some (r, at'))
include waits

theorem State.tryMessage_unsent (none : s.positionPorts = []) : s.tryMessage = s := by
  unfold State.tryMessage
  rw [waits, none]
  rfl

/-- With a port that carries position the message is sent, and its command completes. -/
theorem State.tryMessage_sent {k : Packet} (ports : s.positionPorts ≠ []) (held : s.packet r = some k) :
    s.tryMessage = (s.messageSent k).done r 0 0 0 := by
  have some : s.positionPorts.isEmpty = false := by simpa using ports
  unfold State.tryMessage
  rw [waits, some]
  dsimp only
  rw [if_neg nofun, held]
  rfl

theorem execWlMessageTimeout_late (none : s.positionPorts = []) (late : at' + 10000000 ≤ s.now) :
    execWlMessageTimeout r s = .next ({ s with cmd := { s.cmd with message := Option.none } }.done r 0x0D 0 0) := by
  unfold execWlMessageTimeout State.messageTimeout
  rw [waits, none]
  exact congrArg Host.Outcome.next ((if_neg (not_not_intro rfl)).trans ((if_neg nofun).trans (if_pos late)))

theorem execWlMessageTimeout_early (none : s.positionPorts = []) (early : s.now < at' + 10000000) :
    execWlMessageTimeout r s = .next s := by
  unfold execWlMessageTimeout State.messageTimeout
  rw [waits, none]
  exact congrArg Host.Outcome.next ((if_neg (not_not_intro rfl)).trans ((if_neg nofun).trans
    (if_neg (Nat.not_le.mpr early))))

theorem execWlMessageTimeout_sent {k : Packet} (ports : s.positionPorts ≠ []) (held : s.packet r = some k) :
    execWlMessageTimeout r s = .next ((s.messageSent k).done r 0 0 0) := by
  have some : (!s.positionPorts.isEmpty) = true := by simpa using ports
  rw [← State.tryMessage_sent waits ports held]
  unfold execWlMessageTimeout State.messageTimeout
  rw [waits]
  exact congrArg Host.Outcome.next ((if_neg (not_not_intro rfl)).trans (if_pos some))

end

/-- The state in which a message that has just been asked for waits. -/
def State.messageAsked (r : PktRef) (s : State) : State :=
  (s.modCmd fun c => { c with message := some (r, s.now) }).runOn r

theorem State.packet_messageAsked {k : Packet} {s : State} (held : s.packet k.ref = some k) :
    (s.messageAsked k.ref).packet k.ref = some { k with stage := .running } := by
  have same : (s.modCmd fun c => { c with message := some (k.ref, s.now) }).packet k.ref = some k := held
  exact State.packet_runOn same

/-- Settles O36: each opcode runs on its started packet; the message goes once a port carries position. -/
theorem webLinkOpcodes : Obligations.WebLinkOpcodes := by
  unfold Obligations.WebLinkOpcodes
  refine ⟨?status, ?port, ?roleBad, ?role, ?roleLocked, ?member, ?enumerate, ?enumEnds, ?enumNone, ?message, ?messageSent,
    ?timeout, ?timeoutSent⟩
  case status =>
    intro r k s start
    obtain rfl := State.ref_of_started start
    exact ⟨_, next_of_started start rfl, length_fit .., State.take_wlStatus s⟩
  case port =>
    rintro r k _ s start rfl
    obtain rfl := State.ref_of_started start
    exact ⟨fun unknown => next_of_started start (State.wlPort_unknown unknown),
      fun lo hi link up => next_of_started start (State.wlPort_upstream lo hi link up),
      fun known allowed => next_of_started start (State.wlPort_acts known allowed)⟩
  case roleBad =>
    intro r k s start unknown
    obtain rfl := State.ref_of_started start
    exact next_of_started start (State.wlRole_unknown unknown)
  case role =>
    rintro r k _ s start known rfl free
    obtain rfl := State.ref_of_started start
    exact ⟨_, next_of_started start ((State.wlRole_known known).trans (State.atBoundary_writes free)), rfl, rfl,
      State.packet_toBoundary (State.packet_of_started start)⟩
  case roleLocked =>
    intro r k s start known locked
    obtain rfl := State.ref_of_started start
    exact next_of_started start ((State.wlRole_known known).trans (State.atBoundary_locked locked))
  case member =>
    rintro r k _ s start rfl free
    obtain rfl := State.ref_of_started start
    exact ⟨_, next_of_started start (State.atBoundary_writes free), rfl, rfl,
      State.packet_toBoundary (State.packet_of_started start)⟩
  case enumerate =>
    intro r k s start
    obtain rfl := State.ref_of_started start
    refine ⟨fun link => next_of_started start (State.wlEnumerate_onLink link),
      fun source => ⟨_, next_of_started start rfl, ?_⟩⟩
    have cmd := State.cmd_wlEnumerate (k := k) source
    have same : (s.modCmd fun c => { c with enum := some (k.ref, s.now), entries := [s.ownEntry] }).packet k.ref = some k :=
      State.packet_of_started start
    refine ⟨?_, ?_, (State.packet_of_cmd cmd k.ref).trans (State.packet_runOn same)⟩
    · rw [cmd]
      rfl
    · rw [cmd]
      rfl
  case enumEnds =>
    exact fun r at' s going => ⟨execEnumerationDone_waits going, execEnumerationDone_ends going⟩
  case enumNone =>
    intro s none
    show execEnumerationDone s = .next s
    rw [execEnumerationDone, State.enumDone, none]
  case message =>
    intro r k s start ports
    obtain rfl := State.ref_of_started start
    exact ⟨s.messageAsked k.ref, next_of_started start (State.tryMessage_unsent (s := s.messageAsked k.ref) rfl ports),
      rfl, State.packet_messageAsked (State.packet_of_started start)⟩
  case messageSent =>
    intro r k s start ports
    obtain rfl := State.ref_of_started start
    have sent := State.tryMessage_sent (s := s.messageAsked k.ref) rfl ports
      (State.packet_messageAsked (State.packet_of_started start))
    refine ⟨_, next_of_started start sent, ?_, ?_, ?_⟩
    · rw [(State.done_completes ..).cmd, State.cmd_messageSent]
    · refine fun p found => Eq.trans ?_ (Left.gone (State.done_left k.ref 0 0 0 _) p found)
      rw [State.cmd_messageSent]
      rfl
    · refine (congrArg WebLink.msgNo ((State.done_frame ..).1 .wl rfl)).trans (State.msgNo_messageSent ..)
  case timeout =>
    exact fun r at' s waits none =>
      ⟨fun late => execWlMessageTimeout_late waits none late, fun early => execWlMessageTimeout_early waits none early⟩
  case timeoutSent =>
    exact fun r k at' s waits ports held => ⟨_, execWlMessageTimeout_sent waits ports held, State.cmd_messageSent k s,
      State.msgNo_messageSent k s⟩

end Sys2Proof.Machine
end

section
/-! Completions (R270, R272, R286, R287), and the commands that say what the unit is and end other commands (R276, R278,
R280, R281). -/

namespace Sys2Proof.Machine

/-! ### Started packets -/

section
variable {r : PktRef} {op : Nat} {cancel : Bool} {s : State} {k : Packet} (start : s.started r op cancel = some k)
include start

theorem State.dispatched_of_started : k.stage = .dispatched ∧ k.op = op := by
  have held := State.packet_of_started start
  unfold State.started at start
  rw [held] at start
  dsimp only at start
  split at start
  · rename_i begun
    exact ⟨begun.1, begun.2.1⟩
  · cases start

theorem State.op_of_started : k.op = op := (State.dispatched_of_started start).2

theorem State.stage_of_started : (k.stage == .fetched) = false := by
  rw [(State.dispatched_of_started start).1]
  rfl

end

/-! ### Words stored from bytes -/

theorem ofLeBytes_leBytes (n v : Nat) : ofLeBytes (leBytes n v) = v % 256 ^ n := by
  simpa [ofLeBytes] using ofLeBytes_leBytes_append n v []

theorem setBits_word (w : Word) (v : Nat) : setBits w 0 32 v = BitVec.ofNat 32 v := by
  refine BitVec.eq_of_getLsbD_eq fun i low => ?_
  rw [setBits_getLsbD, if_pos (by omega), BitVec.getLsbD_ofNat, Nat.sub_zero]

/-- Stored bytes fill the registers they cover word by word. -/
theorem State.reg_storeBytes (off : Nat) {i : Nat} {bs : List Byte} (whole : 4 * i + 4 ≤ bs.length) (s : State) :
    (s.storeBytes off bs).reg (off + 4 * i) = BitVec.ofNat 32 (ofLeBytes ((bs.drop (4 * i)).take 4)) := by
  have length : ((bs.drop (4 * i)).take 4).length = 4 := by
    rw [List.length_take, List.length_drop]
    omega
  have covered : i < ceilDiv bs.length 4 := by
    unfold ceilDiv
    omega
  unfold State.storeBytes State.each
  generalize ceilDiv bs.length 4 = n at covered
  induction n with
  | zero => cases covered
  | succ n ih =>
    rw [List.range_succ, List.foldl_append]
    rcases Nat.lt_succ_iff_lt_or_eq.mp covered with before | rfl
    · exact (State.reg_setReg_other _ _ (by omega)).trans (ih before)
    · exact (State.reg_setReg_same ..).trans (by rw [length]; exact setBits_word _ _)

theorem bits_ofNat (v n : Nat) (low : n ≤ 32) : bits (BitVec.ofNat 32 v) 0 n = v % 2 ^ n := by
  rw [bits, BitVec.toNat_ofNat, Nat.shiftRight_zero, Nat.mod_mod_of_dvd _ (Nat.pow_dvd_pow 2 low)]

section
variable (r : PktRef) (op status detail sqHead result dwords : Nat) (more : List Byte)

theorem length_completionHead : (completionHead r op status detail sqHead result dwords).length = 15 := rfl

/-- The words of a completion: TAG and OPCODE; STATUS, DETAIL and SQ_HEAD; RESULT. -/
theorem completionHead_tag : ofLeBytes (((completionHead r op status detail sqHead result dwords ++ more).drop 0).take 4) =
    r.tag.toNat + 65536 * (op % 65536) := by
  show ofLeBytes (leBytes 2 r.tag.toNat ++ leBytes 2 op) = _
  rw [ofLeBytes_leBytes_append, ofLeBytes_leBytes, Nat.mod_eq_of_lt (show r.tag.toNat < 256 ^ 2 from r.tag.isLt)]
  rfl

theorem completionHead_status : ofLeBytes (((completionHead r op status detail sqHead result dwords ++ more).drop 4).take 4) =
    status % 256 + 256 * (detail % 256 + 256 * (sqHead % 65536)) := by
  show ofLeBytes (leBytes 1 status ++ (leBytes 1 detail ++ leBytes 2 sqHead)) = _
  rw [ofLeBytes_leBytes_append, ofLeBytes_leBytes_append, ofLeBytes_leBytes, Nat.pow_one]
  rfl

theorem completionHead_result : ofLeBytes (((completionHead r op status detail sqHead result dwords ++ more).drop 8).take 4) =
    result % 2 ^ 32 := ofLeBytes_leBytes 4 result

end

/-! ### A command that completes -/

theorem State.packets_dismiss (r : PktRef) (s : State) : (s.dismiss r).cmd.packets =
    s.cmd.packets.filter (fun o => decide (o.ref ≠ r)) ++
      if (s.cmd.packets.filter fun o => decide (o.ref ≠ r)).length < 64 then s.cmd.mail.toList else [] := by
  unfold State.dismiss State.takeMail
  split
  · rename_i p waits
    have waits : s.cmd.mail = some p := waits
    rw [waits]
    split
    · rename_i room
      have room : (s.cmd.packets.filter fun o => decide (o.ref ≠ r)).length < 64 := room
      rw [if_pos room]
      rfl
    · rename_i full
      have full : ¬ (s.cmd.packets.filter fun o => decide (o.ref ≠ r)).length < 64 := full
      rw [if_neg full]
      exact (List.append_nil _).symm
  · rename_i none
    have none : s.cmd.mail = Option.none := none
    rw [none]
    simp

/-- The state in which the packet of a command has left, and nothing else of its completion has happened. -/
def State.vacated (r : PktRef) (s : State) : State := (s.dismiss r).modTnd fun t => { t with idleFrom := s.now }

theorem State.vacated_frame (r : PktRef) (s : State) : Frame [.cmd, .tnd] s (s.vacated r) := by
  refine .by (State.modTnd_frame _ _) rfl (.by (State.takeMail_frame _) rfl (.by (State.modCmd_frame _ _) rfl (.refl _ _)))

theorem State.queue_vacated (r : PktRef) (s : State) (q : Fin 8) : (s.vacated r).queue q = s.queue q := by
  show (s.dismiss r).cmd.queues[q] = s.cmd.queues[q]
  rw [(State.dismiss_completes r s).cmd]

section
variable {r : PktRef} {k : Packet} {s : State} (held : s.packet r = some k) (status detail result : Nat) (data : List Byte)
include held

/-- A completion of the mailbox, and of WARM_RESET through it. -/
theorem State.complete_tw (tw : r.tw = true) : s.complete r status detail result data =
    ((s.vacated r).mailboxDone r k.op status detail result data).iff (k.op == 4 && status == 0) (·.resetDue) := by
  unfold State.complete
  rw [held]
  exact if_pos tw

theorem State.complete_lost (ring : r.tw = false) (lost : k.lost = true) : s.complete r status detail result data =
    (((s.vacated r).bump (0xD0 + r.queue.val) 1).loseCompletion r.queue).iff (k.op == 4 && status == 0) (·.resetDue) := by
  unfold State.complete
  rw [held]
  exact (if_neg (Bool.eq_false_iff.mp ring)).trans (if_pos (.inl lost))

theorem State.done_enabled (ring : r.tw = false) (kept : k.lost = false) (enabled : (s.queue r.queue).enabled = true) :
    s.done r status detail result =
      ((s.vacated r).bump (0xD0 + r.queue.val) 1).handClass 1 (Fin.ofNat 16 (s.queue r.queue).dc)
        { kind := .completion r k.irq
          bytes := completionHead r k.op status detail (s.queue r.queue).sqHead result 0 } := by
  have open' : ¬ (k.lost = true ∨ ¬ (s.queue r.queue).enabled = true) := by
    rw [kept, enabled]
    decide
  rw [← State.queue_vacated r s r.queue] at open' ⊢
  unfold State.done State.complete
  rw [held]
  exact (if_neg (Bool.eq_false_iff.mp ring)).trans (if_neg open')

theorem State.packets_complete : (s.complete r status detail result data).cmd.packets = (s.dismiss r).cmd.packets :=
  (State.complete_handsOver held status detail result data).packets

end

/-- Where the mailbox is empty, the packets then held are those of other commands. -/
theorem State.packets_done {r : PktRef} {k : Packet} {s : State} (held : s.packet r = some k) (empty : s.cmd.mail = none)
    (status detail result : Nat) : (s.done r status detail result).cmd.packets =
      s.cmd.packets.filter fun o => decide (o.ref ≠ r) := by
  unfold State.done
  rw [State.packets_complete held, State.packets_dismiss, empty]
  simp

/-! ### The mailbox's registers (R286) -/

/-- An event leaves every register alone but its own and GLB_ATTN. -/
theorem State.reg_raise_other {f : Fld} {off : Nat} (s : State) (own : off ≠ f.off) (attn : off ≠ 0x000008) :
    (s.raise f).reg off = s.reg off := by
  have same := State.fget_raise (g := ⟨off, 0, 32⟩) s own attn
  have whole (w : Word) : bits w 0 32 = w.toNat := by rw [bits, Nat.shiftRight_zero, Nat.mod_eq_of_lt w.isLt]
  rwa [State.fget, State.fget, whole, whole, BitVec.toNat_inj] at same

theorem State.reg_bump (i n : Nat) (s : State) (off : Nat) : (s.bump i n).reg off = s.reg off := rfl

theorem State.reg_modCmd (g : Commands → Commands) (s : State) (off : Nat) : (s.modCmd g).reg off = s.reg off := rfl

section
variable (r : PktRef) (op status detail result : Nat) (s : State)

theorem State.busy_mailboxDone : (s.mailboxDone r op status detail result []).cmd.busy = false := by
  unfold State.mailboxDone
  rw [State.bump_cmd, State.raise_cmd]
  rfl

theorem State.fget_mailboxDone : (s.mailboxDone r op status detail result []).fget R.cmdTwCtrlBusy = 0 ∧
    (s.mailboxDone r op status detail result []).fget R.cmdTwEvtDone = 1 := by
  unfold State.mailboxDone
  rw [State.fget_bump, State.fget_bump]
  refine ⟨(State.fget_raise _ (by decide) (by decide)).trans (State.fget_fset_same _ _ _ (by decide)), ?_⟩
  exact State.flag_raise _ _ (by decide) rfl

/-- The mailbox's completion registers hold the words of the completion. -/
theorem State.reg_mailboxDone {i : Nat} (word : i < 4) : ∃ sqHead dwords more,
    (s.mailboxDone r op status detail result []).reg (0x0A1050 + 4 * i) =
      BitVec.ofNat 32 (ofLeBytes (((completionHead r op status detail sqHead result dwords ++ more).drop (4 * i)).take 4)) := by
  refine ⟨(Config.freeWord s.free).toNat / 65536, ceilDiv 0 32, leBytes 1 ((Config.freeWord s.free).toNat % 2), ?_⟩
  have kept (v : State) : (((v.fset R.cmdTwCtrlBusy 0).raise R.cmdTwEvtDone).bump 0xD8 1).reg (0x0A1050 + 4 * i) =
      v.reg (0x0A1050 + 4 * i) := by
    rw [State.reg_bump, State.reg_raise_other _ (show 0x0A1050 + 4 * i ≠ 0x0A1060 by omega) (by omega)]
    exact State.reg_setReg_other _ _ (show 0x0A1050 + 4 * i ≠ 0x0A1040 by omega)
  have length (sqHead dwords n : Nat) :
      (completionHead r op status detail sqHead result dwords ++ leBytes 1 n).length = 16 := by
    rw [List.length_append, length_completionHead, length_leBytes]
  unfold State.mailboxDone
  rw [kept, State.reg_modCmd, List.take_of_length_le (Nat.le_of_eq (length _ _ _))]
  refine State.reg_storeBytes _ ?_ _
  rw [length]
  omega

end


/-! ### IDENTIFY and GET_STATE (R276, R278) -/

theorem State.take_identity (s : State) : s.identity.take 4 = [0x7C, 0x1A, 0x32, 0x16] := rfl

theorem State.stateBits_eq (s : State) : s.stateBits = b2n s.rst.ready + 2 * b2n s.tnd.bank +
    4 * b2n (s.link.up && s.link.cxl) + 8 * b2n (s.tb.mode == .lost) + 16 * b2n (decide (0 < s.thm.level)) +
    32 * b2n s.thm.safe := by
  unfold State.stateBits
  simp only [bitsOf]
  omega

theorem State.stateBits_lt (s : State) : s.stateBits < 2 ^ 32 := by
  have bit (b : Bool) : b2n b ≤ 1 := by cases b <;> decide
  rw [State.stateBits_eq]
  have := bit s.rst.ready
  have := bit s.tnd.bank
  have := bit (s.link.up && s.link.cxl)
  have := bit (s.tb.mode == .lost)
  have := bit (decide (0 < s.thm.level))
  have := bit s.thm.safe
  omega

/-! ### ABORT (R280) -/

/-- The command that an ABORT names. -/
def Packet.target (k : Packet) : PktRef :=
  { tw := k.par 2 1 / 8 % 2 == 1, queue := if k.par 2 1 / 8 % 2 = 1 then 0 else Fin.ofNat 8 (k.par 2 1),
    tag := BitVec.ofNat 16 (k.par 0 2) }

/-- The dark capture and the message of a command are given up with it. -/
def State.dropped (q : PktRef) (s : State) : State :=
  let u := s.iff (s.cmd.capture.any (·.1 == q)) (·.modCmd fun c => { c with capture := none })
  u.iff (u.cmd.message.any (·.1 == q)) (·.modCmd fun c => { c with message := none })

/-- Whether an ABORT ends its target. -/
abbrev Packet.ends (o : Packet) (taken : Bool) : Prop :=
  o.stage = .fetched ∨ (!taken ∧ endable o.op ∧ (o.stage = .dispatched ∨ o.stage = .running))

/-- A queue number counts only where the target is not the mailbox's. -/
theorem Packet.target_eq (k : Packet) {r : PktRef} (named : r =
    { tw := k.par 2 1 / 8 % 2 == 1, queue := Fin.ofNat 8 (k.par 2 1), tag := BitVec.ofNat 16 (k.par 0 2) }) :
    (if r.tw then { r with queue := 0 } else r) = k.target := by
  subst named
  unfold Packet.target
  by_cases tw : k.par 2 1 / 8 % 2 = 1 <;> simp [tw]

section
variable {k : Packet} {s : State} {taken : Bool} (elsewhere : s.cmd.mail.any (·.ref == k.target) = false)
include elsewhere

theorem State.abort_of_held {o : Packet} (held : s.packet k.target = some o) :
    (o.ends taken → s.abort taken k = ((s.dropped k.target).done k.target 6 1 0).done k.ref 0 0 1) ∧
    (¬ o.ends taken → s.abort taken k = s.done k.ref 0 0 0) := by
  unfold State.abort
  extract_lets r q t u v
  have target : q = k.target := k.target_eq rfl
  have given : v = t.dropped q := rfl
  clear_value v u q
  subst given target
  have here : t = s := if_neg (Bool.eq_false_iff.mp elsewhere)
  rw [here, held]
  exact ⟨fun ends => if_pos ends, fun kept => if_neg kept⟩

theorem State.abort_absent (absent : s.packet k.target = none) : s.abort taken k = s.done k.ref 0 0 0 := by
  unfold State.abort
  extract_lets r q t
  have target : q = k.target := k.target_eq rfl
  clear_value q
  subst target
  have here : t = s := if_neg (Bool.eq_false_iff.mp elsewhere)
  clear_value t
  subst here
  rw [absent]

end

/-! ### WARM_RESET (R281) -/

theorem State.warmReset_keyless {k : Packet} {s : State} (bad : k.par 0 2 ≠ 0x5752) :
    s.warmReset k = s.done k.ref 2 1 0 := if_pos bad

/-- Nothing more is started. -/
def State.shutting (s : State) : State := { s with cmd := { s.cmd with closing := true } }

/-- The commands of a list end with status 0x06, for a warm reset. -/
def State.cancelled (late : List Packet) (s : State) : State := s.each late fun o s => s.done o.ref 6 2 0

/-- With its key and the mailbox empty, a WARM_RESET cancels what has not started, and completes if no other is left. -/
theorem State.warmReset_keyed {k : Packet} {s : State} (key : k.par 0 2 = 0x5752) (empty : s.cmd.mail = none)
    {late : List Packet} (fetched : s.cmd.packets.filter (fun o => o.stage == .fetched) = late) :
    s.warmReset k = if (s.shutting.cancelled late).cmd.packets.any fun o => o.ref != k.ref then s.shutting.cancelled late
      else (s.shutting.cancelled late).done k.ref 0 0 0 := by
  have admitted : s.admitMail = s := by
    unfold State.admitMail
    rw [empty]
  unfold State.warmReset
  rw [if_neg (not_not_intro key), admitted]
  subst fetched
  rfl

section
variable {k : Packet} {s : State} (key : k.par 0 2 = 0x5752) (empty : s.cmd.mail = none)
include key empty

theorem State.warmReset_alone (begun : (k.stage == .fetched) = false) (alone : s.cmd.packets = [k]) :
    s.warmReset k = s.shutting.done k.ref 0 0 0 := by
  have none : s.cmd.packets.filter (fun o => o.stage == .fetched) = [] := by simp [alone, begun]
  have left : (s.shutting.cancelled []).cmd.packets = [k] := alone
  rw [State.warmReset_keyed key empty none, left]
  simp [State.cancelled, State.each]

theorem State.warmReset_other {o : Packet} (begun : (k.stage == .fetched) = false) (both : s.cmd.packets = [k, o])
    (other : o.ref ≠ k.ref) (waits : o.stage = .fetched) :
    s.warmReset k = (s.shutting.done o.ref 6 2 0).done k.ref 0 0 0 := by
  have late : s.cmd.packets.filter (fun o => o.stage == .fetched) = [o] := by simp [both, begun, waits]
  have found : s.shutting.packet o.ref = some o := by
    show s.cmd.packets.find? _ = _
    simp [both, other.symm]
  have left : (s.shutting.cancelled [o]).cmd.packets = [k] := by
    refine (State.packets_done found empty 6 2 0).trans ?_
    show s.cmd.packets.filter _ = _
    simp [both, other.symm]
  rw [State.warmReset_keyed key empty late, left]
  simp [State.cancelled, State.each]

theorem State.warmReset_waits {o : Packet} (begun : ∀ p ∈ s.cmd.packets, p.stage ≠ .fetched) (held : o ∈ s.cmd.packets)
    (other : o.ref ≠ k.ref) : s.warmReset k = s.shutting := by
  have none : s.cmd.packets.filter (fun o => o.stage == .fetched) = [] := by simpa using begun
  have left : (s.shutting.cancelled []).cmd.packets.any (fun p => p.ref != k.ref) = true :=
    List.any_eq_true.mpr ⟨o, held, bne_iff_ne.mpr other⟩
  rw [State.warmReset_keyed key empty none, if_pos left]
  rfl

end

/-- The completion of a mailbox's WARM_RESET has been written at once. -/
theorem State.warmDue_done {k : Packet} {s : State} (held : s.packet k.ref = some k) (reset : k.op = 4)
    (tw : k.ref.tw = true) (result : Nat) : (s.done k.ref 0 0 result).cmd.warmDue = some s.now := by
  unfold State.done
  rw [State.complete_tw held _ _ _ _ tw, reset]
  refine congrArg (fun tb : Timebase => some tb.tick.toNat) ?_
  exact ((State.mailboxDone_frame ..).1 .tb rfl).trans ((State.vacated_frame ..).1 .tb rfl)

/-- A target that has not started, and captures nothing, ends. -/
theorem State.dropped_quiet {q : PktRef} {s : State} (capture : s.cmd.capture.any (·.1 == q) = false)
    (message : s.cmd.message.any (·.1 == q) = false) : s.dropped q = s := by
  have kept : s.iff (s.cmd.capture.any (·.1 == q)) (·.modCmd fun c => { c with capture := none }) = s :=
    if_neg (Bool.eq_false_iff.mp capture)
  unfold State.dropped
  rw [kept]
  exact if_neg (Bool.eq_false_iff.mp message)

theorem State.dropped_capture {q : PktRef} {s : State} (capture : s.cmd.capture.any (·.1 == q) = true)
    (message : s.cmd.message.any (·.1 == q) = false) :
    s.dropped q = { s with cmd := { s.cmd with capture := none } } := by
  have given : s.iff (s.cmd.capture.any (·.1 == q)) (·.modCmd fun c => { c with capture := none }) =
    { s with cmd := { s.cmd with capture := none } } := if_pos capture
  unfold State.dropped
  rw [given]
  exact if_neg (Bool.eq_false_iff.mp message)

/-- What the mailbox holds after GET_STATE, or any command without data. -/
theorem State.mailbox_done {k : Packet} {s : State} (held : s.packet k.ref = some k) (tw : k.ref.tw = true)
    (running : k.op ≠ 4) {result : Nat} (fits : result < 2 ^ 32) :
    (s.done k.ref 0 0 result).cmd.busy = false ∧ (s.done k.ref 0 0 result).fget R.cmdTwCtrlBusy = 0 ∧
    (s.done k.ref 0 0 result).fget R.cmdTwEvtDone = 1 ∧
    (s.done k.ref 0 0 result).reg 0x0A1050 = BitVec.ofNat 32 (k.ref.tag.toNat + 65536 * (k.op % 65536)) ∧
    bits ((s.done k.ref 0 0 result).reg 0x0A1054) 0 16 = 0 ∧
    (s.done k.ref 0 0 result).reg 0x0A1058 = BitVec.ofNat 32 result ∧ (s.done k.ref 0 0 result).dma = s.dma := by
  have ends : s.done k.ref 0 0 result = (s.vacated k.ref).mailboxDone k.ref k.op 0 0 result [] := by
    unfold State.done
    rw [State.complete_tw held _ _ _ _ tw]
    exact if_neg (by simp [running])
  rw [ends]
  generalize vacated : s.vacated k.ref = v
  obtain ⟨busy, done⟩ := State.fget_mailboxDone k.ref k.op 0 0 result v
  obtain ⟨sqHead0, dwords0, more0, tag⟩ := State.reg_mailboxDone k.ref k.op 0 0 result v (i := 0) (by decide)
  obtain ⟨sqHead1, dwords1, more1, status⟩ := State.reg_mailboxDone k.ref k.op 0 0 result v (i := 1) (by decide)
  obtain ⟨sqHead2, dwords2, more2, value⟩ := State.reg_mailboxDone k.ref k.op 0 0 result v (i := 2) (by decide)
  refine ⟨State.busy_mailboxDone .., busy, done, ?_, ?_, ?_, ?_⟩
  · exact tag.trans (congrArg _ (completionHead_tag ..))
  · refine (congrArg (bits · 0 16) (status.trans (congrArg _ (completionHead_status ..)))).trans ?_
    rw [bits_ofNat _ _ (by decide)]
    omega
  · refine value.trans (congrArg _ ((completionHead_result ..).trans (Nat.mod_eq_of_lt fits)))
  · rw [← vacated]
    exact ((State.mailboxDone_frame ..).1 .dma rfl).trans ((State.vacated_frame ..).1 .dma rfl)

/-- A completion that its queue's reset has discarded is counted, and no channel sees it. -/
theorem State.lost_done {k : Packet} {s : State} (held : s.packet k.ref = some k) (ring : k.ref.tw = false)
    (lost : k.lost = true) (running : k.op ≠ 4) (result : Nat) : (s.done k.ref 0 0 result).dma = s.dma ∧
    (s.done k.ref 0 0 result).fget (R.cmdQLost k.ref.queue.val) =
      (s.fget (R.cmdQLost k.ref.queue.val) + 1) % 2 ^ 32 ∧
    (s.done k.ref 0 0 result).fget (R.cmdQEvtLostCpl k.ref.queue.val) = 1 := by
  have ends : s.done k.ref 0 0 result =
      ((s.vacated k.ref).bump (0xD0 + k.ref.queue.val) 1).loseCompletion k.ref.queue := by
    unfold State.done
    rw [State.complete_lost held _ _ _ _ ring lost]
    exact if_neg (by simp [running])
  have regs : ((s.vacated k.ref).bump (0xD0 + k.ref.queue.val) 1).regs = s.regs :=
    (State.bump_regs ..).trans ((State.vacated_frame ..).1 .regs rfl)
  have dma : ((s.vacated k.ref).bump (0xD0 + k.ref.queue.val) 1).dma = s.dma :=
    (State.bump_dma ..).trans ((State.vacated_frame ..).1 .dma rfl)
  rw [ends, ← State.fget_regs regs (R.cmdQLost k.ref.queue.val), ← dma]
  generalize (s.vacated k.ref).bump (0xD0 + k.ref.queue.val) 1 = v
  refine ⟨(State.loseCompletion_frame ..).1 .dma rfl, ?_, State.flag_raise _ _ (show 3 + 1 ≤ 32 by decide) rfl⟩
  unfold State.loseCompletion
  rw [State.fget_raise _ (show 0x0A0028 + 64 * k.ref.queue.val ≠ 0x0A0024 + 64 * k.ref.queue.val by omega)
    (show 0x0A0028 + 64 * k.ref.queue.val ≠ 0x000008 by omega)]
  exact State.fget_count_same (R.cmdQLost k.ref.queue.val) 1 v (show 0 + 32 ≤ 32 by decide)

/-- Settles O32: each command runs on its started packet, and a completion is followed to where it goes. -/
theorem completionsIdentityAndAbort : Obligations.CompletionsIdentityAndAbort := by
  unfold Obligations.CompletionsIdentityAndAbort
  refine ⟨?leaves, ?mailbox, ?enabled, ?lost, ?identify, ?getState, ?abort, ?abortAbsent, ?keyless, ?alone, ?aloneTw,
    ?other, ?waits⟩
  case leaves =>
    intro r k s start
    obtain rfl := State.ref_of_started start
    exact ⟨_, next_of_started start rfl,
      (State.packets_complete (State.packet_of_started start) 0 0 0 []).trans (State.packets_dismiss ..)⟩
  case mailbox =>
    intro r k s start tw
    obtain rfl := State.ref_of_started start
    have op := State.op_of_started start
    have mail := State.mailbox_done (State.packet_of_started start) tw (by rw [op]; decide) s.stateBits_lt
    rw [op] at mail
    exact ⟨_, next_of_started start rfl, mail⟩
  case enabled =>
    intro r k s start ring kept enabled
    obtain rfl := State.ref_of_started start
    have ends := State.done_enabled (State.packet_of_started start) 0 0 0 ring kept enabled
    rw [State.op_of_started start] at ends
    exact ⟨_, next_of_started start ends, (State.bump_dma ..).trans ((State.vacated_frame ..).1 .dma rfl)⟩
  case lost =>
    intro r k s start ring lost
    obtain rfl := State.ref_of_started start
    have op := State.op_of_started start
    exact ⟨_, next_of_started start rfl,
      State.lost_done (State.packet_of_started start) ring lost (by rw [op]; decide) 0⟩
  case identify =>
    intro r k s start
    obtain rfl := State.ref_of_started start
    exact ⟨_, next_of_started start rfl, length_fit .., State.take_identity s⟩
  case getState =>
    intro r k s start
    obtain rfl := State.ref_of_started start
    exact next_of_started start (by rw [State.stateBits_eq])
  case abort =>
    intro r q taken k o s start named held elsewhere quiet
    obtain rfl := State.ref_of_started start
    obtain rfl : q = k.target := named
    obtain ⟨ends, keeps⟩ := State.abort_of_held (taken := taken) elsewhere held
    refine ⟨fun waits idle => ?_, fun apart capture running capturing => ?_, fun kept begun => ?_⟩
    · rw [State.dropped_quiet idle quiet] at ends
      exact next_of_started start (ends (.inl waits))
    · rw [State.dropped_capture capturing quiet] at ends
      refine next_of_started start (ends (.inr ?_))
      rw [apart, capture, running]
      decide
    · refine next_of_started start (keeps fun ends => ?_)
      obtain waits | ⟨apart, may, _⟩ := ends
      · exact begun waits
      · rcases kept with fixed | together
        · cases fixed.symm.trans may
        · rw [together] at apart
          cases apart
  case abortAbsent =>
    intro r q taken k s start named absent elsewhere
    obtain rfl := State.ref_of_started start
    obtain rfl : q = k.target := named
    exact next_of_started start (State.abort_absent elsewhere absent)
  case keyless =>
    intro r k s start bad
    obtain rfl := State.ref_of_started start
    exact next_of_started start (State.warmReset_keyless bad)
  case alone =>
    intro r k s start key alone empty
    obtain rfl := State.ref_of_started start
    exact next_of_started start (State.warmReset_alone key empty (State.stage_of_started start) alone)
  case aloneTw =>
    intro r k s start key alone empty tw
    obtain rfl := State.ref_of_started start
    have held : s.shutting.packet k.ref = some k := State.packet_of_started start
    refine ⟨_, next_of_started start (State.warmReset_alone key empty (State.stage_of_started start) alone),
      State.warmDue_done held (State.op_of_started start) tw 0, (State.packets_done held empty 0 0 0).trans ?_⟩
    show s.cmd.packets.filter _ = _
    simp [alone]
  case other =>
    intro r k o s start key both empty other waits
    obtain rfl := State.ref_of_started start
    exact next_of_started start (State.warmReset_other key empty (State.stage_of_started start) both other waits)
  case waits =>
    intro r k o s start key begun held other empty
    obtain rfl := State.ref_of_started start
    exact next_of_started start (State.warmReset_waits key empty begun held other)

end Sys2Proof.Machine
end

section
/-! Command queues and the mailbox (R268 to R271, R286 to R288): what a doorbell, a fetched packet, a dispatch and a data-in
block change, and how queues are enabled and disabled. -/

namespace Sys2Proof.Machine

/-! ### What a unit's way leaves of the command path -/

section
variable {s t : State} (h : Conveys s t)
include h

theorem Conveys.queueOf (q : Fin 8) : t.queue q = s.queue q := by
  unfold State.queue
  rw [h.cmd]

theorem Conveys.packetsHeld : t.cmd.packets = s.cmd.packets := by rw [h.cmd]

theorem Conveys.served : t.cmd.rr = s.cmd.rr := by rw [h.cmd]

end

theorem State.queue_onQueue (q : Fin 8) (g : CmdQueue → CmdQueue) (s : State) :
    (s.onQueue q g).queue q = g (s.queue q) := vupd_same ..

theorem State.packets_onQueue (q : Fin 8) (g : CmdQueue → CmdQueue) (s : State) :
    (s.onQueue q g).cmd.packets = s.cmd.packets := rfl

theorem State.checkBind_conveys (q : Fin 8) (s : State) : Conveys s (s.checkBind q) :=
  .iff (State.raise_conveys (show 0x0A0024 + 64 * q.val < 0x0B0000 by omega))

theorem State.queue_checkBind (q p : Fin 8) (s : State) : (s.checkBind q).queue p = s.queue p :=
  (State.checkBind_conveys q s).queueOf p

/-! ### Doorbells (R268) -/

/-- A doorbell of a queue, before its channel asks for what the queue then needs. -/
def State.rung (q : Fin 8) (g : CmdQueue → CmdQueue) (s : State) : State := ((s.onQueue q g).leaveL1).wakeTender

theorem State.queue_rung (q : Fin 8) (g : CmdQueue → CmdQueue) (s : State) : (s.rung q g).queue q = g (s.queue q) := by
  have cmd : (s.onQueue q g).leaveL1.cmd = (s.onQueue q g).cmd := (State.leaveL1_frame _).1 .cmd rfl
  show (s.onQueue q g).leaveL1.cmd.queues[q] = _
  rw [cmd]
  exact State.queue_onQueue q g s

section
variable {q : Fin 8} {idx : BitVec 13} {s : State}

theorem State.sqDoorbell_disabled (off : (s.queue q).enabled = false) : s.sqDoorbell q idx = s :=
  if_neg (Bool.eq_false_iff.mp off)

theorem State.cqDoorbell_disabled (off : (s.queue q).enabled = false) : s.cqDoorbell q idx = s :=
  if_neg (Bool.eq_false_iff.mp off)

variable (on : (s.queue q).enabled = true)
include on

theorem State.sqDoorbell_moves : ((s.sqDoorbell q idx).queue q).sqTail = idx.toNat ∧
    (s.sqDoorbell q idx).tnd.asleep = false := by
  unfold State.sqDoorbell
  rw [if_pos on]
  refine ⟨?_, ?_⟩
  · rw [(State.askQueues_conveys _ _).queueOf, State.queue_checkBind]
    exact congrArg CmdQueue.sqTail (State.queue_rung ..)
  · rw [(State.askQueues_frame ..).1 .tnd rfl, (State.checkBind_frame ..).1 .tnd rfl]
    rfl

theorem State.cqDoorbell_moves : ((s.cqDoorbell q idx).queue q).cqHead = idx.toNat ∧
    (s.cqDoorbell q idx).tnd.asleep = false := by
  unfold State.cqDoorbell
  rw [if_pos on]
  refine ⟨?_, ?_⟩
  · rw [(State.slotFreed_conveys _ _).queueOf]
    exact congrArg CmdQueue.cqHead (State.queue_rung ..)
  · rw [(State.slotFreed_frame ..).1 .tnd rfl]
    rfl

end

/-! ### Packets fetched (R270, R271) -/

/-- The packet that a fetch of a queue brings. -/
def State.fetchedPacket (q : Fin 8) (w : BitVec 512) (s : State) : Packet :=
  { ref := { tw := false, queue := q, tag := w.extractLsb' 16 16 }, bytes := w, pasid := (s.queue q).pasid?
    dc := (s.queue q).dc }

/-- A fetch has been served: the next queue's turn comes, and the head moves past the packet. -/
def State.headMoved (q : Fin 8) (s : State) : State :=
  ((s.modCmd fun c => { c with rr := (q.val + 1) % 8 }).touch (s.queue q).pasid? (s.queue q).fetchVa).onQueue q
    fun u => { u with sqHead := (u.sqHead + 1) % 2 ^ u.sqLog }

theorem State.queue_headMoved (q : Fin 8) (s : State) : (s.headMoved q).queue q =
    { s.queue q with sqHead := ((s.queue q).sqHead + 1) % 2 ^ (s.queue q).sqLog } := State.queue_onQueue ..

theorem State.chans_headMoved (q : Fin 8) (s : State) : (s.headMoved q).dma.chans = s.dma.chans := by
  show ((s.modCmd _).touch _ _).dma.chans = _
  unfold State.touch State.modDma
  dsimp only
  split <;> rfl

section
variable {q : Fin 8} {w : BitVec 512} {s : State}

theorem State.fetchPacket_blocked {res : FetchResult}
    (blocked : s.cmd.packets.length ≥ 64 ∨ s.nextQueue ≠ some q ∨ s.hostUp = false) : s.fetchPacket q res w = s := by
  refine if_pos ?_
  rcases blocked with full | other | down
  · exact .inr (.inl full)
  · exact .inl other
  · exact .inr (.inr (Bool.eq_false_iff.mp down))

theorem State.fetchPacket_untranslated (untranslated : s.translate (s.queue q).pasid? (s.queue q).fetchVa = none) :
    s.fetchPacket q .ok w = s := by
  unfold State.fetchPacket
  split
  · rfl
  · exact if_pos (by rw [untranslated]; rfl)

variable (turn : s.nextQueue = some q) (room : s.cmd.packets.length < 64) (up : s.hostUp = true)
include turn room up

theorem State.fetch_open : ¬ (s.nextQueue ≠ some q ∨ 64 ≤ s.cmd.packets.length ∨ ¬ s.hostUp) := by
  simp [turn, room, up]

theorem State.fetchPacket_error {res : FetchResult} (bad : res ≠ .ok) : s.fetchPacket q res w =
    ((s.modCmd fun c => { c with rr := (q.val + 1) % 8 }).onQueue q fun u => { u with error := true }).raise
      (R.cmdQEvtFetchErr q.val) := by
  unfold State.fetchPacket
  rw [if_neg (State.fetch_open turn room up)]
  cases res with
  | ok => cases bad rfl
  | refused => rfl
  | uncorrectable => rfl

variable (translated : (s.translate (s.queue q).pasid? (s.queue q).fetchVa).isSome = true)
include translated

theorem State.fetchPacket_new (new : s.packet (s.fetchedPacket q w).ref = none) : s.fetchPacket q .ok w =
    ((s.headMoved q).modCmd fun c => { c with packets := c.packets ++ [s.fetchedPacket q w] }).askQueues
      (Fin.ofNat 16 (s.queue q).dc) := by
  have held : ((s.headMoved q).packet (s.fetchedPacket q w).ref).isSome = false := congrArg Option.isSome new
  unfold State.fetchPacket
  rw [if_neg (State.fetch_open turn room up)]
  exact (if_neg (by simp [Option.isSome_iff_ne_none.mp translated])).trans (if_neg (Bool.eq_false_iff.mp held))

theorem State.fetchPacket_used {k : Packet} (used : s.packet (s.fetchedPacket q w).ref = some k) :
    s.fetchPacket q .ok w = ((s.headMoved q).bump (0xD0 + q.val) 1).handClass 1 (Fin.ofNat 16 (s.queue q).dc)
      { kind := .completion (s.fetchedPacket q w).ref (bitOf w 33)
        bytes := completionHead (s.fetchedPacket q w).ref (bits w 0 16) 2 0xF2
          (((s.queue q).sqHead + 1) % 2 ^ (s.queue q).sqLog) 0 0 } := by
  have held : ((s.headMoved q).packet (s.fetchedPacket q w).ref).isSome = true := congrArg Option.isSome used
  have moved := State.queue_headMoved q s
  have dc : ((s.headMoved q).queue q).dc = (s.queue q).dc := by rw [moved]
  have sqHead : ((s.headMoved q).queue q).sqHead = ((s.queue q).sqHead + 1) % 2 ^ (s.queue q).sqLog := by rw [moved]
  rw [← sqHead, ← dc]
  unfold State.fetchPacket
  rw [if_neg (State.fetch_open turn room up)]
  exact (if_neg (by simp [Option.isSome_iff_ne_none.mp translated])).trans (if_pos held)

end

/-! ### Dispatch (R277) -/

/-- A packet has been dispatched. -/
def State.dispatched (p : Packet) (s : State) : State :=
  s.wakeTender.onPacket p.ref fun o => { o with stage := .dispatched }

section
variable {s : State} {p : Packet}

theorem State.dispatch_none (none : s.cmd.packets.find? s.mayDispatch = none) : s.dispatch = s := by
  unfold State.dispatch
  rw [none]

variable (may : s.cmd.packets.find? s.mayDispatch = some p)
include may

theorem State.dispatch_starts (good : s.formatFault p = none) : s.dispatch = (s.dispatched p).iff
    (!p.ref.tw && p.dlen != 0) (·.askQueues (Fin.ofNat 16 ((s.dispatched p).queue p.ref.queue).dc)) := by
  have good : (s.dispatched p).formatFault p = none := good
  unfold State.dispatched at good
  unfold State.dispatch
  rw [may]
  dsimp only
  rw [good]
  rfl

theorem State.dispatch_faults {st det : Nat} (bad : s.formatFault p = some (st, det)) :
    s.dispatch = (s.dispatched p).done p.ref st det 0 := by
  have bad : (s.dispatched p).formatFault p = some (st, det) := bad
  unfold State.dispatched at bad
  unfold State.dispatch
  rw [may]
  dsimp only
  rw [bad]
  rfl

end

/-! ### Data-in blocks (R271) -/

section
variable {r : PktRef} {data : List Byte} {s : State} {p : Packet} (held : s.packet r = some p) (ring : r.tw = false)
  (begun : p.stage = .dispatched) (empty : p.data = none) (some : 0 < p.dlen)
include held ring begun empty some

omit held in
theorem State.dataIn_wanted : ¬ (r.tw = true ∨ p.stage ≠ .dispatched ∨ p.data.isSome = true ∨ p.dlen = 0) := by
  simp [ring, begun, empty, Nat.ne_of_gt some]

theorem State.dataIn_refused_before (f : FetchResult) (refused : p.noData = true) :
    s.dataIn r f data = s.done r 0x0A 0 0 := by
  unfold State.dataIn
  rw [held]
  exact (if_neg (State.dataIn_wanted ring begun empty some)).trans (if_pos refused)

variable (asked : p.noData = false) (up : s.hostUp = true)
include asked up

theorem State.dataIn_refused : s.dataIn r .refused data = s.done r 0x0A 0 0 := by
  unfold State.dataIn
  rw [held]
  exact (if_neg (State.dataIn_wanted ring begun empty some)).trans
    ((if_neg (Bool.eq_false_iff.mp asked)).trans (if_neg (not_not_intro up)))

theorem State.dataIn_uncorrectable : s.dataIn r .uncorrectable data = s.done r 0x0B 0 0 := by
  unfold State.dataIn
  rw [held]
  exact (if_neg (State.dataIn_wanted ring begun empty some)).trans
    ((if_neg (Bool.eq_false_iff.mp asked)).trans (if_neg (not_not_intro up)))

theorem State.dataIn_reads (mapped : s.gap p.pasid p.dva p.dlen = none) : s.dataIn r .ok data =
    (s.touch p.pasid p.dva).onPacket r fun p => { p with data := Option.some (fit p.dlen data) } := by
  unfold State.dataIn
  rw [held]
  exact (if_neg (State.dataIn_wanted ring begun empty some)).trans ((if_neg (Bool.eq_false_iff.mp asked)).trans
    ((if_neg (not_not_intro up)).trans (if_neg (by rw [mapped]; nofun))))

end

theorem execDataInBlockRead_formed {data : List Byte} (formed : wfData data = true) (r : PktRef) (f : FetchResult)
    (s : State) : execDataInBlockRead r f data s = .next (s.dataIn r f data) := if_pos formed

/-! ### Queues enabled and disabled (R269, R287, R288) -/

theorem bits_and_mask (w : Word) (lo n m : Nat) (fits : lo + n ≤ m) (m32 : m ≤ 32) :
    bits (w &&& BitVec.ofNat 32 (2 ^ m - 1)) lo n = bits w lo n := by
  refine Nat.eq_of_testBit_eq fun i => ?_
  rw [bits_testBit, bits_testBit, BitVec.getLsbD_and, BitVec.getLsbD_ofNat, Nat.testBit_two_pow_sub_one]
  by_cases low : i < n
  · have : lo + i < m := by omega
    have : lo + i < 32 := by omega
    simp [*]
  · simp [low]

section
variable {via : Via} {q : Fin 8} {s : State} (may : s.mayWrite via.path (0x0A0000 + 64 * q.val) = true)
  (alone : s.alone = true)
include may alone

theorem State.byPath_queueEnable (w : Word) : s.byPath (.queueEnable via q w) =
    (s.rsvCheck via.path (0x0A0000 + 64 * q.val) w).writeQCtrl q (setBits w 0 1 1) :=
  (State.byPath_alone alone _).trans (State.access_may
    (fun u => (u.rsvCheck via.path (0x0A0000 + 64 * q.val) w).writeQCtrl q (setBits w 0 1 1)) may)

theorem State.byPath_queueDisable : s.byPath (.queueDisable via q) =
    s.writeQCtrl q (setBits (s.reg (0x0A0000 + 64 * q.val)) 0 1 0) :=
  (State.byPath_alone alone _).trans (State.access_may
    (fun u => u.writeQCtrl q (setBits (u.reg (0x0A0000 + 64 * q.val)) 0 1 0)) may)

end

theorem State.mayDispatch_setReg (off : Nat) (v : Word) (s : State) (p : Packet) :
    (s.setReg off v).mayDispatch p = s.mayDispatch p := rfl

/-- Registers do not tell which packet a dispatch takes. -/
theorem State.dispatching_setReg (off : Nat) (v : Word) (s : State) : (s.setReg off v).dispatching = s.dispatching := by
  have may : (s.setReg off v).mayDispatch = s.mayDispatch := funext fun p => State.mayDispatch_setReg off v s p
  unfold State.dispatching
  rw [may]
  rfl

theorem State.writeQCtrl_on {q : Fin 8} {v : Word} {s : State} (on : bitOf v 0 = true) :
    s.writeQCtrl q v = (s.setReg (0x0A0000 + 64 * q.val) (v &&& 0x1FFF)).startQueue q := if_pos on

theorem State.writeQCtrl_off {q : Fin 8} {v : Word} {s : State} (off : bitOf v 0 = false)
    (was : bitOf (s.reg (0x0A0000 + 64 * q.val)) 0 = true) :
    s.writeQCtrl q v = (s.setReg (0x0A0000 + 64 * q.val) (v &&& 0x1FFF)).stopQueue q :=
  (if_neg (Bool.eq_false_iff.mp off)).trans (if_pos was)

/-- A queue that starts begins at its ring's first entries. -/
theorem State.queue_startQueue {q : Fin 8} {s : State} (off : (s.queue q).enabled = false) :
    ((s.startQueue q).queue q).enabled = true ∧ ((s.startQueue q).queue q).sqHead = 0 ∧
    ((s.startQueue q).queue q).cqTail = 0 ∧ ((s.startQueue q).queue q).phase = true ∧
    ((s.startQueue q).queue q).dc = s.fget (R.cmdQCtrlDc q.val) := by
  unfold State.startQueue
  rw [if_neg (Bool.eq_false_iff.mp off)]
  dsimp only
  rw [State.queue_checkBind, State.queue_onQueue]
  exact ⟨rfl, rfl, rfl, rfl, rfl⟩

theorem State.dropHanded_conveys (q : Fin 8) (s : State) : Conveys s (s.dropHanded q) := by
  have lose (v : State) : Conveys v (v.loseCompletion q) :=
    (State.count_conveys (show 0x0A0028 + 64 * q.val < 0x0B0000 by omega) 1 v).then
      (State.raise_conveys (show 0x0A0024 + 64 * q.val < 0x0B0000 by omega) _)
  exact .each (fun ch v => ((State.onCh_conveys ch _ v).then
    (.each (fun u v => (lose v).then (State.lostUnit_conveys u _)) _ _)).then (State.stagingDrained_conveys ch _)) _ s

/-- Whether a stop of a queue discards a packet, another that is `kept` aside. -/
def Packet.stopped (q : Fin 8) (kept : Option PktRef) (p : Packet) : Bool :=
  (!p.ref.tw && p.ref.queue == q) && p.stage == .fetched && some p.ref != kept

/-- A packet of a stopped queue loses its completion. -/
def Packet.orphaned (q : Fin 8) (p : Packet) : Packet := if !p.ref.tw && p.ref.queue == q then { p with lost := true } else p

/-- The packets that a stop of a queue leaves: those started, and those of other queues. -/
def State.unstopped (q : Fin 8) (s : State) : State := s.modCmd fun c =>
  { c with packets := (c.packets.filter (!Packet.stopped q s.dispatching ·)).map (Packet.orphaned q) }

theorem State.stopQueue_eq (q : Fin 8) (s : State) : s.stopQueue q =
    ((s.unstopped q).takeMail.dropHanded q).onQueue q fun u => { u with enabled := false, error := false } := rfl

theorem State.queue_stopQueue (q : Fin 8) (s : State) :
    (s.stopQueue q).queue q = { s.queue q with enabled := false, error := false } := by
  have kept : ((s.unstopped q).takeMail.dropHanded q).queue q = s.queue q := by
    rw [(State.dropHanded_conveys q _).queueOf]
    show (s.unstopped q).takeMail.cmd.queues[q] = s.cmd.queues[q]
    rw [(State.takeMail_completes _).cmd]
    rfl
  rw [State.stopQueue_eq, State.queue_onQueue, kept]

/-- A packet of a stopped queue that has not started is held only where its dispatch comes in this core cycle, or where
the mailbox brought it. -/
theorem State.packets_stopQueue {q : Fin 8} {s : State} {o : Packet} (held : o ∈ (s.stopQueue q).cmd.packets)
    (ring : o.ref.tw = false) (own : o.ref.queue = q) (waits : o.stage = .fetched) :
    s.dispatching = some o.ref ∨ s.cmd.mail = some o := by
  rw [State.stopQueue_eq, State.packets_onQueue, (State.dropHanded_conveys q _).packetsHeld] at held
  refine ((State.takeMail_completes _).packets o held).imp (fun kept => ?_) id
  obtain ⟨p, listed, changed⟩ := List.mem_map.mp kept
  have spared := (List.mem_filter.mp listed).2
  have same : p.ref = o.ref ∧ p.stage = o.stage := by
    subst changed
    unfold Packet.orphaned
    split <;> exact ⟨rfl, rfl⟩
  obtain ⟨ref, stage⟩ := same
  have spared : some o.ref = s.dispatching := by simpa [Packet.stopped, ref, stage, ring, own, waits] using spared
  exact spared.symm

/-! ### The mailbox (R286) -/

theorem State.takeMail_takes {s : State} {p : Packet} (waits : s.cmd.mail = some p) (room : s.cmd.packets.length < 64) :
    s.takeMail = s.modCmd fun c => { c with packets := c.packets ++ [p], mail := none } := by
  unfold State.takeMail
  rw [waits]
  exact if_pos room

theorem State.takeMail_full {s : State} (full : 64 ≤ s.cmd.packets.length) : s.takeMail = s := by
  unfold State.takeMail
  split
  · exact if_neg (Nat.not_lt.mpr full)
  · rfl

/-- The packet that the mailbox's registers hold. -/
def State.mailPacket (s : State) : Packet :=
  let words := (List.range 16).map fun i => (s.reg (0x0A1000 + 4 * i)).toNat
  let pkt := BitVec.ofNat 512 (ofLeBytes (words.flatMap (leBytes 4 ·)))
  let n := min 4096 (s.fget R.cmdTwDlen)
  { ref := { tw := true, queue := 0, tag := pkt.extractLsb' 16 16 }, bytes := pkt
    data := some (((List.range (ceilDiv n 4)).flatMap fun i => leBytes 4 (s.reg (0x0A2000 + 4 * i)).toNat).take n) }

/-- The mailbox is busy with its packet. -/
def State.mailGiven (s : State) : State :=
  (s.modCmd fun c => { c with mail := some s.mailPacket, busy := true }).fset R.cmdTwCtrlBusy 1

theorem State.mailboxGo_free {s : State} (free : s.cmd.busy = false) :
    s.mailboxGo = s.mailGiven.takeMail.wakeTender := if_neg (Bool.eq_false_iff.mp free)

theorem State.mailboxGo_busy {s : State} (busy : s.cmd.busy = true) : s.mailboxGo = s.raise R.cmdTwEvtOverrun :=
  if_pos busy

theorem State.bytes_mailPacket (s : State) : s.mailPacket.bytes = BitVec.ofNat 512
    (ofLeBytes ((List.range 16).flatMap fun i => leBytes 4 (s.reg (0x0A1000 + 4 * i)).toNat)) := by
  unfold State.mailPacket
  dsimp only
  rw [List.flatMap_map]

theorem State.byPath_mailboxGo {via : Via} {s : State} (may : s.mayWrite via.path 0x0A1040 = true)
    (alone : s.alone = true) : s.byPath (.mailboxGo via) = s.mailboxGo :=
  (State.byPath_alone alone _).trans (State.access_may (·.mailboxGo) may)

/-- Settles O31: each command is followed by what it changes of the queue, of the packets held and of the mailbox. -/
theorem queuesPacketsAndMailbox : Obligations.QueuesPacketsAndMailbox := by
  unfold Obligations.QueuesPacketsAndMailbox
  refine ⟨?tail, ?tailOff, ?head, ?headOff, ?fetch, ?tagUsed, ?untranslated, ?fetchError, ?blocked, ?dispatch, ?fault,
    ?idle, ?dataIn, ?noData, ?illFormed, ?enable, ?disable, ?mailbox, ?mailboxBusy⟩
  case tail => exact fun q idx same s on => ⟨_, rfl, State.sqDoorbell_moves on⟩
  case tailOff => exact fun q idx same s off => congrArg Host.Outcome.next (State.sqDoorbell_disabled off)
  case head => exact fun q idx same s on => ⟨_, rfl, State.cqDoorbell_moves on⟩
  case headOff => exact fun q idx same s off => congrArg Host.Outcome.next (State.cqDoorbell_disabled off)
  case fetch =>
    intro q w s turn room up translated new
    refine ⟨_, congrArg Host.Outcome.next (State.fetchPacket_new turn room up translated new), ?_⟩
    have asked := State.askQueues_conveys (Fin.ofNat 16 (s.queue q).dc)
      ((s.headMoved q).modCmd fun c => { c with packets := c.packets ++ [s.fetchedPacket q w] })
    refine ⟨asked.packetsHeld, ?_, asked.served⟩
    rw [asked.queueOf]
    exact congrArg CmdQueue.sqHead (State.queue_headMoved q s)
  case tagUsed =>
    intro q w k s turn room up translated used
    exact ⟨_, congrArg Host.Outcome.next (State.fetchPacket_used turn room up translated used), rfl,
      State.chans_headMoved q s⟩
  case untranslated =>
    exact fun q w s none => congrArg Host.Outcome.next (State.fetchPacket_untranslated none)
  case fetchError =>
    intro q r w s turn room up bad
    refine ⟨_, congrArg Host.Outcome.next (State.fetchPacket_error turn room up bad), ?_,
      State.flag_raise _ _ (show 2 + 1 ≤ 32 by decide) rfl⟩
    unfold State.queue
    rw [State.raise_cmd]
    exact congrArg CmdQueue.error (State.queue_onQueue q _ _)
  case blocked => exact fun q r w s blocked => congrArg Host.Outcome.next (State.fetchPacket_blocked blocked)
  case dispatch =>
    intro same s p may good
    have asked : Conveys (s.dispatched p) ((s.dispatched p).iff (!p.ref.tw && p.dlen != 0)
        (·.askQueues (Fin.ofNat 16 ((s.dispatched p).queue p.ref.queue).dc))) := .iff (State.askQueues_conveys _)
    have tnd : ((s.dispatched p).iff (!p.ref.tw && p.dlen != 0)
        (·.askQueues (Fin.ofNat 16 ((s.dispatched p).queue p.ref.queue).dc))).tnd = (s.dispatched p).tnd :=
      (Frame.iff (.refl _ _) (State.askQueues_frame _)).1 .tnd rfl
    exact ⟨_, congrArg Host.Outcome.next (State.dispatch_starts may good), congrArg Tender.asleep tnd, asked.packetsHeld⟩
  case fault =>
    intro same s p st det may bad
    refine ⟨_, congrArg Host.Outcome.next (State.dispatch_faults may bad), ?_, rfl⟩
    exact Left.gone (State.done_left p.ref st det 0 (s.dispatched p))
  case idle => exact fun same s none => congrArg Host.Outcome.next (State.dispatch_none none)
  case dataIn =>
    intro r data s p formed held ring begun empty some asked up mapped
    exact ⟨_, (execDataInBlockRead_formed formed ..).trans
      (congrArg Host.Outcome.next (State.dataIn_reads held ring begun empty some asked up mapped)), rfl⟩
  case noData =>
    intro r f data s p formed held ring begun empty some
    have runs := execDataInBlockRead_formed formed r
    refine ⟨fun refused => ?_, ?_, ?_⟩
    · exact (runs f s).trans (congrArg Host.Outcome.next (State.dataIn_refused_before held ring begun empty some f refused))
    · rintro asked up rfl
      exact (runs _ s).trans (congrArg Host.Outcome.next (State.dataIn_refused held ring begun empty some asked up))
    · rintro asked up rfl
      exact (runs _ s).trans (congrArg Host.Outcome.next (State.dataIn_uncorrectable held ring begun empty some asked up))
  case illFormed => exact fun r f data s bad => if_neg (Bool.eq_false_iff.mp bad)
  case enable =>
    intro via q w s may alone off
    have on : bitOf (setBits w 0 1 1) 0 = true := by
      rw [bitOf, setBits_getLsbD]
      rfl
    have off : ((s.rsvCheck via.path (0x0A0000 + 64 * q.val) w).queue q).enabled = false := by
      unfold State.queue
      rwa [(State.rsvCheck_frame ..).1 .cmd rfl]
    obtain ⟨enabled, sqHead, cqTail, phase, dc⟩ := State.queue_startQueue
      (s := (s.rsvCheck via.path (0x0A0000 + 64 * q.val) w).setReg (0x0A0000 + 64 * q.val)
        (setBits w 0 1 1 &&& 0x1FFF)) off
    refine ⟨_, congrArg Host.Outcome.next ((State.byPath_queueEnable may alone w).trans (State.writeQCtrl_on on)),
      enabled, sqHead, cqTail, phase, dc.trans ?_⟩
    refine (congrArg (bits · 9 4) (State.reg_setReg_same ..)).trans ?_
    exact (bits_and_mask _ 9 4 13 (by decide) (by decide)).trans (bits_setBits_other _ _ (.inr (by decide)))
  case disable =>
    intro via q s may alone was
    have off : bitOf (setBits (s.reg (0x0A0000 + 64 * q.val)) 0 1 0) 0 = false := by
      rw [bitOf, setBits_getLsbD]
      rfl
    refine ⟨_, congrArg Host.Outcome.next ((State.byPath_queueDisable may alone).trans (State.writeQCtrl_off off was)), ?_⟩
    dsimp only
    rw [State.queue_stopQueue]
    refine ⟨rfl, rfl, rfl, rfl, fun o held ring own waits => ?_⟩
    rw [← State.dispatching_setReg (0x0A0000 + 64 * q.val) (setBits (s.reg (0x0A0000 + 64 * q.val)) 0 1 0 &&& 0x1FFF) s]
    exact State.packets_stopQueue held ring own waits
  case mailbox =>
    intro via s may alone free
    refine ⟨_, congrArg Host.Outcome.next ((State.byPath_mailboxGo may alone).trans (State.mailboxGo_free free)), ?_⟩
    have given : s.mailGiven.fget R.cmdTwCtrlBusy = 1 := State.fget_fset_same _ _ _ (by decide)
    rcases Nat.lt_or_ge s.cmd.packets.length 64 with room | full
    · rw [State.takeMail_takes (s := s.mailGiven) rfl room]
      exact ⟨rfl, given, rfl, s.mailPacket, rfl, rfl, rfl, s.bytes_mailPacket, fun _ => ⟨rfl, rfl⟩,
        fun full => absurd room (Nat.not_lt.mpr full)⟩
    · rw [State.takeMail_full (s := s.mailGiven) full]
      exact ⟨rfl, given, rfl, s.mailPacket, rfl, rfl, rfl, s.bytes_mailPacket,
        fun room => absurd room (Nat.not_lt.mpr full), fun _ => ⟨rfl, rfl⟩⟩
  case mailboxBusy =>
    intro via s may alone busy
    exact ⟨_, congrArg Host.Outcome.next ((State.byPath_mailboxGo may alone).trans (State.mailboxGo_busy busy)),
      State.raise_cmd .., State.flag_raise _ _ (by decide) rfl⟩

end Sys2Proof.Machine
end

section
/-! Inhibited non-volatile writes (R285, R375, R385, R386): what a supply failure ends and what its recovery records. -/

namespace Sys2Proof.Machine

/-! ### What an event leaves of the Tender -/

/-- An alarm wakes the Tender and is posted. -/
theorem State.tnd_alarmOf (f : Fld) (line : Nat) (s : State) : (s.alarmOf f line).tnd =
    { s.tnd with asleep := false, idleFrom := s.now, posted := (s.alarmOf f line).tnd.posted } := by
  unfold State.alarmOf State.post
  rw [State.msix_tnd, State.modTnd_tnd, State.bump_tnd, State.fire_tnd]
  rfl

theorem State.tnd_raiseOnce (f : Fld) (s : State) : ∃ asleep idleFrom posted, (s.raiseOnce f).tnd =
    { s.tnd with asleep := asleep, idleFrom := idleFrom, posted := posted } := by
  unfold State.raiseOnce
  split
  · rw [State.raise_tnd]
    exact ⟨_, _, _, rfl⟩
  · unfold State.raiseAlarm
    rw [State.tnd_alarmOf, State.raise_tnd]
    exact ⟨_, _, _, rfl⟩

/-- A record of the Tender's own sets no event but that of a full queue. -/
theorem State.fget_logOwn {g : Fld} (code : Nat) (data : List Byte) (s : State) (attn : g.off ≠ 0x000008)
    (apart : g.lo + g.n ≤ 3 ∨ 4 ≤ g.lo) : (s.logOwn code data).fget g = s.fget g := by
  unfold State.logOwn State.queueLog
  dsimp only
  split
  · rfl
  · by_cases own : g.off = R.mgtEvtSuppress.off
    · exact State.fget_raise_bits _ own attn apart
    · exact State.fget_raise _ own attn

/-! ### LOG_NOTEs that an inhibit ends (R285, R386) -/

/-- The packets held, and that in the mailbox, were held or in the mailbox before. -/
structure Retains (s t : State) : Prop where
  packets : ∀ k, k ∈ t.cmd.packets → k ∈ s.cmd.packets ∨ s.cmd.mail = some k
  mail : ∀ k, t.cmd.mail = some k → s.cmd.mail = some k

theorem Completes.retains {s t : State} (h : Completes s t) : Retains s t := ⟨h.packets, h.mail⟩

theorem Retains.of_same {s t : State} (cmd : t.cmd = s.cmd) : Retains s t :=
  ⟨fun k held => .inl (by rwa [cmd] at held), fun k waits => by rwa [cmd] at waits⟩

theorem Retains.then {s t u : State} (h : Retains s u) (k : Retains u t) : Retains s t where
  packets p held := (k.packets p held).elim (h.packets p) fun waits => .inr (h.mail p waits)
  mail p waits := h.mail p (k.mail p waits)

/-- A packet that has left stays away, before and after. -/
theorem Left.before {r : PktRef} {s t u : State} (k : Retains s u) (h : Left r u t) : Left r s t :=
  fun p held own => k.mail p (h p held own)

theorem Left.stays {r : PktRef} {s t u : State} (h : Left r s u) (k : Retains u t) (m : Retains s u) : Left r s t :=
  fun p held own => (k.packets p held).elim (fun kept => h p kept own) (m.mail p)

/-- A LOG_NOTE ends with status 0x07. -/
def State.noteEnded (det : PktRef × BitVec 32 → Nat) (e : PktRef × BitVec 32) (s : State) : State :=
  (s.modTnd fun t => { t with inhList := t.inhList ++ [(0x0601, det e)] }).done e.1 7 (det e) 0

/-- What LOG_NOTEs that end leave of the Tender, of the registers and of the packets. -/
structure NotesEnded (s t : State) : Prop where
  tnd : t.tnd = { s.tnd with inhList := t.tnd.inhList, idleFrom := t.tnd.idleFrom }
  reg : ∀ off, 0x0B0000 ≤ off → t.reg off = s.reg off
  retains : Retains s t

theorem NotesEnded.then {s t u : State} (h : NotesEnded s u) (k : NotesEnded u t) : NotesEnded s t where
  tnd := k.tnd.trans (by rw [h.tnd])
  reg off high := (k.reg off high).trans (h.reg off high)
  retains := h.retains.then k.retains

theorem State.noteEnded_ends (det : PktRef × BitVec 32 → Nat) (e : PktRef × BitVec 32) (s : State) :
    NotesEnded s (s.noteEnded det e) := by
  have done := State.done_completes e.1 7 (det e) 0 (s.modTnd fun t => { t with inhList := t.inhList ++ [(0x0601, det e)] })
  refine ⟨?_, done.reg, done.packets, done.mail⟩
  unfold State.noteEnded
  rw [done.tnd]
  rfl

theorem State.noteEnded_left (det : PktRef × BitVec 32 → Nat) (e : PktRef × BitVec 32) (s : State) :
    Left e.1 s (s.noteEnded det e) := State.done_left e.1 7 (det e) 0 (s.modTnd _)

theorem State.each_noteEnded (det : PktRef × BitVec 32 → Nat) (l : List (PktRef × BitVec 32)) (s : State) :
    NotesEnded s (s.each l (State.noteEnded det)) ∧ ∀ e ∈ l, Left e.1 s (s.each l (State.noteEnded det)) := by
  unfold State.each
  induction l generalizing s with
  | nil => exact ⟨⟨rfl, fun _ _ => rfl, .of_same rfl⟩, nofun⟩
  | cons e l ih =>
    obtain ⟨ends, gone⟩ := ih (s.noteEnded det e)
    have first := State.noteEnded_ends det e s
    refine ⟨first.then ends, fun x listed => ?_⟩
    rcases List.mem_cons.mp listed with rfl | later
    · exact (State.noteEnded_left det x s).stays ends.retains first.retains
    · exact .before first.retains (gone x later)

/-- All LOG_NOTEs end; their records stay queued. -/
theorem State.nvNotes_ends (s : State) : NotesEnded (s.modTnd fun t => { t with notes := [] }) s.nvNotes ∧
    ∀ e ∈ s.tnd.notes, Left e.1 s s.nvNotes := by
  obtain ⟨ends, gone⟩ := State.each_noteEnded (fun e => if (s.tnd.queue.filter fun r =>
    decide ((BitVec.ofNat 32 (bits r 0 32) - e.2).toNat < 4)).length < 4 then 2 else 1) s.tnd.notes
    (s.modTnd fun t => { t with notes := [] })
  exact ⟨ends, gone⟩

theorem State.tnd_nvNotes (s : State) : s.nvNotes.tnd =
    { s.tnd with notes := [], inhList := s.nvNotes.tnd.inhList, idleFrom := s.nvNotes.tnd.idleFrom } :=
  (State.nvNotes_ends s).1.tnd

theorem State.retains_nvNotes (s : State) : Retains s s.nvNotes :=
  have ends := (State.nvNotes_ends s).1.retains
  ⟨ends.packets, ends.mail⟩

theorem State.fget_nvNotes (s : State) {f : Fld} (high : 0x0B0000 ≤ f.off) : s.nvNotes.fget f = s.fget f :=
  congrArg (bits · f.lo f.n) ((State.nvNotes_ends s).1.reg _ high)

/-! ### The inhibit (R385, R386) -/

/-- An inhibit has begun. -/
def State.inhibited (aon : Bool) (s : State) : State :=
  (s.modTnd fun t => { t with inhibit := true, inhAt := s.now, inhAon := aon }).raiseOnce R.mgtEvtInhibit

/-- The writes under way are taken from the list, those of the boot record to start over. -/
def State.jobsCut (s : State) : State := s.modTnd fun t =>
  { t with jobs := (t.jobs.filter (·.kind.isBoot)).map (·.again)
           inhCnt := t.inhCnt + BitVec.ofNat 32 (t.queue.length + (t.jobs.filter (·.kind.isBoot)).length) }

/-- The writes of a list end with status 0x07, the first of those under way with what it leaves behind. -/
def State.jobsRefused (first : Option NvJob) (js : List NvJob) (s : State) : State := s.each js fun j s =>
  s.iff (!j.kind.isBoot) (·.nvRefuse j.kind (if first.any (·.kind == j.kind) then 2 else 1))

/-- An inhibit whose step under way is abandoned. -/
theorem State.inhibitNv_begins {aon : Bool} {s : State} (free : s.tnd.inhibit = false)
    (cut : s.nvCut (!aon && decide (200 ≤ s.fget R.mgtHoldup)) = s) :
    s.inhibitNv aon = ((s.inhibited aon).jobsCut.jobsRefused s.tnd.jobs.head? (s.inhibited aon).tnd.jobs).nvNotes := by
  unfold State.inhibitNv
  rw [if_neg (Bool.eq_false_iff.mp free), cut]
  rfl

theorem State.tnd_inhibited (aon : Bool) (s : State) : ∃ asleep idleFrom posted, (s.inhibited aon).tnd =
    { s.tnd with inhibit := true, inhAt := s.now, inhAon := aon, asleep := asleep, idleFrom := idleFrom,
                 posted := posted } := State.tnd_raiseOnce ..

theorem State.cmd_inhibited (aon : Bool) (s : State) : (s.inhibited aon).cmd = s.cmd :=
  (State.raiseOnce_frame _ _ (by rfl)).1 .cmd rfl

theorem State.nvCut_none {completes : Bool} {s : State} (none : s.tnd.jobs = []) : s.nvCut completes = s := by
  unfold State.nvCut
  rw [none]

/-- A step is abandoned that the supply does not outlast, or that erases. -/
theorem State.nvCut_abandons {completes : Bool} {j : NvJob} {rest : List NvJob} {s : State} (going : s.tnd.jobs = j :: rest)
    (abandoned : completes = false ∨ ∃ w ws, j.work = w :: ws ∧ w.erases = true) : s.nvCut completes = s := by
  obtain ⟨kind, work⟩ := j
  unfold State.nvCut
  rw [going]
  cases work with
  | nil => rfl
  | cons w ws =>
    refine if_neg ?_
    rcases abandoned with short | ⟨w', ws', same, erases⟩
    · simp [short]
    · obtain ⟨rfl, rfl⟩ := List.cons.inj same
      simp [erases]

/-- A packet's write ends with status 0x07, once a step of it has taken place. -/
theorem State.nvRefuse_packet {kind : NvKind} {p : PktRef} (owner : kind.packet = some p) (s : State) :
    ∃ v : State, s.nvRefuse kind 2 = v.done p 7 2 0 ∧ v.cmd = s.cmd ∧ v.tnd.inhibit = s.tnd.inhibit ∧
      v.tnd.jobs = s.tnd.jobs ∧ v.tnd.inhCnt = s.tnd.inhCnt + 1 := by
  cases kind with
  | fwWrite q b off len =>
    obtain rfl : q = p := Option.some.inj owner
    exact ⟨(s.nvNote 0x0602 2).nvBroken (.fwWrite q b off len), rfl, rfl, rfl, rfl, rfl⟩
  | fwActivate q b =>
    obtain rfl : q = p := Option.some.inj owner
    exact ⟨s.nvNote 0x0603 2, rfl, rfl, rfl, rfl, rfl⟩
  | calStore q b =>
    obtain rfl : q = p := Option.some.inj owner
    exact ⟨(s.nvNote 0x0205 2).nvBroken (.calStore q b), rfl, rfl, rfl, rfl, rfl⟩
  | advance => cases owner
  | asset => cases owner
  | boot => cases owner

/-- A packet's write under way ends, and the LOG_NOTEs with it. -/
theorem State.inhibitNv_packet {aon : Bool} {j : NvJob} {p : PktRef} {s : State} (free : s.tnd.inhibit = false)
    (going : s.tnd.jobs = [j]) (owner : j.kind.packet = some p)
    (cut : s.nvCut (!aon && decide (200 ≤ s.fget R.mgtHoldup)) = s) :
    (s.inhibitNv aon).tnd.inhibit = true ∧ (s.inhibitNv aon).tnd.jobs = [] ∧ Gone p s (s.inhibitNv aon) ∧
    (s.inhibitNv aon).tnd.inhCnt = s.tnd.inhCnt + BitVec.ofNat 32 s.tnd.queue.length + 1 := by
  have other : j.kind.isBoot = false := by
    cases kind : j.kind with
    | boot => rw [kind] at owner; cases owner
    | _ => rfl
  obtain ⟨asleep, idleFrom, posted, begun⟩ := State.tnd_inhibited aon s
  have jobs : (s.inhibited aon).tnd.jobs = [j] := by rw [begun]; exact going
  obtain ⟨v, ends, cmd, inhibit, cutJobs, inhCnt⟩ := State.nvRefuse_packet owner (s.inhibited aon).jobsCut
  have refused : (s.inhibited aon).jobsCut.jobsRefused s.tnd.jobs.head? (s.inhibited aon).tnd.jobs = v.done p 7 2 0 := by
    rw [jobs, going, ← ends]
    simp [State.jobsRefused, State.each, State.iff, other]
  rw [State.inhibitNv_begins free cut, refused, State.tnd_nvNotes, (State.done_completes ..).tnd]
  refine ⟨?_, ?_, ?_, ?_⟩
  · refine inhibit.trans ?_
    show (s.inhibited aon).tnd.inhibit = true
    rw [begun]
  · refine cutJobs.trans ?_
    show ((s.inhibited aon).tnd.jobs.filter _).map _ = []
    simp [jobs, other]
  · have kept : Retains s v := .of_same (cmd.trans (State.cmd_inhibited aon s))
    have left : Left p s (v.done p 7 2 0) := .before kept (State.done_left p 7 2 0 v)
    exact (left.stays (State.retains_nvNotes _) (kept.then (State.done_completes ..).retains)).gone
  · refine inhCnt.trans ?_
    show (s.inhibited aon).tnd.inhCnt + _ + 1 = _
    simp [begun, going, other]

/-- With no write under way an inhibit ends the LOG_NOTEs alone. -/
theorem State.inhibitNv_idle {aon : Bool} {s : State} (free : s.tnd.inhibit = false) (idle : s.tnd.jobs = []) :
    s.inhibitNv aon = (s.inhibited aon).jobsCut.nvNotes := by
  obtain ⟨asleep, idleFrom, posted, begun⟩ := State.tnd_inhibited aon s
  have jobs : (s.inhibited aon).tnd.jobs = [] := by rw [begun]; exact idle
  rw [State.inhibitNv_begins free (State.nvCut_none idle), jobs]
  rfl

theorem State.inhibitNv_counts {aon : Bool} {s : State} (free : s.tnd.inhibit = false) (idle : s.tnd.jobs = []) :
    (s.inhibitNv aon).tnd.inhibit = true ∧ (s.inhibitNv aon).tnd.inhAt = s.now ∧ (s.inhibitNv aon).tnd.inhAon = aon ∧
    (s.inhibitNv aon).fget R.mgtEvtInhibit = 1 ∧ (s.inhibitNv aon).tnd.queue = s.tnd.queue ∧
    (s.inhibitNv aon).tnd.inhCnt = s.tnd.inhCnt + BitVec.ofNat 32 s.tnd.queue.length ∧ (s.inhibitNv aon).tnd.notes = [] ∧
    ∀ e, e ∈ s.tnd.notes → Gone e.1 s (s.inhibitNv aon) := by
  obtain ⟨asleep, idleFrom, posted, begun⟩ := State.tnd_inhibited aon s
  have cut : (s.inhibited aon).jobsCut.tnd = { (s.inhibited aon).tnd with
      jobs := [], inhCnt := s.tnd.inhCnt + BitVec.ofNat 32 s.tnd.queue.length } := by
    simp [State.jobsCut, begun, idle]
  rw [State.inhibitNv_idle free idle, State.tnd_nvNotes, cut, begun]
  refine ⟨rfl, rfl, rfl, ?_, rfl, rfl, rfl, fun e held => ?_⟩
  · rw [State.fget_nvNotes _ (by decide)]
    exact State.flag_raiseOnce _ _ (by decide) rfl (by decide)
  · have listed : e ∈ (s.inhibited aon).jobsCut.tnd.notes := by
      rw [cut, begun]
      exact held
    exact (Left.before (.of_same (State.cmd_inhibited aon s)) ((State.nvNotes_ends (s.inhibited aon).jobsCut).2 e listed)).gone

/-- The Tender's own rewrite of the boot record stays, to start over with its erase. -/
theorem State.inhibitNv_boot {aon c : Bool} {work : List NvWork} {s : State} (free : s.tnd.inhibit = false)
    (going : s.tnd.jobs = [{ kind := .boot c, work := work }])
    (cut : s.nvCut (!aon && decide (200 ≤ s.fget R.mgtHoldup)) = s) :
    (s.inhibitNv aon).tnd.boots = s.tnd.boots ∧
    (s.inhibitNv aon).tnd.jobs = [{ kind := .boot c, work := .bootErase :: work.filter fun v => !v.erases }] := by
  obtain ⟨asleep, idleFrom, posted, begun⟩ := State.tnd_inhibited aon s
  have jobs : (s.inhibited aon).tnd.jobs = [{ kind := .boot c, work := work }] := by rw [begun]; exact going
  have refused : (s.inhibited aon).jobsCut.jobsRefused s.tnd.jobs.head? (s.inhibited aon).tnd.jobs =
      (s.inhibited aon).jobsCut := by
    rw [jobs]
    rfl
  rw [State.inhibitNv_begins free cut, refused, State.tnd_nvNotes]
  refine ⟨?_, ?_⟩
  · show (s.inhibited aon).tnd.boots = _
    rw [begun]
  · show ((s.inhibited aon).tnd.jobs.filter _).map _ = _
    rw [jobs]
    rfl

/-! ### The recovery (R375, R385, R386) -/

/-- Records that are formed are added to the queue, one at most for each. -/
theorem State.queue_logOwn (code : Nat) (data : List Byte) (s : State) :
    ∃ l, (s.logOwn code data).tnd.queue = s.tnd.queue ++ l ∧ l.length ≤ 1 := by
  by_cases room : s.tnd.queue.length < 1024
  · exact ⟨_, congrArg Tender.queue (State.tnd_logOwn_room code data room), Nat.le_refl _⟩
  · obtain ⟨refused, tnd⟩ := State.tnd_logOwn_full code data room
    exact ⟨[], by rw [tnd, List.append_nil], Nat.zero_le _⟩

theorem State.queue_each_logOwn_le {α : Type} (code : α → Nat) (data : α → List Byte) (es : List α) (s : State) :
    ∃ l, (s.each es fun e s => s.logOwn (code e) (data e)).tnd.queue = s.tnd.queue ++ l ∧ l.length ≤ es.length := by
  unfold State.each
  induction es generalizing s with
  | nil => exact ⟨[], (List.append_nil _).symm, Nat.le_refl _⟩
  | cons e es ih =>
    obtain ⟨l, queue, short⟩ := State.queue_logOwn (code e) (data e) s
    obtain ⟨more, queues, rest⟩ := ih (s.logOwn (code e) (data e))
    refine ⟨l ++ more, ?_, ?_⟩
    · rw [List.foldl_cons, queues, queue, List.append_assoc]
    · rw [List.length_append, List.length_cons]
      omega

/-- Writes are possible again: the queued records are deferred ones. -/
def State.uninhibited (s : State) : State :=
  s.modTnd fun t => { t with inhibit := false, inhList := [], queue := t.queue.map deferRecord }

/-- The records of a recovery: one for each inhibited write, then its own. -/
def State.recoveryLogged (list : List (BitVec 16 × Nat)) (ms : Nat) (s : State) : State :=
  (s.each list fun e s => s.logOwn 0x0020 (leBytes 2 e.1.toNat ++ leBytes 1 e.2)).logOwn 0x0021 (leBytes 4 ms)

theorem State.recoverNv_inhibited {s : State} (inhibited : s.tnd.inhibit = true) : s.recoverNv =
    (s.uninhibited.recoveryLogged s.tnd.inhList ((s.now - s.tnd.inhAt) / 1000000)).raiseOnce R.mgtEvtRecovered := by
  unfold State.recoverNv
  rw [inhibited]
  rfl

theorem State.recoverNv_free {s : State} (free : s.tnd.inhibit = false) : s.recoverNv = s := by
  unfold State.recoverNv
  rw [free]
  rfl

theorem State.recoverNv_defers {s : State} (inhibited : s.tnd.inhibit = true) : s.recoverNv.tnd.inhibit = false ∧
    s.recoverNv.tnd.inhList = [] ∧ s.recoverNv.fget R.mgtEvtRecovered = 1 ∧
    ∃ l, s.recoverNv.tnd.queue = s.tnd.queue.map deferRecord ++ l ∧ l.length ≤ s.tnd.inhList.length + 1 := by
  rw [State.recoverNv_inhibited inhibited]
  generalize (s.now - s.tnd.inhAt) / 1000000 = ms
  obtain ⟨asleep, idleFrom, posted, raised⟩ :=
    State.tnd_raiseOnce R.mgtEvtRecovered (s.uninhibited.recoveryLogged s.tnd.inhList ms)
  have logs : Logs s.uninhibited (s.uninhibited.recoveryLogged s.tnd.inhList ms) :=
    (State.each_logOwn_logs ..).1.then (State.logOwn_logs ..).1
  obtain ⟨noted, queued, short⟩ := State.queue_each_logOwn_le (fun _ => 0x0020)
    (fun e : BitVec 16 × Nat => leBytes 2 e.1.toNat ++ leBytes 1 e.2) s.tnd.inhList s.uninhibited
  obtain ⟨last, ends, one⟩ := State.queue_logOwn 0x0021 (leBytes 4 ms) (s.uninhibited.each s.tnd.inhList
    fun e s => s.logOwn 0x0020 (leBytes 2 e.1.toNat ++ leBytes 1 e.2))
  rw [raised]
  refine ⟨?_, ?_, State.flag_raiseOnce _ _ (by decide) rfl (by decide), noted ++ last, ?_, ?_⟩
  · exact congrArg Tender.inhibit logs
  · exact congrArg Tender.inhList logs
  · refine ends.trans ?_
    rw [queued, List.append_assoc]
    rfl
  · rw [List.length_append]
    omega

end Sys2Proof.Machine
end

section
/-! The steps of non-volatile writes (R372, R382, R383), ADVANCE (R295, R382) and the reload of damaged tables (R384). -/

namespace Sys2Proof.Machine

/-! ### Steps (R372, R382) -/

/-- A step has been made; a fuse counts only where it reads blown with margin. -/
def State.stepMade (reads : Bool) (w : NvWork) (s : State) : State :=
  match w with
  | .fuse _ => s.iff reads (·.nvEffect w)
  | _ => s.nvEffect w

section
variable {reads : Bool} {s : State}

theorem State.nvStep_idle (idle : s.tnd.inhibit = true ∨ s.tnd.up = false ∨ s.tnd.jobs = []) : s.nvStep reads = s := by
  unfold State.nvStep
  split
  · rfl
  · rename_i going
    refine if_pos ?_
    rcases idle with inhibited | down | none
    · rw [inhibited]
      rfl
    · rw [down]
      exact Bool.or_true _
    · cases none.symm.trans going

variable {j : NvJob} {w : NvWork} {ws : List NvWork} {rest : List NvJob} (going : s.tnd.jobs = j :: rest)
  (work : j.work = w :: ws) (free : s.tnd.inhibit = false) (up : s.tnd.up = true)
include going work free up

theorem State.nvStep_goesOn (more : w.after ws ≠ []) : s.nvStep reads =
    (s.stepMade reads w).modTnd fun t => { t with jobs := { j with work := w.after ws } :: rest } := by
  have shut : ¬ (s.tnd.inhibit || !s.tnd.up) = true := by simp [free, up]
  have left : ¬ (w.after ws).isEmpty = true := by simpa using more
  unfold State.nvStep
  rw [going]
  dsimp only
  rw [if_neg shut, work]
  dsimp only
  rw [if_neg left]
  rfl

theorem State.nvStep_finishes (last : w.after ws = []) : s.nvStep reads =
    ((s.stepMade reads w).modTnd fun t => { t with jobs := rest }).nvFinish j.kind := by
  have shut : ¬ (s.tnd.inhibit || !s.tnd.up) = true := by simp [free, up]
  unfold State.nvStep
  rw [going]
  dsimp only
  rw [if_neg shut, work]
  dsimp only
  rw [last]
  rfl

end

theorem State.fuses_stepMade (reads : Bool) (top : Nat) (s : State) : (s.stepMade reads (.fuse top)).tnd.fuses =
    if reads = true ∧ s.tnd.fuses < top then s.tnd.fuses + 1 else s.tnd.fuses := by
  cases reads with
  | false => rfl
  | true =>
    show (if s.tnd.fuses < top then s.tnd.fuses + 1 else s.tnd.fuses) = _
    simp

theorem State.boots_bootErase (reads : Bool) (s : State) : (s.stepMade reads .bootErase).tnd.boots[s.tnd.spare] = none :=
  vupd_same ..

theorem State.boots_bootProgram (reads pref trial tried : Bool) (n : Nat) (s : State) :
    (s.stepMade reads (.bootProgram pref trial tried n)).tnd.boots[s.tnd.spare] =
      some { seq := s.tnd.boot.seq + 1, pref := pref, trial := trial, tried := tried
             count := s.tnd.boot.count + BitVec.ofNat 32 n } := vupd_same ..

/-- The last step of a FW_WRITE completes it; the bank goes on after what it wrote. -/
theorem State.nvFinish_fwWrite (p : PktRef) (b : Fin 2) (off len : Nat) (s : State) :
    (s.nvFinish (.fwWrite p b off len)).tnd.jobs = s.tnd.jobs ∧ Left p s (s.nvFinish (.fwWrite p b off len)) ∧
    ((s.nvFinish (.fwWrite p b off len)).fw b).next = off + len ∧
    ((s.nvFinish (.fwWrite p b off len)).fw b).must = none := by
  have done := State.done_completes p 0 0 0
    ((s.modTnd fun t => { t with idleFrom := s.now }).onFw b fun f => { f with next := off + len, must := none })
  have bank : (s.nvFinish (.fwWrite p b off len)).fw b = { s.fw b with next := off + len, must := none } := by
    refine (congrArg (·[b]) done.banks).trans (vupd_same ..)
  rw [bank]
  exact ⟨done.jobs, State.done_left p 0 0 0 _, rfl, rfl⟩

/-! ### ADVANCE (R295, R382) -/

section
variable {s : State}

/-- ADVANCE is refused where it is not enabled, in a trial and in recovery mode. -/
theorem State.advance_denied (up : s.tnd.up = true)
    (denied : s.flag R.mgtFwCtrlAdvEn = false ∨ s.tnd.trial = true ∨ s.tnd.recovery = true) :
    s.advance = s.wakeTender.raiseOnce R.mgtEvtAdvDenied := by
  have refused : (!s.flag R.mgtFwCtrlAdvEn || s.tnd.trial || s.tnd.recovery) = true := by
    rcases denied with off | trial | recovery
    · rw [off]
      rfl
    · simp [trial]
    · simp [recovery]
  exact (if_pos up).trans (if_pos refused)

theorem State.advance_pending (down : s.tnd.up = false) : s.advance = s.modTnd fun t => { t with advDue := true } :=
  if_neg (Bool.eq_false_iff.mp down)

/-- A fuse for each step of the rollback counter ahead, then the key that the image revokes. -/
def State.advanceWork (s : State) : List NvWork :=
  let b := s.fw (pickBank s.tnd.bank)
  let revoke := b.num 7 1 % 2 == 1 && !bitOf s.tnd.revoked (1 - b.keySlot)
  List.replicate (min 64 b.rollback - s.tnd.fuses) (.fuse (min 64 b.rollback)) ++
    if revoke then [.revoke (1 - b.keySlot)] else []

theorem State.advanceWork_ne_nil (ahead : s.tnd.fuses < min 64 (s.fw (pickBank s.tnd.bank)).rollback) :
    s.advanceWork ≠ [] := by
  obtain ⟨n, more⟩ := Nat.exists_eq_add_of_lt ahead
  unfold State.advanceWork
  dsimp only
  rw [show min 64 (s.fw (pickBank s.tnd.bank)).rollback - s.tnd.fuses = n + 1 by omega, List.replicate_succ]
  exact List.cons_ne_nil _ _

/-- The steps that burn fuses. -/
theorem State.filter_advanceWork {burns : NvWork → Bool} (fuse : ∀ top, burns (.fuse top) = true)
    (revoke : ∀ key, burns (.revoke key) = false) : (s.advanceWork.filter burns).length =
      min 64 (s.fw (pickBank s.tnd.bank)).rollback - s.tnd.fuses := by
  unfold State.advanceWork
  dsimp only
  rw [List.filter_append, List.filter_replicate, if_pos (fuse _), List.length_append, List.length_replicate]
  split
  · rw [List.filter_singleton, revoke]
    rfl
  · rfl

theorem State.advance_begins (up : s.tnd.up = true) (enabled : s.flag R.mgtFwCtrlAdvEn = true)
    (settled : s.tnd.trial = false) (running : s.tnd.recovery = false) (free : s.nvShut = false)
    (ahead : s.tnd.fuses < min 64 (s.fw (pickBank s.tnd.bank)).rollback) :
    s.advance = s.wakeTender.nvQueue .advance s.advanceWork := by
  have open' : ¬ (!s.flag R.mgtFwCtrlAdvEn || s.tnd.trial || s.tnd.recovery) = true := by
    rw [enabled, settled, running]
    decide
  have some : ¬ s.advanceWork.isEmpty = true := by simpa using State.advanceWork_ne_nil ahead
  refine (if_pos up).trans ((if_neg open').trans ?_)
  exact (if_neg (Bool.eq_false_iff.mp free)).trans (if_neg some)

end

theorem State.byPath_advance {via : Via} {s : State} (may : s.mayWrite via.path 0x0F0100 = true)
    (alone : s.alone = true) : s.byPath (.advance via) = s.advance :=
  (State.byPath_alone alone _).trans (State.access_may (·.advance) may)

/-! ### Damaged tables (R384) -/

section
variable {b : Fin 2} {rest : List (Sum (Fin 2) (BitVec 16))} {s : State}

theorem State.tableReload_empty (empty : s.tnd.reload = []) : s.tableReload = s := by
  unfold State.tableReload
  rw [empty]
  exact ite_self _

/-- A bank takes its slot's tables anew. -/
def State.reloaded (b : Fin 2) (rest : List (Sum (Fin 2) (BitVec 16))) (s : State) : State :=
  (s.modTnd fun t => { t with reload := rest }).onTables b
    fun _ => { (s.tnd.slots[b]).bank with fromSlot := true, bad := [] }

/-- The coefficients of a furnish are good again. -/
def State.recovered (id : BitVec 16) (rest : List (Sum (Fin 2) (BitVec 16))) (s : State) : State :=
  (s.modTnd fun t => { t with reload := rest }).modCal
    fun c => { c with badCoef := c.badCoef.filter fun e => decide (e.1 ≠ id) }

/-- A reload is an event and a record. -/
def State.reloadTold (data : List Byte) (s : State) : State := (s.raiseOnce R.mgtEvtReload).logOwn 0x0041 data

theorem State.reloadTold_keeps (data : List Byte) (s : State) : (s.reloadTold data).tnd.reload = s.tnd.reload ∧
    (s.reloadTold data).cal = s.cal ∧ (s.reloadTold data).fget R.mgtEvtReload = 1 := by
  obtain ⟨asleep, idleFrom, posted, raised⟩ := State.tnd_raiseOnce R.mgtEvtReload s
  refine ⟨?_, ?_, ?_⟩
  · refine (congrArg Tender.reload (State.logOwn_logs 0x0041 data (s.raiseOnce R.mgtEvtReload)).1).trans ?_
    show (s.raiseOnce R.mgtEvtReload).tnd.reload = _
    rw [raised]
  · exact ((State.logOwn_frame ..).1 .cal rfl).trans ((State.raiseOnce_frame _ _ (by rfl)).1 .cal rfl)
  · exact (State.fget_logOwn _ _ _ (by decide) (by decide)).trans
      (State.flag_raiseOnce _ _ (by decide) rfl (by decide))

variable (up : s.tnd.up = true)
include up

theorem State.tableReload_bank (next : s.tnd.reload = .inl b :: rest) (fromSlot : (s.cal.banks[b]).fromSlot = true)
    (good : (s.tnd.slots[b]).crcOk = true) :
    s.tableReload = (s.reloaded b rest).reloadTold [BitVec.ofNat 8 b.val, 0] := by
  have both : ((s.cal.banks[b]).fromSlot && (s.tnd.slots[b]).crcOk) = true := by rw [fromSlot, good, Bool.and_true]
  unfold State.tableReload
  rw [up, next]
  exact if_pos both

theorem State.tableReload_kept (next : s.tnd.reload = .inl b :: rest)
    (kept : (s.cal.banks[b]).fromSlot = false ∨ (s.tnd.slots[b]).crcOk = false) :
    s.tableReload = (s.modTnd fun t => { t with reload := rest }).alarmOf R.calEvtEccUe 0 := by
  have not : ¬ ((s.cal.banks[b]).fromSlot && (s.tnd.slots[b]).crcOk) = true := by
    rw [Bool.and_eq_true]
    rintro ⟨fromSlot, good⟩
    exact kept.elim (fun written => nomatch fromSlot.symm.trans written) fun bad => nomatch good.symm.trans bad
  unfold State.tableReload
  rw [up, next]
  exact if_neg not

theorem State.tableReload_coefficients {id : BitVec 16} (next : s.tnd.reload = .inr id :: rest) : ∃ data,
    s.tableReload = (s.recovered id rest).reloadTold data := by
  unfold State.tableReload
  rw [up, next]
  exact ⟨_, rfl⟩

end

/-- Settles O41: an inhibit, a recovery, a step, an ADVANCE and a reload are each followed to what they leave. -/
theorem nonVolatileWrites : Obligations.NonVolatileWrites := by
  unfold Obligations.NonVolatileWrites
  refine ⟨?idle, ?packet, ?boot, ?recovery, ?noRecovery, ?step, ?finish, ?noStep, ?advance, ?denied, ?pending, ?bank,
    ?keptBank, ?empty, ?coefficients⟩
  case idle => exact fun aon same s free idle => ⟨_, rfl, State.inhibitNv_counts free idle⟩
  case packet =>
    intro aon same j p s free going owner short
    refine ⟨_, rfl, State.inhibitNv_packet free going owner (State.nvCut_abandons going ?_)⟩
    rcases short with gone | late | erases
    · exact .inl (by rw [gone]; rfl)
    · exact .inl (by simp [late])
    · exact .inr erases
  case boot =>
    rintro _ same c w ws s free going rfl
    exact ⟨_, rfl, State.inhibitNv_boot free going (State.nvCut_abandons going (.inl rfl))⟩
  case recovery => exact fun s inhibited => ⟨_, rfl, State.recoverNv_defers inhibited⟩
  case noRecovery => exact fun s free => congrArg Host.Outcome.next (State.recoverNv_free free)
  case step =>
    intro reads j w ws rest s going work more free up
    refine ⟨_, congrArg Host.Outcome.next (State.nvStep_goesOn going work free up more), rfl, ?_, ?_, ?_⟩
    · rintro top rfl
      exact State.fuses_stepMade reads top s
    · rintro rfl
      exact State.boots_bootErase reads s
    · rintro pref trial tried n rfl
      exact State.boots_bootProgram reads pref trial tried n s
  case finish =>
    intro reads p b off len bytes s going free up
    obtain ⟨jobs, left, next, must⟩ := State.nvFinish_fwWrite p b off len
      ((s.stepMade reads (.fwProgram b off bytes)).modTnd fun t => { t with jobs := [] })
    exact ⟨_, congrArg Host.Outcome.next (State.nvStep_finishes going rfl free up rfl), jobs, left.gone, next, must⟩
  case noStep => exact fun reads s idle => congrArg Host.Outcome.next (State.nvStep_idle idle)
  case advance =>
    intro via s may alone enabled settled running up free ahead
    refine ⟨_, congrArg Host.Outcome.next ((State.byPath_advance may alone).trans
      (State.advance_begins up enabled settled running free ahead)), _, rfl, rfl, ?_⟩
    exact State.filter_advanceWork (fun _ => rfl) fun _ => rfl
  case denied =>
    intro via s may alone up denied
    obtain ⟨asleep, idleFrom, posted, raised⟩ := State.tnd_raiseOnce R.mgtEvtAdvDenied s.wakeTender
    refine ⟨_, congrArg Host.Outcome.next ((State.byPath_advance may alone).trans (State.advance_denied up denied)),
      State.flag_raiseOnce _ _ (by decide) rfl (by decide), ?_⟩
    rw [raised]
    exact ⟨rfl, rfl⟩
  case pending =>
    intro via s may alone down
    exact ⟨_, congrArg Host.Outcome.next ((State.byPath_advance may alone).trans (State.advance_pending down)), rfl, rfl, rfl⟩
  case bank =>
    intro b rest s up next fromSlot good
    obtain ⟨reload, cal, told⟩ := State.reloadTold_keeps [BitVec.ofNat 8 b.val, 0] (s.reloaded b rest)
    refine ⟨_, congrArg Host.Outcome.next (State.tableReload_bank up next fromSlot good), reload, ?_, told⟩
    rw [cal]
    exact State.onTables_same ..
  case keptBank =>
    intro b rest s up next kept
    refine ⟨_, congrArg Host.Outcome.next (State.tableReload_kept up next kept), ?_, (State.alarmOf_frame ..).1 .cal rfl⟩
    rw [State.tnd_alarmOf]
    rfl
  case empty => exact fun s empty => congrArg Host.Outcome.next (State.tableReload_empty empty)
  case coefficients =>
    intro id rest s up next
    obtain ⟨data, reloads⟩ := State.tableReload_coefficients up next
    obtain ⟨reload, cal, told⟩ := State.reloadTold_keeps data (s.recovered id rest)
    refine ⟨_, congrArg Host.Outcome.next reloads, reload, ?_, told⟩
    rw [cal]
    rfl

end Sys2Proof.Machine
end
